-- ==== Sys2Proof/Word.lean ====
section
/-!
DEFINITION. The word and byte of the M40's register interface (R7: every register is 32 bits wide).
-/

namespace Sys2Proof

/-- A 32-bit register word (R7). -/
abbrev Word := BitVec 32

/-- A byte of hub LPDDR5X memory. -/
abbrev Byte := BitVec 8

end Sys2Proof
end

