-- ==== Sys2Proof/Config.lean ====
section
/-!
DEFINITION. What one M40 fixes (device identity values no rule of the spec states) and the free values: constants
without a body, so that nothing in Lean can evaluate them or prove a value of them. Each is named in the assumption log.
-/

namespace Sys2Proof.Config

/-- R402, R405: by how much a steered clock gains or loses in one core cycle, in units of 2⁻¹⁶/5 ns, on the n-th such
cycle. The spec bounds it by SLEW ppm and gives no servo law. DESIGN CHOICE, log 4. -/
opaque steer : Nat → Int

/-- The n-th draw of the M40's random number source (device nonces, key exchange, R454). DESIGN CHOICE, log 5. -/
opaque random : Nat → BitVec 256

/-- Device keys, ciphertexts and signatures whose bytes the spec does not give, by purpose and index. DESIGN CHOICE, log 5. -/
opaque crypto : Nat → Nat → BitVec 512

/-- Values of reduction or transform results the spec leaves open, on the n-th use. DESIGN CHOICE, log 6. -/
opaque freeValue : Nat → BitVec 64

/-- The 46 parity symbols (460 bits) of an RS(868, 822) codeword from its 822 data symbols: R96 gives the field and no generator
polynomial. DESIGN CHOICE, log 56. -/
opaque rsParity : Nat → BitVec 460

end Sys2Proof.Config
end

