-- ==== Sys2Proof/Machine/Map.lean ====
section
/-!
DEFINITION. Sparse maps: lists of (key, value) pairs in one canonical form (keys strictly rising, no entry equal to
what an unlisted key reads as). Registers, hub memory and the numbered units of the chip are kept in them.
-/

namespace Sys2Proof.Machine

/-- A sparse map with natural-number keys. -/
abbrev SMap (α : Type) := List (Nat × α)

/-- The value at key k: the first listed one, or the default of that key. -/
def SMap.get {α : Type} (dflt : Nat → α) : SMap α → Nat → α
  | [], k => dflt k
  | (k', v) :: t, k => if k' = k then v else SMap.get dflt t k

/-- The map without any entry for key k. -/
def SMap.erase {α : Type} : SMap α → Nat → SMap α
  | [], _ => []
  | (k', v) :: t, k => if k' = k then SMap.erase t k else (k', v) :: SMap.erase t k

/-- Place an entry in key order. -/
def SMap.insert {α : Type} : SMap α → Nat → α → SMap α
  | [], k, v => [(k, v)]
  | (k', v') :: t, k, v => if k < k' then (k, v) :: (k', v') :: t else (k', v') :: SMap.insert t k v

/-- Give key k the value v; a value equal to the key's default leaves no entry. -/
def SMap.set {α : Type} [DecidableEq α] (dflt : Nat → α) (m : SMap α) (k : Nat) (v : α) : SMap α :=
  if v = dflt k then SMap.erase m k else SMap.insert (SMap.erase m k) k v

/-- Apply f to the value at key k. -/
def SMap.modify {α : Type} [DecidableEq α] (dflt : Nat → α) (m : SMap α) (k : Nat) (f : α → α) : SMap α :=
  SMap.set dflt m k (f (SMap.get dflt m k))

/-- Every listed key is above b, the keys rise strictly, and no entry equals its default. -/
def SMap.wfFrom {α : Type} [DecidableEq α] (dflt : Nat → α) : Nat → SMap α → Bool
  | _, [] => true
  | b, (k, v) :: t => decide (b ≤ k) && (decide (v ≠ dflt k) && SMap.wfFrom dflt (k + 1) t)

/-- The canonical form: keys strictly rising, no entry equal to what an unlisted key reads as. -/
def SMap.wf {α : Type} [DecidableEq α] (dflt : Nat → α) (m : SMap α) : Bool := SMap.wfFrom dflt 0 m

/-- Remove every entry whose key satisfies p: those keys return to their default. -/
def SMap.clearWhere {α : Type} (m : SMap α) (p : Nat → Bool) : SMap α := m.filter (fun e => !p e.1)

/-- Apply f to each value in turn and drop the entries that become their default. -/
def SMap.mapVals {α : Type} [DecidableEq α] (dflt : Nat → α) (m : SMap α) (f : Nat → α → α) : SMap α :=
  (m.map (fun e => (e.1, f e.1 e.2))).filter (fun e => decide (e.2 ≠ dflt e.1))

end Sys2Proof.Machine
end

