-- ==== Sys2Proof/Machine/RegTable.lean ====
section
/-!
DEFINITION. The register tables of the spec (chapters 01 to 18, their sections "Registers"), one row per register or
array of registers: where it stands in a die window, in which dies it exists, the plane and the scope that hold it,
its commit group, and per field its bits, Access code, Reset value and Kept-through class (R7 to R11).
-/

namespace Sys2Proof.Machine

/-- Access codes of R9. -/
inductive Access where
  | rw | ro | w1c | wo | cs
  deriving DecidableEq, Repr

/-- The narrowest-to-widest boundary of R11: the class a field is kept through (none: no class that reaches it). -/
inductive Kept where
  | none | block | region | planeMgmt | planeData | sag
  deriving DecidableEq, Repr

/-- In which die windows a register exists. hub: C0 and C7. -/
inductive DieKind where
  | all | port | core | hub | hubA | hubB
  deriving DecidableEq, Repr

/-- The plane that holds a register; canopy: the always-on domain, which no plane reset reaches. -/
inductive Plane where
  | data | control | mgmt | canopy
  deriving DecidableEq, Repr

/-- The smallest unit a register belongs to. lane: indexed by local lane; block: indexed by block or cluster;
xport: indexed by crossbar port; die: the whole die. -/
inductive Scope where
  | die | block | lane | xport
  deriving DecidableEq, Repr

/-- One field: bits [lo+width-1:lo]. -/
structure RegField where
  lo : Nat
  width : Nat
  acc : Access
  kept : Kept
  deriving DecidableEq, Repr

/-- One register table. `dims` is the list of (count, stride) of its indexes, outermost first. `grp` is the commit
group as (base, multiplier of the first index). `resets` holds the Reset word, or one word per flat index, used
cyclically. -/
structure RegRow where
  base : Nat
  dims : List (Nat × Nat)
  dies : DieKind
  plane : Plane
  scope : Scope
  grp : Option (Nat × Nat)
  isCommit : Bool
  resets : List Nat
  fields : List RegField
  deriving DecidableEq, Repr

/-- Register tables at offsets 0x0100_0000 (03_cells_and_links.md, 04_optical_engine.md). -/
def rows_010 : List RegRow := [
  /- PRT_LSTAT -/ ⟨0x01000000, [(64, 0x100)], .port, .data, .lane, none, false, [0x0],
    [⟨0, 4, .ro, .none⟩, ⟨4, 8, .ro, .none⟩, ⟨12, 2, .ro, .none⟩, ⟨14, 3, .ro, .none⟩, ⟨17, 1, .ro, .none⟩]⟩,
  /- PRT_LPARTNER -/ ⟨0x01000004, [(64, 0x100)], .port, .data, .lane, none, false, [0x0],
    [⟨0, 20, .ro, .none⟩, ⟨20, 6, .ro, .none⟩, ⟨26, 2, .ro, .none⟩, ⟨31, 1, .ro, .none⟩]⟩,
  /- PRT_FEC_CORR -/ ⟨0x01000008, [(64, 0x100)], .port, .data, .lane, none, false, [0x0],
    [⟨0, 32, .ro, .none⟩]⟩,
  /- PRT_FEC_UNCORR -/ ⟨0x0100000C, [(64, 0x100)], .port, .data, .lane, none, false, [0x0],
    [⟨0, 16, .ro, .none⟩, ⟨16, 16, .ro, .none⟩]⟩,
  /- PRT_RX_ERR -/ ⟨0x01000010, [(64, 0x100)], .port, .data, .lane, none, false, [0x0],
    [⟨0, 16, .ro, .none⟩, ⟨16, 16, .ro, .none⟩]⟩,
  /- PRT_CR_LOST -/ ⟨0x01000014, [(64, 0x100)], .port, .data, .lane, none, false, [0x0],
    [⟨0, 24, .ro, .none⟩]⟩,
  /- PRT_LC_STAT -/ ⟨0x01000018, [(64, 0x100)], .port, .data, .lane, none, false, [0x0],
    [⟨0, 16, .ro, .none⟩, ⟨16, 8, .ro, .none⟩]⟩,
  /- PRT_SWITCH_ID -/ ⟨0x01008000, [], .all, .data, .die, some (0x002, 0), false, [0x0],
    [⟨0, 20, .cs, .region⟩]⟩,
  /- PRT_LINK_ID_COMMIT -/ ⟨0x01008004, [], .all, .data, .die, some (0x002, 0), true, [0x0],
    [⟨0, 1, .wo, .none⟩, ⟨1, 1, .wo, .none⟩]⟩,
  /- PRT_CR_ALLOC -/ ⟨0x01008010, [(8, 0x4)], .port, .data, .die, some (0x003, 0), false, [0x100, 0x100, 0x100, 0x100, 0x400, 0x400, 0x80, 0x80],
    [⟨0, 13, .cs, .region⟩]⟩,
  /- PRT_FEC_LIMIT -/ ⟨0x01008030, [], .port, .data, .die, some (0x003, 0), false, [0x10],
    [⟨0, 16, .cs, .region⟩]⟩,
  /- PRT_LINK_PAR_COMMIT -/ ⟨0x01008034, [], .port, .data, .die, some (0x003, 0), true, [0x0],
    [⟨0, 1, .wo, .none⟩, ⟨1, 1, .wo, .none⟩]⟩,
  /- PRT_OPT_PWR -/ ⟨0x01000040, [(64, 0x100)], .port, .data, .lane, none, false, [0x0, 0x10000, 0x20000, 0x30000, 0x40000, 0x50000, 0x60000, 0x70000],
    [⟨0, 16, .ro, .sag⟩, ⟨16, 4, .ro, .sag⟩, ⟨20, 1, .ro, .sag⟩, ⟨21, 1, .ro, .sag⟩, ⟨22, 1, .ro, .sag⟩]⟩,
  /- PRT_OPT_COMM -/ ⟨0x01000044, [(64, 0x100)], .port, .data, .lane, none, false, [0x8000],
    [⟨0, 16, .ro, .sag⟩]⟩]

/-- Register tables at offsets 0x0110_0000 (04_optical_engine.md). -/
def rows_011 : List RegRow := [
  /- PRT_OPT_POL -/ ⟨0x01102080, [], .port, .data, .die, some (0x004, 0), false, [0x8088C],
    [⟨0, 8, .cs, .region⟩, ⟨8, 8, .cs, .region⟩, ⟨16, 6, .cs, .region⟩, ⟨24, 1, .cs, .region⟩]⟩,
  /- PRT_OPT_REQ -/ ⟨0x01102084, [], .port, .data, .die, some (0x004, 0), false, [0x0],
    [⟨0, 4, .cs, .none⟩, ⟨4, 6, .cs, .none⟩, ⟨10, 8, .cs, .none⟩]⟩,
  /- PRT_OPT_COMMIT -/ ⟨0x01102088, [], .port, .data, .die, some (0x004, 0), true, [0x0],
    [⟨0, 1, .wo, .none⟩, ⟨1, 1, .wo, .none⟩]⟩,
  /- PRT_RING -/ ⟨0x01100000, [(8, 0x400), (17, 0x10)], .port, .data, .block, none, false, [0x0],
    [⟨0, 3, .ro, .sag⟩, ⟨3, 4, .ro, .sag⟩, ⟨7, 1, .ro, .sag⟩, ⟨8, 12, .ro, .sag⟩, ⟨20, 8, .ro, .sag⟩]⟩,
  /- PRT_FP -/ ⟨0x01102000, [(8, 0x4)], .port, .data, .block, none, false, [0x0],
    [⟨0, 2, .ro, .sag⟩, ⟨2, 3, .ro, .sag⟩, ⟨8, 1, .ro, .sag⟩]⟩,
  /- PRT_OPT_STAT -/ ⟨0x01102040, [], .port, .data, .die, none, false, [0x0],
    [⟨0, 2, .ro, .sag⟩, ⟨16, 12, .ro, .sag⟩]⟩]

/-- Register tables at offsets 0x0120_0000 (05_clearings.md). -/
def rows_012 : List RegRow := [
  /- CLR_REQ -/ ⟨0x01200000, [], .port, .data, .die, some (0x005, 0), false, [0x1900000],
    [⟨0, 2, .cs, .none⟩, ⟨2, 2, .cs, .none⟩, ⟨4, 3, .cs, .none⟩, ⟨16, 16, .cs, .none⟩]⟩,
  /- CLR_COMMIT -/ ⟨0x01200004, [], .port, .data, .die, some (0x005, 0), true, [0x0],
    [⟨0, 1, .wo, .none⟩, ⟨1, 1, .wo, .none⟩]⟩,
  /- CLR_ROUTE -/ ⟨0x01200010, [(4, 0x4)], .port, .data, .die, none, false, [0x0],
    [⟨0, 8, .ro, .sag⟩, ⟨8, 8, .ro, .sag⟩]⟩,
  /- CLR_CHAN -/ ⟨0x01200100, [(4, 0x20), (8, 0x4)], .port, .data, .die, none, false, [0x0],
    [⟨0, 3, .ro, .sag⟩, ⟨3, 8, .ro, .sag⟩, ⟨11, 8, .ro, .sag⟩, ⟨19, 1, .ro, .sag⟩]⟩]

/-- Register tables at offsets 0x0130_0000 (06_switching_path.md). -/
def rows_013 : List RegRow := [
  /- PRT_SPRAY -/ ⟨0x01300000, [(8, 0x8)], .port, .data, .block, some (0x010, 1), false, [0x0],
    [⟨0, 16, .cs, .region⟩, ⟨16, 8, .cs, .region⟩, ⟨24, 8, .cs, .region⟩]⟩,
  /- PRT_SPRAY_COMMIT -/ ⟨0x01300004, [(8, 0x8)], .port, .data, .die, some (0x010, 1), true, [0x0],
    [⟨0, 1, .wo, .none⟩, ⟨1, 1, .wo, .none⟩]⟩,
  /- PRT_FWD_MODE -/ ⟨0x01300100, [(64, 0x4)], .port, .data, .die, some (0x006, 0), false, [0x0],
    [⟨0, 8, .cs, .region⟩]⟩,
  /- PRT_SAF_HOLD -/ ⟨0x01300200, [], .port, .data, .die, some (0x006, 0), false, [0x64],
    [⟨0, 8, .cs, .region⟩]⟩,
  /- PRT_FWD_COMMIT -/ ⟨0x01300204, [], .port, .data, .die, some (0x006, 0), true, [0x0],
    [⟨0, 1, .wo, .none⟩, ⟨1, 1, .wo, .none⟩]⟩,
  /- PRT_CSPRAY -/ ⟨0x01300210, [], .port, .data, .die, some (0x007, 0), false, [0xFF],
    [⟨0, 8, .cs, .region⟩]⟩,
  /- PRT_CSPRAY_COMMIT -/ ⟨0x01300214, [], .port, .data, .die, some (0x007, 0), true, [0x0],
    [⟨0, 1, .wo, .none⟩, ⟨1, 1, .wo, .none⟩]⟩,
  /- PRT_CSPRAY_STAT -/ ⟨0x01300218, [], .port, .data, .die, none, false, [0x0],
    [⟨0, 8, .ro, .none⟩, ⟨8, 8, .ro, .none⟩, ⟨16, 8, .ro, .none⟩, ⟨24, 8, .ro, .none⟩]⟩,
  /- PRT_IN_DROP -/ ⟨0x01300300, [], .port, .data, .die, none, false, [0x0],
    [⟨0, 16, .ro, .none⟩, ⟨16, 16, .ro, .none⟩]⟩,
  /- PRT_IN_DROP2 -/ ⟨0x01300304, [], .port, .data, .die, none, false, [0x0],
    [⟨0, 16, .ro, .none⟩, ⟨16, 16, .ro, .none⟩]⟩,
  /- PRT_EG_DROP -/ ⟨0x01300308, [], .port, .data, .die, none, false, [0x0],
    [⟨0, 16, .ro, .none⟩, ⟨16, 16, .ro, .none⟩]⟩,
  /- PRT_UPL_LOST -/ ⟨0x0130030C, [], .port, .data, .die, none, false, [0x0],
    [⟨0, 16, .ro, .none⟩]⟩,
  /- PRT_FB_DISCARD -/ ⟨0x01300310, [], .port, .data, .die, none, false, [0x0],
    [⟨0, 32, .ro, .none⟩]⟩,
  /- PRT_D2D_REPLAY -/ ⟨0x01300400, [(8, 0x4)], .port, .data, .die, none, false, [0x0],
    [⟨0, 16, .ro, .none⟩, ⟨16, 11, .ro, .none⟩]⟩]

/-- Register tables at offsets 0x0140_0000 (07_buffers_and_congestion.md). -/
def rows_014_0 : List RegRow := [
  /- BUF_POOL_WARN -/ ⟨0x01400000, [(8, 0x10)], .port, .data, .block, some (0x018, 1), false, [0xC000],
    [⟨0, 18, .cs, .region⟩]⟩,
  /- BUF_POOL_PRS -/ ⟨0x01400004, [(8, 0x10)], .port, .data, .block, some (0x018, 1), false, [0x12000],
    [⟨0, 18, .cs, .region⟩]⟩,
  /- BUF_POOL_FLR -/ ⟨0x01400008, [(8, 0x10)], .port, .data, .block, some (0x018, 1), false, [0x20000],
    [⟨0, 18, .cs, .region⟩, ⟨31, 1, .cs, .region⟩]⟩,
  /- BUF_POOL_COMMIT -/ ⟨0x0140000C, [(8, 0x10)], .port, .data, .die, some (0x018, 1), true, [0x0],
    [⟨0, 1, .wo, .none⟩, ⟨1, 1, .wo, .none⟩]⟩,
  /- BUF_POOL_STAT -/ ⟨0x01400100, [(8, 0x10)], .port, .data, .block, none, false, [0x0],
    [⟨0, 18, .ro, .none⟩, ⟨18, 2, .ro, .none⟩, ⟨20, 8, .ro, .none⟩, ⟨28, 4, .ro, .none⟩]⟩,
  /- BUF_POOL_RSV -/ ⟨0x01400104, [(8, 0x10)], .port, .data, .block, none, false, [0x0],
    [⟨0, 18, .ro, .none⟩]⟩,
  /- BUF_DROP_RED -/ ⟨0x01400200, [(8, 0x10)], .port, .data, .block, none, false, [0x0],
    [⟨0, 32, .ro, .none⟩]⟩,
  /- BUF_DROP_FLOOR -/ ⟨0x01400204, [(8, 0x10)], .port, .data, .block, none, false, [0x0],
    [⟨0, 32, .ro, .none⟩]⟩,
  /- BUF_MARK -/ ⟨0x01400208, [(8, 0x10)], .port, .data, .block, none, false, [0x0],
    [⟨0, 32, .ro, .none⟩]⟩,
  /- BUF_COPY -/ ⟨0x0140020C, [(8, 0x10)], .port, .data, .block, none, false, [0x0],
    [⟨0, 32, .ro, .none⟩]⟩,
  /- BUF_SPILL_OUT -/ ⟨0x01400300, [], .port, .data, .die, none, false, [0x0],
    [⟨0, 32, .ro, .none⟩]⟩,
  /- BUF_DROP_VOQ -/ ⟨0x01400304, [], .port, .data, .die, none, false, [0x0],
    [⟨0, 32, .ro, .none⟩]⟩,
  /- BUF_AUDIT_STAT -/ ⟨0x01400310, [], .port, .data, .die, none, false, [0x0],
    [⟨0, 16, .ro, .none⟩, ⟨16, 4, .ro, .none⟩, ⟨20, 12, .ro, .none⟩]⟩,
  /- BUF_PROF -/ ⟨0x01400400, [(8, 0x10), (3, 0x4)], .port, .data, .die, some (0x021, 0), false, [0x2404830, 0x2404830, 0x2404830, 0x2404830, 0x2404830, 0x2404830, 0x1408064, 0x1808056, 0x1FF6448, 0x1408064, 0x1808056, 0x1FF6448, 0x0, 0x0, 0x0, 0x2208048, 0x2208048, 0x2208048, 0x2208048, 0x2208048, 0x2208048, 0x0, 0x0, 0x0],
    [⟨0, 8, .cs, .region⟩, ⟨8, 8, .cs, .region⟩, ⟨16, 8, .cs, .region⟩, ⟨24, 2, .cs, .region⟩]⟩,
  /- BUF_VOQ_LIMIT -/ ⟨0x01400490, [], .port, .data, .die, some (0x021, 0), false, [0x1000],
    [⟨0, 16, .cs, .region⟩]⟩,
  /- BUF_SAT_CFG -/ ⟨0x01400494, [], .port, .data, .die, some (0x021, 0), false, [0x14],
    [⟨0, 10, .cs, .region⟩]⟩]

/-- Register tables at offsets 0x0140_0000 (07_buffers_and_congestion.md). -/
def rows_014_1 : List RegRow := [
  /- BUF_AUDIT_CFG -/ ⟨0x01400498, [], .port, .data, .die, some (0x021, 0), false, [0x3C],
    [⟨0, 16, .cs, .region⟩]⟩,
  /- BUF_PROF_COMMIT -/ ⟨0x014004A0, [], .port, .data, .die, some (0x021, 0), true, [0x0],
    [⟨0, 1, .wo, .none⟩, ⟨1, 1, .wo, .none⟩]⟩]

def rows_014 : List RegRow := rows_014_0 ++ rows_014_1

/-- Register tables at offsets 0x0150_0000 (08_scheduling_and_shaping.md). -/
def rows_015_0 : List RegRow := [
  /- SCH_CLASS_MAP -/ ⟨0x01500000, [], .port, .data, .die, some (0x020, 0), false, [0xC0F3],
    [⟨0, 8, .cs, .region⟩, ⟨8, 8, .cs, .region⟩]⟩,
  /- SCH_WEIGHT_LO -/ ⟨0x01500004, [], .port, .data, .die, some (0x020, 0), false, [0x10204040],
    [⟨0, 32, .cs, .region⟩]⟩,
  /- SCH_WEIGHT_HI -/ ⟨0x01500008, [], .port, .data, .die, some (0x020, 0), false, [0x1018040],
    [⟨0, 32, .cs, .region⟩]⟩,
  /- SCH_CLASS_COMMIT -/ ⟨0x0150000C, [], .port, .data, .die, some (0x020, 0), true, [0x0],
    [⟨0, 1, .wo, .none⟩, ⟨1, 1, .wo, .none⟩]⟩,
  /- SCH_SHP_RATE -/ ⟨0x01501000, [(64, 0x100), (9, 0x8)], .port, .data, .die, some (0x040, 4), false, [0x0],
    [⟨0, 21, .cs, .region⟩, ⟨31, 1, .cs, .region⟩]⟩,
  /- SCH_SHP_BURST -/ ⟨0x01501004, [(64, 0x100), (9, 0x8)], .port, .data, .die, some (0x040, 4), false, [0x10000],
    [⟨0, 25, .cs, .region⟩, ⟨31, 1, .cs, .region⟩]⟩,
  /- SCH_OVH -/ ⟨0x01501048, [(64, 0x100)], .port, .data, .die, some (0x040, 4), false, [0x4],
    [⟨0, 6, .cs, .region⟩]⟩,
  /- SCH_SHP_COMMIT -/ ⟨0x0150104C, [(64, 0x100)], .port, .data, .die, some (0x040, 4), true, [0x0],
    [⟨0, 1, .wo, .none⟩, ⟨1, 1, .wo, .none⟩]⟩,
  /- SCH_SHP_TOK -/ ⟨0x01501080, [(64, 0x100), (9, 0x4)], .port, .data, .die, none, false, [0x10000],
    [⟨0, 32, .ro, .none⟩]⟩,
  /- SCH_HOLD -/ ⟨0x01506000, [(64, 0x4)], .port, .data, .die, some (0x022, 0), false, [0x0],
    [⟨0, 8, .cs, .region⟩]⟩,
  /- SCH_HOLD_COMMIT -/ ⟨0x01506100, [], .port, .data, .die, some (0x022, 0), true, [0x0],
    [⟨0, 1, .wo, .none⟩, ⟨1, 1, .wo, .none⟩]⟩,
  /- SCH_LAUNCH_STAT -/ ⟨0x01506104, [], .port, .data, .die, none, false, [0x0],
    [⟨0, 16, .ro, .none⟩, ⟨16, 8, .ro, .none⟩, ⟨24, 8, .ro, .none⟩]⟩,
  /- SCH_POL_CIR -/ ⟨0x01510000, [(64, 0x40), (4, 0x10)], .port, .data, .die, some (0x140, 1), false, [0x0],
    [⟨0, 21, .cs, .region⟩, ⟨29, 1, .cs, .region⟩, ⟨30, 1, .cs, .region⟩, ⟨31, 1, .cs, .region⟩]⟩,
  /- SCH_POL_CBS -/ ⟨0x01510004, [(64, 0x40), (4, 0x10)], .port, .data, .die, some (0x140, 1), false, [0x4000],
    [⟨0, 25, .cs, .region⟩]⟩,
  /- SCH_POL_PIR -/ ⟨0x01510008, [(64, 0x40), (4, 0x10)], .port, .data, .die, some (0x140, 1), false, [0x0],
    [⟨0, 25, .cs, .region⟩]⟩,
  /- SCH_POL_PBS -/ ⟨0x0151000C, [(64, 0x40), (4, 0x10)], .port, .data, .die, some (0x140, 1), false, [0x4000],
    [⟨0, 25, .cs, .region⟩]⟩]

/-- Register tables at offsets 0x0150_0000 (08_scheduling_and_shaping.md). -/
def rows_015_1 : List RegRow := [
  /- SCH_POL_COMMIT -/ ⟨0x01511000, [(64, 0x4)], .port, .data, .die, some (0x140, 1), true, [0x0],
    [⟨0, 1, .wo, .none⟩, ⟨1, 1, .wo, .none⟩]⟩,
  /- SCH_POL_YELLOW -/ ⟨0x01512000, [], .port, .data, .die, none, false, [0x0],
    [⟨0, 32, .ro, .none⟩]⟩,
  /- SCH_POL_RED -/ ⟨0x01512004, [], .port, .data, .die, none, false, [0x0],
    [⟨0, 32, .ro, .none⟩]⟩,
  /- SCH_POL_DROP -/ ⟨0x01512008, [], .port, .data, .die, none, false, [0x0],
    [⟨0, 32, .ro, .none⟩]⟩]

def rows_015 : List RegRow := rows_015_0 ++ rows_015_1

/-- Register tables at offsets 0x0160_0000 (09_tables_and_learning.md). -/
def rows_016_0 : List RegRow := [
  /- TBL_OP -/ ⟨0x01600000, [], .port, .data, .die, some (0x00A, 0), false, [0x0],
    [⟨0, 4, .cs, .none⟩, ⟨4, 2, .cs, .none⟩, ⟨16, 11, .cs, .none⟩]⟩,
  /- TBL_KEY_LO -/ ⟨0x01600004, [], .port, .data, .die, some (0x00A, 0), false, [0x0],
    [⟨0, 32, .cs, .none⟩]⟩,
  /- TBL_KEY_HI -/ ⟨0x01600008, [], .port, .data, .die, some (0x00A, 0), false, [0x0],
    [⟨0, 32, .cs, .none⟩]⟩,
  /- TBL_DATA -/ ⟨0x01600010, [(8, 0x4)], .port, .data, .die, some (0x00A, 0), false, [0x0],
    [⟨0, 32, .cs, .none⟩]⟩,
  /- TBL_OP_COMMIT -/ ⟨0x01600030, [], .port, .data, .die, some (0x00A, 0), true, [0x0],
    [⟨0, 1, .wo, .none⟩, ⟨1, 1, .wo, .none⟩]⟩,
  /- TBL_RES -/ ⟨0x01600040, [(8, 0x4)], .port, .data, .die, none, false, [0x0],
    [⟨0, 32, .ro, .none⟩]⟩,
  /- TBL_OP_STAT -/ ⟨0x01600060, [], .port, .data, .die, none, false, [0x0],
    [⟨0, 4, .ro, .none⟩, ⟨4, 2, .ro, .none⟩, ⟨6, 2, .ro, .none⟩, ⟨8, 12, .ro, .none⟩]⟩,
  /- TBL_AGE_CFG -/ ⟨0x01600100, [], .port, .data, .die, some (0x00B, 0), false, [0x642710],
    [⟨0, 15, .cs, .region⟩, ⟨16, 10, .cs, .region⟩]⟩,
  /- TBL_BULK_CFG -/ ⟨0x01600104, [], .port, .data, .die, some (0x00B, 0), false, [0x8004000A],
    [⟨0, 10, .cs, .region⟩, ⟨10, 16, .cs, .region⟩, ⟨31, 1, .cs, .region⟩]⟩,
  /- TBL_HASH_SEED -/ ⟨0x01600108, [], .port, .data, .die, some (0x00B, 0), false, [0xFFFFFFFF],
    [⟨0, 32, .cs, .region⟩]⟩,
  /- TBL_LEARN_COMMIT -/ ⟨0x0160010C, [], .port, .data, .die, some (0x00B, 0), true, [0x0],
    [⟨0, 1, .wo, .none⟩, ⟨1, 1, .wo, .none⟩]⟩,
  /- TBL_GEOM -/ ⟨0x01600110, [], .port, .data, .die, none, false, [0x0],
    [⟨0, 2, .ro, .planeData⟩, ⟨2, 2, .ro, .planeData⟩, ⟨4, 1, .ro, .planeData⟩, ⟨5, 1, .ro, .planeData⟩]⟩,
  /- TBL_FLOW_CNT -/ ⟨0x01600200, [], .port, .data, .die, none, false, [0x0],
    [⟨0, 19, .ro, .none⟩, ⟨19, 13, .ro, .none⟩]⟩,
  /- TBL_MC_CNT -/ ⟨0x01600204, [], .port, .data, .die, none, false, [0x0],
    [⟨0, 19, .ro, .none⟩, ⟨19, 13, .ro, .none⟩]⟩,
  /- TBL_LEARN_STAT -/ ⟨0x01600208, [], .port, .data, .die, none, false, [0x0],
    [⟨0, 16, .ro, .none⟩, ⟨16, 16, .ro, .none⟩]⟩,
  /- TBL_AGE_STAT -/ ⟨0x0160020C, [], .port, .data, .die, none, false, [0x0],
    [⟨0, 32, .ro, .none⟩]⟩]

/-- Register tables at offsets 0x0160_0000 (09_tables_and_learning.md). -/
def rows_016_1 : List RegRow := [
  /- TBL_MC_MISS -/ ⟨0x01600210, [], .port, .data, .die, none, false, [0x0],
    [⟨0, 16, .ro, .none⟩]⟩,
  /- TBL_NOW -/ ⟨0x01600214, [], .port, .canopy, .die, none, false, [0x0],
    [⟨0, 16, .ro, .sag⟩]⟩,
  /- TBL_SCRUB_STAT -/ ⟨0x01600218, [], .port, .data, .die, none, false, [0x0],
    [⟨0, 16, .ro, .none⟩, ⟨16, 16, .ro, .none⟩]⟩]

def rows_016 : List RegRow := rows_016_0 ++ rows_016_1

/-- Register tables at offsets 0x0200_0000 (06_switching_path.md). -/
def rows_020 : List RegRow := [
  /- XBR_ARB_CFG -/ ⟨0x02000000, [], .core, .data, .die, some (0x008, 0), false, [0x1040],
    [⟨0, 8, .cs, .region⟩, ⟨8, 5, .cs, .region⟩]⟩,
  /- XBR_ARB_COMMIT -/ ⟨0x02000004, [], .core, .data, .die, some (0x008, 0), true, [0x0],
    [⟨0, 1, .wo, .none⟩, ⟨1, 1, .wo, .none⟩]⟩,
  /- XBR_MATCHED -/ ⟨0x02000020, [], .core, .data, .die, none, false, [0x0],
    [⟨0, 32, .ro, .none⟩]⟩,
  /- XBR_URGENT -/ ⟨0x02000024, [], .core, .data, .die, none, false, [0x0],
    [⟨0, 32, .ro, .none⟩]⟩,
  /- XBR_DROP -/ ⟨0x02000028, [], .core, .data, .die, none, false, [0x0],
    [⟨0, 32, .ro, .none⟩]⟩,
  /- XBR_D2D_REPLAY -/ ⟨0x02000100, [(32, 0x4)], .core, .data, .xport, none, false, [0x0],
    [⟨0, 16, .ro, .none⟩, ⟨16, 11, .ro, .none⟩]⟩]

/-- Register tables at offsets 0x0210_0000 (07_buffers_and_congestion.md). -/
def rows_021 : List RegRow := [
  /- BUF_AUDIT_STAT_CORE -/ ⟨0x02100020, [], .core, .data, .die, none, false, [0x0],
    [⟨0, 16, .ro, .none⟩, ⟨16, 4, .ro, .none⟩, ⟨20, 12, .ro, .none⟩]⟩,
  /- BUF_SPILL_CFG -/ ⟨0x02100000, [], .core, .data, .die, some (0x009, 0), false, [0x800041F4],
    [⟨0, 10, .cs, .region⟩, ⟨12, 4, .cs, .region⟩, ⟨31, 1, .cs, .region⟩]⟩,
  /- BUF_SPILL_THR -/ ⟨0x02100004, [], .core, .data, .die, some (0x009, 0), false, [0xF0C080],
    [⟨0, 8, .cs, .region⟩, ⟨8, 8, .cs, .region⟩, ⟨16, 8, .cs, .region⟩]⟩,
  /- BUF_SPILL_COMMIT -/ ⟨0x02100008, [], .core, .data, .die, some (0x009, 0), true, [0x0],
    [⟨0, 1, .wo, .none⟩, ⟨1, 1, .wo, .none⟩]⟩,
  /- BUF_SPILL_OCC -/ ⟨0x02100010, [], .core, .data, .die, none, false, [0x0],
    [⟨0, 32, .ro, .none⟩]⟩,
  /- BUF_SPILL_EXPIRED -/ ⟨0x02100014, [], .core, .data, .die, none, false, [0x0],
    [⟨0, 32, .ro, .none⟩]⟩,
  /- BUF_SPILL_DROP -/ ⟨0x02100018, [], .core, .data, .die, none, false, [0x0],
    [⟨0, 32, .ro, .none⟩]⟩]

/-- Register tables at offsets 0x0220_0000 (09_tables_and_learning.md). -/
def rows_022 : List RegRow := [
  /- TBL_STG_REQ -/ ⟨0x02200000, [], .core, .data, .die, some (0x00C, 0), false, [0x0],
    [⟨0, 2, .cs, .none⟩, ⟨2, 2, .cs, .none⟩, ⟨4, 7, .cs, .none⟩, ⟨12, 20, .cs, .none⟩]⟩,
  /- TBL_STG_MAP -/ ⟨0x02200004, [], .core, .data, .die, some (0x00C, 0), false, [0x0],
    [⟨0, 32, .cs, .none⟩]⟩,
  /- TBL_STG_COMMIT -/ ⟨0x02200008, [], .core, .data, .die, some (0x00C, 0), true, [0x0],
    [⟨0, 1, .wo, .none⟩, ⟨1, 1, .wo, .none⟩]⟩,
  /- TBL_STG_STAT -/ ⟨0x02200010, [(4, 0x4)], .core, .data, .die, none, false, [0x0],
    [⟨0, 2, .ro, .none⟩, ⟨2, 13, .ro, .none⟩, ⟨15, 17, .ro, .none⟩]⟩,
  /- TBL_STG_DROP -/ ⟨0x02200020, [], .core, .data, .die, none, false, [0x0],
    [⟨0, 32, .ro, .none⟩]⟩]

/-- Register tables at offsets 0x0230_0000 (10_collectives.md). -/
def rows_023_0 : List RegRow := [
  /- SYN_OP -/ ⟨0x02300000, [], .core, .data, .die, some (0x00D, 0), false, [0x0],
    [⟨0, 3, .cs, .none⟩, ⟨3, 1, .cs, .none⟩, ⟨4, 12, .cs, .none⟩]⟩,
  /- SYN_RANK -/ ⟨0x02300004, [], .core, .data, .die, some (0x00D, 0), false, [0x0],
    [⟨0, 17, .cs, .none⟩]⟩,
  /- SYN_ALLOC_A -/ ⟨0x02300008, [], .core, .data, .die, some (0x00D, 0), false, [0x0],
    [⟨0, 18, .cs, .none⟩, ⟨18, 7, .cs, .none⟩, ⟨25, 6, .cs, .none⟩]⟩,
  /- SYN_ALLOC_B -/ ⟨0x0230000C, [], .core, .data, .die, some (0x00D, 0), false, [0x0],
    [⟨0, 20, .cs, .none⟩, ⟨20, 1, .cs, .none⟩, ⟨21, 4, .cs, .none⟩, ⟨25, 5, .cs, .none⟩]⟩,
  /- SYN_ALLOC_C -/ ⟨0x02300010, [], .core, .data, .die, some (0x00D, 0), false, [0x0],
    [⟨0, 16, .cs, .none⟩]⟩,
  /- SYN_SEQ_LO -/ ⟨0x02300014, [], .core, .data, .die, some (0x00D, 0), false, [0x0],
    [⟨0, 32, .cs, .none⟩]⟩,
  /- SYN_SEQ_HI -/ ⟨0x02300018, [], .core, .data, .die, some (0x00D, 0), false, [0x0],
    [⟨0, 32, .cs, .none⟩]⟩,
  /- SYN_ROLL_ADDR -/ ⟨0x0230001C, [], .core, .data, .die, some (0x00D, 0), false, [0x0],
    [⟨0, 26, .cs, .none⟩, ⟨31, 1, .cs, .none⟩]⟩,
  /- SYN_FANOUT -/ ⟨0x02300020, [], .core, .data, .die, some (0x00D, 0), false, [0x0],
    [⟨0, 32, .cs, .none⟩]⟩,
  /- SYN_OP_COMMIT -/ ⟨0x02300024, [], .core, .data, .die, some (0x00D, 0), true, [0x0],
    [⟨0, 1, .wo, .none⟩, ⟨1, 1, .wo, .none⟩]⟩,
  /- SYN_OP_STAT -/ ⟨0x02300028, [], .core, .data, .die, none, false, [0x0],
    [⟨0, 4, .ro, .none⟩, ⟨4, 12, .ro, .none⟩]⟩,
  /- SYN_OP_EPOCH -/ ⟨0x0230002C, [], .core, .data, .die, none, false, [0x0],
    [⟨0, 32, .ro, .none⟩]⟩,
  /- SYN_CFG -/ ⟨0x02300030, [], .core, .data, .die, some (0x00E, 0), false, [0x140A07D0],
    [⟨0, 16, .cs, .region⟩, ⟨16, 8, .cs, .region⟩, ⟨24, 8, .cs, .region⟩]⟩,
  /- SYN_CFG_COMMIT -/ ⟨0x02300034, [], .core, .data, .die, some (0x00E, 0), true, [0x0],
    [⟨0, 1, .wo, .none⟩, ⟨1, 1, .wo, .none⟩]⟩,
  /- SYN_RES -/ ⟨0x02300040, [(16, 0x4)], .core, .data, .die, none, false, [0x0],
    [⟨0, 32, .ro, .none⟩]⟩,
  /- SYN_OBJ -/ ⟨0x02310000, [(512, 0x10)], .core, .data, .die, none, false, [0x0],
    [⟨0, 3, .ro, .block⟩, ⟨3, 1, .ro, .block⟩, ⟨4, 1, .ro, .block⟩, ⟨5, 1, .ro, .block⟩]⟩]

/-- Register tables at offsets 0x0230_0000 (10_collectives.md). -/
def rows_023_1 : List RegRow := [
  /- SYN_EPOCH -/ ⟨0x02310004, [(512, 0x10)], .core, .data, .die, none, false, [0x0],
    [⟨0, 32, .ro, .block⟩]⟩,
  /- SYN_LASTERR -/ ⟨0x02310008, [(512, 0x10)], .core, .data, .die, none, false, [0x0],
    [⟨0, 8, .ro, .block⟩, ⟨8, 18, .ro, .block⟩, ⟨26, 5, .ro, .block⟩]⟩,
  /- SYN_DROP -/ ⟨0x02300100, [], .core, .data, .die, none, false, [0x0],
    [⟨0, 16, .ro, .none⟩, ⟨16, 16, .ro, .none⟩]⟩,
  /- SYN_DROP2 -/ ⟨0x02300104, [], .core, .data, .die, none, false, [0x0],
    [⟨0, 16, .ro, .none⟩, ⟨16, 16, .ro, .none⟩]⟩,
  /- SYN_STAT -/ ⟨0x02300108, [], .core, .data, .die, none, false, [0x0],
    [⟨0, 16, .ro, .none⟩, ⟨16, 16, .ro, .none⟩]⟩,
  /- SYN_STORE -/ ⟨0x0230010C, [], .core, .data, .die, none, false, [0x0],
    [⟨0, 16, .ro, .none⟩, ⟨16, 16, .ro, .none⟩]⟩]

def rows_023 : List RegRow := rows_023_0 ++ rows_023_1

/-- Register tables at offsets 0x0240_0000 (11_exact_reduction.md, 13_result_integrity.md). -/
def rows_024 : List RegRow := [
  /- RED_CAP -/ ⟨0x02400000, [], .core, .data, .die, none, false, [0x38800140],
    [⟨0, 12, .ro, .none⟩, ⟨16, 12, .ro, .none⟩, ⟨28, 4, .ro, .none⟩]⟩,
  /- RED_FMT -/ ⟨0x02400004, [], .core, .data, .die, none, false, [0x7F3FFE],
    [⟨1, 13, .ro, .none⟩, ⟨16, 7, .ro, .none⟩]⟩,
  /- RED_SAT -/ ⟨0x02400010, [], .core, .data, .die, none, false, [0x0],
    [⟨0, 32, .ro, .none⟩]⟩,
  /- RED_NAN -/ ⟨0x02400014, [], .core, .data, .die, none, false, [0x0],
    [⟨0, 32, .ro, .none⟩]⟩,
  /- RED_RANGE -/ ⟨0x02400018, [], .core, .data, .die, none, false, [0x0],
    [⟨0, 16, .ro, .none⟩, ⟨16, 16, .ro, .none⟩]⟩,
  /- RED_LG_FB_LO -/ ⟨0x02400020, [], .core, .data, .die, none, false, [0x0],
    [⟨0, 32, .ro, .none⟩]⟩,
  /- RED_LG_FB_HI -/ ⟨0x02400024, [], .core, .data, .die, none, false, [0x0],
    [⟨0, 32, .ro, .none⟩]⟩,
  /- RED_CHK_CNT -/ ⟨0x02400100, [], .core, .data, .die, none, false, [0x0],
    [⟨0, 32, .ro, .none⟩]⟩,
  /- RED_CHK_FAULT -/ ⟨0x02400104, [], .core, .data, .die, none, false, [0x0],
    [⟨0, 8, .ro, .none⟩, ⟨8, 8, .ro, .none⟩, ⟨16, 8, .ro, .none⟩, ⟨24, 8, .ro, .none⟩]⟩,
  /- RED_CHK_HDR -/ ⟨0x02400110, [(4, 0x20)], .core, .data, .block, none, false, [0x0],
    [⟨0, 12, .ro, .none⟩, ⟨12, 16, .ro, .none⟩, ⟨28, 4, .ro, .none⟩]⟩,
  /- RED_CHK_RES -/ ⟨0x02400114, [(4, 0x20), (4, 0x4)], .core, .data, .block, none, false, [0x0],
    [⟨0, 31, .ro, .none⟩]⟩,
  /- RED_CHK_LG -/ ⟨0x02400124, [(4, 0x20)], .core, .data, .block, none, false, [0x0],
    [⟨0, 6, .ro, .none⟩, ⟨6, 6, .ro, .none⟩]⟩]

/-- Register tables at offsets 0x0250_0000 (12_transforms_and_optimizer.md). -/
def rows_025 : List RegRow := [
  /- TRF_OP -/ ⟨0x02500000, [], .core, .data, .die, some (0x00F, 0), false, [0x0],
    [⟨0, 4, .cs, .none⟩, ⟨4, 8, .cs, .none⟩]⟩,
  /- TRF_ADDR -/ ⟨0x02500004, [], .core, .data, .die, some (0x00F, 0), false, [0x0],
    [⟨0, 26, .cs, .none⟩, ⟨31, 1, .cs, .none⟩]⟩,
  /- TRF_ARG_A -/ ⟨0x02500008, [], .core, .data, .die, some (0x00F, 0), false, [0x0],
    [⟨0, 32, .cs, .none⟩]⟩,
  /- TRF_ARG_B -/ ⟨0x0250000C, [], .core, .data, .die, some (0x00F, 0), false, [0x0],
    [⟨0, 32, .cs, .none⟩]⟩,
  /- TRF_OP_COMMIT -/ ⟨0x02500010, [], .core, .data, .die, some (0x00F, 0), true, [0x0],
    [⟨0, 1, .wo, .none⟩, ⟨1, 1, .wo, .none⟩]⟩,
  /- TRF_OP_STAT -/ ⟨0x02500014, [], .core, .data, .die, none, false, [0x0],
    [⟨0, 4, .ro, .none⟩, ⟨4, 4, .ro, .none⟩, ⟨8, 8, .ro, .none⟩]⟩,
  /- TRF_RES -/ ⟨0x02500040, [(16, 0x4)], .core, .data, .die, none, false, [0x0],
    [⟨0, 32, .ro, .none⟩]⟩,
  /- TRF_STAT -/ ⟨0x02500080, [], .core, .data, .die, none, false, [0x0],
    [⟨0, 8, .ro, .planeData⟩, ⟨8, 8, .ro, .planeData⟩, ⟨16, 7, .ro, .planeData⟩]⟩]

/-- Register tables at offsets 0x0260_0000 (12_transforms_and_optimizer.md). -/
def rows_026 : List RegRow := [
  /- OPT_PAR_SEL -/ ⟨0x02600000, [], .core, .data, .die, some (0x023, 0), false, [0x0],
    [⟨0, 6, .cs, .none⟩, ⟨8, 1, .cs, .none⟩]⟩,
  /- OPT_PAR_FROM_LO -/ ⟨0x02600004, [], .core, .data, .die, some (0x023, 0), false, [0x0],
    [⟨0, 32, .cs, .none⟩]⟩,
  /- OPT_PAR_FROM_HI -/ ⟨0x02600008, [], .core, .data, .die, some (0x023, 0), false, [0x0],
    [⟨0, 32, .cs, .none⟩]⟩,
  /- OPT_PAR_LR -/ ⟨0x0260000C, [], .core, .data, .die, some (0x023, 0), false, [0x0],
    [⟨0, 32, .cs, .none⟩]⟩,
  /- OPT_PAR_B1 -/ ⟨0x02600010, [], .core, .data, .die, some (0x023, 0), false, [0x3F666666],
    [⟨0, 32, .cs, .none⟩]⟩,
  /- OPT_PAR_B2 -/ ⟨0x02600014, [], .core, .data, .die, some (0x023, 0), false, [0x3F7FBE77],
    [⟨0, 32, .cs, .none⟩]⟩,
  /- OPT_PAR_EPS -/ ⟨0x02600018, [], .core, .data, .die, some (0x023, 0), false, [0x322BCC77],
    [⟨0, 32, .cs, .none⟩]⟩,
  /- OPT_PAR_WD -/ ⟨0x0260001C, [], .core, .data, .die, some (0x023, 0), false, [0x0],
    [⟨0, 32, .cs, .none⟩]⟩,
  /- OPT_PAR_GSCALE -/ ⟨0x02600020, [], .core, .data, .die, some (0x023, 0), false, [0x3F800000],
    [⟨0, 32, .cs, .none⟩]⟩,
  /- OPT_PAR_COMMIT -/ ⟨0x02600024, [], .core, .data, .die, some (0x023, 0), true, [0x0],
    [⟨0, 1, .wo, .none⟩, ⟨1, 1, .wo, .none⟩]⟩,
  /- OPT_BIND -/ ⟨0x02610000, [(64, 0x10)], .core, .data, .die, none, false, [0x0],
    [⟨0, 2, .ro, .block⟩, ⟨2, 12, .ro, .block⟩, ⟨14, 2, .ro, .block⟩, ⟨16, 1, .ro, .block⟩]⟩,
  /- OPT_SKIP -/ ⟨0x02600100, [], .core, .data, .die, none, false, [0x0],
    [⟨0, 32, .ro, .none⟩]⟩,
  /- OPT_REPEAT -/ ⟨0x02600104, [], .core, .data, .die, none, false, [0x0],
    [⟨0, 32, .ro, .none⟩]⟩]

/-- Register tables at offsets 0x0380_0000 (14_time_and_bells.md). -/
def rows_038_0 : List RegRow := [
  /- TIM_NOW_0 -/ ⟨0x03800000, [], .all, .canopy, .die, none, false, [0x0],
    [⟨0, 16, .ro, .sag⟩]⟩,
  /- TIM_NOW_1 -/ ⟨0x03800004, [], .all, .canopy, .die, none, false, [0x0],
    [⟨0, 30, .ro, .sag⟩]⟩,
  /- TIM_NOW_2 -/ ⟨0x03800008, [], .all, .canopy, .die, none, false, [0x0],
    [⟨0, 32, .ro, .sag⟩]⟩,
  /- TIM_NOW_3 -/ ⟨0x0380000C, [], .all, .canopy, .die, none, false, [0x0],
    [⟨0, 16, .ro, .sag⟩]⟩,
  /- TIM_STAT -/ ⟨0x03800010, [], .all, .canopy, .die, none, false, [0x0],
    [⟨0, 1, .ro, .sag⟩, ⟨1, 1, .ro, .sag⟩, ⟨2, 1, .ro, .sag⟩, ⟨4, 3, .ro, .none⟩, ⟨8, 3, .ro, .none⟩]⟩,
  /- TIM_CFG -/ ⟨0x03800020, [], .hub, .mgmt, .die, some (0x025, 0), false, [0x640642],
    [⟨0, 1, .cs, .planeData⟩, ⟨1, 1, .cs, .planeData⟩, ⟨4, 10, .cs, .planeData⟩, ⟨16, 9, .cs, .planeData⟩, ⟨31, 1, .cs, .planeData⟩]⟩,
  /- TIM_DOM_CFG -/ ⟨0x03800024, [(2, 0x8)], .hub, .mgmt, .die, some (0x025, 0), false, [0x0],
    [⟨0, 2, .cs, .planeData⟩, ⟨8, 8, .cs, .planeData⟩, ⟨16, 11, .cs, .planeData⟩]⟩,
  /- TIM_DOM_ASYM -/ ⟨0x03800028, [(2, 0x8)], .hub, .mgmt, .die, some (0x025, 0), false, [0x0],
    [⟨0, 32, .cs, .planeData⟩]⟩,
  /- TIM_COMMIT -/ ⟨0x03800034, [], .hub, .mgmt, .die, some (0x025, 0), true, [0x0],
    [⟨0, 1, .wo, .none⟩, ⟨1, 1, .wo, .none⟩]⟩,
  /- TIM_DOM_OFS -/ ⟨0x03800040, [(2, 0x4)], .hub, .mgmt, .die, none, false, [0x0],
    [⟨0, 32, .ro, .none⟩]⟩,
  /- TIM_PPS_NSEC -/ ⟨0x03800048, [(2, 0x4)], .hub, .mgmt, .die, none, false, [0x0],
    [⟨0, 30, .ro, .none⟩]⟩,
  /- TIM_TSQ_PTR -/ ⟨0x03800100, [], .port, .data, .die, none, false, [0x0],
    [⟨0, 7, .ro, .none⟩, ⟨16, 7, .rw, .none⟩]⟩,
  /- TIM_TSQ_STAT -/ ⟨0x03800104, [], .port, .data, .die, none, false, [0x0],
    [⟨0, 16, .ro, .none⟩]⟩,
  /- TIM_BELL_NSEC_C -/ ⟨0x03820000, [], .all, .control, .die, none, false, [0x0],
    [⟨0, 30, .rw, .none⟩]⟩,
  /- TIM_BELL_SEC_LO_C -/ ⟨0x03820004, [], .all, .control, .die, none, false, [0x0],
    [⟨0, 32, .rw, .none⟩]⟩,
  /- TIM_BELL_SEC_HI_C -/ ⟨0x03820008, [], .all, .control, .die, none, false, [0x0],
    [⟨0, 16, .rw, .none⟩]⟩]

/-- Register tables at offsets 0x0380_0000 (14_time_and_bells.md). -/
def rows_038_1 : List RegRow := [
  /- TIM_BELL_ACT_C -/ ⟨0x0382000C, [], .all, .control, .die, none, false, [0x0],
    [⟨0, 4, .rw, .none⟩, ⟨4, 1, .rw, .none⟩, ⟨5, 1, .rw, .none⟩, ⟨8, 20, .rw, .none⟩]⟩,
  /- TIM_BELL_TAG_C -/ ⟨0x03820010, [], .all, .control, .die, none, false, [0x0],
    [⟨0, 16, .rw, .none⟩]⟩,
  /- TIM_BELL_CMD_C -/ ⟨0x03820014, [], .all, .control, .die, none, false, [0x0],
    [⟨0, 8, .wo, .none⟩, ⟨8, 2, .wo, .none⟩]⟩,
  /- TIM_BELL_STATUS_C -/ ⟨0x03820018, [], .all, .control, .die, none, false, [0x0],
    [⟨0, 4, .ro, .none⟩]⟩,
  /- TIM_BELL_NSEC_M -/ ⟨0x03820020, [], .all, .mgmt, .die, none, false, [0x0],
    [⟨0, 30, .rw, .none⟩]⟩,
  /- TIM_BELL_SEC_LO_M -/ ⟨0x03820024, [], .all, .mgmt, .die, none, false, [0x0],
    [⟨0, 32, .rw, .none⟩]⟩,
  /- TIM_BELL_SEC_HI_M -/ ⟨0x03820028, [], .all, .mgmt, .die, none, false, [0x0],
    [⟨0, 16, .rw, .none⟩]⟩,
  /- TIM_BELL_ACT_M -/ ⟨0x0382002C, [], .all, .mgmt, .die, none, false, [0x0],
    [⟨0, 4, .rw, .none⟩, ⟨4, 1, .rw, .none⟩, ⟨5, 1, .rw, .none⟩, ⟨8, 20, .rw, .none⟩]⟩,
  /- TIM_BELL_TAG_M -/ ⟨0x03820030, [], .all, .mgmt, .die, none, false, [0x0],
    [⟨0, 16, .rw, .none⟩]⟩,
  /- TIM_BELL_CMD_M -/ ⟨0x03820034, [], .all, .mgmt, .die, none, false, [0x0],
    [⟨0, 8, .wo, .none⟩, ⟨8, 2, .wo, .none⟩]⟩,
  /- TIM_BELL_STATUS_M -/ ⟨0x03820038, [], .all, .mgmt, .die, none, false, [0x0],
    [⟨0, 4, .ro, .none⟩]⟩,
  /- TIM_BELL_STATE -/ ⟨0x03830000, [(256, 0x4)], .all, .data, .die, none, false, [0x0],
    [⟨0, 1, .ro, .block⟩, ⟨1, 4, .ro, .block⟩, ⟨5, 2, .ro, .block⟩]⟩,
  /- TIM_BELL_CNT -/ ⟨0x03830400, [], .all, .data, .die, none, false, [0x0],
    [⟨0, 24, .ro, .none⟩, ⟨24, 8, .ro, .none⟩]⟩]

def rows_038 : List RegRow := rows_038_0 ++ rows_038_1

/-- Register tables at offsets 0x0390_0000 (15_power_clocks_reset.md, 18_electrical_and_package.md). -/
def rows_039 : List RegRow := [
  /- PWR_POL_TIME -/ ⟨0x03900000, [], .all, .data, .die, some (0x026, 0), false, [0xA0C802],
    [⟨0, 8, .cs, .region⟩, ⟨8, 12, .cs, .region⟩, ⟨20, 12, .cs, .region⟩]⟩,
  /- PWR_POL_MAX -/ ⟨0x03900004, [], .all, .data, .die, some (0x026, 0), false, [0x1492492],
    [⟨0, 24, .cs, .region⟩, ⟨24, 1, .cs, .region⟩]⟩,
  /- PWR_POL_COMMIT -/ ⟨0x03900008, [], .all, .data, .die, some (0x026, 0), true, [0x0],
    [⟨0, 1, .wo, .none⟩, ⟨1, 1, .wo, .none⟩]⟩,
  /- PWR_STATE -/ ⟨0x03900010, [], .all, .canopy, .die, none, false, [0x0],
    [⟨0, 24, .ro, .none⟩, ⟨24, 3, .ro, .none⟩, ⟨27, 1, .ro, .none⟩]⟩,
  /- PWR_SAG_STAT -/ ⟨0x03900014, [], .all, .canopy, .die, none, false, [0x0],
    [⟨0, 10, .ro, .none⟩, ⟨15, 1, .ro, .none⟩, ⟨16, 16, .ro, .sag⟩]⟩,
  /- PWR_WAKE_CNT -/ ⟨0x03900018, [], .all, .canopy, .die, none, false, [0x0],
    [⟨0, 16, .ro, .none⟩, ⟨16, 16, .ro, .none⟩]⟩,
  /- PWR_VCORE -/ ⟨0x03900020, [], .hub, .canopy, .die, none, false, [0x2EE],
    [⟨0, 10, .ro, .sag⟩]⟩,
  /- PWR_RST_CMD -/ ⟨0x03900030, [], .hub, .mgmt, .die, none, false, [0x0],
    [⟨0, 4, .wo, .none⟩, ⟨4, 6, .wo, .none⟩, ⟨10, 4, .wo, .none⟩, ⟨14, 8, .wo, .none⟩, ⟨22, 2, .wo, .none⟩, ⟨24, 8, .wo, .none⟩]⟩,
  /- PWR_RST_STAT -/ ⟨0x03900034, [], .hub, .mgmt, .die, none, false, [0x1],
    [⟨0, 4, .ro, .sag⟩, ⟨4, 8, .ro, .sag⟩, ⟨12, 4, .ro, .none⟩, ⟨16, 16, .ro, .sag⟩]⟩,
  /- PWR_RST_CFG -/ ⟨0x03900038, [], .hub, .mgmt, .die, none, false, [0x1],
    [⟨0, 1, .rw, .sag⟩]⟩,
  /- PWR_TEMP -/ ⟨0x03900040, [], .all, .canopy, .die, none, false, [0x0],
    [⟨0, 16, .ro, .none⟩, ⟨16, 16, .ro, .sag⟩]⟩,
  /- PWR_TEMP_CHIP -/ ⟨0x03900044, [], .hub, .canopy, .die, none, false, [0x0],
    [⟨0, 16, .ro, .none⟩, ⟨16, 6, .ro, .none⟩, ⟨30, 1, .ro, .none⟩, ⟨31, 1, .ro, .sag⟩]⟩]

/-- Register tables at offsets 0x03A0_0000 (16_management_security_twin.md). -/
def rows_03A : List RegRow := [
  /- MGT_ROLE -/ ⟨0x03A00000, [], .hubA, .mgmt, .die, none, false, [0x1],
    [⟨0, 1, .ro, .planeMgmt⟩, ⟨1, 1, .ro, .planeMgmt⟩]⟩,
  /- MGT_ROLE -/ ⟨0x03A00000, [], .hubB, .mgmt, .die, none, false, [0x0],
    [⟨0, 1, .ro, .planeMgmt⟩, ⟨1, 1, .ro, .planeMgmt⟩]⟩,
  /- MGT_WIN_EN_LO -/ ⟨0x03A00004, [], .hub, .mgmt, .die, none, false, [0x1],
    [⟨0, 32, .rw, .none⟩]⟩,
  /- MGT_WIN_EN_HI -/ ⟨0x03A00008, [], .hub, .mgmt, .die, none, false, [0x0],
    [⟨0, 32, .rw, .none⟩]⟩,
  /- MGT_EVQ_PTR -/ ⟨0x03A00010, [], .hub, .mgmt, .die, none, false, [0x0],
    [⟨0, 13, .ro, .none⟩, ⟨16, 13, .rw, .none⟩]⟩,
  /- MGT_EVQ_STAT -/ ⟨0x03A00014, [], .hub, .mgmt, .die, none, false, [0x0],
    [⟨0, 16, .ro, .none⟩]⟩,
  /- MGT_BAR_ERR -/ ⟨0x03A00018, [], .hub, .mgmt, .die, none, false, [0x0],
    [⟨0, 16, .ro, .none⟩, ⟨16, 16, .ro, .none⟩]⟩,
  /- MGT_EVT_MASK -/ ⟨0x03A00020, [], .hub, .mgmt, .die, some (0x028, 0), false, [0x8B0],
    [⟨0, 16, .cs, .planeMgmt⟩]⟩,
  /- MGT_FC_EP -/ ⟨0x03A00024, [], .hub, .mgmt, .die, some (0x028, 0), false, [0x0],
    [⟨0, 20, .cs, .planeMgmt⟩, ⟨31, 1, .cs, .planeMgmt⟩]⟩,
  /- MGT_COMMIT -/ ⟨0x03A00028, [], .hub, .mgmt, .die, some (0x028, 0), true, [0x0],
    [⟨0, 1, .wo, .none⟩, ⟨1, 1, .wo, .none⟩]⟩,
  /- MGT_WDOG -/ ⟨0x03A00030, [], .hub, .mgmt, .die, none, false, [0x1],
    [⟨0, 1, .rw, .sag⟩, ⟨4, 8, .ro, .sag⟩]⟩]

/-- Register tables at offsets 0x03B0_0000 (16_management_security_twin.md). -/
def rows_03B : List RegRow := [
  /- SEC_STAT -/ ⟨0x03B00000, [], .hub, .mgmt, .die, none, false, [0x0],
    [⟨0, 1, .ro, .sag⟩, ⟨1, 1, .ro, .sag⟩, ⟨4, 4, .ro, .sag⟩]⟩,
  /- SEC_FLOOR -/ ⟨0x03B00010, [(3, 0x4)], .hub, .mgmt, .die, none, false, [0x0],
    [⟨0, 32, .ro, .sag⟩]⟩,
  /- SEC_SESS_ERR -/ ⟨0x03B00024, [], .hub, .mgmt, .die, none, false, [0x0],
    [⟨0, 16, .ro, .none⟩, ⟨16, 16, .ro, .none⟩]⟩]

/-- Register tables at offsets 0x03C0_0000 (16_management_security_twin.md). -/
def rows_03C : List RegRow := [
  /- TWN_STATE -/ ⟨0x03C00000, [], .hub, .mgmt, .die, none, false, [0x0],
    [⟨0, 2, .ro, .planeMgmt⟩, ⟨2, 8, .ro, .planeMgmt⟩, ⟨10, 16, .ro, .none⟩]⟩,
  /- TWN_PEER_ID -/ ⟨0x03C00004, [], .hub, .mgmt, .die, none, false, [0x0],
    [⟨0, 20, .ro, .planeMgmt⟩, ⟨31, 1, .ro, .planeMgmt⟩]⟩,
  /- TWN_CFG -/ ⟨0x03C00010, [], .hub, .mgmt, .die, some (0x027, 0), false, [0x4],
    [⟨0, 1, .cs, .planeMgmt⟩, ⟨1, 1, .cs, .planeMgmt⟩, ⟨2, 1, .cs, .planeMgmt⟩]⟩,
  /- TWN_PEER -/ ⟨0x03C00014, [(4, 0x4)], .hub, .mgmt, .die, some (0x027, 0), false, [0x0],
    [⟨0, 32, .cs, .planeMgmt⟩]⟩,
  /- TWN_COMMIT -/ ⟨0x03C00024, [], .hub, .mgmt, .die, some (0x027, 0), true, [0x0],
    [⟨0, 1, .wo, .none⟩, ⟨1, 1, .wo, .none⟩]⟩,
  /- TWN_TIME_OFS -/ ⟨0x03C00030, [], .hub, .mgmt, .die, none, false, [0x0],
    [⟨0, 32, .ro, .none⟩]⟩,
  /- TWN_LOST_CNT -/ ⟨0x03C00034, [], .hub, .mgmt, .die, none, false, [0x0],
    [⟨0, 16, .ro, .sag⟩, ⟨16, 16, .ro, .sag⟩]⟩]

/-- Register tables at offsets 0x03D0_0000 (17_maintenance_and_counters.md). -/
def rows_03D : List RegRow := [
  /- PMC_SEL -/ ⟨0x03D00000, [(32, 0x10)], .all, .data, .die, none, false, [0x8FF000],
    [⟨0, 12, .rw, .planeData⟩, ⟨12, 8, .rw, .planeData⟩, ⟨20, 4, .rw, .planeData⟩, ⟨28, 1, .rw, .planeData⟩, ⟨29, 1, .rw, .planeData⟩, ⟨30, 1, .rw, .planeData⟩]⟩,
  /- PMC_CNT_LO -/ ⟨0x03D00004, [(32, 0x10)], .all, .data, .die, none, false, [0x0],
    [⟨0, 32, .rw, .planeData⟩]⟩,
  /- PMC_CNT_HI -/ ⟨0x03D00008, [(32, 0x10)], .all, .data, .die, none, false, [0x0],
    [⟨0, 16, .rw, .planeData⟩]⟩,
  /- PMC_PERIOD -/ ⟨0x03D0000C, [(32, 0x10)], .all, .data, .die, none, false, [0x0],
    [⟨0, 32, .rw, .planeData⟩]⟩,
  /- PMC_FIX_LO -/ ⟨0x03D00200, [(8, 0x8)], .all, .data, .die, none, false, [0x0],
    [⟨0, 32, .ro, .planeData⟩]⟩,
  /- PMC_FIX_HI -/ ⟨0x03D00204, [(8, 0x8)], .all, .data, .die, none, false, [0x0],
    [⟨0, 32, .ro, .planeData⟩]⟩,
  /- PMC_TAG -/ ⟨0x03D00300, [], .all, .canopy, .die, none, false, [0x0],
    [⟨0, 20, .ro, .none⟩]⟩,
  /- PMC_OVF -/ ⟨0x03D00304, [], .all, .data, .die, none, false, [0x0],
    [⟨0, 32, .w1c, .planeData⟩]⟩]

/-- Register tables at offsets 0x03E0_0000 (01_architecture.md, 13_result_integrity.md, 17_maintenance_and_counters.md). -/
def rows_03E_0 : List RegRow := [
  /- FLT_NQ_CTL_PTR -/ ⟨0x03E00000, [], .all, .data, .die, none, false, [0x0],
    [⟨0, 11, .ro, .none⟩, ⟨16, 11, .rw, .none⟩]⟩,
  /- FLT_NQ_MGT_PTR -/ ⟨0x03E00004, [], .all, .data, .die, none, false, [0x0],
    [⟨0, 11, .ro, .none⟩, ⟨16, 11, .rw, .none⟩]⟩,
  /- FLT_NQ_STATUS -/ ⟨0x03E00008, [], .all, .data, .die, none, false, [0x0],
    [⟨0, 1, .w1c, .none⟩, ⟨1, 1, .w1c, .none⟩, ⟨2, 1, .ro, .none⟩, ⟨3, 1, .ro, .none⟩]⟩,
  /- FLT_NQ_LOST -/ ⟨0x03E0000C, [], .all, .data, .die, none, false, [0x0],
    [⟨0, 16, .ro, .none⟩, ⟨16, 16, .ro, .none⟩]⟩,
  /- FLT_NQ_ROUTE -/ ⟨0x03E00010, [], .all, .data, .die, some (0x001, 0), false, [0x1FADBD4],
    [⟨0, 32, .cs, .none⟩]⟩,
  /- FLT_NQ_COMMIT -/ ⟨0x03E00014, [], .all, .data, .die, some (0x001, 0), true, [0x0],
    [⟨0, 1, .wo, .none⟩, ⟨1, 1, .wo, .none⟩]⟩,
  /- FLT_FB_STATE -/ ⟨0x03E00020, [], .all, .data, .die, none, false, [0x0],
    [⟨0, 8, .ro, .none⟩, ⟨8, 1, .ro, .none⟩]⟩,
  /- FLT_FB_TILE_LO -/ ⟨0x03E00024, [], .all, .data, .die, none, false, [0x0],
    [⟨0, 32, .ro, .none⟩]⟩,
  /- FLT_FB_TILE_HI -/ ⟨0x03E00028, [], .all, .data, .die, none, false, [0x0],
    [⟨0, 32, .ro, .none⟩]⟩,
  /- FLT_QUIZ_POL -/ ⟨0x03E20000, [], .all, .data, .die, some (0x024, 0), false, [0x183258],
    [⟨0, 10, .cs, .region⟩, ⟨12, 4, .cs, .region⟩, ⟨16, 8, .cs, .region⟩]⟩,
  /- FLT_QUIZ_REQ -/ ⟨0x03E20004, [], .all, .data, .die, some (0x024, 0), false, [0x0],
    [⟨0, 1, .cs, .none⟩, ⟨4, 4, .cs, .none⟩, ⟨8, 4, .cs, .none⟩, ⟨12, 8, .cs, .none⟩]⟩,
  /- FLT_QUIZ_COMMIT -/ ⟨0x03E20008, [], .all, .data, .die, some (0x024, 0), true, [0x0],
    [⟨0, 1, .wo, .none⟩, ⟨1, 1, .wo, .none⟩]⟩,
  /- FLT_QUIZ_STAT -/ ⟨0x03E20010, [], .all, .data, .die, none, false, [0x0],
    [⟨0, 16, .ro, .none⟩, ⟨16, 8, .ro, .none⟩, ⟨24, 8, .ro, .none⟩]⟩,
  /- FLT_FSIG_PTR -/ ⟨0x03E20100, [], .all, .mgmt, .die, none, false, [0x0],
    [⟨0, 13, .ro, .planeMgmt⟩, ⟨13, 13, .rw, .planeMgmt⟩, ⟨26, 6, .ro, .planeMgmt⟩]⟩,
  /- FLT_QPACK_STAT -/ ⟨0x03E20200, [], .all, .mgmt, .die, none, false, [0x0],
    [⟨0, 16, .ro, .sag⟩, ⟨16, 8, .ro, .planeMgmt⟩, ⟨24, 8, .ro, .sag⟩]⟩,
  /- FLT_LDG_CFG -/ ⟨0x03E30000, [], .all, .data, .die, some (0x029, 0), false, [0x801803E8],
    [⟨0, 16, .cs, .region⟩, ⟨16, 8, .cs, .region⟩, ⟨31, 1, .cs, .region⟩]⟩]

/-- Register tables at offsets 0x03E0_0000 (17_maintenance_and_counters.md). -/
def rows_03E_1 : List RegRow := [
  /- FLT_LDG_COMMIT -/ ⟨0x03E30004, [], .all, .data, .die, some (0x029, 0), true, [0x0],
    [⟨0, 1, .wo, .none⟩, ⟨1, 1, .wo, .none⟩]⟩,
  /- FLT_LDG_STAT -/ ⟨0x03E30010, [], .all, .data, .die, none, false, [0x0],
    [⟨0, 7, .ro, .none⟩, ⟨7, 7, .ro, .none⟩, ⟨16, 16, .ro, .none⟩]⟩,
  /- FLT_LDG_CNT -/ ⟨0x03E30014, [], .all, .data, .die, none, false, [0x0],
    [⟨0, 16, .ro, .none⟩, ⟨16, 8, .ro, .none⟩, ⟨24, 8, .ro, .none⟩]⟩,
  /- FLT_HSC_STAT -/ ⟨0x03E30020, [], .core, .data, .die, none, false, [0x0],
    [⟨0, 16, .ro, .none⟩, ⟨16, 16, .ro, .none⟩]⟩,
  /- FLT_LDG_ENT -/ ⟨0x03E30100, [(64, 0x10)], .all, .data, .die, none, false, [0x0],
    [⟨0, 2, .ro, .none⟩, ⟨2, 1, .ro, .none⟩, ⟨3, 4, .ro, .none⟩, ⟨8, 8, .ro, .none⟩, ⟨16, 2, .ro, .none⟩, ⟨18, 1, .ro, .none⟩, ⟨19, 1, .ro, .none⟩, ⟨20, 2, .ro, .none⟩]⟩,
  /- FLT_LDG_LANES_LO -/ ⟨0x03E30104, [(64, 0x10)], .all, .data, .die, none, false, [0x0],
    [⟨0, 32, .ro, .none⟩]⟩,
  /- FLT_LDG_LANES_HI -/ ⟨0x03E30108, [(64, 0x10)], .all, .data, .die, none, false, [0x0],
    [⟨0, 32, .ro, .none⟩]⟩,
  /- FLT_LDG_WAIT -/ ⟨0x03E3010C, [(64, 0x10)], .all, .data, .die, none, false, [0x0],
    [⟨0, 32, .ro, .none⟩]⟩]

def rows_03E : List RegRow := rows_03E_0 ++ rows_03E_1

/-- Register tables at offsets 0x03F0_0000 (02_eufen_image.md). -/
def rows_03F : List RegRow := [
  /- CFG_GEN -/ ⟨0x03F00000, [], .all, .data, .die, none, false, [0x0],
    [⟨0, 32, .ro, .planeData⟩]⟩,
  /- CFG_LOAD_STATE -/ ⟨0x03F00004, [], .all, .mgmt, .die, none, false, [0x0],
    [⟨0, 4, .ro, .planeMgmt⟩, ⟨8, 8, .ro, .planeMgmt⟩, ⟨16, 16, .ro, .planeMgmt⟩]⟩,
  /- CFG_IMAGE_VER -/ ⟨0x03F00008, [], .all, .data, .die, none, false, [0x0],
    [⟨0, 32, .ro, .planeData⟩]⟩,
  /- CFG_IMAGE_DIG_LO -/ ⟨0x03F0000C, [], .all, .data, .die, none, false, [0x0],
    [⟨0, 32, .ro, .planeData⟩]⟩,
  /- CFG_IMAGE_DIG_HI -/ ⟨0x03F00010, [], .all, .data, .die, none, false, [0x0],
    [⟨0, 32, .ro, .planeData⟩]⟩,
  /- CFG_APV_ADDR_C -/ ⟨0x03F00014, [], .all, .control, .die, none, false, [0x0],
    [⟨2, 24, .rw, .none⟩]⟩,
  /- CFG_APV_ADDR_M -/ ⟨0x03F0001C, [], .all, .mgmt, .die, none, false, [0x0],
    [⟨2, 24, .rw, .none⟩]⟩,
  /- CFG_APV_DATA_C -/ ⟨0x03F00018, [], .all, .control, .die, none, false, [0x0],
    [⟨0, 32, .ro, .none⟩]⟩,
  /- CFG_APV_DATA_M -/ ⟨0x03F00020, [], .all, .mgmt, .die, none, false, [0x0],
    [⟨0, 32, .ro, .none⟩]⟩,
  /- CFG_STALE_RELOADS -/ ⟨0x03F00024, [], .all, .data, .die, none, false, [0x0],
    [⟨0, 32, .ro, .planeData⟩]⟩,
  /- CFG_BLK_TAG -/ ⟨0x03F00040, [(8, 0x4)], .port, .data, .block, none, false, [0x0],
    [⟨0, 31, .ro, .planeData⟩, ⟨31, 1, .ro, .planeData⟩]⟩,
  /- CFG_BLK_TAG -/ ⟨0x03F00040, [(4, 0x4)], .core, .data, .block, none, false, [0x0],
    [⟨0, 31, .ro, .planeData⟩, ⟨31, 1, .ro, .planeData⟩]⟩,
  /- CFG_CSTAT -/ ⟨0x03F01000, [(512, 0x4)], .all, .data, .die, none, false, [0x1],
    [⟨0, 8, .ro, .none⟩, ⟨8, 8, .ro, .none⟩, ⟨16, 1, .ro, .none⟩, ⟨17, 1, .ro, .none⟩, ⟨18, 1, .ro, .none⟩]⟩]

/-- The register tables whose base lies in the given MiB of a die window. -/
def rowsAt (page : Nat) : List RegRow :=
  match page with
  | 0x010 => rows_010
  | 0x011 => rows_011
  | 0x012 => rows_012
  | 0x013 => rows_013
  | 0x014 => rows_014
  | 0x015 => rows_015
  | 0x016 => rows_016
  | 0x020 => rows_020
  | 0x021 => rows_021
  | 0x022 => rows_022
  | 0x023 => rows_023
  | 0x024 => rows_024
  | 0x025 => rows_025
  | 0x026 => rows_026
  | 0x038 => rows_038
  | 0x039 => rows_039
  | 0x03A => rows_03A
  | 0x03B => rows_03B
  | 0x03C => rows_03C
  | 0x03D => rows_03D
  | 0x03E => rows_03E
  | 0x03F => rows_03F
  | _ => []


end Sys2Proof.Machine
end

