-- ==== Sys2Proof/Machine/RegNames.lean ====
section
/-!
DEFINITION. The spec's register and field names: `R.NAME d i …` is the BAR0 address of a register in the window of
die d (R440: d × 0x0400_0000 + offset), and `F.NAME_FIELD` the bits of one of its fields.
-/

namespace Sys2Proof.Machine

/-- The bits [lo+width-1:lo] of a register. -/
structure Fld where
  lo : Nat
  width : Nat
  deriving DecidableEq, Repr

/-- First BAR0 address of the window of die d (R440). -/
def dieBase (d : Nat) : Nat := d * 0x04000000

def R.FLT_NQ_CTL_PTR (d : Nat) : Nat := dieBase d + 0x03E00000
def F.FLT_NQ_CTL_PTR_HEAD : Fld := ⟨0, 11⟩
def F.FLT_NQ_CTL_PTR_TAIL : Fld := ⟨16, 11⟩
def R.FLT_NQ_MGT_PTR (d : Nat) : Nat := dieBase d + 0x03E00004
def F.FLT_NQ_MGT_PTR_HEAD : Fld := ⟨0, 11⟩
def F.FLT_NQ_MGT_PTR_TAIL : Fld := ⟨16, 11⟩
def R.FLT_NQ_STATUS (d : Nat) : Nat := dieBase d + 0x03E00008
def F.FLT_NQ_STATUS_CTL_OVF : Fld := ⟨0, 1⟩
def F.FLT_NQ_STATUS_MGT_OVF : Fld := ⟨1, 1⟩
def F.FLT_NQ_STATUS_CTL_RESERVE : Fld := ⟨2, 1⟩
def F.FLT_NQ_STATUS_MGT_RESERVE : Fld := ⟨3, 1⟩
def R.FLT_NQ_LOST (d : Nat) : Nat := dieBase d + 0x03E0000C
def F.FLT_NQ_LOST_CTL_LOST : Fld := ⟨0, 16⟩
def F.FLT_NQ_LOST_MGT_LOST : Fld := ⟨16, 16⟩
def R.FLT_NQ_ROUTE (d : Nat) : Nat := dieBase d + 0x03E00010
def F.FLT_NQ_ROUTE_ROUTE : Fld := ⟨0, 32⟩
def R.FLT_NQ_COMMIT (d : Nat) : Nat := dieBase d + 0x03E00014
def R.FLT_FB_STATE (d : Nat) : Nat := dieBase d + 0x03E00020
def F.FLT_FB_STATE_BLOCK_FB : Fld := ⟨0, 8⟩
def F.FLT_FB_STATE_REGION_ISO : Fld := ⟨8, 1⟩
def R.FLT_FB_TILE_LO (d : Nat) : Nat := dieBase d + 0x03E00024
def F.FLT_FB_TILE_LO_TILE_FB : Fld := ⟨0, 32⟩
def R.FLT_FB_TILE_HI (d : Nat) : Nat := dieBase d + 0x03E00028
def F.FLT_FB_TILE_HI_TILE_FB : Fld := ⟨0, 32⟩
def R.CFG_GEN (d : Nat) : Nat := dieBase d + 0x03F00000
def F.CFG_GEN_GEN : Fld := ⟨0, 32⟩
def R.CFG_LOAD_STATE (d : Nat) : Nat := dieBase d + 0x03F00004
def F.CFG_LOAD_STATE_STATE : Fld := ⟨0, 4⟩
def F.CFG_LOAD_STATE_CODE : Fld := ⟨8, 8⟩
def F.CFG_LOAD_STATE_SECTION : Fld := ⟨16, 16⟩
def R.CFG_IMAGE_VER (d : Nat) : Nat := dieBase d + 0x03F00008
def F.CFG_IMAGE_VER_VERSION : Fld := ⟨0, 32⟩
def R.CFG_IMAGE_DIG_LO (d : Nat) : Nat := dieBase d + 0x03F0000C
def F.CFG_IMAGE_DIG_LO_DIGEST : Fld := ⟨0, 32⟩
def R.CFG_IMAGE_DIG_HI (d : Nat) : Nat := dieBase d + 0x03F00010
def F.CFG_IMAGE_DIG_HI_DIGEST : Fld := ⟨0, 32⟩
def R.CFG_APV_ADDR_C (d : Nat) : Nat := dieBase d + 0x03F00014
def F.CFG_APV_ADDR_C_OFFSET : Fld := ⟨2, 24⟩
def R.CFG_APV_ADDR_M (d : Nat) : Nat := dieBase d + 0x03F0001C
def F.CFG_APV_ADDR_M_OFFSET : Fld := ⟨2, 24⟩
def R.CFG_APV_DATA_C (d : Nat) : Nat := dieBase d + 0x03F00018
def F.CFG_APV_DATA_C_VALUE : Fld := ⟨0, 32⟩
def R.CFG_APV_DATA_M (d : Nat) : Nat := dieBase d + 0x03F00020
def F.CFG_APV_DATA_M_VALUE : Fld := ⟨0, 32⟩
def R.CFG_STALE_RELOADS (d : Nat) : Nat := dieBase d + 0x03F00024
def F.CFG_STALE_RELOADS_COUNT : Fld := ⟨0, 32⟩
def R.CFG_BLK_TAG (d i : Nat) : Nat := dieBase d + 0x03F00040 + 0x4 * i
def F.CFG_BLK_TAG_TAG : Fld := ⟨0, 31⟩
def F.CFG_BLK_TAG_STALE : Fld := ⟨31, 1⟩
def R.CFG_CSTAT (d i : Nat) : Nat := dieBase d + 0x03F01000 + 0x4 * i
def F.CFG_CSTAT_STATUS : Fld := ⟨0, 8⟩
def F.CFG_CSTAT_CHECK : Fld := ⟨8, 8⟩
def F.CFG_CSTAT_DIRTY : Fld := ⟨16, 1⟩
def F.CFG_CSTAT_PENDING : Fld := ⟨17, 1⟩
def F.CFG_CSTAT_BY_BELL : Fld := ⟨18, 1⟩
def R.PRT_LSTAT (d i : Nat) : Nat := dieBase d + 0x01000000 + 0x100 * i
def F.PRT_LSTAT_STATE : Fld := ⟨0, 4⟩
def F.PRT_LSTAT_CAUSE : Fld := ⟨4, 8⟩
def F.PRT_LSTAT_DEPTH : Fld := ⟨12, 2⟩
def F.PRT_LSTAT_PHASE : Fld := ⟨14, 3⟩
def F.PRT_LSTAT_FAST : Fld := ⟨17, 1⟩
def R.PRT_LPARTNER (d i : Nat) : Nat := dieBase d + 0x01000004 + 0x100 * i
def F.PRT_LPARTNER_SWITCH_ID : Fld := ⟨0, 20⟩
def F.PRT_LPARTNER_LANE : Fld := ⟨20, 6⟩
def F.PRT_LPARTNER_ROLE : Fld := ⟨26, 2⟩
def F.PRT_LPARTNER_VALID : Fld := ⟨31, 1⟩
def R.PRT_FEC_CORR (d i : Nat) : Nat := dieBase d + 0x01000008 + 0x100 * i
def F.PRT_FEC_CORR_COUNT : Fld := ⟨0, 32⟩
def R.PRT_FEC_UNCORR (d i : Nat) : Nat := dieBase d + 0x0100000C + 0x100 * i
def F.PRT_FEC_UNCORR_TOTAL : Fld := ⟨0, 16⟩
def F.PRT_FEC_UNCORR_WINDOW : Fld := ⟨16, 16⟩
def R.PRT_RX_ERR (d i : Nat) : Nat := dieBase d + 0x01000010 + 0x100 * i
def F.PRT_RX_ERR_CRC_ERR : Fld := ⟨0, 16⟩
def F.PRT_RX_ERR_HDR_ERR : Fld := ⟨16, 16⟩
def R.PRT_CR_LOST (d i : Nat) : Nat := dieBase d + 0x01000014 + 0x100 * i
def F.PRT_CR_LOST_LOST : Fld := ⟨0, 24⟩
def R.PRT_LC_STAT (d i : Nat) : Nat := dieBase d + 0x01000018 + 0x100 * i
def F.PRT_LC_STAT_RETRIES : Fld := ⟨0, 16⟩
def F.PRT_LC_STAT_FAILURES : Fld := ⟨16, 8⟩
def R.PRT_SWITCH_ID (d : Nat) : Nat := dieBase d + 0x01008000
def F.PRT_SWITCH_ID_ID : Fld := ⟨0, 20⟩
def R.PRT_LINK_ID_COMMIT (d : Nat) : Nat := dieBase d + 0x01008004
def R.PRT_CR_ALLOC (d i : Nat) : Nat := dieBase d + 0x01008010 + 0x4 * i
def F.PRT_CR_ALLOC_CELLS : Fld := ⟨0, 13⟩
def R.PRT_FEC_LIMIT (d : Nat) : Nat := dieBase d + 0x01008030
def F.PRT_FEC_LIMIT_LIMIT : Fld := ⟨0, 16⟩
def R.PRT_LINK_PAR_COMMIT (d : Nat) : Nat := dieBase d + 0x01008034
def R.PRT_OPT_POL (d : Nat) : Nat := dieBase d + 0x01102080
def F.PRT_OPT_POL_HTR_CAP : Fld := ⟨0, 8⟩
def F.PRT_OPT_POL_CAL_PERIOD : Fld := ⟨8, 8⟩
def F.PRT_OPT_POL_CAL_TEMP : Fld := ⟨16, 6⟩
def F.PRT_OPT_POL_CAL_SOLO : Fld := ⟨24, 1⟩
def R.PRT_OPT_REQ (d : Nat) : Nat := dieBase d + 0x01102084
def F.PRT_OPT_REQ_OP : Fld := ⟨0, 4⟩
def F.PRT_OPT_REQ_LANE : Fld := ⟨4, 6⟩
def F.PRT_OPT_REQ_RING : Fld := ⟨10, 8⟩
def R.PRT_OPT_COMMIT (d : Nat) : Nat := dieBase d + 0x01102088
def R.PRT_OPT_PWR (d i : Nat) : Nat := dieBase d + 0x01000040 + 0x100 * i
def F.PRT_OPT_PWR_FADE : Fld := ⟨0, 16⟩
def F.PRT_OPT_PWR_CHANNEL : Fld := ⟨16, 4⟩
def F.PRT_OPT_PWR_HOLD : Fld := ⟨20, 1⟩
def F.PRT_OPT_PWR_ON_SPARE : Fld := ⟨21, 1⟩
def F.PRT_OPT_PWR_WARN : Fld := ⟨22, 1⟩
def R.PRT_OPT_COMM (d i : Nat) : Nat := dieBase d + 0x01000044 + 0x100 * i
def F.PRT_OPT_COMM_POWER : Fld := ⟨0, 16⟩
def R.PRT_RING (d i j : Nat) : Nat := dieBase d + 0x01100000 + 0x400 * i + 0x10 * j
def F.PRT_RING_STATE : Fld := ⟨0, 3⟩
def F.PRT_RING_CHANNEL : Fld := ⟨3, 4⟩
def F.PRT_RING_RECORD : Fld := ⟨7, 1⟩
def F.PRT_RING_HTR : Fld := ⟨8, 12⟩
def F.PRT_RING_WRONG : Fld := ⟨20, 8⟩
def R.PRT_FP (d i : Nat) : Nat := dieBase d + 0x01102000 + 0x4 * i
def F.PRT_FP_SPARE_STATE : Fld := ⟨0, 2⟩
def F.PRT_FP_SPARE_LANE : Fld := ⟨2, 3⟩
def F.PRT_FP_FEED_LOST : Fld := ⟨8, 1⟩
def R.PRT_OPT_STAT (d : Nat) : Nat := dieBase d + 0x01102040
def F.PRT_OPT_STAT_SEARCH : Fld := ⟨0, 2⟩
def F.PRT_OPT_STAT_HTR_PWR : Fld := ⟨16, 12⟩
def R.CLR_REQ (d : Nat) : Nat := dieBase d + 0x01200000
def F.CLR_REQ_OP : Fld := ⟨0, 2⟩
def F.CLR_REQ_ROUTE : Fld := ⟨2, 2⟩
def F.CLR_REQ_CHANNEL : Fld := ⟨4, 3⟩
def F.CLR_REQ_LEAD : Fld := ⟨16, 16⟩
def R.CLR_COMMIT (d : Nat) : Nat := dieBase d + 0x01200004
def R.CLR_ROUTE (d i : Nat) : Nat := dieBase d + 0x01200010 + 0x4 * i
def F.CLR_ROUTE_CLEARED : Fld := ⟨0, 8⟩
def F.CLR_ROUTE_BUSY : Fld := ⟨8, 8⟩
def R.CLR_CHAN (d i j : Nat) : Nat := dieBase d + 0x01200100 + 0x20 * i + 0x4 * j
def F.CLR_CHAN_STATE : Fld := ⟨0, 3⟩
def F.CLR_CHAN_HANDLE : Fld := ⟨3, 8⟩
def F.CLR_CHAN_REASON : Fld := ⟨11, 8⟩
def F.CLR_CHAN_FORCED : Fld := ⟨19, 1⟩
def R.PRT_SPRAY (d i : Nat) : Nat := dieBase d + 0x01300000 + 0x8 * i
def F.PRT_SPRAY_WIDTH : Fld := ⟨0, 16⟩
def F.PRT_SPRAY_SPRAY : Fld := ⟨16, 8⟩
def F.PRT_SPRAY_ENABLE : Fld := ⟨24, 8⟩
def R.PRT_SPRAY_COMMIT (d i : Nat) : Nat := dieBase d + 0x01300004 + 0x8 * i
def R.PRT_FWD_MODE (d i : Nat) : Nat := dieBase d + 0x01300100 + 0x4 * i
def F.PRT_FWD_MODE_SAF : Fld := ⟨0, 8⟩
def R.PRT_SAF_HOLD (d : Nat) : Nat := dieBase d + 0x01300200
def F.PRT_SAF_HOLD_HOLD : Fld := ⟨0, 8⟩
def R.PRT_FWD_COMMIT (d : Nat) : Nat := dieBase d + 0x01300204
def R.PRT_CSPRAY (d : Nat) : Nat := dieBase d + 0x01300210
def F.PRT_CSPRAY_MASK : Fld := ⟨0, 8⟩
def R.PRT_CSPRAY_COMMIT (d : Nat) : Nat := dieBase d + 0x01300214
def R.PRT_CSPRAY_STAT (d : Nat) : Nat := dieBase d + 0x01300218
def F.PRT_CSPRAY_STAT_EFFECTIVE : Fld := ⟨0, 8⟩
def F.PRT_CSPRAY_STAT_ISOLATED : Fld := ⟨8, 8⟩
def F.PRT_CSPRAY_STAT_LINK_DOWN : Fld := ⟨16, 8⟩
def F.PRT_CSPRAY_STAT_XPORT_FB : Fld := ⟨24, 8⟩
def R.PRT_IN_DROP (d : Nat) : Nat := dieBase d + 0x01300300
def F.PRT_IN_DROP_NO_ROUTE : Fld := ⟨0, 16⟩
def F.PRT_IN_DROP_BAD_KIND : Fld := ⟨16, 16⟩
def R.PRT_IN_DROP2 (d : Nat) : Nat := dieBase d + 0x01300304
def F.PRT_IN_DROP2_NO_HOME : Fld := ⟨0, 16⟩
def F.PRT_IN_DROP2_EGRESS_DOWN : Fld := ⟨16, 16⟩
def R.PRT_EG_DROP (d : Nat) : Nat := dieBase d + 0x01300308
def F.PRT_EG_DROP_PORT_DOWN : Fld := ⟨0, 16⟩
def F.PRT_EG_DROP_INTERNAL : Fld := ⟨16, 16⟩
def R.PRT_UPL_LOST (d : Nat) : Nat := dieBase d + 0x0130030C
def F.PRT_UPL_LOST_ENVELOPES : Fld := ⟨0, 16⟩
def R.PRT_FB_DISCARD (d : Nat) : Nat := dieBase d + 0x01300310
def F.PRT_FB_DISCARD_CELLS : Fld := ⟨0, 32⟩
def R.PRT_D2D_REPLAY (d i : Nat) : Nat := dieBase d + 0x01300400 + 0x4 * i
def F.PRT_D2D_REPLAY_TOTAL : Fld := ⟨0, 16⟩
def F.PRT_D2D_REPLAY_WINDOW : Fld := ⟨16, 11⟩
def R.XBR_ARB_CFG (d : Nat) : Nat := dieBase d + 0x02000000
def F.XBR_ARB_CFG_AGE_LIMIT : Fld := ⟨0, 8⟩
def F.XBR_ARB_CFG_ENV_CREDITS : Fld := ⟨8, 5⟩
def R.XBR_ARB_COMMIT (d : Nat) : Nat := dieBase d + 0x02000004
def R.XBR_MATCHED (d : Nat) : Nat := dieBase d + 0x02000020
def F.XBR_MATCHED_ENVELOPES : Fld := ⟨0, 32⟩
def R.XBR_URGENT (d : Nat) : Nat := dieBase d + 0x02000024
def F.XBR_URGENT_GRANTS : Fld := ⟨0, 32⟩
def R.XBR_DROP (d : Nat) : Nat := dieBase d + 0x02000028
def F.XBR_DROP_ENVELOPES : Fld := ⟨0, 32⟩
def R.XBR_D2D_REPLAY (d i : Nat) : Nat := dieBase d + 0x02000100 + 0x4 * i
def F.XBR_D2D_REPLAY_TOTAL : Fld := ⟨0, 16⟩
def F.XBR_D2D_REPLAY_WINDOW : Fld := ⟨16, 11⟩
def R.BUF_POOL_WARN (d i : Nat) : Nat := dieBase d + 0x01400000 + 0x10 * i
def F.BUF_POOL_WARN_WARN : Fld := ⟨0, 18⟩
def R.BUF_POOL_PRS (d i : Nat) : Nat := dieBase d + 0x01400004 + 0x10 * i
def F.BUF_POOL_PRS_PRESSURE : Fld := ⟨0, 18⟩
def R.BUF_POOL_FLR (d i : Nat) : Nat := dieBase d + 0x01400008 + 0x10 * i
def F.BUF_POOL_FLR_FLOOR : Fld := ⟨0, 18⟩
def F.BUF_POOL_FLR_NOSHARE : Fld := ⟨31, 1⟩
def R.BUF_POOL_COMMIT (d i : Nat) : Nat := dieBase d + 0x0140000C + 0x10 * i
def R.BUF_POOL_STAT (d i : Nat) : Nat := dieBase d + 0x01400100 + 0x10 * i
def F.BUF_POOL_STAT_OCC : Fld := ⟨0, 18⟩
def F.BUF_POOL_STAT_LEVEL : Fld := ⟨18, 2⟩
def F.BUF_POOL_STAT_HOLD : Fld := ⟨20, 8⟩
def F.BUF_POOL_STAT_STALLS : Fld := ⟨28, 4⟩
def R.BUF_POOL_RSV (d i : Nat) : Nat := dieBase d + 0x01400104 + 0x10 * i
def F.BUF_POOL_RSV_RESERVED : Fld := ⟨0, 18⟩
def R.BUF_DROP_RED (d i : Nat) : Nat := dieBase d + 0x01400200 + 0x10 * i
def F.BUF_DROP_RED_CELLS : Fld := ⟨0, 32⟩
def R.BUF_DROP_FLOOR (d i : Nat) : Nat := dieBase d + 0x01400204 + 0x10 * i
def F.BUF_DROP_FLOOR_CELLS : Fld := ⟨0, 32⟩
def R.BUF_MARK (d i : Nat) : Nat := dieBase d + 0x01400208 + 0x10 * i
def F.BUF_MARK_CELLS : Fld := ⟨0, 32⟩
def R.BUF_COPY (d i : Nat) : Nat := dieBase d + 0x0140020C + 0x10 * i
def F.BUF_COPY_CELLS : Fld := ⟨0, 32⟩
def R.BUF_SPILL_OUT (d : Nat) : Nat := dieBase d + 0x01400300
def F.BUF_SPILL_OUT_CELLS : Fld := ⟨0, 32⟩
def R.BUF_DROP_VOQ (d : Nat) : Nat := dieBase d + 0x01400304
def F.BUF_DROP_VOQ_CELLS : Fld := ⟨0, 32⟩
def R.BUF_AUDIT_STAT (d : Nat) : Nat := dieBase d + 0x01400310
def F.BUF_AUDIT_STAT_LEAKS : Fld := ⟨0, 16⟩
def F.BUF_AUDIT_STAT_LAST : Fld := ⟨16, 4⟩
def F.BUF_AUDIT_STAT_RUNS : Fld := ⟨20, 12⟩
def R.BUF_AUDIT_STAT_CORE (d : Nat) : Nat := dieBase d + 0x02100020
def F.BUF_AUDIT_STAT_CORE_LEAKS : Fld := ⟨0, 16⟩
def F.BUF_AUDIT_STAT_CORE_LAST : Fld := ⟨16, 4⟩
def F.BUF_AUDIT_STAT_CORE_RUNS : Fld := ⟨20, 12⟩
def R.BUF_PROF (d i j : Nat) : Nat := dieBase d + 0x01400400 + 0x10 * i + 0x4 * j
def F.BUF_PROF_START : Fld := ⟨0, 8⟩
def F.BUF_PROF_END : Fld := ⟨8, 8⟩
def F.BUF_PROF_PMAX : Fld := ⟨16, 8⟩
def F.BUF_PROF_ACTION : Fld := ⟨24, 2⟩
def R.BUF_VOQ_LIMIT (d : Nat) : Nat := dieBase d + 0x01400490
def F.BUF_VOQ_LIMIT_LIMIT : Fld := ⟨0, 16⟩
def R.BUF_SAT_CFG (d : Nat) : Nat := dieBase d + 0x01400494
def F.BUF_SAT_CFG_DWELL : Fld := ⟨0, 10⟩
def R.BUF_AUDIT_CFG (d : Nat) : Nat := dieBase d + 0x01400498
def F.BUF_AUDIT_CFG_PERIOD : Fld := ⟨0, 16⟩
def R.BUF_PROF_COMMIT (d : Nat) : Nat := dieBase d + 0x014004A0
def R.BUF_SPILL_CFG (d : Nat) : Nat := dieBase d + 0x02100000
def F.BUF_SPILL_CFG_LIFE : Fld := ⟨0, 10⟩
def F.BUF_SPILL_CFG_CREDITS : Fld := ⟨12, 4⟩
def F.BUF_SPILL_CFG_ENABLE : Fld := ⟨31, 1⟩
def R.BUF_SPILL_THR (d : Nat) : Nat := dieBase d + 0x02100004
def F.BUF_SPILL_THR_WARN : Fld := ⟨0, 8⟩
def F.BUF_SPILL_THR_PRESSURE : Fld := ⟨8, 8⟩
def F.BUF_SPILL_THR_FLOOR : Fld := ⟨16, 8⟩
def R.BUF_SPILL_COMMIT (d : Nat) : Nat := dieBase d + 0x02100008
def R.BUF_SPILL_OCC (d : Nat) : Nat := dieBase d + 0x02100010
def F.BUF_SPILL_OCC_PARKED : Fld := ⟨0, 32⟩
def R.BUF_SPILL_EXPIRED (d : Nat) : Nat := dieBase d + 0x02100014
def F.BUF_SPILL_EXPIRED_CELLS : Fld := ⟨0, 32⟩
def R.BUF_SPILL_DROP (d : Nat) : Nat := dieBase d + 0x02100018
def F.BUF_SPILL_DROP_CELLS : Fld := ⟨0, 32⟩
def R.SCH_CLASS_MAP (d : Nat) : Nat := dieBase d + 0x01500000
def F.SCH_CLASS_MAP_LOSSLESS : Fld := ⟨0, 8⟩
def F.SCH_CLASS_MAP_STRICT : Fld := ⟨8, 8⟩
def R.SCH_WEIGHT_LO (d : Nat) : Nat := dieBase d + 0x01500004
def F.SCH_WEIGHT_LO_WEIGHT : Fld := ⟨0, 32⟩
def R.SCH_WEIGHT_HI (d : Nat) : Nat := dieBase d + 0x01500008
def F.SCH_WEIGHT_HI_WEIGHT : Fld := ⟨0, 32⟩
def R.SCH_CLASS_COMMIT (d : Nat) : Nat := dieBase d + 0x0150000C
def R.SCH_SHP_RATE (d i j : Nat) : Nat := dieBase d + 0x01501000 + 0x100 * i + 0x8 * j
def F.SCH_SHP_RATE_RATE : Fld := ⟨0, 21⟩
def F.SCH_SHP_RATE_ENABLE : Fld := ⟨31, 1⟩
def R.SCH_SHP_BURST (d i j : Nat) : Nat := dieBase d + 0x01501004 + 0x100 * i + 0x8 * j
def F.SCH_SHP_BURST_BURST : Fld := ⟨0, 25⟩
def F.SCH_SHP_BURST_RELOAD : Fld := ⟨31, 1⟩
def R.SCH_OVH (d i : Nat) : Nat := dieBase d + 0x01501048 + 0x100 * i
def F.SCH_OVH_OVH : Fld := ⟨0, 6⟩
def R.SCH_SHP_COMMIT (d i : Nat) : Nat := dieBase d + 0x0150104C + 0x100 * i
def R.SCH_SHP_TOK (d i j : Nat) : Nat := dieBase d + 0x01501080 + 0x100 * i + 0x4 * j
def F.SCH_SHP_TOK_TOKENS : Fld := ⟨0, 32⟩
def R.SCH_HOLD (d i : Nat) : Nat := dieBase d + 0x01506000 + 0x4 * i
def F.SCH_HOLD_HOLD : Fld := ⟨0, 8⟩
def R.SCH_HOLD_COMMIT (d : Nat) : Nat := dieBase d + 0x01506100
def R.SCH_LAUNCH_STAT (d : Nat) : Nat := dieBase d + 0x01506104
def F.SCH_LAUNCH_STAT_ON_TIME : Fld := ⟨0, 16⟩
def F.SCH_LAUNCH_STAT_LATE : Fld := ⟨16, 8⟩
def F.SCH_LAUNCH_STAT_EMPTY : Fld := ⟨24, 8⟩
def R.SCH_POL_CIR (d i j : Nat) : Nat := dieBase d + 0x01510000 + 0x40 * i + 0x10 * j
def F.SCH_POL_CIR_CIR : Fld := ⟨0, 21⟩
def F.SCH_POL_CIR_RED_DROP : Fld := ⟨29, 1⟩
def F.SCH_POL_CIR_AWARE : Fld := ⟨30, 1⟩
def F.SCH_POL_CIR_ENABLE : Fld := ⟨31, 1⟩
def R.SCH_POL_CBS (d i j : Nat) : Nat := dieBase d + 0x01510004 + 0x40 * i + 0x10 * j
def F.SCH_POL_CBS_VALUE : Fld := ⟨0, 25⟩
def R.SCH_POL_PIR (d i j : Nat) : Nat := dieBase d + 0x01510008 + 0x40 * i + 0x10 * j
def F.SCH_POL_PIR_VALUE : Fld := ⟨0, 25⟩
def R.SCH_POL_PBS (d i j : Nat) : Nat := dieBase d + 0x0151000C + 0x40 * i + 0x10 * j
def F.SCH_POL_PBS_VALUE : Fld := ⟨0, 25⟩
def R.SCH_POL_COMMIT (d i : Nat) : Nat := dieBase d + 0x01511000 + 0x4 * i
def R.SCH_POL_YELLOW (d : Nat) : Nat := dieBase d + 0x01512000
def F.SCH_POL_YELLOW_CELLS : Fld := ⟨0, 32⟩
def R.SCH_POL_RED (d : Nat) : Nat := dieBase d + 0x01512004
def F.SCH_POL_RED_CELLS : Fld := ⟨0, 32⟩
def R.SCH_POL_DROP (d : Nat) : Nat := dieBase d + 0x01512008
def F.SCH_POL_DROP_CELLS : Fld := ⟨0, 32⟩
def R.TBL_OP (d : Nat) : Nat := dieBase d + 0x01600000
def F.TBL_OP_OP : Fld := ⟨0, 4⟩
def F.TBL_OP_TABLE : Fld := ⟨4, 2⟩
def F.TBL_OP_INDEX : Fld := ⟨16, 11⟩
def R.TBL_KEY_LO (d : Nat) : Nat := dieBase d + 0x01600004
def F.TBL_KEY_LO_KEY : Fld := ⟨0, 32⟩
def R.TBL_KEY_HI (d : Nat) : Nat := dieBase d + 0x01600008
def F.TBL_KEY_HI_KEY : Fld := ⟨0, 32⟩
def R.TBL_DATA (d i : Nat) : Nat := dieBase d + 0x01600010 + 0x4 * i
def F.TBL_DATA_DATA : Fld := ⟨0, 32⟩
def R.TBL_OP_COMMIT (d : Nat) : Nat := dieBase d + 0x01600030
def R.TBL_RES (d i : Nat) : Nat := dieBase d + 0x01600040 + 0x4 * i
def F.TBL_RES_DATA : Fld := ⟨0, 32⟩
def R.TBL_OP_STAT (d : Nat) : Nat := dieBase d + 0x01600060
def F.TBL_OP_STAT_STATUS : Fld := ⟨0, 4⟩
def F.TBL_OP_STAT_WHERE : Fld := ⟨4, 2⟩
def F.TBL_OP_STAT_WAY : Fld := ⟨6, 2⟩
def F.TBL_OP_STAT_SLOT : Fld := ⟨8, 12⟩
def R.TBL_AGE_CFG (d : Nat) : Nat := dieBase d + 0x01600100
def F.TBL_AGE_CFG_FLOW_MAX : Fld := ⟨0, 15⟩
def F.TBL_AGE_CFG_SCRUB : Fld := ⟨16, 10⟩
def R.TBL_BULK_CFG (d : Nat) : Nat := dieBase d + 0x01600104
def F.TBL_BULK_CFG_WINDOW : Fld := ⟨0, 10⟩
def F.TBL_BULK_CFG_THRESH : Fld := ⟨10, 16⟩
def F.TBL_BULK_CFG_LEARN : Fld := ⟨31, 1⟩
def R.TBL_HASH_SEED (d : Nat) : Nat := dieBase d + 0x01600108
def F.TBL_HASH_SEED_SEED : Fld := ⟨0, 32⟩
def R.TBL_LEARN_COMMIT (d : Nat) : Nat := dieBase d + 0x0160010C
def R.TBL_GEOM (d : Nat) : Nat := dieBase d + 0x01600110
def F.TBL_GEOM_FLOW : Fld := ⟨0, 2⟩
def F.TBL_GEOM_MC : Fld := ⟨2, 2⟩
def F.TBL_GEOM_FLOW_EVICT : Fld := ⟨4, 1⟩
def F.TBL_GEOM_MC_EVICT : Fld := ⟨5, 1⟩
def R.TBL_FLOW_CNT (d : Nat) : Nat := dieBase d + 0x01600200
def F.TBL_FLOW_CNT_ENTRIES : Fld := ⟨0, 19⟩
def F.TBL_FLOW_CNT_OVF : Fld := ⟨19, 13⟩
def R.TBL_MC_CNT (d : Nat) : Nat := dieBase d + 0x01600204
def F.TBL_MC_CNT_ENTRIES : Fld := ⟨0, 19⟩
def F.TBL_MC_CNT_OVF : Fld := ⟨19, 13⟩
def R.TBL_LEARN_STAT (d : Nat) : Nat := dieBase d + 0x01600208
def F.TBL_LEARN_STAT_EVICT : Fld := ⟨0, 16⟩
def F.TBL_LEARN_STAT_LOST : Fld := ⟨16, 16⟩
def R.TBL_AGE_STAT (d : Nat) : Nat := dieBase d + 0x0160020C
def F.TBL_AGE_STAT_EXPIRED : Fld := ⟨0, 32⟩
def R.TBL_MC_MISS (d : Nat) : Nat := dieBase d + 0x01600210
def F.TBL_MC_MISS_EGRESS : Fld := ⟨0, 16⟩
def R.TBL_NOW (d : Nat) : Nat := dieBase d + 0x01600214
def F.TBL_NOW_MS : Fld := ⟨0, 16⟩
def R.TBL_SCRUB_STAT (d : Nat) : Nat := dieBase d + 0x01600218
def F.TBL_SCRUB_STAT_CORR : Fld := ⟨0, 16⟩
def F.TBL_SCRUB_STAT_UNCORR : Fld := ⟨16, 16⟩
def R.TBL_STG_REQ (d : Nat) : Nat := dieBase d + 0x02200000
def F.TBL_STG_REQ_OP : Fld := ⟨0, 2⟩
def F.TBL_STG_REQ_SLOT : Fld := ⟨2, 2⟩
def F.TBL_STG_REQ_RESERVE : Fld := ⟨4, 7⟩
def F.TBL_STG_REQ_GROUP : Fld := ⟨12, 20⟩
def R.TBL_STG_MAP (d : Nat) : Nat := dieBase d + 0x02200004
def F.TBL_STG_MAP_DIE_MAP : Fld := ⟨0, 32⟩
def R.TBL_STG_COMMIT (d : Nat) : Nat := dieBase d + 0x02200008
def R.TBL_STG_STAT (d i : Nat) : Nat := dieBase d + 0x02200010 + 0x4 * i
def F.TBL_STG_STAT_STATE : Fld := ⟨0, 2⟩
def F.TBL_STG_STAT_EXTENTS : Fld := ⟨2, 13⟩
def F.TBL_STG_STAT_USED : Fld := ⟨15, 17⟩
def R.TBL_STG_DROP (d : Nat) : Nat := dieBase d + 0x02200020
def F.TBL_STG_DROP_CELLS : Fld := ⟨0, 32⟩
def R.SYN_OP (d : Nat) : Nat := dieBase d + 0x02300000
def F.SYN_OP_OP : Fld := ⟨0, 3⟩
def F.SYN_OP_QUEUE : Fld := ⟨3, 1⟩
def F.SYN_OP_OBJECT : Fld := ⟨4, 12⟩
def R.SYN_RANK (d : Nat) : Nat := dieBase d + 0x02300004
def F.SYN_RANK_RANK : Fld := ⟨0, 17⟩
def R.SYN_ALLOC_A (d : Nat) : Nat := dieBase d + 0x02300008
def F.SYN_ALLOC_A_MEMBERS : Fld := ⟨0, 18⟩
def F.SYN_ALLOC_A_SPINES : Fld := ⟨18, 7⟩
def F.SYN_ALLOC_A_SPINE_INDEX : Fld := ⟨25, 6⟩
def R.SYN_ALLOC_B (d : Nat) : Nat := dieBase d + 0x0230000C
def F.SYN_ALLOC_B_TIMEOUT : Fld := ⟨0, 20⟩
def F.SYN_ALLOC_B_EARLY : Fld := ⟨20, 1⟩
def F.SYN_ALLOC_B_WINDOW : Fld := ⟨21, 4⟩
def F.SYN_ALLOC_B_MAX_CHUNK : Fld := ⟨25, 5⟩
def R.SYN_ALLOC_C (d : Nat) : Nat := dieBase d + 0x02300010
def F.SYN_ALLOC_C_THRESH : Fld := ⟨0, 16⟩
def R.SYN_SEQ_LO (d : Nat) : Nat := dieBase d + 0x02300014
def F.SYN_SEQ_LO_SEQ : Fld := ⟨0, 32⟩
def R.SYN_SEQ_HI (d : Nat) : Nat := dieBase d + 0x02300018
def F.SYN_SEQ_HI_SEQ : Fld := ⟨0, 32⟩
def R.SYN_ROLL_ADDR (d : Nat) : Nat := dieBase d + 0x0230001C
def F.SYN_ROLL_ADDR_ADDR : Fld := ⟨0, 26⟩
def F.SYN_ROLL_ADDR_HUB : Fld := ⟨31, 1⟩
def R.SYN_FANOUT (d : Nat) : Nat := dieBase d + 0x02300020
def F.SYN_FANOUT_DIE_MAP : Fld := ⟨0, 32⟩
def R.SYN_OP_COMMIT (d : Nat) : Nat := dieBase d + 0x02300024
def R.SYN_OP_STAT (d : Nat) : Nat := dieBase d + 0x02300028
def F.SYN_OP_STAT_STATUS : Fld := ⟨0, 4⟩
def F.SYN_OP_STAT_OBJECT : Fld := ⟨4, 12⟩
def R.SYN_OP_EPOCH (d : Nat) : Nat := dieBase d + 0x0230002C
def F.SYN_OP_EPOCH_EPOCH : Fld := ⟨0, 32⟩
def R.SYN_CFG (d : Nat) : Nat := dieBase d + 0x02300030
def F.SYN_CFG_QUAR : Fld := ⟨0, 16⟩
def F.SYN_CFG_SEAL_GAP : Fld := ⟨16, 8⟩
def F.SYN_CFG_HOLD : Fld := ⟨24, 8⟩
def R.SYN_CFG_COMMIT (d : Nat) : Nat := dieBase d + 0x02300034
def R.SYN_RES (d i : Nat) : Nat := dieBase d + 0x02300040 + 0x4 * i
def F.SYN_RES_DATA : Fld := ⟨0, 32⟩
def R.SYN_OBJ (d i : Nat) : Nat := dieBase d + 0x02310000 + 0x10 * i
def F.SYN_OBJ_STATE : Fld := ⟨0, 3⟩
def F.SYN_OBJ_LOST : Fld := ⟨3, 1⟩
def F.SYN_OBJ_EARLY : Fld := ⟨4, 1⟩
def F.SYN_OBJ_QUEUED : Fld := ⟨5, 1⟩
def R.SYN_EPOCH (d i : Nat) : Nat := dieBase d + 0x02310004 + 0x10 * i
def F.SYN_EPOCH_EPOCH : Fld := ⟨0, 32⟩
def R.SYN_LASTERR (d i : Nat) : Nat := dieBase d + 0x02310008 + 0x10 * i
def F.SYN_LASTERR_CODE : Fld := ⟨0, 8⟩
def F.SYN_LASTERR_RANK : Fld := ⟨8, 18⟩
def F.SYN_LASTERR_FIELD : Fld := ⟨26, 5⟩
def R.SYN_DROP (d : Nat) : Nat := dieBase d + 0x02300100
def F.SYN_DROP_STALE : Fld := ⟨0, 16⟩
def F.SYN_DROP_NOT_MEMBER : Fld := ⟨16, 16⟩
def R.SYN_DROP2 (d : Nat) : Nat := dieBase d + 0x02300104
def F.SYN_DROP2_PENDING_FULL : Fld := ⟨0, 16⟩
def F.SYN_DROP2_OVERRUN : Fld := ⟨16, 16⟩
def R.SYN_STAT (d : Nat) : Nat := dieBase d + 0x02300108
def F.SYN_STAT_ABORTS : Fld := ⟨0, 16⟩
def F.SYN_STAT_REPLAYS : Fld := ⟨16, 16⟩
def R.SYN_STORE (d : Nat) : Nat := dieBase d + 0x0230010C
def F.SYN_STORE_RESERVED : Fld := ⟨0, 16⟩
def F.SYN_STORE_PENDING : Fld := ⟨16, 16⟩
def R.RED_CAP (d : Nat) : Nat := dieBase d + 0x02400000
def F.RED_CAP_ACC_BITS : Fld := ⟨0, 12⟩
def F.RED_CAP_WIDE_BITS : Fld := ⟨16, 12⟩
def F.RED_CAP_WIDE_RATE : Fld := ⟨28, 4⟩
def R.RED_FMT (d : Nat) : Nat := dieBase d + 0x02400004
def F.RED_FMT_FORMATS : Fld := ⟨1, 13⟩
def F.RED_FMT_OPS : Fld := ⟨16, 7⟩
def R.RED_SAT (d : Nat) : Nat := dieBase d + 0x02400010
def F.RED_SAT_ELEMENTS : Fld := ⟨0, 32⟩
def R.RED_NAN (d : Nat) : Nat := dieBase d + 0x02400014
def F.RED_NAN_ELEMENTS : Fld := ⟨0, 32⟩
def R.RED_RANGE (d : Nat) : Nat := dieBase d + 0x02400018
def F.RED_RANGE_ABORTS : Fld := ⟨0, 16⟩
def F.RED_RANGE_INFINITE : Fld := ⟨16, 16⟩
def R.RED_LG_FB_LO (d : Nat) : Nat := dieBase d + 0x02400020
def F.RED_LG_FB_LO_GROUPS : Fld := ⟨0, 32⟩
def R.RED_LG_FB_HI (d : Nat) : Nat := dieBase d + 0x02400024
def F.RED_LG_FB_HI_GROUPS : Fld := ⟨0, 32⟩
def R.TRF_OP (d : Nat) : Nat := dieBase d + 0x02500000
def F.TRF_OP_OP : Fld := ⟨0, 4⟩
def F.TRF_OP_ID : Fld := ⟨4, 8⟩
def R.TRF_ADDR (d : Nat) : Nat := dieBase d + 0x02500004
def F.TRF_ADDR_ADDR : Fld := ⟨0, 26⟩
def F.TRF_ADDR_HUB : Fld := ⟨31, 1⟩
def R.TRF_ARG_A (d : Nat) : Nat := dieBase d + 0x02500008
def F.TRF_ARG_A_ARG : Fld := ⟨0, 32⟩
def R.TRF_ARG_B (d : Nat) : Nat := dieBase d + 0x0250000C
def F.TRF_ARG_B_ARG : Fld := ⟨0, 32⟩
def R.TRF_OP_COMMIT (d : Nat) : Nat := dieBase d + 0x02500010
def R.TRF_OP_STAT (d : Nat) : Nat := dieBase d + 0x02500014
def F.TRF_OP_STAT_STATUS : Fld := ⟨0, 4⟩
def F.TRF_OP_STAT_OP : Fld := ⟨4, 4⟩
def F.TRF_OP_STAT_ID : Fld := ⟨8, 8⟩
def R.TRF_RES (d i : Nat) : Nat := dieBase d + 0x02500040 + 0x4 * i
def F.TRF_RES_DATA : Fld := ⟨0, 32⟩
def R.TRF_STAT (d : Nat) : Nat := dieBase d + 0x02500080
def F.TRF_STAT_MATRICES : Fld := ⟨0, 8⟩
def F.TRF_STAT_RECIPES : Fld := ⟨8, 8⟩
def F.TRF_STAT_WIDE : Fld := ⟨16, 7⟩
def R.OPT_PAR_SEL (d : Nat) : Nat := dieBase d + 0x02600000
def F.OPT_PAR_SEL_BIND : Fld := ⟨0, 6⟩
def F.OPT_PAR_SEL_NESTEROV : Fld := ⟨8, 1⟩
def R.OPT_PAR_FROM_LO (d : Nat) : Nat := dieBase d + 0x02600004
def F.OPT_PAR_FROM_LO_FROM_SEQ : Fld := ⟨0, 32⟩
def R.OPT_PAR_FROM_HI (d : Nat) : Nat := dieBase d + 0x02600008
def F.OPT_PAR_FROM_HI_FROM_SEQ : Fld := ⟨0, 32⟩
def R.OPT_PAR_LR (d : Nat) : Nat := dieBase d + 0x0260000C
def F.OPT_PAR_LR_VALUE : Fld := ⟨0, 32⟩
def R.OPT_PAR_B1 (d : Nat) : Nat := dieBase d + 0x02600010
def F.OPT_PAR_B1_VALUE : Fld := ⟨0, 32⟩
def R.OPT_PAR_B2 (d : Nat) : Nat := dieBase d + 0x02600014
def F.OPT_PAR_B2_VALUE : Fld := ⟨0, 32⟩
def R.OPT_PAR_EPS (d : Nat) : Nat := dieBase d + 0x02600018
def F.OPT_PAR_EPS_VALUE : Fld := ⟨0, 32⟩
def R.OPT_PAR_WD (d : Nat) : Nat := dieBase d + 0x0260001C
def F.OPT_PAR_WD_VALUE : Fld := ⟨0, 32⟩
def R.OPT_PAR_GSCALE (d : Nat) : Nat := dieBase d + 0x02600020
def F.OPT_PAR_GSCALE_VALUE : Fld := ⟨0, 32⟩
def R.OPT_PAR_COMMIT (d : Nat) : Nat := dieBase d + 0x02600024
def R.OPT_BIND (d i : Nat) : Nat := dieBase d + 0x02610000 + 0x10 * i
def F.OPT_BIND_STATE : Fld := ⟨0, 2⟩
def F.OPT_BIND_OBJECT : Fld := ⟨2, 12⟩
def F.OPT_BIND_RULE : Fld := ⟨14, 2⟩
def F.OPT_BIND_NEXT : Fld := ⟨16, 1⟩
def R.OPT_SKIP (d : Nat) : Nat := dieBase d + 0x02600100
def F.OPT_SKIP_COUNT : Fld := ⟨0, 32⟩
def R.OPT_REPEAT (d : Nat) : Nat := dieBase d + 0x02600104
def F.OPT_REPEAT_COUNT : Fld := ⟨0, 32⟩
def R.FLT_QUIZ_POL (d : Nat) : Nat := dieBase d + 0x03E20000
def F.FLT_QUIZ_POL_PERIOD : Fld := ⟨0, 10⟩
def F.FLT_QUIZ_POL_TR_LIMIT : Fld := ⟨12, 4⟩
def F.FLT_QUIZ_POL_TR_WINDOW : Fld := ⟨16, 8⟩
def R.FLT_QUIZ_REQ (d : Nat) : Nat := dieBase d + 0x03E20004
def F.FLT_QUIZ_REQ_OP : Fld := ⟨0, 1⟩
def F.FLT_QUIZ_REQ_UNIT : Fld := ⟨4, 4⟩
def F.FLT_QUIZ_REQ_BLOCK : Fld := ⟨8, 4⟩
def F.FLT_QUIZ_REQ_TILE : Fld := ⟨12, 8⟩
def R.FLT_QUIZ_COMMIT (d : Nat) : Nat := dieBase d + 0x03E20008
def R.FLT_QUIZ_STAT (d : Nat) : Nat := dieBase d + 0x03E20010
def F.FLT_QUIZ_STAT_PASSED : Fld := ⟨0, 16⟩
def F.FLT_QUIZ_STAT_FAILED : Fld := ⟨16, 8⟩
def F.FLT_QUIZ_STAT_ABORTED : Fld := ⟨24, 8⟩
def R.FLT_FSIG_PTR (d : Nat) : Nat := dieBase d + 0x03E20100
def F.FLT_FSIG_PTR_HEAD : Fld := ⟨0, 13⟩
def F.FLT_FSIG_PTR_TAIL : Fld := ⟨13, 13⟩
def F.FLT_FSIG_PTR_LOST : Fld := ⟨26, 6⟩
def R.FLT_QPACK_STAT (d : Nat) : Nat := dieBase d + 0x03E20200
def F.FLT_QPACK_STAT_VERSION : Fld := ⟨0, 16⟩
def F.FLT_QPACK_STAT_CODE : Fld := ⟨16, 8⟩
def F.FLT_QPACK_STAT_SUSPENDED : Fld := ⟨24, 8⟩
def R.RED_CHK_CNT (d : Nat) : Nat := dieBase d + 0x02400100
def F.RED_CHK_CNT_CHECKS : Fld := ⟨0, 32⟩
def R.RED_CHK_FAULT (d : Nat) : Nat := dieBase d + 0x02400104
def F.RED_CHK_FAULT_CHECKER : Fld := ⟨0, 8⟩
def F.RED_CHK_FAULT_ACCUM : Fld := ⟨8, 8⟩
def F.RED_CHK_FAULT_FIRST_PASS : Fld := ⟨16, 8⟩
def F.RED_CHK_FAULT_UNRESOLVED : Fld := ⟨24, 8⟩
def R.RED_CHK_HDR (d i : Nat) : Nat := dieBase d + 0x02400110 + 0x20 * i
def F.RED_CHK_HDR_OBJECT : Fld := ⟨0, 12⟩
def F.RED_CHK_HDR_POSITION : Fld := ⟨12, 16⟩
def F.RED_CHK_HDR_VERDICT : Fld := ⟨28, 4⟩
def R.RED_CHK_RES (d i j : Nat) : Nat := dieBase d + 0x02400114 + 0x20 * i + 0x4 * j
def F.RED_CHK_RES_RESIDUE : Fld := ⟨0, 31⟩
def R.RED_CHK_LG (d i : Nat) : Nat := dieBase d + 0x02400124 + 0x20 * i
def F.RED_CHK_LG_FIRST : Fld := ⟨0, 6⟩
def F.RED_CHK_LG_COUNT : Fld := ⟨6, 6⟩
def R.TIM_NOW_0 (d : Nat) : Nat := dieBase d + 0x03800000
def F.TIM_NOW_0_FRAC : Fld := ⟨0, 16⟩
def R.TIM_NOW_1 (d : Nat) : Nat := dieBase d + 0x03800004
def F.TIM_NOW_1_NSEC : Fld := ⟨0, 30⟩
def R.TIM_NOW_2 (d : Nat) : Nat := dieBase d + 0x03800008
def F.TIM_NOW_2_SEC_LO : Fld := ⟨0, 32⟩
def R.TIM_NOW_3 (d : Nat) : Nat := dieBase d + 0x0380000C
def F.TIM_NOW_3_SEC_HI : Fld := ⟨0, 16⟩
def R.TIM_STAT (d : Nat) : Nat := dieBase d + 0x03800010
def F.TIM_STAT_VALID : Fld := ⟨0, 1⟩
def F.TIM_STAT_ACTIVE : Fld := ⟨1, 1⟩
def F.TIM_STAT_SLEWING : Fld := ⟨2, 1⟩
def F.TIM_STAT_STATE_A : Fld := ⟨4, 3⟩
def F.TIM_STAT_STATE_B : Fld := ⟨8, 3⟩
def R.TIM_CFG (d : Nat) : Nat := dieBase d + 0x03800020
def F.TIM_CFG_ACTIVE : Fld := ⟨0, 1⟩
def F.TIM_CFG_AUTO : Fld := ⟨1, 1⟩
def F.TIM_CFG_SLEW : Fld := ⟨4, 10⟩
def F.TIM_CFG_PPS_WIDTH : Fld := ⟨16, 9⟩
def F.TIM_CFG_PPS_FORCE : Fld := ⟨31, 1⟩
def R.TIM_DOM_CFG (d i : Nat) : Nat := dieBase d + 0x03800024 + 0x8 * i
def F.TIM_DOM_CFG_SOURCE : Fld := ⟨0, 2⟩
def F.TIM_DOM_CFG_DOMAIN : Fld := ⟨8, 8⟩
def F.TIM_DOM_CFG_LANE : Fld := ⟨16, 11⟩
def R.TIM_DOM_ASYM (d i : Nat) : Nat := dieBase d + 0x03800028 + 0x8 * i
def F.TIM_DOM_ASYM_ASYM : Fld := ⟨0, 32⟩
def R.TIM_COMMIT (d : Nat) : Nat := dieBase d + 0x03800034
def R.TIM_DOM_OFS (d i : Nat) : Nat := dieBase d + 0x03800040 + 0x4 * i
def F.TIM_DOM_OFS_OFFSET : Fld := ⟨0, 32⟩
def R.TIM_PPS_NSEC (d i : Nat) : Nat := dieBase d + 0x03800048 + 0x4 * i
def F.TIM_PPS_NSEC_NSEC : Fld := ⟨0, 30⟩
def R.TIM_TSQ_PTR (d : Nat) : Nat := dieBase d + 0x03800100
def F.TIM_TSQ_PTR_HEAD : Fld := ⟨0, 7⟩
def F.TIM_TSQ_PTR_TAIL : Fld := ⟨16, 7⟩
def R.TIM_TSQ_STAT (d : Nat) : Nat := dieBase d + 0x03800104
def F.TIM_TSQ_STAT_LOST : Fld := ⟨0, 16⟩
def R.TIM_BELL_NSEC_C (d : Nat) : Nat := dieBase d + 0x03820000
def F.TIM_BELL_NSEC_C_NSEC : Fld := ⟨0, 30⟩
def R.TIM_BELL_SEC_LO_C (d : Nat) : Nat := dieBase d + 0x03820004
def F.TIM_BELL_SEC_LO_C_SEC : Fld := ⟨0, 32⟩
def R.TIM_BELL_SEC_HI_C (d : Nat) : Nat := dieBase d + 0x03820008
def F.TIM_BELL_SEC_HI_C_SEC : Fld := ⟨0, 16⟩
def R.TIM_BELL_ACT_C (d : Nat) : Nat := dieBase d + 0x0382000C
def F.TIM_BELL_ACT_C_ACTION : Fld := ⟨0, 4⟩
def F.TIM_BELL_ACT_C_NOTIFY : Fld := ⟨4, 1⟩
def F.TIM_BELL_ACT_C_TS : Fld := ⟨5, 1⟩
def F.TIM_BELL_ACT_C_ARG : Fld := ⟨8, 20⟩
def R.TIM_BELL_TAG_C (d : Nat) : Nat := dieBase d + 0x03820010
def F.TIM_BELL_TAG_C_TAG : Fld := ⟨0, 16⟩
def R.TIM_BELL_CMD_C (d : Nat) : Nat := dieBase d + 0x03820014
def F.TIM_BELL_CMD_C_INDEX : Fld := ⟨0, 8⟩
def F.TIM_BELL_CMD_C_OP : Fld := ⟨8, 2⟩
def R.TIM_BELL_STATUS_C (d : Nat) : Nat := dieBase d + 0x03820018
def F.TIM_BELL_STATUS_C_STATUS : Fld := ⟨0, 4⟩
def R.TIM_BELL_NSEC_M (d : Nat) : Nat := dieBase d + 0x03820020
def F.TIM_BELL_NSEC_M_NSEC : Fld := ⟨0, 30⟩
def R.TIM_BELL_SEC_LO_M (d : Nat) : Nat := dieBase d + 0x03820024
def F.TIM_BELL_SEC_LO_M_SEC : Fld := ⟨0, 32⟩
def R.TIM_BELL_SEC_HI_M (d : Nat) : Nat := dieBase d + 0x03820028
def F.TIM_BELL_SEC_HI_M_SEC : Fld := ⟨0, 16⟩
def R.TIM_BELL_ACT_M (d : Nat) : Nat := dieBase d + 0x0382002C
def F.TIM_BELL_ACT_M_ACTION : Fld := ⟨0, 4⟩
def F.TIM_BELL_ACT_M_NOTIFY : Fld := ⟨4, 1⟩
def F.TIM_BELL_ACT_M_TS : Fld := ⟨5, 1⟩
def F.TIM_BELL_ACT_M_ARG : Fld := ⟨8, 20⟩
def R.TIM_BELL_TAG_M (d : Nat) : Nat := dieBase d + 0x03820030
def F.TIM_BELL_TAG_M_TAG : Fld := ⟨0, 16⟩
def R.TIM_BELL_CMD_M (d : Nat) : Nat := dieBase d + 0x03820034
def F.TIM_BELL_CMD_M_INDEX : Fld := ⟨0, 8⟩
def F.TIM_BELL_CMD_M_OP : Fld := ⟨8, 2⟩
def R.TIM_BELL_STATUS_M (d : Nat) : Nat := dieBase d + 0x03820038
def F.TIM_BELL_STATUS_M_STATUS : Fld := ⟨0, 4⟩
def R.TIM_BELL_STATE (d i : Nat) : Nat := dieBase d + 0x03830000 + 0x4 * i
def F.TIM_BELL_STATE_ARMED : Fld := ⟨0, 1⟩
def F.TIM_BELL_STATE_ACTION : Fld := ⟨1, 4⟩
def F.TIM_BELL_STATE_OWNER : Fld := ⟨5, 2⟩
def R.TIM_BELL_CNT (d : Nat) : Nat := dieBase d + 0x03830400
def F.TIM_BELL_CNT_FIRED : Fld := ⟨0, 24⟩
def F.TIM_BELL_CNT_DISCARDED : Fld := ⟨24, 8⟩
def R.PWR_POL_TIME (d : Nat) : Nat := dieBase d + 0x03900000
def F.PWR_POL_TIME_REC_IDLE : Fld := ⟨0, 8⟩
def F.PWR_POL_TIME_DEEP_IDLE : Fld := ⟨8, 12⟩
def F.PWR_POL_TIME_SLEEP_IDLE : Fld := ⟨20, 12⟩
def R.PWR_POL_MAX (d : Nat) : Nat := dieBase d + 0x03900004
def F.PWR_POL_MAX_MAX : Fld := ⟨0, 24⟩
def F.PWR_POL_MAX_DIE_MAX : Fld := ⟨24, 1⟩
def R.PWR_POL_COMMIT (d : Nat) : Nat := dieBase d + 0x03900008
def R.PWR_STATE (d : Nat) : Nat := dieBase d + 0x03900010
def F.PWR_STATE_BLOCK : Fld := ⟨0, 24⟩
def F.PWR_STATE_DIE : Fld := ⟨24, 3⟩
def F.PWR_STATE_SAG : Fld := ⟨27, 1⟩
def R.PWR_SAG_STAT (d : Nat) : Nat := dieBase d + 0x03900014
def F.PWR_SAG_STAT_WARN : Fld := ⟨0, 10⟩
def F.PWR_SAG_STAT_PIN : Fld := ⟨15, 1⟩
def F.PWR_SAG_STAT_COUNT : Fld := ⟨16, 16⟩
def R.PWR_WAKE_CNT (d : Nat) : Nat := dieBase d + 0x03900018
def F.PWR_WAKE_CNT_WAKES : Fld := ⟨0, 16⟩
def F.PWR_WAKE_CNT_ABORTED : Fld := ⟨16, 16⟩
def R.PWR_VCORE (d : Nat) : Nat := dieBase d + 0x03900020
def F.PWR_VCORE_SETPOINT : Fld := ⟨0, 10⟩
def R.PWR_RST_CMD (d : Nat) : Nat := dieBase d + 0x03900030
def F.PWR_RST_CMD_CLASS : Fld := ⟨0, 4⟩
def F.PWR_RST_CMD_DIE : Fld := ⟨4, 6⟩
def F.PWR_RST_CMD_UNIT : Fld := ⟨10, 4⟩
def F.PWR_RST_CMD_TILE : Fld := ⟨14, 8⟩
def F.PWR_RST_CMD_HUB : Fld := ⟨22, 2⟩
def F.PWR_RST_CMD_CONFIRM : Fld := ⟨24, 8⟩
def R.PWR_RST_STAT (d : Nat) : Nat := dieBase d + 0x03900034
def F.PWR_RST_STAT_LAST : Fld := ⟨0, 4⟩
def F.PWR_RST_STAT_CAUSE : Fld := ⟨4, 8⟩
def F.PWR_RST_STAT_CMD : Fld := ⟨12, 4⟩
def F.PWR_RST_STAT_COUNT : Fld := ⟨16, 16⟩
def R.PWR_RST_CFG (d : Nat) : Nat := dieBase d + 0x03900038
def F.PWR_RST_CFG_PERST_MGMT : Fld := ⟨0, 1⟩
def R.MGT_ROLE (d : Nat) : Nat := dieBase d + 0x03A00000
def F.MGT_ROLE_PRIMARY : Fld := ⟨0, 1⟩
def F.MGT_ROLE_RECOVERY : Fld := ⟨1, 1⟩
def R.MGT_WIN_EN_LO (d : Nat) : Nat := dieBase d + 0x03A00004
def F.MGT_WIN_EN_LO_ENABLE : Fld := ⟨0, 32⟩
def R.MGT_WIN_EN_HI (d : Nat) : Nat := dieBase d + 0x03A00008
def F.MGT_WIN_EN_HI_ENABLE : Fld := ⟨0, 32⟩
def R.MGT_EVQ_PTR (d : Nat) : Nat := dieBase d + 0x03A00010
def F.MGT_EVQ_PTR_HEAD : Fld := ⟨0, 13⟩
def F.MGT_EVQ_PTR_TAIL : Fld := ⟨16, 13⟩
def R.MGT_EVQ_STAT (d : Nat) : Nat := dieBase d + 0x03A00014
def F.MGT_EVQ_STAT_LOST : Fld := ⟨0, 16⟩
def R.MGT_BAR_ERR (d : Nat) : Nat := dieBase d + 0x03A00018
def F.MGT_BAR_ERR_DROPPED : Fld := ⟨0, 16⟩
def F.MGT_BAR_ERR_BAD_SIZE : Fld := ⟨16, 16⟩
def R.MGT_EVT_MASK (d : Nat) : Nat := dieBase d + 0x03A00020
def F.MGT_EVT_MASK_TYPES : Fld := ⟨0, 16⟩
def R.MGT_FC_EP (d : Nat) : Nat := dieBase d + 0x03A00024
def F.MGT_FC_EP_EP : Fld := ⟨0, 20⟩
def F.MGT_FC_EP_VALID : Fld := ⟨31, 1⟩
def R.MGT_COMMIT (d : Nat) : Nat := dieBase d + 0x03A00028
def R.MGT_WDOG (d : Nat) : Nat := dieBase d + 0x03A00030
def F.MGT_WDOG_CHIP_EN : Fld := ⟨0, 1⟩
def F.MGT_WDOG_EXPIRED : Fld := ⟨4, 8⟩
def R.SEC_STAT (d : Nat) : Nat := dieBase d + 0x03B00000
def F.SEC_STAT_ID_FAIL : Fld := ⟨0, 1⟩
def F.SEC_STAT_FLOOR_BAD : Fld := ⟨1, 1⟩
def F.SEC_STAT_KEYS : Fld := ⟨4, 4⟩
def R.SEC_FLOOR (d i : Nat) : Nat := dieBase d + 0x03B00010 + 0x4 * i
def F.SEC_FLOOR_VERSION : Fld := ⟨0, 32⟩
def R.SEC_SESS_ERR (d : Nat) : Nat := dieBase d + 0x03B00024
def F.SEC_SESS_ERR_BAD_TAG : Fld := ⟨0, 16⟩
def F.SEC_SESS_ERR_REPLAY : Fld := ⟨16, 16⟩
def R.TWN_STATE (d : Nat) : Nat := dieBase d + 0x03C00000
def F.TWN_STATE_STATE : Fld := ⟨0, 2⟩
def F.TWN_STATE_CAUSE : Fld := ⟨2, 8⟩
def F.TWN_STATE_LANES : Fld := ⟨10, 16⟩
def R.TWN_PEER_ID (d : Nat) : Nat := dieBase d + 0x03C00004
def F.TWN_PEER_ID_SWITCH_ID : Fld := ⟨0, 20⟩
def F.TWN_PEER_ID_VALID : Fld := ⟨31, 1⟩
def R.TWN_CFG (d : Nat) : Nat := dieBase d + 0x03C00010
def F.TWN_CFG_ENABLE : Fld := ⟨0, 1⟩
def F.TWN_CFG_MATCH : Fld := ⟨1, 1⟩
def F.TWN_CFG_ALIAS : Fld := ⟨2, 1⟩
def R.TWN_PEER (d i : Nat) : Nat := dieBase d + 0x03C00014 + 0x4 * i
def F.TWN_PEER_DIGEST : Fld := ⟨0, 32⟩
def R.TWN_COMMIT (d : Nat) : Nat := dieBase d + 0x03C00024
def R.TWN_TIME_OFS (d : Nat) : Nat := dieBase d + 0x03C00030
def F.TWN_TIME_OFS_OFFSET : Fld := ⟨0, 32⟩
def R.TWN_LOST_CNT (d : Nat) : Nat := dieBase d + 0x03C00034
def F.TWN_LOST_CNT_LOSSES : Fld := ⟨0, 16⟩
def F.TWN_LOST_CNT_ABORTED : Fld := ⟨16, 16⟩
def R.FLT_LDG_CFG (d : Nat) : Nat := dieBase d + 0x03E30000
def F.FLT_LDG_CFG_WAIT_MAX : Fld := ⟨0, 16⟩
def F.FLT_LDG_CFG_HSC_PERIOD : Fld := ⟨16, 8⟩
def F.FLT_LDG_CFG_HSC_ENABLE : Fld := ⟨31, 1⟩
def R.FLT_LDG_COMMIT (d : Nat) : Nat := dieBase d + 0x03E30004
def R.FLT_LDG_STAT (d : Nat) : Nat := dieBase d + 0x03E30010
def F.FLT_LDG_STAT_RUNNING : Fld := ⟨0, 7⟩
def F.FLT_LDG_STAT_QUEUED : Fld := ⟨7, 7⟩
def F.FLT_LDG_STAT_REFUSED : Fld := ⟨16, 16⟩
def R.FLT_LDG_CNT (d : Nat) : Nat := dieBase d + 0x03E30014
def F.FLT_LDG_CNT_ADMITTED : Fld := ⟨0, 16⟩
def F.FLT_LDG_CNT_PREEMPTED : Fld := ⟨16, 8⟩
def F.FLT_LDG_CNT_RESET : Fld := ⟨24, 8⟩
def R.FLT_HSC_STAT (d : Nat) : Nat := dieBase d + 0x03E30020
def F.FLT_HSC_STAT_CORR : Fld := ⟨0, 16⟩
def F.FLT_HSC_STAT_UNCORR : Fld := ⟨16, 16⟩
def R.FLT_LDG_ENT (d i : Nat) : Nat := dieBase d + 0x03E30100 + 0x10 * i
def F.FLT_LDG_ENT_STATE : Fld := ⟨0, 2⟩
def F.FLT_LDG_ENT_BAND : Fld := ⟨2, 1⟩
def F.FLT_LDG_ENT_ACT : Fld := ⟨3, 4⟩
def F.FLT_LDG_ENT_BLOCKS : Fld := ⟨8, 8⟩
def F.FLT_LDG_ENT_STACKS : Fld := ⟨16, 2⟩
def F.FLT_LDG_ENT_TABLE : Fld := ⟨18, 1⟩
def F.FLT_LDG_ENT_REGION : Fld := ⟨19, 1⟩
def F.FLT_LDG_ENT_FEED : Fld := ⟨20, 2⟩
def R.FLT_LDG_LANES_LO (d i : Nat) : Nat := dieBase d + 0x03E30104 + 0x10 * i
def F.FLT_LDG_LANES_LO_LANES : Fld := ⟨0, 32⟩
def R.FLT_LDG_LANES_HI (d i : Nat) : Nat := dieBase d + 0x03E30108 + 0x10 * i
def F.FLT_LDG_LANES_HI_LANES : Fld := ⟨0, 32⟩
def R.FLT_LDG_WAIT (d i : Nat) : Nat := dieBase d + 0x03E3010C + 0x10 * i
def F.FLT_LDG_WAIT_TIME : Fld := ⟨0, 32⟩
def R.PMC_SEL (d i : Nat) : Nat := dieBase d + 0x03D00000 + 0x10 * i
def F.PMC_SEL_EVENT : Fld := ⟨0, 12⟩
def F.PMC_SEL_UNIT : Fld := ⟨12, 8⟩
def F.PMC_SEL_CLASS : Fld := ⟨20, 4⟩
def F.PMC_SEL_ENABLE : Fld := ⟨28, 1⟩
def F.PMC_SEL_OWNER : Fld := ⟨29, 1⟩
def F.PMC_SEL_IRQ : Fld := ⟨30, 1⟩
def R.PMC_CNT_LO (d i : Nat) : Nat := dieBase d + 0x03D00004 + 0x10 * i
def F.PMC_CNT_LO_COUNT : Fld := ⟨0, 32⟩
def R.PMC_CNT_HI (d i : Nat) : Nat := dieBase d + 0x03D00008 + 0x10 * i
def F.PMC_CNT_HI_COUNT : Fld := ⟨0, 16⟩
def R.PMC_PERIOD (d i : Nat) : Nat := dieBase d + 0x03D0000C + 0x10 * i
def F.PMC_PERIOD_PERIOD : Fld := ⟨0, 32⟩
def R.PMC_FIX_LO (d i : Nat) : Nat := dieBase d + 0x03D00200 + 0x8 * i
def F.PMC_FIX_LO_COUNT : Fld := ⟨0, 32⟩
def R.PMC_FIX_HI (d i : Nat) : Nat := dieBase d + 0x03D00204 + 0x8 * i
def F.PMC_FIX_HI_COUNT : Fld := ⟨0, 32⟩
def R.PMC_TAG (d : Nat) : Nat := dieBase d + 0x03D00300
def F.PMC_TAG_TAG : Fld := ⟨0, 20⟩
def R.PMC_OVF (d : Nat) : Nat := dieBase d + 0x03D00304
def F.PMC_OVF_OVF : Fld := ⟨0, 32⟩
def R.PWR_TEMP (d : Nat) : Nat := dieBase d + 0x03900040
def F.PWR_TEMP_NOW : Fld := ⟨0, 16⟩
def F.PWR_TEMP_PEAK : Fld := ⟨16, 16⟩
def R.PWR_TEMP_CHIP (d : Nat) : Nat := dieBase d + 0x03900044
def F.PWR_TEMP_CHIP_HOT : Fld := ⟨0, 16⟩
def F.PWR_TEMP_CHIP_DIE : Fld := ⟨16, 6⟩
def F.PWR_TEMP_CHIP_WARN : Fld := ⟨30, 1⟩
def F.PWR_TEMP_CHIP_OVER : Fld := ⟨31, 1⟩

def F.COMMIT_APPLY : Fld := ⟨0, 1⟩
def F.COMMIT_DISCARD : Fld := ⟨1, 1⟩

end Sys2Proof.Machine
end

