-- ==== Sys2Proof/Machine/Bits.lean ====
section
/-!
DEFINITION. Bit fields of a 32-bit register word (R7, R8), byte order of multi-byte values (little-endian, R76), and
the small fixed-width and saturating arithmetic the counters use.
-/

namespace Sys2Proof.Machine

/-- The mask of a field in its place. -/
def Fld.mask (f : Fld) : Word := BitVec.ofNat 32 ((2 ^ f.width - 1) * 2 ^ f.lo)

/-- The value of a field of a word. -/
def getBits (w : Word) (f : Fld) : Nat := (w.toNat / 2 ^ f.lo) % 2 ^ f.width

/-- The word with the field holding v (modulo its width) and every other bit unchanged. -/
def setBits (w : Word) (f : Fld) (v : Nat) : Word :=
  (w &&& ~~~f.mask) ||| (BitVec.ofNat 32 ((v % 2 ^ f.width) * 2 ^ f.lo))

/-- The largest value of a field. -/
def Fld.top (f : Fld) : Nat := 2 ^ f.width - 1

/-- Bit i of a natural number read as a bit map. -/
def bitOf (n i : Nat) : Bool := n / 2 ^ i % 2 == 1

/-- The bit map n with bit i set or cleared. -/
def putBit (n i : Nat) (b : Bool) : Nat :=
  let m := if bitOf n i then n - 2 ^ i else n
  if b then m + 2 ^ i else m

/-- How many of the low w bits of n are set. -/
def popCount : Nat → Nat → Nat
  | 0, _ => 0
  | w + 1, n => n % 2 + popCount w (n / 2)

/-- The positions below w whose bit is set in n, ascending. -/
def setBitsOf (w n : Nat) : List Nat := (List.range w).filter (fun i => bitOf n i)

/-- The w-bit two's-complement value of n. -/
def toSigned (w n : Nat) : Int := if n % 2 ^ w < 2 ^ (w - 1) then (n % 2 ^ w : Nat) else (n % 2 ^ w : Nat) - (2 ^ w : Nat)

/-- The w-bit pattern of an integer. -/
def ofSigned (w : Nat) (i : Int) : Nat := (i % (2 ^ w : Nat)).toNat

/-- Clamp an integer into the signed w-bit range, as a saturating signed field does. -/
def clampSigned (w : Nat) (i : Int) : Int :=
  if i < -(2 ^ (w - 1) : Nat) then -(2 ^ (w - 1) : Nat)
  else if i > (2 ^ (w - 1) : Nat) - 1 then (2 ^ (w - 1) : Nat) - 1 else i

/-- The little-endian value of a list of bytes. -/
def leVal : List Nat → Nat
  | [] => 0
  | b :: t => b % 256 + 256 * leVal t

/-- The n little-endian bytes of v. -/
def leBytes : Nat → Nat → List Nat
  | 0, _ => []
  | n + 1, v => v % 256 :: leBytes n (v / 256)

/-- n bits of v starting at bit lo. -/
def slice (v lo n : Nat) : Nat := v / 2 ^ lo % 2 ^ n

/-- Entry i of a list of numbers, 0 beyond its end. -/
def nth (l : List Nat) (i : Nat) : Nat := l.getD i 0

/-- Replace entry i of a list, if it has one. -/
def setNth {α : Type} : List α → Nat → α → List α
  | [], _, _ => []
  | _ :: t, 0, v => v :: t
  | h :: t, i + 1, v => h :: setNth t i v

/-- Insert into a list ordered by a measure, after equals. -/
def insertBy {α : Type} (m : α → Nat) (x : α) : List α → List α
  | [] => [x]
  | y :: t => if m x < m y then x :: y :: t else y :: insertBy m x t

/-- Order a list by a measure, equals in their first order. -/
def orderBy {α : Type} (m : α → Nat) (l : List α) : List α := l.foldl (fun acc x => insertBy m x acc) []

/-- The ceiling of a / b. -/
def ceilDiv (a b : Nat) : Nat := (a + b - 1) / b

end Sys2Proof.Machine
end

