-- ==== Sys2Proof/Machine/Types.lean ====
section
/-!
DEFINITION. The plain data that commands carry and the chip holds: cells (R75), link control messages (R101), notices
(R32) and the units a command can name.
-/

namespace Sys2Proof.Machine

/-- A reset class (R10), widest first; `code` gives its number. -/
inductive RClass where
  | power | sag | chip | planeData | planeControl | planeMgmt | region | block | tile | link
  deriving DecidableEq, Repr

/-- The 64-byte cell of R75: the header fields, and the payload with payload byte i in bits [8i+7:8i]. -/
structure Cell where
  kind : BitVec 3 := 0
  tc : BitVec 3 := 0
  colour : BitVec 2 := 0
  first : Bool := false
  last : Bool := false
  ce : Bool := false
  retx : Bool := false
  dest : BitVec 20 := 0
  src : BitVec 20 := 0
  seq : BitVec 22 := 0
  digest : BitVec 6 := 0
  crc : BitVec 16 := 0
  payload : BitVec 416 := 0
  deriving DecidableEq, Repr

/-- A link control message (R101): op, LC_SEQ, and the body bytes from byte 4 of the payload. -/
structure Lc where
  op : Nat
  seq : Nat
  body : List Nat := []
  deriving DecidableEq, Repr

/-- A notice in the staging buffer of a notice queue: its 16-byte entry (R32) and the core cycle of the event. -/
structure Staged where
  cycle : Nat
  entry : BitVec 128
  deriving DecidableEq, Repr

/-- Payload byte i of a cell. -/
def Cell.byte (c : Cell) (i : Nat) : Nat := c.payload.toNat / 2 ^ (8 * i) % 256

/-- The little-endian value of n payload bytes from byte i. -/
def Cell.bytes (c : Cell) (i n : Nat) : Nat := c.payload.toNat / 2 ^ (8 * i) % 2 ^ (8 * n)

/-- A payload of 52 bytes from its bytes in order; missing bytes are 0. -/
def payloadOf (bs : List Nat) : BitVec 416 := BitVec.ofNat 416 (leVal bs)

end Sys2Proof.Machine
end

