-- ==== Sys2Proof/Machine/Chip1.lean ====
section
/-!
DEFINITION. Plain-data records of the link, switching, buffer and scheduling state that no register of the spec shows
(chapters 03, 06, 07 and 08). State.lean puts them together.
-/

namespace Sys2Proof.Machine

/-- A link control request waiting for its answer (R105). -/
structure LcReq where
  op : Nat
  seq : Nat
  repeats : Nat
  body : List Nat
  deriving DecidableEq, Repr

/-- A drain in progress on a lane (R119): its reason, whether DRAIN was sent by this end, and which steps are done. -/
structure Drain where
  reason : Nat
  acked : Bool
  synced : Bool
  deriving DecidableEq, Repr

/-- A timed launch (R265, R266): the buffer of its cell and the cell's own timestamp request, its port queue, the bell
time, the bell's timestamp request, the bell, whether the bell has fired, and whether a condition of R266 failed. -/
structure Launch where
  buf : Nat
  own : Option Nat
  port : Nat
  cls : Nat
  time : Nat
  ts : Option Nat
  bell : Nat
  due : Bool
  late : Bool
  deriving DecidableEq, Repr

/-- The state of a lane beside its registers: receiver, link control, credits, drain and transmitter (chapter 03). -/
structure Lane where
  lock : Bool := false
  blockNo : Option Nat := none
  rx : List Cell := []
  elastic : List Cell := []
  lcOut : List Lc := []
  lastTx : Option Cell := none
  txLc : Nat := 0
  txSlot : Nat := 0
  txBlock : Nat := 0
  /-- The cells in the slots of the FEC block being sent, the last whole block (BLOCK_NO and slots), and the scrambler (R95 to R97). -/
  txSlots : List (Option Cell) := []
  txFrame : Option (Nat × List (Option Cell)) := none
  scram : BitVec 58 := 0
  sent : SMap Nat := []
  txLimit : SMap Nat := []
  txMask : Nat := 0
  received : SMap Nat := []
  released : SMap Nat := []
  advertised : SMap Nat := []
  unadvertised : SMap Nat := []
  txInit : Bool := false
  rxInit : Bool := false
  syncDue : Bool := false
  lcSeq : Nat := 0
  reqs : List LcReq := []
  acted : SMap Nat := []
  drain : Option Drain := none
  wait : Bool := false
  fails : Nat := 0
  held : Bool := false
  tagMiss : Nat := 0
  /-- Held DARK by a reset that reaches it (R513). -/
  inReset : Bool := false
  /-- DROWSY by a DROWSY of the M40 (R120), and the LC_SEQ of a WAKE_REQ that waits for its AWAKE. -/
  mine : Bool := false
  wakeSeq : Option Nat := none
  /-- In the fast retrain after SLEEP, which ends with AWAKE (R121). -/
  awaking : Bool := false
  launch : Option Launch := none
  deriving DecidableEq, Repr

/-- Structural configuration of one die (R43 to R51): the LANE_MAP entries and TABLE_UNITS of a port die, the
CORE_PART shares and SYNC_HOME groups (ENABLE, timeout, threshold, MIRROR) of a core die. -/
structure SyncGroup where
  enable : Bool := false
  timeout : Nat := 0
  thresh : Nat := 0
  mirror : Bool := false
  deriving DecidableEq, Repr

structure DieCfg where
  lanes : List Nat := []
  units : List Nat := []
  xbr : Nat := 0
  red : Nat := 0
  trf : Nat := 0
  spill : Nat := 0
  stage : Nat := 0
  opt : Nat := 0
  groups : List SyncGroup := []
  deriving DecidableEq, Repr

/-- A snapshot of a commit group (R66): the staged words taken, whether a bell took it, whether its checks passed, whether the
control plane applies it (R468), and the slot in which it was taken (R31). -/
structure Snapshot where
  vals : List (Nat × Word)
  byBell : Bool
  checked : Bool
  ctl : Bool
  slot : Nat
  deriving DecidableEq, Repr

/-- One buffer in use in a block pool (R220, R223): its cell, its reference count, whether it is in the shared part,
the lane whose credits it releases when freed (none: released already), and its young bit for the audit (R240). -/
structure Buf where
  cell : Cell
  count : Nat
  shared : Bool
  owner : Option Nat
  young : Bool := false
  deriving DecidableEq, Repr

/-- A free list (R221): how many of its buffers have been popped since it was threaded, and the buffers freed since,
oldest first. -/
structure FreeList where
  popped : Nat := 0
  freed : List Nat := []
  deriving DecidableEq, Repr

/-- One block pool beside its registers. -/
structure Pool where
  bufs : SMap (Option Buf) := []
  lists : SMap FreeList := []
  nextList : Nat := 0
  lfsr : Nat := 0xACE1
  auditing : Bool := false
  stalled : Bool := false
  deriving DecidableEq, Repr

/-- One descriptor of a virtual output queue (R192): the buffer, the ingress and egress port, whether it is a
multicast or staging copy, the slot in which it was queued or its hold last started, and the slot in which it became
eligible. -/
structure VoqEnt where
  buf : Nat
  inPort : Nat
  egPort : Nat
  mcast : Bool
  since : Nat
  eligible : Option Nat
  saf : Bool
  deriving DecidableEq, Repr

/-- A cell in an envelope (R196): PORT_i, MCAST_i and SAF_i; with it the port it came in on as die·64 + port (none for a
cell the M40 itself sends) and the timestamp request of a cell a complex sends, SOURCE·65,536 + ID (R404). -/
structure EnvCell where
  cell : Cell
  port : Nat
  mcast : Bool
  saf : Bool
  origin : Option Nat := none
  ts : Option Nat := none
  deriving DecidableEq, Repr

/-- A cell to spill, as its descriptor word gives it (R234). -/
structure SpillDesc where
  die : Nat
  port : Nat
  cls : Nat
  mcast : Bool
  deriving DecidableEq, Repr

/-- An envelope (R196). A spill envelope lists its descriptors and the spill state its sender last saw (R234, R235). -/
structure Env where
  src : Nat
  dst : Nat
  seq : Nat
  cells : List EnvCell
  spill : Bool := false
  descs : List SpillDesc := []
  seen : Nat := 0
  deriving DecidableEq, Repr

/-- An envelope in a crossbar input queue: the slot in which it landed and the slot in which it became the head. -/
structure XqEnt where
  env : Env
  landed : Nat
  head : Option Nat
  deriving DecidableEq, Repr

/-- A landing cell to write into one block pool of its egress die for the listed ports of that block (R209). -/
structure Place1 where
  cell : Cell
  block : Nat
  ports : List Nat
  saf : Bool
  ts : Option Nat
  deriving DecidableEq, Repr

/-- A slot of an egress die's landing buffer whose cells are not all placed (R229). -/
structure LandSlot where
  core : Nat
  cells : List Place1
  deriving DecidableEq, Repr

/-- A cell of an egress port queue or staging queue: its buffer, its store-and-forward mark, its WFQ tag and whether a
timestamp was asked for (R404). -/
structure PqEnt where
  buf : Nat
  saf : Bool := false
  tag : Option Nat := none
  ts : Option Nat := none
  deriving DecidableEq, Repr

/-- A parked cell of a spill pool (R235). -/
structure Parked where
  cell : Cell
  port : Nat
  mcast : Bool
  origin : Option Nat
  time : Nat
  deriving DecidableEq, Repr

/-- The switching path of the chip (chapters 06 to 08). Keys: VOQ ((die·8+block)·40+dest)·8+class; port queue
(die·64+port)·8+class; staging queue lane·8+class; uplink die·8+core; downlink core·32+die; crossbar queue
core·1056+in·32+out; credit pair (die·8+core)·40+dest. -/
structure Switch where
  pools : SMap Pool := []
  voqs : SMap (List VoqEnt) := []
  up : SMap (List Env) := []
  down : SMap (List Env) := []
  envSeq : SMap Nat := []
  envSpent : SMap Nat := []
  envWithheld : SMap Nat := []
  envLowered : SMap Nat := []
  envReturn : SMap Nat := []
  landSpent : SMap Nat := []
  landReturn : SMap Nat := []
  xq : SMap (List XqEnt) := []
  gptr : SMap Nat := []
  aptr : SMap Nat := []
  landed : SMap (List Env) := []
  landing : SMap (List LandSlot) := []
  pq : SMap (List PqEnt) := []
  stq : SMap (List PqEnt) := []
  current : SMap Int := []
  lastClass : SMap Nat := []
  lastBlock : SMap Nat := []
  wfqV : SMap Nat := []
  wfqLast : SMap Nat := []
  linkDown : SMap Bool := []
  /-- Replays in a row of one slot of a die-to-die link, and the 1 ms window its replays are counted in + 1 (R197). -/
  slotReplays : SMap Nat := []
  d2dWindow : SMap Nat := []
  parked : SMap (List Parked) := []
  spillSpent : SMap Nat := []
  expiredWin : SMap Nat := []
  expiredFirst : SMap Nat := []
  holdSample : SMap Nat := []
  holdRelay : SMap (Option Nat) := []
  holdApplied : SMap Nat := []
  satSince : SMap Nat := []
  tokens : SMap (Option Int) := []
  committed : SMap (Option Int) := []
  peak : SMap (Option Int) := []
  late : SMap (Option Launch) := []
  tc7Lane : SMap (Option Nat) := []
  deriving DecidableEq, Repr

end Sys2Proof.Machine
end

