-- ==== Sys2Proof/Machine/Chip2.lean ====
section
/-!
DEFINITION. Plain-data records of the hubs and the notice queues that no register of the spec shows (chapters 01, 16
and 17).
-/

namespace Sys2Proof.Machine

/-- The notice queues of the dies (R32 to R37). Queue key: die·2 + q, q = 0 NQ_CTL, 1 NQ_MGT. Entry key: queue·1024 +
index. -/
structure Notices where
  staged : SMap (List Staged) := []
  entries : SMap (BitVec 128) := []
  next : SMap Nat := []
  signals : SMap Nat := []
  deriving DecidableEq, Repr

/-- A programmable performance counter (R486 to R489): PMC_SEL, the 48-bit count, PERIOD and the staged high part. -/
structure Counter where
  sel : Word := 0x008FF000
  count : Nat := 0
  period : Nat := 0
  staged : Nat := 0
  deriving DecidableEq, Repr

/-- The counters of the chip. Keys: programmable die·32 + n, fixed die·8 + k, per-die overflow bits, latched tag per
die·2 + complex. -/
structure Pmc where
  prog : SMap Counter := []
  fixed : SMap Nat := []
  ovf : SMap Nat := []
  tag : SMap Nat := []
  signals : SMap Nat := []
  deriving DecidableEq, Repr

/-- A wide recipe (R52, R357): its steps, and its matrices as (rows, columns, elements in row order). -/
structure WideRecipe where
  steps : List (BitVec 64)
  mats : List (Nat × Nat × List Nat)
  deriving DecidableEq, Repr

/-- A section of an image by its type (R43), with the content the rules of chapter 02 give it. `invalid` stands for a
directory entry or body that is malformed or of an unknown type (R54). The byte layout of a section body is not given
by the spec for every type, so sections are taken in this parsed form (DESIGN CHOICE, log 7). -/
inductive ImageSection where
  | laneMap (die : Nat) (entries : List Nat)
  | sramCarve (die : Nat) (units : List Nat)
  | tableGeom (flow mc : Nat) (flowRandom mcRandom : Bool)
  | classMap (map lo hi : Word)
  | corePart (die xbr red trf spill stage opt : Nat)
  | syncHome (die : Nat) (groups : List SyncGroup)
  | wideRecipe (recipes : List WideRecipe)
  | powerPolicy (die : Nat) (time max : Word)
  | initValues (die : Nat) (pairs : List (Nat × Word))
  | invalid
  deriving DecidableEq, Repr

/-- A Eufen image (R53): the header fields that bound it, its sections, the SHAKE256 digest of its signed part and
whether its Falcon-1024 signature verifies under the key KEY_ID names. -/
structure Image where
  magicOk : Bool := true
  format : Nat := 1
  member : Nat := 40
  stepping : Nat := 0xA1
  scope : Nat := 0
  region : Nat := 0xFF
  version : Nat := 0
  baseDigest : Nat := 0
  keyId : Nat := 0
  lengthOk : Bool := true
  length : Nat := 0
  digest : Nat := 0
  sigOk : Bool := true
  sections : List ImageSection := []
  deriving DecidableEq, Repr

/-- A repair record (R56): whether its signature verifies, the identity digest it carries and its own digest. -/
structure Repair where
  sigOk : Bool
  identity : Nat
  digest : Nat
  deriving DecidableEq, Repr

/-- A key certificate (R458). `chainOk`: the issuer is the root or an enrolled issuer key and its signature verifies. -/
structure KeyCert where
  keyId : Nat
  use : Nat
  rights : Nat
  issuer : Nat
  rootIssued : Bool
  sigOk : Bool
  deriving DecidableEq, Repr

/-- A firmware item of a flash slot (R459): version, signature verdict, digest. -/
structure Firmware where
  version : Nat
  sigOk : Bool
  digest : Nat
  deriving DecidableEq, Repr

/-- An entry of the measurement log (R460). -/
structure LogEntry where
  type : Nat
  hub : Nat
  version : Nat
  digest : Nat
  sec : Nat
  nsec : Nat
  deriving DecidableEq, Repr

/-- A command record as a slot or a COMMAND message carries it (R444). -/
structure Command where
  opcode : Nat := 0
  irq : Bool := false
  tag : Nat := 0
  arg0 : Nat := 0
  arg1 : Nat := 0
  arg2 : Nat := 0
  dataAddr : Nat := 0
  dataLen : Nat := 0
  inline : List Nat := []
  deriving DecidableEq, Repr

/-- A slot of a command window (R444): OWNER, the command taken at pickup, STATUS, RESULT0, RESULT1 and the inline
bytes the M40 has written. `order` is its place in the order of pickup; `waiting`: a serial command that has not started. -/
structure Slot where
  owner : Nat := 0
  cmd : Command := {}
  status : Nat := 0
  result0 : Nat := 0
  result1 : Nat := 0
  out : List Nat := []
  order : Nat := 0
  waiting : Bool := false
  deriving DecidableEq, Repr

/-- A session (R454): the client's end-point ID, the rights of its certificate, the last MSG_SEQ accepted, the next to send,
consecutive bad tags, whether S_CONFIRM has completed it, and its COMMAND messages that run, oldest first, each with whether it is
a serial command that has not started. `alias_`: opened to the lost twin's switch ID (R470). -/
structure Session where
  rights : Nat
  client : Nat
  lastIn : Nat := 0
  nextOut : Nat := 1
  badTags : Nat := 0
  open_ : Bool := false
  cmds : List (Command × Bool) := []
  alias_ : Bool := false
  deriving DecidableEq, Repr

/-- Who sent a command: a slot of a window of the host link, or a session (R456). -/
inductive Origin where
  | slot (hub window slot : Nat)
  | session (hub number : Nat)
  deriving DecidableEq, Repr

/-- One hub's flash (R58, R384, R458, R459, R462): image slots, repair record, key slots, firmware slots, version floors and whether
their record keeps its tag, optical record by lane, FSIG log. -/
structure Flash where
  images : SMap (Option Image) := []
  repair : Option Repair := none
  keys : List KeyCert := []
  firmware : SMap (Option Firmware) := [(0, some ⟨0, true, 0⟩)]
  floors : SMap Nat := []
  floorOk : Bool := true
  optical : SMap Nat := []
  fsig : List (List Nat) := []
  deriving DecidableEq, Repr

/-- A message of KIND 5 or 6 completed by a hub (R451, R452): its kind, SRC, TYPE, SESSION, MSG_SEQ and body. -/
structure HubMsg where
  kind : Nat
  src : Nat
  ty : Nat
  session : Nat
  seq : Nat
  body : List Nat
  deriving DecidableEq, Repr

/-- One hub beside its registers. `fw`: the firmware that runs (none: ROM recovery); `idOk`: its key matches the device certificate
(R457); `pathLost`: heartbeat paths lost (bit 0 hub bridge, bit 1 sideband); `slots` by window·64 + slot, `lastSlot` the slot last
taken + 1 by window; `vecSent` MSI-X messages by vector; `log` every entry logged since the restart, of which the last 4,096 are kept
for READ_LOG (R460); `inbox` KIND 5 messages routed to a complex and not yet acted on; `mctp` and `ptm` what went to the board
controller and in answer to PTM requests. -/
structure Hub where
  fenced : Bool := false
  ctlUp : Bool := false
  mgmtUp : Bool := false
  linkUp : Bool := false
  idOk : Bool := true
  fw : Option Firmware := none
  beatsSent : Nat := 0
  pathLost : Nat := 0
  events : SMap (BitVec 128) := []
  vecSent : SMap Nat := []
  vecPending : List Nat := []
  slots : SMap Slot := []
  lastSlot : SMap Nat := []
  picked : Nat := 0
  sessions : SMap (Option Session) := []
  flash : Flash := {}
  log : List LogEntry := []
  inbox : List HubMsg := []
  mctp : List (List Nat) := []
  ptm : List Nat := []
  deriving DecidableEq, Repr

end Sys2Proof.Machine
end

