-- ==== Sys2Proof/Machine/Chip3.lean ====
section
/-!
DEFINITION. Plain-data records of power, clocks and reset that no register of the spec shows (chapter 15).
-/

namespace Sys2Proof.Machine

/-- A wake in progress: the state it started from (PWR_STATE codes) and its lowest SOURCE code (R434, R435). -/
structure Waking where
  from_ : Nat
  source : Nat
  mask : Nat := 0
  deriving DecidableEq, Repr

/-- Power, clocks and resets. Block keys die·8 + block; die keys the die ID. `entry` holds the
state being entered (0 none), `shadow` whether the canopy holds a shadow of the block (R70), `idle` the tiles whose clock is
stopped, by die·128 + tile. -/
structure Power where
  wake : SMap (Option Waking) := []
  entry : SMap Nat := []
  shadow : SMap Bool := []
  /-- The generation at which the reload of a stale block began (R71, R428). -/
  reload : SMap (Option Nat) := []
  /-- Blocks behind a firebreak whose reset has ended and that wait for re-admission (R25, R71). -/
  readmit : SMap Bool := []
  /-- Device time at which a block (die·16 + block) or a die (die·16 + 8) entered its low-power state. -/
  asleep : SMap Nat := []
  dieWake : SMap (Option Waking) := []
  idle : SMap Bool := []
  clkHalf : Bool := false
  /-- The data plane is held in reset (until an image releases it). -/
  dataHeld : Bool := true
  planeReset : Bool := false
  regionReset : SMap Bool := []
  blockReset : SMap Bool := []
  tileReset : SMap Bool := []
  /-- A CHIP, SAG or POWER reset is in progress: its class number (R10), else 0. The state after a POWER reset waits for RESTART. -/
  chipReset : Nat := 1
  /-- Bells discarded and RUNNING ledger entries lost in a reset, by die, reported once it ends (R409, R483). -/
  lostBells : SMap Nat := []
  lostRuns : SMap Nat := []
  standby : Bool := false
  standbyExit : Bool := false
  /-- A VDD_CORE setpoint that waits for the end of a sag warning (R434). -/
  setpoint : Option Nat := none
  /-- The repair record has been applied to the dies (R56). -/
  repaired : Bool := false
  ppsOut : Bool := false
  /-- Dies whose last temperature reading was 95 °C or more: a restart waits for them (R506). -/
  hot : SMap Bool := []
  deriving DecidableEq, Repr

end Sys2Proof.Machine
end

