-- ==== Sys2Proof/Machine/Chip4.lean ====
section
/-!
DEFINITION. Plain-data records of the forwarding tables, the staging engine and the time queues (chapters 09 and 14).
-/

namespace Sys2Proof.Machine

/-- A key waiting in the learn queue (R279): the key, its charge in units, ingress block and port. -/
structure Learn where
  key : Nat
  units : Nat
  block : Nat
  port : Nat
  deriving DecidableEq, Repr

/-- A cell that waits at ingress for buffers of its further copies in no-sharing mode (R245). -/
structure IngWait where
  lane : Nat
  cell : Cell
  buf : Nat
  first : Nat × Nat × Bool
  rest : List (Nat × Nat × Bool)
  deriving DecidableEq, Repr

/-- The table store of the port dies. Keys: leaf die·2,048 + leaf; flow and multicast die·2²⁰ + index, where index is
bucket·4 + way, or 2¹⁹ + overflow slot. -/
structure Tables where
  leaf : SMap (BitVec 128) := []
  flow : SMap (BitVec 128) := []
  mc : SMap (BitVec 256) := []
  lfsrFlow : SMap Nat := []
  lfsrMc : SMap Nat := []
  learnQ : SMap (List Learn) := []
  ingWait : SMap (List IngWait) := []
  deriving DecidableEq, Repr

/-- An extent of a staging slot (R284): its message's cells by SEQ, how many cells it has, its reference count, which
ports of which die have released it, and whether it is marked bad (R482). -/
structure Extent where
  src : Nat
  tc : Nat
  tag : Option Nat
  count : Option Nat
  cells : SMap (Option Cell)
  refs : Nat
  complete : Bool
  released : SMap Nat
  bad : Bool
  deriving DecidableEq, Repr

/-- A staging slot of a core die (R284, R286). Key of the slot map: core·4 + slot. `parts` holds messages not yet complete by count. -/
structure StageSlot where
  group : Nat := 0
  dieMap : Nat := 0
  reserve : Nat := 0
  extents : List Extent := []
  deriving DecidableEq, Repr

/-- An entry a lane has sent with a timestamp request and that has not yet entered the queue (R404). -/
structure Stamp where
  time : Nat
  lane : Nat
  source : Nat
  tag : Nat
  deriving DecidableEq, Repr

end Sys2Proof.Machine
end

