-- ==== Sys2Proof/Machine/Chip5.lean ====
section
/-!
DEFINITION. Plain-data records of time and the bells that no register of the spec shows (chapter 14).
-/

namespace Sys2Proof.Machine

/-- An armed bell (R406): its device time, ACTION, ARG, TAG, NOTIFY, TS, and OWNER (0 C, 1 M, 2 internal). An internal
bell's ARG names its lane or clearing. -/
structure Bell where
  time : Nat
  action : Nat
  arg : Nat
  tag : Nat
  notify : Bool
  ts : Bool
  owner : Nat
  deriving DecidableEq, Repr

end Sys2Proof.Machine
end

