-- ==== Sys2Proof/Machine/Chip6.lean ====
section
/-!
DEFINITION. Plain-data records of collectives, reduction, transforms and the optimizer that no register of the spec
shows (chapters 10 to 13).
-/

namespace Sys2Proof.Machine

/-- The exact value of an element (R325, R330): NaN, an infinity, or a sign and a magnitude in units of the lowest weight
of its accumulator, 2⁻¹⁴⁹ for A320 and 2⁻¹⁰⁷⁴ for A2176 (R335). -/
inductive Val where
  | nan
  | inf (neg : Bool)
  | fin (neg : Bool) (mag : Nat)
  deriving DecidableEq, Repr

/-- The accumulator of one output element (R335): the exact sum of the finite inputs, the three flags, whether every
input so far is −0, and is +0 (R331), the extreme of MIN and MAX, and the bits of AND, OR and XOR. -/
structure Acc where
  sum : Int := 0
  posInf : Bool := false
  negInf : Bool := false
  nan : Bool := false
  allNeg0 : Bool := true
  allPos0 : Bool := true
  ext : Option Val := none
  bits : Option Nat := none
  deriving DecidableEq, Repr

/-- Residues of one pass: accumulator and check residues for the primes A and B (R372, R373). -/
structure Residues where
  raA : Nat
  raB : Nat
  cA : Nat
  cB : Nat
  deriving DecidableEq, Repr

/-- An open chunk at its position (R295, R307). `got` marks rank·2²² + cell; `counts` the cells by rank; `wanted` a
replay whose pass has not started, by reason (R298), `pass` that a replay pass runs. `work` holds the FP32 working values
of a recipe, `out` the payloads of its output cells once rounded. -/
structure Chunk where
  cluster : Nat := 0
  got : SMap Bool := []
  counts : SMap Nat := []
  acc : SMap Acc := []
  full : Nat := 0
  complete : Bool := false
  checked : Bool := false
  stepped : Bool := false
  sent : Bool := false
  wanted : Nat := 0
  pass : Bool := false
  replayed : Bool := false
  lossReplayed : Bool := false
  rerun : Bool := false
  resolving : Bool := false
  first : Option Residues := none
  firstCluster : Nat := 0
  groups : List Nat := []
  work : List Nat := []
  out : List Nat := []
  ubuf : Option Nat := none
  deriving DecidableEq, Repr

/-- A roll entry (R318). -/
structure Member where
  ep : Nat
  die : Nat
  port : Nat
  deriving DecidableEq, Repr

/-- The fields an ALLOC sets (R317), as applied. -/
structure AllocReq where
  members : Nat
  spines : Nat
  spine : Nat
  timeout : Nat
  early : Bool
  window : Nat
  maxChunk : Nat
  thresh : Nat
  nextSeq : Nat
  addr : Nat
  hub : Nat
  fanout : Nat
  deriving DecidableEq, Repr

/-- A step of a recipe (R351). -/
structure Step1 where
  op : Nat
  fmt : Nat
  arg : Nat
  flags : Nat
  imm : Nat
  deriving DecidableEq, Repr

/-- A recipe as read when a descriptor is fixed (R354): its steps, each with the matrix it names. -/
structure Program where
  steps : List (Step1 × Option (Nat × Nat × List Nat))
  deriving DecidableEq, Repr

/-- A parameter set of a binding (R361), FP32 bit patterns. -/
structure OptParams where
  lr : Nat
  b1 : Nat
  b2 : Nat
  eps : Nat
  wd : Nat
  gscale : Nat
  omb1 : Nat
  omb2 : Nat
  nesterov : Bool
  deriving DecidableEq, Repr

/-- A binding (R359 to R361). BASE in MiB. -/
structure Binding where
  object : Nat
  rule : Nat
  ep : Nat
  chunks : Nat
  base : Nat
  step : Nat
  b1t : Nat
  b2t : Nat
  elements : Nat
  cur : OptParams
  next : Option (OptParams × Nat)
  lost : Bool := false
  busy : Bool := false
  copy : Option (Nat × Nat × Nat × Nat × Nat) := none
  /-- Sealed chunks whose update buffer record is still to be copied: buffer record, chunk, stamp (R364). -/
  commits : List (Nat × Nat × Nat) := []
  deriving DecidableEq, Repr

/-- A sync object (R289) beside SYN_OBJ_i, SYN_EPOCH_i and SYN_LASTERR_i: what its allocation set, its roll and lost
ranks, the fixed descriptor (its 52 bytes) and what was read with it, MARK, the last MARK sent and whether the gap of R314
runs, its open chunks by position, an ALLOC that is loading its roll and one that is queued. -/
structure SyncObj where
  alloc : Option AllocReq := none
  roll : List Member := []
  lost : List Nat := []
  reserved : Nat := 0
  nextSeq : Nat := 0
  desc : Option (List Nat) := none
  prog : Option Program := none
  params : Option OptParams := none
  mark : Nat := 0
  told : Nat := 0
  gap : Bool := false
  done : List Nat := []
  chunks : SMap Chunk := []
  loading : Option AllocReq := none
  queued : Option AllocReq := none
  abortedAt : Option Nat := none
  deriving DecidableEq, Repr

/-- A cell held in the pending store (R308). -/
structure Pending where
  obj : Nat
  cell : Cell
  deriving DecidableEq, Repr

/-- A run-time matrix: its format and 1,024 entries in row order. -/
structure Matrix where
  fmt : Nat
  entries : List Nat
  deriving DecidableEq, Repr

/-- Collectives of the chip. Keys: object number; core die k; matrix k·128 + id; recipe k·256 + slot; binding k·64 + i;
`opt` the OPT region by k·2⁴⁰ + word address (32-bit words). -/
structure Coll where
  objs : SMap SyncObj := []
  pending : SMap (List Pending) := []
  mats : SMap (Option Matrix) := []
  recipes : SMap (Option (List Nat)) := []
  binds : SMap (Option Binding) := []
  opt : SMap Nat := []
  wide : List WideRecipe := []
  /-- The primary hub's copies of the rolls (R321), by object. -/
  copies : SMap (List Member) := []
  /-- Objects whose home die was isolated or reset: epoch, collective concerned, and whether SPINE_LOST has been sent. -/
  orphans : SMap (Option (Nat × Nat × Bool)) := []
  deriving DecidableEq, Repr

end Sys2Proof.Machine
end

