-- ==== Sys2Proof/Machine/Chip7.lean ====
section
/-!
DEFINITION. Plain-data records of the maintenance ledger, quizzes and failure signatures, optics and clearings that no
register of the spec shows (chapters 04, 05, 13 and 17).
-/

namespace Sys2Proof.Machine

/-- A unit a quiz or a check can name (R384): unit type, die, block or cluster, tile. -/
structure QUnit where
  ty : Nat
  die : Nat
  block : Nat
  tile : Nat
  deriving DecidableEq, Repr

/-- A maintenance activity with what it declares (R476). Lanes are global lanes. -/
inductive Activity where
  | cal (lane : Nat)
  | swap (back : Bool) (feed : Nat) (lanes : List Nat)
  | quiz (unit : QUnit) (reason : Nat)
  | audit (pool : Nat)
  | tableScrub
  | hbmScrub (stack : Nat)
  | clearing (route channel : Nat)
  | partialLoad (die : Nat)
  deriving DecidableEq, Repr

/-- A ledger entry that is QUEUED or RUNNING (R475): the order of its request, when it entered its present state, and
whether its WAITING notice has been posted (R490). -/
structure LedgerEnt where
  act : Activity
  head : Bool
  running : Bool
  order : Nat
  since : Nat
  told : Bool := false
  deriving DecidableEq, Repr

/-- A unit implicated by a check (R375 to R377): the object, the residues its record would carry, whether a result had
left, the quiz result once known, and the rerun verdict once known (1 FIRST_PASS, 2 another). `checker` verdicts need no
rerun. -/
structure Implicated where
  unit : QUnit
  obj : Nat
  expected : Nat
  observed : Nat
  early : Bool
  checker : Bool
  quiz : Option Bool := none
  verdict : Option Nat := none
  pos : Nat := 0
  deriving DecidableEq, Repr

/-- A quiz of a pack (R387). -/
structure PackQuiz where
  id : Nat
  cls : Nat
  unit : Nat
  replaces : Bool
  deriving DecidableEq, Repr

/-- A quiz pack as LOAD_PACK checks it (R387 to R389). `bodiesOk`: every kernel keeps its layout. -/
structure Pack where
  magicOk : Bool
  formatOk : Bool
  lengthOk : Bool
  member : Nat
  stepping : Nat
  length : Nat
  keyId : Nat
  sigOk : Bool
  version : Nat
  digest : Nat
  bodiesOk : Bool
  size : Nat
  quizzes : List PackQuiz
  deriving DecidableEq, Repr

/-- A firebreak trigger (R19): level 1 tile to 4 chip, the die, the block or tile number, and the trigger code. -/
structure FbDue where
  level : Nat
  die : Nat
  unit : Nat
  trigger : Nat
  deriving DecidableEq, Repr

/-- Quizzes and failure signatures. FSIG ring by index (R386); REPEAT tallies by record identity; TRANSIENT times by unit;
pack quizzes run once per unit (R390) as (id, unit); provisional failures; suspended pack quizzes; reruns due. -/
structure Integrity where
  ring : SMap (List Nat) := []
  repeats : List (List Nat × Nat) := []
  transients : List (QUnit × Nat) := []
  implicated : List Implicated := []
  pack : Option Pack := none
  ran : List (Nat × QUnit) := []
  provFails : List (Nat × QUnit) := []
  suspended : List Nat := []
  reruns : List (Nat × QUnit) := []
  /-- Firebreak triggers of R19 still to be raised in the same command. -/
  due : List FbDue := []
  deriving DecidableEq, Repr

/-- A ring beside PRT_RING_f_r: its search record (9 heater codes by channel), whether LOCKING was entered from HELD, the
recovery attempt running since the wrong lock (0 none), whether its one full search has been made (R139), sweeps failed in a
row, consecutive bad tone windows, whether light is absent at its monitor, and a move that waits for a clearing to be FREE
(R180: 1 a search, 2 the first step of a recovery). -/
structure Ring where
  record : List Nat := []
  fromHeld : Bool := false
  tries : Nat := 0
  full : Bool := false
  badSweeps : Nat := 0
  badTones : Nat := 0
  dark : Bool := false
  waits : Nat := 0
  deriving DecidableEq, Repr

/-- A move of a lane to or from the spare, or its calibration: kind 1 swap, 2 return, 3 calibration (the RETUNE reasons of
R122), how often RETUNE has been sent, whether one is out, the time and number of its bell, whether the bell has acted, whether
the move was abandoned, and whether the lane is done with it. -/
structure Move where
  kind : Nat
  sends : Nat := 0
  out : Bool := false
  time : Nat := 0
  index : Nat := 0
  acted : Bool := false
  failed : Bool := false
  fin : Bool := false
  deriving DecidableEq, Repr

/-- A lane's optics beside PRT_OPT_PWR_L: consecutive readings at or below −1.0, −1.5 and −3.0 dB, above −0.7 dB and above
−1.0 dB, a requested swap, the move in progress, whether its missing commissioned power has been reported (R148),
whether its move waits for a clearing to be FREE (R180), whether request OP 4 waits
(R151), whether its next training is a fast retrain, and whether it trains from T1 once its rings have relocked (R157). -/
structure LaneOpt where
  n10 : Nat := 0
  n15 : Nat := 0
  n30 : Nat := 0
  nClear : Nat := 0
  nAbove10 : Nat := 0
  swapDue : Bool := false
  move : Option Move := none
  told : Bool := false
  waitFree : Bool := false
  holdClear : Bool := false
  fastNext : Bool := false
  relight : Bool := false
  deriving DecidableEq, Repr

/-- Optics of the chip. Keys: ring die·256 + f·17 + r; lane; die·8 + f for light on the receive waveguide and the last fade
read by the spare monitor ring; feed 2·die + half for a lost feed (n + 1: lost, with n good readings since); `searchAt` by die,
the ring group being searched + 1; `clearCh` by die, the HANDLE last assigned + 1 (R172). -/
structure Optics where
  rings : SMap Ring := []
  lanes : SMap LaneOpt := []
  feedLost : SMap Nat := []
  rxLight : SMap Bool := []
  spareFade : SMap Int := []
  searchAt : SMap Nat := []
  clearCh : SMap Nat := []
  deriving DecidableEq, Repr

/-- A clearing beside CLR_CHAN_r_k (R172 to R178): the bell, which leaves accepted the last message (bit 0 the leaf on
Fr), which have sent CLEAR_DRAINED, the PHASE in force, the internal bell, and whether it ends without drain
confirmation. -/
structure Clearing where
  bell : Nat := 0
  acks : Nat := 0
  drained : Nat := 0
  phase : Nat := 0
  index : Nat := 0
  image : Bool := false
  deriving DecidableEq, Repr

end Sys2Proof.Machine
end

