-- ==== Sys2Proof/Machine/Chip8.lean ====
section
/-!
DEFINITION. Plain-data records of the time domains, orders and the twin that no register of the spec shows (chapters 14 and 16).
-/

namespace Sys2Proof.Machine

/-- A time domain beside its registers (R400): the offsets of its last measurements in ns, newest first; the seconds SET_TOD gives
for its next PPS edge; and whether a time of day has been given. -/
structure Domain where
  hist : List Int := []
  tod : Option Nat := none
  dated : Bool := false
  deriving DecidableEq, Repr

/-- The time domains, by 0 A and 1 B; `chosen`: the first handover to the domain `TIM_CFG.ACTIVE` names under R396 is no longer owed. -/
structure Clock where
  doms : SMap Domain := []
  chosen : Bool := false
  deriving DecidableEq, Repr

/-- What an APPLY bell that has acted is reported by (R410): its number, TAG and NOTIFY. -/
structure BellMark where
  index : Nat
  tag : Nat
  notify : Bool
  deriving DecidableEq, Repr

/-- An item of an order (R453). -/
structure OrderItem where
  die : Nat
  op : Nat
  offset : Nat
  value : Nat
  deriving DecidableEq, Repr

/-- Where an order came from: an ORDER message of a session with its MSG_SEQ, or a CONTROL_ORDER command. -/
inductive OrderFrom where
  | session (hub number seq : Nat)
  | command (o : Origin)
  deriving DecidableEq, Repr

/-- A partial load that holds its region until the masters switch (R63), the command that asked for it, and whether it has been
interrupted before the switch. -/
structure Loading where
  image : Image
  origin : Origin
  dead : Bool := false
  deriving DecidableEq, Repr

/-- An order with the items still to run, how many are done, and the commit group (die, group) it waits for. -/
structure OrderRun where
  src : OrderFrom
  items : List OrderItem
  done : Nat := 0
  waiting : Option (Nat × Nat) := none
  deriving DecidableEq, Repr

/-- A sync object as a mirror record gives it (R468): state, epoch, generation of its region, NEXT_SEQ, SPINE_INDEX, descriptor and
roll. -/
structure MirObj where
  obj : Nat
  state : Nat
  epoch : Nat
  gen : Nat
  nextSeq : Nat
  spine : Nat
  desc : List Nat
  roll : List Member
  deriving DecidableEq, Repr

/-- What a mirror record carries (R468). -/
inductive MirrorRec where
  | object (o : MirObj)
  | commit (die group gen : Nat)
  | order (done status : Nat)
  | clearing (die route channel state gen : Nat)
  | flow (die : Nat) (entry : BitVec 128) (bulk : Bool) (gen : Nat)
  deriving DecidableEq, Repr

/-- The twin (R465 to R471): the mirror of the partner's state; records of the M40's own state sent and not acknowledged, by stream
sequence; records received ahead of their turn; the sequence given last and the last taken in order; beats sent; which steps of R467
are complete (bit 0 TW_HELLO, 1 TW_ATTEST, 2 TW_KEM, 3 TW_INDEX); and NOTICE_FWD and TWIN_LOST messages held for the fabric controller
as (TYPE, body). -/
structure Twin where
  objs : SMap (Option MirObj) := []
  others : List MirrorRec := []
  unacked : List (Nat × MirrorRec) := []
  early : List (Nat × MirrorRec) := []
  sentSeq : Nat := 0
  recvSeq : Nat := 0
  beats : Nat := 0
  steps : Nat := 0
  held : List (Nat × List Nat) := []
  deriving DecidableEq, Repr

end Sys2Proof.Machine
end

