-- ==== Sys2Proof/Machine/Chip.lean ====
section
/-!
DEFINITION. The chip: everything the spec gives the M40 but the hubs' LPDDR5X and the queue of waiting commands.
`regs` holds every register of the tables at its BAR0 address (for a CS register its applied value), `staged` the
staged value of the CS registers; both are sparse, an unlisted register reading its Reset value.
-/

namespace Sys2Proof.Machine

structure Chip where
  /-- Core cycles since reset (R7's table of units: 0.4 ns each). -/
  cycle : Nat := 0
  /-- Device time in units of 2⁻¹⁶/5 ns (R395): 131,072 per core cycle at full clocks. -/
  now : Nat := 0
  regs : SMap Word := []
  staged : SMap Word := []
  /-- High parts latched by a read of the low part (R7), by address of the high part. -/
  latch : SMap (Option Word) := []
  /-- The value the last register read returned. -/
  lastRead : Word := 0
  lanes : SMap Lane := []
  sw : Switch := {}
  snaps : SMap (Option Snapshot) := []
  cfg : SMap DieCfg := []
  nq : Notices := {}
  pmc : Pmc := {}
  hubs : SMap Hub := []
  pw : Power := {}
  tb : Tables := {}
  stage : SMap StageSlot := []
  stamps : SMap (List Stamp) := []
  tsq : SMap (BitVec 128) := []
  /-- A loss of R405 has been reported since the queue of the die was last empty. -/
  tsqLost : SMap Bool := []
  /-- Armed bells, key die·256 + number (R406). -/
  bells : SMap (Option Bell) := []
  coll : Coll := {}
  /-- Ledger entries that are not FREE, key die·64 + entry; the next request order (R475). -/
  ledger : SMap (Option LedgerEnt) := []
  ledgerNext : Nat := 0
  integ : Integrity := {}
  optics : Optics := {}
  /-- Clearings, key die·32 + route·8 + channel. -/
  clears : SMap Clearing := []
  /-- Time the canopy has run since POWER reset, in units of 0.4 ns; not steered (R275). -/
  real : Nat := 0
  /-- The lost twin's switch ID the M40 answers for (R470). -/
  alias_ : Option Nat := none
  /-- FAULT_N and SAG_N driven low by the M40. -/
  faultN : Bool := true
  sagN : Bool := true
  /-- The chip is dark (R26). -/
  darkChip : Bool := false
  /-- The time domains (R398 to R402). -/
  clock : Clock := {}
  twin : Twin := {}
  /-- Orders in arrival order, the first one running (R453). -/
  orders : List OrderRun := []
  /-- The running full image held in LPDDR5X (R432), and partial loads that hold a region (R63). -/
  image : Option Image := none
  loading : SMap (Option Loading) := []
  /-- APPLY bells that wait for a group that is PENDING from a COMMIT write (R409), and the bell whose snapshot is in progress, by
  die·512 + group. -/
  bellWaits : SMap (List BellMark) := []
  bellApply : SMap (Option BellMark) := []
  /-- How many opaque free values have been used. -/
  draws : Nat := 0
  deriving DecidableEq, Repr

end Sys2Proof.Machine
end

