-- ==== Sys2Proof/Machine/Regs.lean ====
section
/-!
DEFINITION. Reading and writing the registers of the tables: which register stands at a BAR0 address (R440), its reset
value (R10), its fields, its saturating and wrapping counters, and its staged and applied copies (R66).
-/

namespace Sys2Proof.Machine

/-- Port dies are 0–31, core dies 32–39; C0 (32) carries hub A and C7 (39) hub B (R13). -/
def DieKind.has : DieKind → Nat → Bool
  | .all, d => decide (d < 40)
  | .port, d => decide (d < 32)
  | .core, d => decide (32 ≤ d ∧ d < 40)
  | .hub, d => d == 32 || d == 39
  | .hubA, d => d == 32
  | .hubB, d => d == 39

/-- The flat index and the first index at which an offset falls in an array of the given (count, stride) dimensions. -/
def dimIndex : List (Nat × Nat) → Nat → Option (List Nat)
  | [], 0 => some []
  | [], _ + 1 => none
  | (n, st) :: t, off =>
    let i := if t.isEmpty then (if off % st = 0 then off / st else n) else off / st
    if i < n then (dimIndex t (off - i * st)).map (fun l => i :: l) else none

/-- The indexes at which a row holds the register at an offset of die d's window. -/
def RegRow.at (r : RegRow) (d off : Nat) : Option (List Nat) :=
  if r.dies.has d && decide (r.base ≤ off) then dimIndex r.dims (off - r.base) else none

/-- The mixed-radix number of a list of indexes. -/
def flatIndex : List (Nat × Nat) → List Nat → Nat → Nat
  | (n, _) :: t, i :: is, acc => flatIndex t is (acc * n + i)
  | _, _, acc => acc

/-- First row of a list that holds the offset, with its indexes. -/
def findRow : List RegRow → Nat → Nat → Option (RegRow × List Nat)
  | [], _, _ => none
  | r :: t, d, off =>
    match r.at d off with
    | some is => some (r, is)
    | none => findRow t d off

/-- The register table that holds BAR0 address a, with the indexes of the register in it (R440). -/
def regRow (a : Nat) : Option (RegRow × List Nat) :=
  let off := a % 0x04000000
  findRow (rowsAt (off / 0x100000)) (a / 0x04000000) off

/-- The Reset word of the register at address a (R10); 0 where no register stands. -/
def regReset (a : Nat) : Word :=
  match regRow a with
  | some (r, is) => BitVec.ofNat 32 (nth r.resets (flatIndex r.dims is 0 % r.resets.length))
  | none => 0

/-- Does a register stand at BAR0 address a (R440)? -/
def regExists (a : Nat) : Bool := (regRow a).isSome

/-- Is the register at address a a CS register, that is one of a commit group that is not its COMMIT register? -/
def isCs (a : Nat) : Bool :=
  match regRow a with
  | some (r, _) => r.grp.isSome && !r.isCommit
  | none => false

/-- The commit group ID of the register at address a, when it belongs to one (R65). -/
def groupOf (a : Nat) : Option Nat :=
  match regRow a with
  | some (r, is) => r.grp.map (fun g => g.1 + g.2 * nth is 0)
  | none => none

/-- The current (for a CS register the applied) value at address a. -/
def Chip.rd (c : Chip) (a : Nat) : Word := SMap.get regReset c.regs a

/-- Give the register at address a the value w. -/
def Chip.wr (c : Chip) (a : Nat) (w : Word) : Chip := { c with regs := SMap.set regReset c.regs a w }

/-- The value of a field of the register at address a. -/
def Chip.get (c : Chip) (a : Nat) (f : Fld) : Nat := getBits (c.rd a) f

/-- Set a field of the register at address a. -/
def Chip.set (c : Chip) (a : Nat) (f : Fld) (v : Nat) : Chip := c.wr a (setBits (c.rd a) f v)

/-- Is a one-bit field set? -/
def Chip.flag (c : Chip) (a : Nat) (f : Fld) : Bool := c.get a f != 0

/-- Add n to a counter field that saturates at its top. -/
def Chip.incSat (c : Chip) (a : Nat) (f : Fld) (n : Nat) : Chip := c.set a f (min f.top (c.get a f + n))

/-- Add n to a counter field that wraps. -/
def Chip.incWrap (c : Chip) (a : Nat) (f : Fld) (n : Nat) : Chip := c.set a f (c.get a f + n)

/-- The staged value of the CS register at address a. -/
def Chip.rdS (c : Chip) (a : Nat) : Word := SMap.get regReset c.staged a

/-- Set the staged value of the CS register at address a. -/
def Chip.wrS (c : Chip) (a : Nat) (w : Word) : Chip := { c with staged := SMap.set regReset c.staged a w }

/-- Set a field in the applied and in the staged copy, as the M40's own writes of R510 do; DIRTY is not touched. -/
def Chip.setBoth (c : Chip) (a : Nat) (f : Fld) (v : Nat) : Chip :=
  (c.set a f v).wrS a (setBits (c.rdS a) f v)

/-- Bits of a register word that some table field names (R8: the others are written as 0 and read 0). -/
def namedMask (fs : List RegField) : Word :=
  fs.foldl (fun m f => m ||| (Fld.mask ⟨f.lo, f.width⟩)) 0

/-- The mask of the fields of a row with a given Access code. -/
def accMask (fs : List RegField) (a : Access) : Word := namedMask (fs.filter (fun f => f.acc = a))

/-- R9: a write of value v to a register holding w, by the Access codes of its fields: RW sets, W1C clears the bits
written 1, RO and WO keep what is held. -/
def accessWrite (fs : List RegField) (w v : Word) : Word :=
  let rw := accMask fs .rw
  let wc := accMask fs .w1c
  ((w &&& ~~~rw) ||| (v &&& rw)) &&& ~~~(v &&& wc)

/-- The addresses of the CS registers of commit group g in the window of die d, in table order. -/
def rowAddrs (r : RegRow) (d g : Nat) : List Nat :=
  match r.grp with
  | none => []
  | some (b, m) =>
    if r.isCommit || !r.dies.has d then []
    else
      let firsts := match r.dims with
        | [] => if b = g then [0] else []
        | (n, _) :: _ => (List.range n).filter (fun i => b + m * i == g)
      match r.dims with
      | [] => firsts.map (fun _ => dieBase d + r.base)
      | [(_, st)] => firsts.map (fun i => dieBase d + r.base + i * st)
      | (_, st) :: (n2, st2) :: _ =>
        firsts.flatMap (fun i => (List.range n2).map (fun j => dieBase d + r.base + i * st + j * st2))

/-- The MiB page of a die window that holds the registers of commit group g (R65 and the chapters' group tables). -/
def groupPages (g : Nat) : List Nat :=
  if g = 1 then [0x03E] else if g ≤ 3 then [0x010] else if g = 4 then [0x011] else if g = 5 then [0x012]
  else if g ≤ 7 then [0x013] else if g = 8 then [0x020] else if g = 9 then [0x021] else if g ≤ 0xB then [0x016]
  else if g = 0xC then [0x022] else if g ≤ 0xE then [0x023] else if g = 0xF then [0x025]
  else if g ≤ 0x17 then [0x013] else if g ≤ 0x1F then [0x014] else if g = 0x20 then [0x015]
  else if g = 0x21 then [0x014] else if g = 0x22 then [0x015] else if g = 0x23 then [0x026]
  else if g = 0x24 then [0x03E] else if g = 0x25 then [0x038] else if g = 0x26 then [0x039]
  else if g = 0x27 then [0x03C] else if g = 0x28 then [0x03A] else if g = 0x29 then [0x03E]
  else if g < 0x40 then [] else if g < 0x140 then [0x015] else if g < 0x180 then [0x015] else []

/-- The CS registers of commit group g of die d. -/
def groupAddrs (d g : Nat) : List Nat :=
  ((groupPages g).flatMap rowsAt).flatMap (fun r => rowAddrs r d g)

/-- The lane record of global lane l (die l / 64, local lane l % 64). -/
def Chip.lane (c : Chip) (l : Nat) : Lane := SMap.get (fun _ => {}) c.lanes l

/-- Replace the lane record of global lane l. -/
def Chip.setLane (c : Chip) (l : Nat) (x : Lane) : Chip := { c with lanes := SMap.set (fun _ => {}) c.lanes l x }

/-- Change the lane record of global lane l. -/
def Chip.modLane (c : Chip) (l : Nat) (f : Lane → Lane) : Chip := c.setLane l (f (c.lane l))

/-- The structural configuration of die d. -/
def Chip.die (c : Chip) (d : Nat) : DieCfg := SMap.get (fun _ => {}) c.cfg d

/-- Change the switching record. -/
def Chip.modSw (c : Chip) (f : Switch → Switch) : Chip := { c with sw := f c.sw }

end Sys2Proof.Machine
end

