-- ==== Sys2Proof/Machine/Ops.lean ====
section
/-!
DEFINITION. Operations shared by the families: device time, performance counters, notices, host events and vectors,
CRC-16, link control messages, and lane states.
-/

namespace Sys2Proof.Machine

/-! ### Device time (R395) -/

/-- Units of 2⁻¹⁶/5 ns in a nanosecond. -/
def tuNs : Nat := 327680

/-- Units in a microsecond, a millisecond and a second. -/
def tuUs : Nat := tuNs * 1000
def tuMs : Nat := tuNs * 1000000
def tuSec : Nat := tuNs * 1000000000

/-- FRAC, NSEC and SEC of a device time. -/
def timeFrac (t : Nat) : Nat := t % tuNs / 5
def timeNsec (t : Nat) : Nat := t / tuNs % 1000000000
def timeSec (t : Nat) : Nat := t / tuSec % 2 ^ 48

/-- The device time of a second and nanosecond count. -/
def timeOf (sec nsec : Nat) : Nat := sec * tuSec + nsec * tuNs

/-- The slot the chip is in: 4 core cycles (R196). -/
def Chip.slot (c : Chip) : Nat := c.cycle / 4

/-! ### Hubs -/

/-- The record of a hub, 0 A (on C0), 1 B (on C7). -/
def Chip.hub (c : Chip) (h : Nat) : Hub := SMap.get (fun _ => {}) c.hubs h

def Chip.setHub (c : Chip) (h : Nat) (x : Hub) : Chip := { c with hubs := SMap.set (fun _ => {}) c.hubs h x }

def Chip.modHub (c : Chip) (h : Nat) (f : Hub → Hub) : Chip := c.setHub h (f (c.hub h))

/-- The core die of a hub (R13). -/
def hubDie (h : Nat) : Nat := if h = 0 then 32 else 39

/-- The primary hub, when one is (R17): MGT_ROLE.PRIMARY. -/
def Chip.primary (c : Chip) : Option Nat :=
  if c.flag (R.MGT_ROLE 32) F.MGT_ROLE_PRIMARY then some 0
  else if c.flag (R.MGT_ROLE 39) F.MGT_ROLE_PRIMARY then some 1 else none

/-- The die of the primary hub; C0's when neither is primary. -/
def Chip.primaryDie (c : Chip) : Nat := hubDie (c.primary.getD 0)

/-- Signal an MSI-X vector of a hub's function; while its PCIe link is down the vector stays pending (R449). -/
def Chip.signal (c : Chip) (h v : Nat) : Chip :=
  c.modHub h (fun x =>
    if x.linkUp then { x with vecSent := SMap.modify (fun _ => 0) x.vecSent v (· + 1) }
    else if v ∈ x.vecPending then x else { x with vecPending := x.vecPending ++ [v] })

/-- Enter a 16-byte entry in the host event ring of a hub (R450): lost and counted when the ring is full; vector 62 when
the ring passes from empty to not empty. -/
def Chip.evqPush (c : Chip) (h : Nat) (e : BitVec 128) : Chip :=
  let a := R.MGT_EVQ_PTR (hubDie h)
  let hd := c.get a F.MGT_EVQ_PTR_HEAD
  let tl := c.get a F.MGT_EVQ_PTR_TAIL
  if hd % 4096 = tl % 4096 ∧ hd ≠ tl then
    c.incSat (R.MGT_EVQ_STAT (hubDie h)) F.MGT_EVQ_STAT_LOST 1
  else
    let c1 := (c.modHub h (fun x => { x with events := SMap.set (fun _ => 0) x.events (hd % 4096) e })).set a
      F.MGT_EVQ_PTR_HEAD (hd + 1)
    if hd = tl then c1.signal h 62 else c1

/-! ### Notices (R32 to R37) -/

/-- A notice entry, laid out as R32 gives. -/
def mkNotice (ty sev die level block tile now detail : Nat) : BitVec 128 :=
  BitVec.ofNat 128
    (ty % 256 * 2 ^ 120 + sev % 4 * 2 ^ 118 + die % 64 * 2 ^ 112 + level % 16 * 2 ^ 108 + block % 16 * 2 ^ 104
      + tile % 256 * 2 ^ 96 + timeSec now % 4 * 2 ^ 94 + timeNsec now % 2 ^ 30 * 2 ^ 64 + detail % 2 ^ 64)

/-- TYPE and SEVERITY of an entry. -/
def entryType (e : BitVec 128) : Nat := e.toNat / 2 ^ 120
def entrySev (e : BitVec 128) : Nat := e.toNat / 2 ^ 118 % 4
/-- DIE, LEVEL, BLOCK and TILE as one number, the order of R35. -/
def entryUnit (e : BitVec 128) : Nat := e.toNat / 2 ^ 96 % 2 ^ 22

/-- The route of a notice type on a die (R33): bit 0 to NQ_CTL, bit 1 to NQ_MGT; severity FAULT goes to both. -/
def Chip.route (c : Chip) (d ty sev : Nat) : Nat :=
  if sev = 2 then 3
  else if ty = 0 ∨ 0x0D ≤ ty then 0
  else (c.rd (R.FLT_NQ_ROUTE d)).toNat / 2 ^ (2 * ty) % 4

/-- The lost counter and overflow fields of queue q. -/
def nqLost (q : Nat) : Fld := if q = 0 then F.FLT_NQ_LOST_CTL_LOST else F.FLT_NQ_LOST_MGT_LOST
def nqOvf (q : Nat) : Fld := if q = 0 then F.FLT_NQ_STATUS_CTL_OVF else F.FLT_NQ_STATUS_MGT_OVF
def nqReserve (q : Nat) : Fld := if q = 0 then F.FLT_NQ_STATUS_CTL_RESERVE else F.FLT_NQ_STATUS_MGT_RESERVE
def nqPtr (d q : Nat) : Nat := if q = 0 then R.FLT_NQ_CTL_PTR d else R.FLT_NQ_MGT_PTR d
def nqHead : Fld := F.FLT_NQ_CTL_PTR_HEAD
def nqTail : Fld := F.FLT_NQ_CTL_PTR_TAIL

/-- Count a notice turned away by queue q of die d and, when `full`, set its overflow bit (R35, R36). -/
def Chip.nqTurnAway (c : Chip) (d q : Nat) (full : Bool) : Chip :=
  let c1 := c.incSat (R.FLT_NQ_LOST d) (nqLost q) 1
  if full then c1.set (R.FLT_NQ_STATUS d) (nqOvf q) 1 else c1

/-- Place a notice in the 16-deep staging buffer of queue q of die d (R35). -/
def Chip.nqStage (c : Chip) (d q : Nat) (e : BitVec 128) : Chip :=
  let k := d * 2 + q
  let l := SMap.get (fun _ => []) c.nq.staged k
  if 16 ≤ l.length then c.nqTurnAway d q true
  else { c with nq := { c.nq with staged := SMap.set (fun _ => []) c.nq.staged k (l ++ [⟨c.cycle, e⟩]) } }

/-- Is die d isolated behind a region firebreak? -/
def Chip.isolated (c : Chip) (d : Nat) : Bool := c.flag (R.FLT_FB_STATE d) F.FLT_FB_STATE_REGION_ISO

/-- NOTICE_POST: place a notice in each queue of die d it is routed to. Once the unit's region is isolated, nothing is
posted for its blocks and tiles (R20). -/
def Chip.post (c : Chip) (d ty sev die level block tile detail : Nat) : Chip :=
  if level ≤ 2 ∧ c.isolated die then c
  else
    let e := mkNotice ty sev die level block tile c.now detail
    let r := c.route d ty sev
    let c1 := if r % 2 = 1 then c.nqStage d 0 e else c
    if 2 ≤ r then c1.nqStage d 1 e else c1

/-- Enter one of the management complex's own events (TYPE 0x80 to 0x84, R450) in a hub's host event ring. -/
def Chip.hostEvent (c : Chip) (h ty detail : Nat) : Chip :=
  let c1 := c.evqPush h (mkNotice ty 0 (hubDie h) 4 0 0 c.now detail)
  if ty = 0x84 then c1.signal h 68 else c1

/-- HOST_EVENT_ENTRY: the management complex of the primary hub copies an NQ_MGT entry into the host event ring when its
type is set in MGT_EVT_MASK or its severity is FAULT (R450). -/
def Chip.copyToHost (c : Chip) (e : BitVec 128) : Chip :=
  match c.primary with
  | none => c
  | some h =>
    if entrySev e = 2 ∨ (entryType e < 16 ∧ bitOf (c.get (R.MGT_EVT_MASK (hubDie h)) F.MGT_EVT_MASK_TYPES) (entryType e))
    then c.evqPush h e else c

/-! ### Performance counters (R486 to R489) -/

/-- Add n events to a 48-bit count: past its end it continues from PERIOD and reports an overflow (R489). -/
def countUp (x : Counter) (n : Nat) : Counter × Bool :=
  let s := x.count + n
  if s < 2 ^ 48 then ({ x with count := s }, false)
  else
    let past := s - 2 ^ 48
    ({ x with count := (if x.period = 0 then past else 2 ^ 48 - x.period + past) % 2 ^ 48 }, true)

/-- Does counter x of die d count event ev of unit u and class k (R486, R487)? Unit or class `none`: the event allows no
restriction. -/
def countsEvent (x : Counter) (d ev : Nat) (u k : Option Nat) : Bool :=
  getBits x.sel F.PMC_SEL_ENABLE == 1 && getBits x.sel F.PMC_SEL_EVENT == ev
    && (if d < 32 then decide (ev < 0x100) else decide (0x100 ≤ ev))
    && (match u with | none => true | some v => getBits x.sel F.PMC_SEL_UNIT == 0xFF || getBits x.sel F.PMC_SEL_UNIT == v)
    && (match k with | none => true | some v => getBits x.sel F.PMC_SEL_CLASS == 8 || getBits x.sel F.PMC_SEL_CLASS == v)

/-- Counter i (die i / 32) passes its end: the overflow bit, and the signal to its owner when IRQ is set. -/
def Pmc.overflow (p : Pmc) (i : Nat) (x : Counter) : Pmc :=
  let d := i / 32
  let p1 := { p with ovf := SMap.modify (fun _ => 0) p.ovf d (fun m => putBit m (i % 32) true) }
  if getBits x.sel F.PMC_SEL_IRQ = 1 then
    { p1 with signals := SMap.modify (fun _ => 0) p1.signals (d * 2 + getBits x.sel F.PMC_SEL_OWNER) (· + 1) }
  else p1

/-- Count n events on one programmable counter. -/
def Pmc.bump (p : Pmc) (i : Nat) (n : Nat) : Pmc :=
  let x := SMap.get (fun _ => {}) p.prog i
  let r := countUp x n
  let p1 := { p with prog := SMap.set (fun _ => {}) p.prog i r.1 }
  if r.2 then p1.overflow i x else p1

/-- The keys of the listed counters of die d that count the event. -/
def Pmc.hits (p : Pmc) (d ev : Nat) (u k : Option Nat) : List Nat :=
  (p.prog.filter (fun e => e.1 / 32 == d && countsEvent e.2 d ev u k)).map (·.1)

/-- Count n events ev of die d, unit u, class k on every enabled programmable counter that names them. -/
def Chip.pmcEvent (c : Chip) (d ev : Nat) (u k : Option Nat) (n : Nat) : Chip :=
  { c with pmc := (c.pmc.hits d ev u k).foldl (fun p i => p.bump i n) c.pmc }

/-- Add n to fixed counter k of die d, which wraps at 48 bits (R487, R489). -/
def Chip.pmcFixed (c : Chip) (d k n : Nat) : Chip :=
  { c with pmc := { c.pmc with fixed := SMap.modify (fun _ => 0) c.pmc.fixed (d * 8 + k) (fun v => (v + n) % 2 ^ 48) } }

/-- A cell dropped on die d for any cause: fixed counter 5. -/
def Chip.pmcDrop (c : Chip) (d n : Nat) : Chip := c.pmcFixed d 5 n

/-! ### CRC-16 (R77) -/

/-- One bit into the CRC register, polynomial x¹⁶ + x¹² + x⁵ + 1. -/
def crcBit (r : BitVec 16) (b : Bool) : BitVec 16 :=
  if r.msb != b then (r <<< 1) ^^^ 0x1021 else r <<< 1

/-- One byte, most significant bit first. -/
def crcByte (r : BitVec 16) (v : Nat) : BitVec 16 :=
  [7, 6, 5, 4, 3, 2, 1, 0].foldl (fun a i => crcBit a (bitOf v i)) r

/-- Header bits [95:16] of a cell as a number (R75). -/
def Cell.header80 (c : Cell) : Nat :=
  c.kind.toNat * 2 ^ 77 + c.tc.toNat * 2 ^ 74 + c.colour.toNat * 2 ^ 72 + c.first.toNat * 2 ^ 71 + c.last.toNat * 2 ^ 70
    + c.ce.toNat * 2 ^ 69 + c.retx.toNat * 2 ^ 68 + c.dest.toNat * 2 ^ 48 + c.src.toNat * 2 ^ 28 + c.seq.toNat * 2 ^ 6
    + c.digest.toNat

/-- Cell bytes 0 to 9: header bits [95:16], byte 0 first (R76). -/
def Cell.headBytes (c : Cell) : List Nat := (List.range 10).map (fun i => c.header80 / 2 ^ (72 - 8 * i) % 256)

/-- The CRC-16 over cell bytes 0 to 9 and 12 to 63. -/
def Cell.crcOf (c : Cell) : BitVec 16 :=
  (c.headBytes ++ leBytes 52 c.payload.toNat).foldl crcByte 0xFFFF

/-- The cell with its CRC written afresh. -/
def Cell.seal (c : Cell) : Cell := { c with crc := c.crcOf }

/-- Does the CRC of a cell match? -/
def Cell.crcOk (c : Cell) : Bool := c.crc = c.crcOf

/-! ### Link control cells (R101) -/

/-- The link control cell of a message: KIND 5, TC6, SCOPE 0, OP, LANE_TAG, LC_SEQ and body. -/
def lcCell (laneTag : Nat) (m : Lc) : Cell :=
  { kind := 5, tc := 6, first := true, last := true,
    payload := payloadOf ([0, m.op, laneTag, m.seq] ++ m.body) : Cell }.seal

/-- Queue a link control message on a lane for its next free cell slot (R102). -/
def Chip.lcSend (c : Chip) (l op seq : Nat) (body : List Nat) : Chip :=
  c.modLane l (fun x => { x with lcOut := x.lcOut ++ [⟨op, seq, body⟩] })

/-- Send a new request that expects an answer: it carries the lane's next LC_SEQ and waits (R105). -/
def Chip.lcRequest (c : Chip) (l op : Nat) (body : List Nat) : Chip :=
  let s := (c.lane l).lcSeq
  c.modLane l (fun x => { x with lcOut := x.lcOut ++ [⟨op, s, body⟩], lcSeq := (s + 1) % 256,
                                  reqs := x.reqs ++ [⟨op, s, 0, body⟩] })

/-- The lane has an unanswered request with this op and LC_SEQ. -/
def Lane.waits (x : Lane) (op seq : Nat) : Bool := x.reqs.any (fun r => r.op == op && r.seq == seq)

/-- The lane has an unanswered request with this op. -/
def Lane.waitsOp (x : Lane) (op : Nat) : Bool := x.reqs.any (fun r => r.op == op)

/-- An answer arrives: its request no longer waits. -/
def Chip.lcAnswered (c : Chip) (l op seq : Nat) : Chip :=
  c.modLane l (fun x => { x with reqs := x.reqs.filter (fun r => !(r.op == op && r.seq == seq)) })

/-- R105: the receiver acts on a request only once. Has the request (op, LC_SEQ) been acted on last? -/
def Lane.acted? (x : Lane) (op seq : Nat) : Bool := SMap.get (fun _ => 0) x.acted op == seq + 1

/-- Note that the request (op, LC_SEQ) has been acted on. -/
def Chip.lcActed (c : Chip) (l op seq : Nat) : Chip :=
  c.modLane l (fun x => { x with acted := SMap.set (fun _ => 0) x.acted op (seq + 1) })

end Sys2Proof.Machine
end

