-- ==== Sys2Proof/Machine/Operands.lean ====
section
/-!
DEFINITION. The units that command operands name: lanes, blocks, ports and their grouping (R13, R44, R45), classes and
their lossless bits (R93, R249), uplinks and crossbar ports (R14, R196).
-/

namespace Sys2Proof.Machine

/-! ### Lanes, blocks, fibre pairs -/

/-- The port die, local lane and block of a global lane (0 to 2,047). -/
def laneDie (l : Nat) : Nat := l / 64
def laneLocal (l : Nat) : Nat := l % 64
def laneBlock (l : Nat) : Nat := l % 64 / 8

/-- The global lanes of block b of die d, and of die d. -/
def blockLanes (d b : Nat) : List Nat := (List.range 8).map (fun i => d * 64 + b * 8 + i)
def dieLanes (d : Nat) : List Nat := (List.range 64).map (fun i => d * 64 + i)


/-! ### Roles and ports -/

/-- The LANE_MAP entry of a lane: ROLE [1:0], CLEAR_CAP [2], WIDTH [4:3] (R44). -/
def Chip.laneEntry (c : Chip) (l : Nat) : Nat := nth (c.die (laneDie l)).lanes (laneLocal l)
def Chip.role (c : Chip) (l : Nat) : Nat := c.laneEntry l % 4
def Chip.clearCap (c : Chip) (l : Nat) : Bool := bitOf (c.laneEntry l) 2

/-- The address of the lane's block's lane-map-and-spray-set register. -/
def sprayReg (l : Nat) : Nat := R.PRT_SPRAY (laneDie l) (laneBlock l)

/-- The port width code of a lane in the applied map: 0 one lane, 1 two, 2 four (PRT_SPRAY_b.WIDTH). -/
def Chip.widthCode (c : Chip) (l : Nat) : Nat := (c.rd (sprayReg l)).toNat / 2 ^ (2 * (l % 8)) % 4

/-- Lanes in the port a lane belongs to. -/
def Chip.portWidth (c : Chip) (l : Nat) : Nat := 2 ^ c.widthCode l

/-- The lowest local lane of the port that holds a lane: the port's number on its die. -/
def Chip.portOf (c : Chip) (l : Nat) : Nat := laneLocal l - laneLocal l % c.portWidth l

/-- Does local lane p of die d start a port in the applied map? -/
def Chip.startsPort (c : Chip) (d p : Nat) : Bool := c.role (d * 64 + p) == 1 && p % c.portWidth (d * 64 + p) == 0

/-- The global lanes of port p of die d. -/
def Chip.portLanes (c : Chip) (d p : Nat) : List Nat :=
  (List.range (c.portWidth (d * 64 + p))).map (fun i => d * 64 + p + i)

/-- Is a lane in its applied spray set (PRT_SPRAY_b.SPRAY)? -/
def Chip.inSpray (c : Chip) (l : Nat) : Bool := bitOf (c.rd (sprayReg l)).toNat (16 + l % 8)

/-- Does the port that holds a lane have ENABLE set? -/
def Chip.portEnabled (c : Chip) (l : Nat) : Bool := bitOf (c.rd (sprayReg l)).toNat (24 + c.portOf l % 8)

/-- Clear a lane's SPRAY bit in the applied and the staged copy (R218, R510). -/
def Chip.clearSpray (c : Chip) (l : Nat) : Chip := c.setBoth (sprayReg l) ⟨16 + l % 8, 1⟩ 0

/-! ### Lane states (R113) -/

abbrev LS.dark : Nat := 0
abbrev LS.tuning : Nat := 1
abbrev LS.training : Nat := 2
abbrev LS.active : Nat := 3
abbrev LS.draining : Nat := 4
abbrev LS.drained : Nat := 5
abbrev LS.drowsy : Nat := 6
abbrev LS.cleared : Nat := 7
abbrev LS.failed : Nat := 8

def lstat (l : Nat) : Nat := R.PRT_LSTAT (laneDie l) (laneLocal l)

/-- PRT_LSTAT_L.STATE of a lane. -/
def Chip.laneState (c : Chip) (l : Nat) : Nat := c.get (lstat l) F.PRT_LSTAT_STATE

/-- The ACTIVE lanes of port p of die d that are in the applied spray set. -/
def Chip.portActive (c : Chip) (d p : Nat) : List Nat :=
  (c.portLanes d p).filter (fun l => c.laneState l == LS.active && c.inSpray l)

/-- The register and bit that show the firebreak of tile t of die d: FLT_FB_TILE_LO and _HI for lanes and crossbar ports,
RED_LG_FB_LO and _HI for accumulator lane groups, tiles 64 to 111 of a core die (R337). -/
def tileFbReg (d t : Nat) : Nat :=
  if t < 32 then R.FLT_FB_TILE_LO d else if t < 64 then R.FLT_FB_TILE_HI d
  else if t < 96 then R.RED_LG_FB_LO d else R.RED_LG_FB_HI d

/-- Is a tile of die d behind a firebreak? -/
def Chip.tileFb (c : Chip) (d t : Nat) : Bool := bitOf (c.rd (tileFbReg d t)).toNat (t % 32)

/-- Set or clear the firebreak bit of a tile. -/
def Chip.setTileFb (c : Chip) (d t : Nat) (b : Bool) : Chip := c.set (tileFbReg d t) ⟨t % 32, 1⟩ b.toNat

/-- Is block or cluster b of die d behind a firebreak? -/
def Chip.blockFb (c : Chip) (d b : Nat) : Bool := bitOf (c.get (R.FLT_FB_STATE d) F.FLT_FB_STATE_BLOCK_FB) b

def Chip.setBlockFb (c : Chip) (d b : Nat) (v : Bool) : Chip := c.set (R.FLT_FB_STATE d) ⟨b, 1⟩ v.toNat

/-- A port is down when every lane of it is behind a tile firebreak (R22). -/
def Chip.portDown (c : Chip) (d p : Nat) : Bool := (c.portLanes d p).all (fun l => c.tileFb d (laneLocal l))

/-! ### Classes -/

/-- Is class k lossless in the applied class map of die d? TC4 to TC7 always are (R93, R249). -/
def Chip.lossless (c : Chip) (d k : Nat) : Bool :=
  decide (4 ≤ k) || bitOf (c.rd (R.SCH_CLASS_MAP d)).toNat k

/-- Is class k STRICT on die d (R249)? -/
def Chip.strict (c : Chip) (d k : Nat) : Bool := bitOf (c.rd (R.SCH_CLASS_MAP d)).toNat (8 + k)

/-- The WFQ weight of class k on die d. -/
def Chip.weight (c : Chip) (d k : Nat) : Nat :=
  (if k < 4 then c.rd (R.SCH_WEIGHT_LO d) else c.rd (R.SCH_WEIGHT_HI d)).toNat / 2 ^ (8 * (k % 4)) % 256

/-- The mask of lossless classes of die d. -/
def Chip.losslessMask (c : Chip) (d : Nat) : Nat :=
  ((List.range 8).filter (fun k => c.lossless d k)).foldl (fun m k => m + 2 ^ k) 0

/-- The receive allocation ALLOC_c of die d, in cells (PRT_CR_ALLOC_c). -/
def Chip.alloc (c : Chip) (d k : Nat) : Nat := c.get (R.PRT_CR_ALLOC d k) F.PRT_CR_ALLOC_CELLS

/-! ### Uplinks and core dies -/

/-- Core die IDs in service. -/
def Chip.coresInService (c : Chip) : List Nat := (List.range 8).filter (fun k => !c.isolated (32 + k))

/-- Is the die-to-die link between port die d and core die k (0 to 7) down (R197, R198)? -/
def Chip.d2dDown (c : Chip) (d k : Nat) : Bool := SMap.get (fun _ => false) c.sw.linkDown (d * 8 + k)

/-- The effective core-die spray set of a port die (R205), as a mask. -/
def Chip.effective (c : Chip) (d : Nat) : Nat :=
  ((List.range 8).filter (fun k =>
    bitOf (c.get (R.PRT_CSPRAY d) F.PRT_CSPRAY_MASK) k && !c.isolated (32 + k) && !c.d2dDown d k
      && !c.tileFb (32 + k) d)).foldl (fun m k => m + 2 ^ k) 0

/-- Bring PRT_CSPRAY_STAT of a port die up to date (R205). -/
def Chip.showSpray (c : Chip) (d : Nat) : Chip :=
  let m (p : Nat → Bool) : Nat := ((List.range 8).filter p).foldl (fun a k => a + 2 ^ k) 0
  let a := R.PRT_CSPRAY_STAT d
  (((c.set a F.PRT_CSPRAY_STAT_EFFECTIVE (c.effective d)).set a F.PRT_CSPRAY_STAT_ISOLATED
    (m (fun k => c.isolated (32 + k)))).set a F.PRT_CSPRAY_STAT_LINK_DOWN (m (fun k => c.d2dDown d k))).set a
    F.PRT_CSPRAY_STAT_XPORT_FB (m (fun k => c.tileFb (32 + k) d))

/-- The same for every port die. -/
def Chip.showSprayAll (c : Chip) : Chip := (List.range 32).foldl Chip.showSpray c

/-- The management core die (R189): C0 while in service, else C7, as a core index. -/
def Chip.mgmtCore (c : Chip) : Nat := if c.isolated 32 then 7 else 0

/-- May an envelope for destination die e (0 to 39) go through core die k from port die d: the links at both ends up and
the crossbar port not behind a firebreak (R198, R214)? -/
def Chip.pathOpen (c : Chip) (d k e : Nat) : Bool :=
  !c.isolated (32 + k) && !c.d2dDown d k && !c.tileFb (32 + k) d
    && (if e < 32 then !c.d2dDown e k && !c.tileFb (32 + k) e else e == 32 + k)

/-- Does a partial load hold the region (R63)? -/
def Chip.regionLoading (c : Chip) (d : Nat) : Bool :=
  match SMap.get (fun _ => none) c.loading d with
  | some x => !x.dead
  | none => false

/-- The applied switch ID (R83). -/
def Chip.switchId (c : Chip) (d : Nat) : Nat := c.get (R.PRT_SWITCH_ID d) F.PRT_SWITCH_ID_ID

end Sys2Proof.Machine
end

