-- ==== Sys2Proof/Machine/Flags.lean ====
section
/-!
DEFINITION. The status the spec computes from the state: pool levels and class holds (R226, R227), the spill state
(R235), credit limits (R107, R108, R112), and the LFSR and drop decision (R231, R514).
-/

namespace Sys2Proof.Machine

/-- Buffers of a block pool (R219). -/
def poolSize : Nat := 163840

/-- The reserved part of the pool of block b of die d (R222): ALLOC_c over lossless classes and lanes of ROLE 1. -/
def Chip.reservedOf (c : Chip) (d b : Nat) : Nat :=
  let per := ((List.range 8).filter (fun k => c.lossless d k)).foldl (fun s k => s + c.alloc d k) 0
  per * ((blockLanes d b).filter (fun l => c.role l == 1)).length

/-- The shared part: the rest of the pool. -/
def Chip.sharedSize (c : Chip) (d b : Nat) : Nat := poolSize - c.reservedOf d b

/-- The thresholds in force, WARN, PRESSURE, FLOOR: each the lesser of its applied value and the shared size (R230). -/
def Chip.threshold (c : Chip) (d b lv : Nat) : Nat :=
  let v := if lv = 1 then c.get (R.BUF_POOL_WARN d b) F.BUF_POOL_WARN_WARN
    else if lv = 2 then c.get (R.BUF_POOL_PRS d b) F.BUF_POOL_PRS_PRESSURE
    else c.get (R.BUF_POOL_FLR d b) F.BUF_POOL_FLR_FLOOR
  min v (c.sharedSize d b)

/-- Shared occupancy of a pool. -/
def Chip.occ (c : Chip) (d b : Nat) : Nat := c.get (R.BUF_POOL_STAT d b) F.BUF_POOL_STAT_OCC

/-- R226: the pool is at a level while its occupancy is at or above the threshold, and leaves it when the occupancy
falls below the threshold minus 2,048. -/
def holdsLevel (old occ lv thr : Nat) : Bool := decide (thr ≤ occ) || (decide (lv ≤ old) && decide (thr ≤ occ + 2048))

def newLevel (old occ w p f : Nat) : Nat :=
  if holdsLevel old occ 3 f then 3 else if holdsLevel old occ 2 p then 2 else if holdsLevel old occ 1 w then 1 else 0

/-- The classes a pool holds at a level (R226): at PRESSURE the lossless ones of TC0 to TC3, at FLOOR also TC5 and
TC6. -/
def Chip.holdBits (c : Chip) (d lv : Nat) : Nat :=
  (if 2 ≤ lv then c.losslessMask d % 16 else 0) + (if 3 ≤ lv then 0x60 else 0)

/-- POOL_LEVEL_CHANGE: give the pool a shared occupancy and bring LEVEL and HOLD up to date. -/
def Chip.setOcc (c : Chip) (d b o : Nat) : Chip :=
  let a := R.BUF_POOL_STAT d b
  let lv := newLevel (c.get a F.BUF_POOL_STAT_LEVEL) o (c.threshold d b 1) (c.threshold d b 2) (c.threshold d b 3)
  ((c.set a F.BUF_POOL_STAT_OCC o).set a F.BUF_POOL_STAT_LEVEL lv).set a F.BUF_POOL_STAT_HOLD (c.holdBits d lv)

/-- The pool's level. -/
def Chip.level (c : Chip) (d b : Nat) : Nat := c.get (R.BUF_POOL_STAT d b) F.BUF_POOL_STAT_LEVEL

/-- Recompute the reserved part shown in BUF_POOL_RSV_b, and the level, of every pool of die d (R222, R230). -/
def Chip.refreshPools (c : Chip) (d : Nat) : Chip :=
  (List.range 8).foldl (fun s b =>
    (s.set (R.BUF_POOL_RSV d b) F.BUF_POOL_RSV_RESERVED (s.reservedOf d b)).setOcc d b (s.occ d b)) c

/-- The hold mask of die d (R227): the OR over its pools. TC7 is never held. -/
def Chip.holdMask (c : Chip) (d : Nat) : Nat :=
  ((List.range 7).filter (fun k =>
    (List.range 8).any (fun b => bitOf (c.get (R.BUF_POOL_STAT d b) F.BUF_POOL_STAT_HOLD) k))).foldl (fun m k => m + 2 ^ k) 0

/-- Cells a core die's spill pool can hold: SPILL × 16,777,216 (R219). -/
def Chip.spillSize (c : Chip) (k : Nat) : Nat := (c.die (32 + k)).spill * 16777216

/-- The spill state of core die k (R235): 0 below WARN to 3 at or above FLOOR. -/
def Chip.spillLevel (c : Chip) (k : Nat) : Nat :=
  let o := (c.rd (R.BUF_SPILL_OCC (32 + k))).toNat
  let at_ (f : Fld) : Bool := decide (c.get (R.BUF_SPILL_THR (32 + k)) f * c.spillSize k ≤ o * 256)
  if at_ F.BUF_SPILL_THR_FLOOR then 3 else if at_ F.BUF_SPILL_THR_PRESSURE then 2
  else if at_ F.BUF_SPILL_THR_WARN then 1 else 0

/-! ### LFSR and profiles (R514, R231) -/

/-- One advance of a 16-bit LFSR: shift left, bring in the XOR of bits 15, 13, 12 and 10. -/
def lfsrNext (v : Nat) : Nat :=
  let b := (bitOf v 15 != bitOf v 13) != (bitOf v 12 != bitOf v 10)
  (v * 2) % 65536 + b.toNat

/-- What a profile decides (R231). -/
inductive Verdict where
  | pass | drop | mark
  deriving DecidableEq, Repr

/-- The profile of class k and colour g on die d. -/
def Chip.profile (c : Chip) (d k g : Nat) : Word := c.rd (R.BUF_PROF d k g)

/-- The comparison value p of R231, or none where the cell is admitted before the comparison. -/
def profileP (start end_ pmax o : Nat) : Option Nat :=
  let s := start * 1024
  let e := end_ * 1024
  if o < s then none
  else if e ≤ o then some 65536
  else some (pmax * 256 * (o - s) / (e - s))

/-- R231 for a cell of class k and colour g at pool (d, b): the verdict, and whether the LFSR is compared (and so
advances). -/
def Chip.profileVerdict (c : Chip) (d b k g lfsr : Nat) (egress : Bool) : Verdict × Bool :=
  let w := c.profile d k g
  let act := getBits w F.BUF_PROF_ACTION
  let o := c.occ d b
  let ll := c.lossless d k
  if act = 0 then (.pass, false)
  else if !ll && decide (o < c.threshold d b 2) then (.pass, false)
  else if ll && decide (o < c.threshold d b 1) then (.pass, false)
  else
    match profileP (getBits w F.BUF_PROF_START) (getBits w F.BUF_PROF_END) (getBits w F.BUF_PROF_PMAX) o with
    | none => (.pass, false)
    | some p =>
      if lfsr < p then
        if act = 1 ∧ !ll then (.drop, true)
        else if egress then (.mark, true) else (.pass, true)
      else (.pass, true)

/-! ### Credits (R107, R108, R112) -/

/-- A counter of a class, modulo 2²⁴. -/
def cnt (m : SMap Nat) (k : Nat) : Nat := SMap.get (fun _ => 0) m k
def cntSet (m : SMap Nat) (k v : Nat) : SMap Nat := SMap.set (fun _ => 0) m k (v % 2 ^ 24)

/-- The receiver's LIMIT_c: RELEASED_c + ALLOC_c, held up by the decreases not yet absorbed (R107, R112). -/
def Chip.limit (c : Chip) (l k : Nat) : Nat :=
  let x := c.lane l
  (cnt x.released k + c.alloc (laneDie l) k + SMap.get (fun _ => 0) x.unadvertised k) % 2 ^ 24

/-- (LIMIT_c − SENT_c) mod 2²⁴ at the sender of a lane (R108). -/
def Lane.headroom (x : Lane) (k : Nat) : Nat := (cnt x.txLimit k + 2 ^ 24 - cnt x.sent k) % 2 ^ 24

/-- R108: may the lane send one more cell of lossless class k? -/
def Lane.mayCredit (x : Lane) (k : Nat) : Bool := decide (1 ≤ x.headroom k) && decide (x.headroom k < 2 ^ 23)

/-- The body of CREDIT, and of CREDIT_SYNC: a mask byte, then eight 3-byte counts. -/
def creditBody (mask : Nat) (vals : List Nat) : List Nat := mask :: vals.flatMap (leBytes 3)

/-- Send a CREDIT cell carrying every lossless class on lane l (R109); the limits it carries count as advertised. -/
def Chip.sendCredit (c : Chip) (l : Nat) : Chip :=
  let ls := (List.range 8).map (c.limit l)
  (c.lcSend l 0x04 (c.lane l).lcSeq (creditBody (c.losslessMask (laneDie l)) ls)).modLane l
    (fun x => { x with advertised := (List.range 8).foldl (fun m k => cntSet m k (nth ls k)) x.advertised })

/-- Has some class an advance that has not been advertised? -/
def Chip.creditAdvance (c : Chip) (l k : Nat) : Nat :=
  (c.limit l k + 2 ^ 24 - cnt (c.lane l).advertised k) % 2 ^ 24

/-- RELEASED_c of a lane advances by n (a buffer was freed, or a cell was dropped after its CRC check): an advance of 16
since the last CREDIT cell sends one at once (R109). -/
def Chip.release (c : Chip) (l k n : Nat) : Chip :=
  let c1 := c.modLane l (fun x =>
    let u := SMap.get (fun _ => 0) x.unadvertised k
    { x with released := cntSet x.released k (cnt x.released k + n),
             unadvertised := SMap.set (fun _ => 0) x.unadvertised k (u - n) })
  if c1.lossless (laneDie l) k && decide (16 ≤ c1.creditAdvance l k) && decide (c1.creditAdvance l k < 2 ^ 23)
  then c1.sendCredit l else c1

end Sys2Proof.Machine
end

