-- ==== Sys2Proof/Machine/Pools.lean ====
section
/-!
DEFINITION. Block pools (R219 to R225): allocation from the free lists, reference counts, release.
-/

namespace Sys2Proof.Machine

def Chip.pool (c : Chip) (d b : Nat) : Pool := SMap.get (fun _ => {}) c.sw.pools (d * 8 + b)

def Chip.setPool (c : Chip) (d b : Nat) (p : Pool) : Chip :=
  { c with sw := { c.sw with pools := SMap.set (fun _ => {}) c.sw.pools (d * 8 + b) p } }

/-- Free list i of a block pool: 10,240 buffers i, i + 16, … in ascending order after threading, then those freed. -/
def FreeList.pop (x : FreeList) (i : Nat) : Option (Nat × FreeList) :=
  if x.popped < poolSize / 16 then some (i + 16 * x.popped, { x with popped := x.popped + 1 })
  else
    match x.freed with
    | [] => none
    | n :: t => some (n, { x with freed := t })

/-- Pop a buffer from the first non-empty list at or after list i, trying n lists. The choice of list, which the spec
leaves to the manager, goes round the lists (DESIGN CHOICE, log 9). -/
def Pool.popFrom (p : Pool) : Nat → Nat → Option (Nat × Pool)
  | 0, _ => none
  | n + 1, i =>
    match (SMap.get (fun _ => {}) p.lists (i % 16)).pop (i % 16) with
    | some (v, l) => some (v, { p with lists := SMap.set (fun _ => {}) p.lists (i % 16) l, nextList := (i + 1) % 16 })
    | none => Pool.popFrom p n (i + 1)

/-- Write a cell once into the pool with a reference count (R223): the buffer, or none when no buffer is free. -/
def Chip.poolWrite (c : Chip) (d b : Nat) (x : Cell) (count : Nat) (shared : Bool) (owner : Option Nat) :
    Option (Nat × Chip) :=
  let p := c.pool d b
  match p.popFrom 16 p.nextList with
  | none => none
  | some (n, p1) =>
    let p2 := { p1 with bufs := SMap.set (fun _ => none) p1.bufs n (some ⟨x, count, shared, owner, p.auditing⟩) }
    let c1 := c.setPool d b p2
    some (n, if shared then c1.setOcc d b (c1.occ d b + 1) else c1)

/-- The buffer n of a pool, when in use. -/
def Chip.buf (c : Chip) (d b n : Nat) : Option Buf := SMap.get (fun _ => none) (c.pool d b).bufs n

/-- The cell in buffer n. -/
def Chip.bufCell (c : Chip) (d b n : Nat) : Cell := ((c.buf d b n).map (·.cell)).getD {}

/-- BUFFER_RELEASE: one release of buffer n (R223). At count 0 the buffer joins the tail of its free list, the shared
occupancy falls, and a cell still owed to a lane's credits is released there (R107, R250). -/
def Chip.poolRelease (c : Chip) (d b n : Nat) : Chip :=
  match c.buf d b n with
  | none => c
  | some x =>
    let p := c.pool d b
    if 1 < x.count then c.setPool d b { p with bufs := SMap.set (fun _ => none) p.bufs n (some { x with count := x.count - 1 }) }
    else
      let l := SMap.get (fun _ => {}) p.lists (n % 16)
      let c1 := c.setPool d b { p with bufs := SMap.set (fun _ => none) p.bufs n none,
                                       lists := SMap.set (fun _ => {}) p.lists (n % 16) { l with freed := l.freed ++ [n] } }
      let c2 := if x.shared then c1.setOcc d b (c1.occ d b - 1) else c1
      match x.owner with
      | some lane => c2.release lane x.cell.tc.toNat 1
      | none => c2

/-- Has the shared part of a pool a free buffer? -/
def Chip.sharedFree (c : Chip) (d b : Nat) : Bool := decide (c.occ d b < c.sharedSize d b)

/-- Take one decision by profile at pool (d, b) for a cell (R231), advancing the pool's LFSR when it is compared. -/
def Chip.applyProfile (c : Chip) (d b : Nat) (x : Cell) (egress : Bool) : Verdict × Chip :=
  let p := c.pool d b
  let r := c.profileVerdict d b x.tc.toNat (x.colour.toNat % 3) p.lfsr egress
  (r.1, if r.2 then c.setPool d b { p with lfsr := lfsrNext p.lfsr } else c)

end Sys2Proof.Machine
end

