-- ==== Sys2Proof/Machine/Lanes.lean ====
section
/-!
DEFINITION. Shared lane operations of the Nimium link (chapter 03): state changes with their notices, the return of
staged cells (R212), drains (R119), resumption (R511), training (R116), credit initialisation (R111), lock loss (R100).
-/

namespace Sys2Proof.Machine

/-! ### Queues of the egress side -/

/-- Key of port queue (p, k) of die d, and of staging queue k of lane l. -/
def pqKey (d p k : Nat) : Nat := (d * 64 + p) * 8 + k
def stKey (l k : Nat) : Nat := l * 8 + k

def Chip.pq (c : Chip) (d p k : Nat) : List PqEnt := SMap.get (fun _ => []) c.sw.pq (pqKey d p k)
def Chip.stq (c : Chip) (l k : Nat) : List PqEnt := SMap.get (fun _ => []) c.sw.stq (stKey l k)

def Chip.setPq (c : Chip) (d p k : Nat) (q : List PqEnt) : Chip :=
  { c with sw := { c.sw with pq := SMap.set (fun _ => []) c.sw.pq (pqKey d p k) q } }

def Chip.setStq (c : Chip) (l k : Nat) (q : List PqEnt) : Chip :=
  { c with sw := { c.sw with stq := SMap.set (fun _ => []) c.sw.stq (stKey l k) q } }

/-- LANE_REQUEUE for one class: staged cells go back to the head of their port queue in their order, without tags. -/
def Chip.requeueClass (c : Chip) (l k : Nat) : Chip :=
  let d := laneDie l
  let p := c.portOf l
  (c.setPq d p k ((c.stq l k).map (fun e => { e with tag := none }) ++ c.pq d p k)).setStq l k []

/-- R267: a cell in the lane's launch register returns to the head of its port queue. -/
def Chip.launchReturn (c : Chip) (l : Nat) : Chip :=
  match (c.lane l).launch with
  | none => c
  | some x =>
    let d := laneDie l
    (((c.setPq d x.port x.cls ({ buf := x.buf, ts := x.own } :: c.pq d x.port x.cls)).modLane l
      (fun y => { y with launch := none })).modSw
      (fun w => { w with late := SMap.set (fun _ => none) w.late (pqKey d x.port x.cls) (some x) }))

/-- LANE_REQUEUE (R212): a lane leaving ACTIVE returns its staged cells, and its launch register, to the port queues. -/
def Chip.requeue (c : Chip) (l : Nat) : Chip :=
  ((List.range 8).foldl (fun s k => s.requeueClass l k) c).launchReturn l

/-! ### State changes (R115, R124) -/

/-- Severity of a LANE_STATE cause (R124). -/
def causeSev (cause : Nat) : Nat :=
  if cause = 2 ∨ cause = 6 ∨ cause = 0x0A ∨ cause = 0x0B ∨ cause = 0x0C then 1 else 0

/-- Post a LANE_STATE notice (R124). -/
def Chip.laneNotice (c : Chip) (l new old cause : Nat) : Chip :=
  let d := laneDie l
  let depth := c.get (lstat l) F.PRT_LSTAT_DEPTH
  let partner := c.get (R.PRT_LPARTNER d (laneLocal l)) F.PRT_LPARTNER_LANE
  c.post d 0x06 (causeSev cause) d 1 (laneBlock l) (laneLocal l)
    (new + old * 2 ^ 4 + cause * 2 ^ 8 + depth * 2 ^ 16 + partner * 2 ^ 18)

/-- Move a lane to a state with no notice: leaving ACTIVE returns its staged cells (R212), entering ACTIVE clears its
WFQ times (R254), leaving DARK forgets the partner's HELLO (PRT_LPARTNER_L.VALID), DEPTH and PHASE read 0 outside their
states. -/
def Chip.laneMove (c : Chip) (l new : Nat) : Chip :=
  let old := c.laneState l
  let c1 := if old = LS.active ∧ new ≠ LS.active then c.requeue l else c
  let c2 := c1.set (lstat l) F.PRT_LSTAT_STATE new
  let c3 := if new ≠ LS.drowsy then c2.set (lstat l) F.PRT_LSTAT_DEPTH 0 else c2
  let c4 := if new ≠ LS.training then c3.set (lstat l) F.PRT_LSTAT_PHASE 0 else c3
  let c5 := if old = LS.dark ∧ new ≠ LS.dark then
      c4.set (R.PRT_LPARTNER (laneDie l) (laneLocal l)) F.PRT_LPARTNER_VALID 0 else c4
  if new = LS.active ∧ old ≠ LS.active then
    c5.modSw (fun w => { w with wfqV := SMap.set (fun _ => 0) w.wfqV l 0,
                                wfqLast := (List.range 8).foldl (fun m k => SMap.set (fun _ => 0) m (stKey l k) 0) w.wfqLast })
  else c5

/-- Move a lane to a state by a transition that names a cause: CAUSE is recorded and the notice posted. -/
def Chip.laneTo (c : Chip) (l new cause : Nat) : Chip :=
  let old := c.laneState l
  ((c.laneMove l new).set (lstat l) F.PRT_LSTAT_CAUSE cause).laneNotice l new old cause

/-! ### Drains (R119) -/

/-- Send CREDIT_SYNC with the SENT_c values as they stand (R110). -/
def Chip.sendCreditSync (c : Chip) (l : Nat) : Chip :=
  let x := c.lane l
  (c.lcSend l 0x05 x.lcSeq (creditBody (c.losslessMask (laneDie l)) ((List.range 8).map (cnt x.sent)))).modLane l
    (fun y => { y with syncDue := false })

/-- The M40 starts a drain: the lane leaves its spray duty and DRAIN goes out with a reason (R104, R119). -/
def Chip.startDrain (c : Chip) (l reason cause : Nat) : Chip :=
  if c.laneState l = LS.active then
    ((c.laneTo l LS.draining cause).modLane l (fun x => { x with drain := some ⟨reason, false, false⟩ })).lcRequest l 0x07
      [reason]
  else c

/-- The drain ends: the lane is DRAINED. -/
def Chip.drainDone (c : Chip) (l : Nat) : Chip :=
  (c.laneMove l LS.drained).modLane l (fun x => { x with drain := none, reqs := x.reqs.filter (fun r => r.op != 0x07) })

/-- Both directions quiet and CREDIT_SYNC exchanged: the drain is complete (R115, R119). -/
def Chip.drainCheck (c : Chip) (l : Nat) : Chip :=
  match (c.lane l).drain with
  | some d => if d.acked ∧ d.synced ∧ c.laneState l = LS.draining then c.drainDone l else c
  | none => c

/-! ### Resumption (R511) -/

/-- Is the lane in fade hold (R151)? -/
def Chip.fadeHold (c : Chip) (l : Nat) : Bool := c.flag (R.PRT_OPT_PWR (laneDie l) (laneLocal l)) F.PRT_OPT_PWR_HOLD

/-- Both rings of a lane are LOCKED (R131). -/
def Chip.ringsLocked (c : Chip) (l : Nat) : Bool :=
  c.get (R.PRT_RING (laneDie l) (laneBlock l) (l % 8)) F.PRT_RING_STATE == 4
    && c.get (R.PRT_RING (laneDie l) (laneBlock l) (8 + l % 8)) F.PRT_RING_STATE == 4

/-- R511: the M40 may resume the lane. One with a ring out of LOCKED stays out of service (R133; DEDUCED, log 31). -/
def Chip.mayResume (c : Chip) (l : Nat) : Bool :=
  c.role l == 1 && c.inSpray l && c.portEnabled l && !c.fadeHold l && c.ringsLocked l

/-- LANE_RESUME_SEND: begin a RESUME exchange. -/
def Chip.sendResume (c : Chip) (l : Nat) : Chip := c.lcRequest l 0x09 []

/-! ### Training (R116) -/

/-- Start training at a phase; requests of the lane are void, and no credits of either direction stand. -/
def Chip.trainAt (c : Chip) (l phase : Nat) (fast : Bool) : Chip :=
  (((c.set (lstat l) F.PRT_LSTAT_PHASE phase).set (lstat l) F.PRT_LSTAT_FAST fast.toNat)).modLane l
    (fun x => { x with reqs := [], drain := none, txInit := false, rxInit := false, lock := false, blockNo := none,
                       held := false, wait := false, acted := [], tagMiss := 0 })

/-- Enter TRAINING from T1 with no notice (TUNING done). -/
def Chip.train (c : Chip) (l : Nat) (fast : Bool) : Chip := (c.laneMove l LS.training).trainAt l 1 fast

/-- Buffers of lane l's block that still hold cells it received before its counts were zeroed: their release is no longer counted, as
RELEASED_c counts cells of RECEIVED_c (R107; DEDUCED, log 57). -/
def Chip.disown (c : Chip) (l : Nat) : Chip :=
  let p := c.pool (laneDie l) (laneBlock l)
  c.setPool (laneDie l) (laneBlock l) { p with bufs := SMap.mapVals (fun _ => none) p.bufs (fun _ e =>
    e.map (fun x => if x.owner = some l then { x with owner := none } else x)) }

/-- R111 steps 1 and 2: zero RECEIVED and RELEASED and send CREDIT_INIT with LIMIT_c = ALLOC_c. -/
def Chip.creditInit (c : Chip) (l : Nat) : Chip :=
  let c1 := (c.disown l).modLane l (fun x => { x with received := [], released := [], unadvertised := [], rxInit := false })
  let ls := (List.range 8).map (c1.limit l)
  (c1.lcRequest l 0x02 (ls.flatMap (leBytes 3))).modLane l
    (fun x => { x with advertised := (List.range 8).foldl (fun m k => cntSet m k (nth ls k)) x.advertised })

/-- R100: an ACTIVE, DRAINING or DRAINED lane (or a woken DROWSY one) has lost block lock: a drain in progress ends and
training restarts at T3 with cause 0x02. -/
def Chip.lockLost (c : Chip) (l : Nat) : Chip :=
  (c.laneTo l LS.training 2).trainAt l 3 (c.flag (lstat l) F.PRT_LSTAT_FAST)

/-- Send the lane back to full training from T1 with a cause (R105, R116). -/
def Chip.retrain (c : Chip) (l cause : Nat) : Chip := (c.laneTo l LS.training cause).trainAt l 1 false

end Sys2Proof.Machine
end

