-- ==== Sys2Proof/Machine/PowerOps.lean ====
section
/-!
DEFINITION. Shared operations of the low-power states (R422 to R428): block and die states, wakes, aborted entries, and
POWER notices (R435).
-/

namespace Sys2Proof.Machine

/-- State of block or cluster b (PWR_STATE.BLOCK): 0 running, 1 RECESS, 2 DEEP_RECESS, 3 entering, 4 waking. -/
def Chip.blkSt (c : Chip) (d b : Nat) : Nat := c.get (R.PWR_STATE d) ⟨3 * b, 3⟩
def Chip.setBlkSt (c : Chip) (d b v : Nat) : Chip := c.set (R.PWR_STATE d) ⟨3 * b, 3⟩ v

/-- State of a die (PWR_STATE.DIE): 0 running, 1 SLEEP, 2 STANDBY, 3 entering, 4 waking. -/
def Chip.dieSt (c : Chip) (d : Nat) : Nat := c.get (R.PWR_STATE d) F.PWR_STATE_DIE
def Chip.setDieSt (c : Chip) (d v : Nat) : Chip := c.set (R.PWR_STATE d) F.PWR_STATE_DIE v

/-- Does a sag warning hold (R417)? It holds for the whole chip. -/
def Chip.sag (c : Chip) : Bool := c.flag (R.PWR_STATE 32) F.PWR_STATE_SAG

def Chip.modPw (c : Chip) (f : Power → Power) : Chip := { c with pw := f c.pw }

/-- The DETAIL word of a POWER notice (R435). -/
def powerDetail (event new old source rail cls cause duration : Nat) : Nat :=
  event + new * 2 ^ 8 + old * 2 ^ 12 + source * 2 ^ 16 + rail * 2 ^ 20 + cls * 2 ^ 24 + cause % 256 * 2 ^ 28
    + min duration 0xFFFFF * 2 ^ 36

/-- Post a POWER notice on die d. -/
def Chip.powerNotice (c : Chip) (d sev level b detail : Nat) : Chip := c.post d 0x0B sev d level b 0 detail

/-! ### DROWSY lanes that wake (R115, R121) -/

/-- A woken lane is ACTIVE, or passes to DRAINING with DRAIN reason 0x01 when it is no longer in its applied spray set; the cells of
its elastic buffer are taken first. -/
def Chip.laneAwake (c : Chip) (l : Nat) : Chip :=
  let c1 := c.modLane l (fun x => { x with mine := false, wakeSeq := none, awaking := false, rx := x.elastic ++ x.rx, elastic := [],
                                           reqs := x.reqs.filter (fun r => r.op != 0x0A && r.op != 0x0C) })
  if c.role l = 2 ∨ c.inSpray l then c1.laneMove l LS.active
  else ((c1.laneTo l LS.draining 3).modLane l (fun x => { x with drain := some ⟨1, false, false⟩ })).lcRequest l 0x07 [1]

/-- Send AWAKE, the answer to a WAKE_REQ that waits for it, if any. -/
def Chip.sendAwake (c : Chip) (l : Nat) : Chip :=
  (c.lcSend l 0x0D ((c.lane l).wakeSeq.getD (c.lane l).lcSeq) []).laneAwake l

/-- Ask the partner to end a DROWSY of its own: WAKE_REQ, once. -/
def Chip.askAwake (c : Chip) (l : Nat) : Chip :=
  if c.laneState l = LS.drowsy ∧ !(c.lane l).mine ∧ !(c.lane l).waitsOp 0x0C then c.lcRequest l 0x0C [] else c

/-- A DROWSY lane whose block runs again (R100, R121, R428): at depth 3 a fast retrain comes first; a lane that has lost block lock
trains at T3. -/
def Chip.wakeLane (c : Chip) (l : Nat) : Chip :=
  if c.laneState l ≠ LS.drowsy then c
  else if c.get (lstat l) F.PRT_LSTAT_DEPTH = 3 then
    ((c.laneMove l LS.training).trainAt l 1 true).modLane l (fun x => { x with awaking := true })
  else if !(c.lane l).mine then c
  else if !(c.lane l).lock then (c.lockLost l).modLane l (fun x => { x with mine := false, wakeSeq := none })
  else c.sendAwake l

/-- Every lane of a block that runs again. -/
def Chip.wakeLanes (c : Chip) (d b : Nat) : Chip :=
  if d < 32 then (blockLanes d b).foldl Chip.wakeLane c else c

/-- ENTRY_ABORT (R423): an entry in progress of block b ends in the state it came from, counted; event 0x04 only when
DEEP_RECESS was being entered. -/
def Chip.abortEntry (c : Chip) (d b : Nat) : Chip :=
  let target := SMap.get (fun _ => 0) c.pw.entry (d * 8 + b)
  let old := target - 1
  let c1 := (c.setBlkSt d b old).modPw (fun p => { p with entry := SMap.set (fun _ => 0) p.entry (d * 8 + b) 0 })
  let c2 := (blockLanes d b).foldl (fun s l => s.modLane l (fun x => { x with reqs := x.reqs.filter (fun r => r.op != 0x0A) })) c1
  let c3 := c2.incSat (R.PWR_WAKE_CNT d) F.PWR_WAKE_CNT_ABORTED 1
  let c4 := if old = 0 then c3.wakeLanes d b else c3
  if 2 ≤ target then c4.powerNotice d 0 2 b (powerDetail 4 old target 0 0 0 0 0) else c4

/-- Ask for a wake of a sleeping die with a mask of blocks (R427, R423); the lowest SOURCE code stands (R434). -/
def Chip.wakeDie (c : Chip) (d mask source : Nat) : Chip :=
  let old := c.dieSt d
  if old = 1 then
    (c.setDieSt d 4).modPw (fun p => { p with dieWake := SMap.set (fun _ => none) p.dieWake d (some ⟨1, source, mask⟩) })
  else if old = 4 then
    c.modPw (fun p => { p with dieWake := SMap.modify (fun _ => none) p.dieWake d (fun w =>
      match w with
      | some w => some { w with source := min w.source source, mask := w.mask ||| mask }
      | none => some ⟨1, source, mask⟩) })
  else if old = 3 then
    let c1 := (dieLanes d).foldl (fun s l => s.modLane l (fun x => { x with reqs := x.reqs.filter (fun r => r.op != 0x0A) })) c
    ((c1.setDieSt d 0).incSat (R.PWR_WAKE_CNT d) F.PWR_WAKE_CNT_ABORTED 1).powerNotice d 0 3 0 (powerDetail 4 0 3 0 0 0 0 0)
  else c

/-- One wake request for a block that is in RECESS or DEEP_RECESS, or already waking. -/
def Chip.wakeBlk (c : Chip) (d b source : Nat) : Chip :=
  let st := c.blkSt d b
  let k := d * 8 + b
  if st = 1 ∨ st = 2 then
    if c.dieSt d = 0 then
      (c.setBlkSt d b 4).modPw (fun p => { p with wake := SMap.set (fun _ => none) p.wake k (some ⟨st, source, 0⟩) })
    else c.wakeDie d (2 ^ b) source
  else if st = 4 then
    c.modPw (fun p => { p with wake := SMap.modify (fun _ => none) p.wake k (fun w =>
      w.map (fun w => { w with source := min w.source source })) })
  else c

/-- Wake a block: an entry in progress is aborted first (R423). -/
def Chip.wakeBlock (c : Chip) (d b source : Nat) : Chip :=
  if c.blkSt d b = 3 then (c.abortEntry d b).wakeBlk d b source else c.wakeBlk d b source

/-- Is die d running (not in SLEEP, STANDBY, entering or waking)? -/
def Chip.dieRuns (c : Chip) (d : Nat) : Bool := c.dieSt d == 0

/-- Does the data plane of die d run: not held in a reset, not isolated? -/
def Chip.planeRuns (c : Chip) (d : Nat) : Bool :=
  !c.pw.dataHeld && !c.pw.planeReset && c.pw.chipReset == 0 && !c.darkChip
    && !(SMap.get (fun _ => false) c.pw.regionReset d)

end Sys2Proof.Machine
end

