-- ==== Sys2Proof/Machine/TableOps.lean ====
section
/-!
DEFINITION. The forwarding tables (chapter 09): hash, lookup, insert and evict, ages, bulk flows.
-/

namespace Sys2Proof.Machine

/-! ### CRC-32C hash (R273) -/

/-- One bit of the reflected CRC-32C register. -/
def crc32cBit (r : BitVec 32) : BitVec 32 := if r.getLsbD 0 then (r >>> 1) ^^^ 0x82F63B78 else r >>> 1

def crc32cByte (r : BitVec 32) (v : Nat) : BitVec 32 :=
  (List.range 8).foldl (fun a _ => crc32cBit a) (r ^^^ BitVec.ofNat 32 (v % 256))

/-- The hash of key bytes with the applied seed. -/
def Chip.hash (c : Chip) (d : Nat) (bs : List Nat) : Nat :=
  (bs.foldl crc32cByte (c.rd (R.TBL_HASH_SEED d)) ^^^ 0xFFFFFFFF).toNat

/-- Buckets of the flow and multicast tables (R274, TBL_GEOM). -/
def Chip.flowBuckets (c : Chip) (d : Nat) : Nat := 16384 * 2 ^ c.get (R.TBL_GEOM d) F.TBL_GEOM_FLOW
def Chip.mcBuckets (c : Chip) (d : Nat) : Nat := 1024 * 2 ^ c.get (R.TBL_GEOM d) F.TBL_GEOM_MC
def Chip.flowBucket (c : Chip) (d key : Nat) : Nat := c.hash d (leBytes 6 key) % c.flowBuckets d
def Chip.mcBucket (c : Chip) (d key : Nat) : Nat := c.hash d (leBytes 3 key) % c.mcBuckets d

/-- The canopy millisecond counter (R275): not steered; it wraps at 65,536. -/
def Chip.ms (c : Chip) : Nat := c.real / 2500000 % 65536

/-- An age in ms (R275). -/
def Chip.ageOf (c : Chip) (stamp : Nat) : Nat := (c.ms + 65536 - stamp) % 65536

/-! ### Entries -/

def bitsOf {n : Nat} (e : BitVec n) (lo w : Nat) : Nat := e.toNat / 2 ^ lo % 2 ^ w
def putField {n : Nat} (e : BitVec n) (lo w v : Nat) : BitVec n :=
  BitVec.ofNat n (e.toNat - bitsOf e lo w * 2 ^ lo + v % 2 ^ w * 2 ^ lo)

def overflowBase : Nat := 2 ^ 19
def Chip.leafEnt (c : Chip) (d n : Nat) : BitVec 128 := SMap.get (fun _ => 0) c.tb.leaf (d * 2048 + n)
def Chip.flowEnt (c : Chip) (d i : Nat) : BitVec 128 := SMap.get (fun _ => 0) c.tb.flow (d * 2 ^ 20 + i)
def Chip.mcEnt (c : Chip) (d i : Nat) : BitVec 256 := SMap.get (fun _ => 0) c.tb.mc (d * 2 ^ 20 + i)
def Chip.setLeaf (c : Chip) (d n : Nat) (e : BitVec 128) : Chip :=
  { c with tb := { c.tb with leaf := SMap.set (fun _ => 0) c.tb.leaf (d * 2048 + n) e } }
def Chip.setFlow (c : Chip) (d i : Nat) (e : BitVec 128) : Chip :=
  { c with tb := { c.tb with flow := SMap.set (fun _ => 0) c.tb.flow (d * 2 ^ 20 + i) e } }
def Chip.setMc (c : Chip) (d i : Nat) (e : BitVec 256) : Chip :=
  { c with tb := { c.tb with mc := SMap.set (fun _ => 0) c.tb.mc (d * 2 ^ 20 + i) e } }

def flowValid (e : BitVec 128) : Bool := bitsOf e 127 1 == 1
def mcValid (e : BitVec 256) : Bool := bitsOf e 255 1 == 1

/-- R275: a flow entry whose STATIC bit is clear is expired at FLOW_MAX. -/
def Chip.expired (c : Chip) (d : Nat) (e : BitVec 128) : Bool :=
  flowValid e && bitsOf e 101 1 == 0 && decide (c.get (R.TBL_AGE_CFG d) F.TBL_AGE_CFG_FLOW_MAX ≤ c.ageOf (bitsOf e 52 16))

/-- Indexes listed in a table for die d. -/
def listedIdx {α : Type} (m : SMap α) (d : Nat) : List Nat :=
  (m.filter (fun e => e.1 / 2 ^ 20 == d)).map (fun e => e.1 % 2 ^ 20)

/-- The places a key may stand: the ways of its bucket, and the listed overflow slots. -/
def ways (b : Nat) : List Nat := [b * 4, b * 4 + 1, b * 4 + 2, b * 4 + 3]
def overflowIdx (l : List Nat) : List Nat := l.filter (fun i => decide (overflowBase ≤ i))

/-- Bring the entry counters TBL_FLOW_CNT and TBL_MC_CNT up to date. -/
def Chip.countTables (c : Chip) (d : Nat) : Chip :=
  let fl := (listedIdx c.tb.flow d).filter (fun i => flowValid (c.flowEnt d i))
  let ml := (listedIdx c.tb.mc d).filter (fun i => mcValid (c.mcEnt d i))
  (((c.set (R.TBL_FLOW_CNT d) F.TBL_FLOW_CNT_ENTRIES fl.length).set (R.TBL_FLOW_CNT d) F.TBL_FLOW_CNT_OVF
    (overflowIdx fl).length).set (R.TBL_MC_CNT d) F.TBL_MC_CNT_ENTRIES ml.length).set (R.TBL_MC_CNT d) F.TBL_MC_CNT_OVF
    (overflowIdx ml).length

/-- Flow lookup (R276): the index of the valid entry with this key, if any, expired or not. -/
def Chip.flowFind (c : Chip) (d key : Nat) : Option Nat :=
  (ways (c.flowBucket d key) ++ overflowIdx (listedIdx c.tb.flow d)).find?
    (fun i => flowValid (c.flowEnt d i) && bitsOf (c.flowEnt d i) 0 43 == key)

/-- Multicast lookup (R276). -/
def Chip.mcFind (c : Chip) (d key : Nat) : Option Nat :=
  (ways (c.mcBucket d key) ++ overflowIdx (listedIdx c.tb.mc d)).find?
    (fun i => mcValid (c.mcEnt d i) && bitsOf (c.mcEnt d i) 0 20 == key)

/-- Lookup with the expiry of R276: an expired entry is invalidated and counted, and the lookup misses. -/
def Chip.flowLookup (c : Chip) (d key : Nat) : Option Nat × Chip :=
  match c.flowFind d key with
  | none => (none, c)
  | some i =>
    if c.expired d (c.flowEnt d i) then
      (none, ((c.setFlow d i 0).incSat (R.TBL_AGE_STAT d) F.TBL_AGE_STAT_EXPIRED 1).countTables d)
    else (some i, c)

/-! ### BULK_FLOW notices (R281) -/

def Chip.bulkNotice (c : Chip) (d sev event block detail : Nat) : Chip :=
  if event ≤ 3 then c.post d 0x01 sev d 2 block 0 detail else c.post d 0x01 sev d 3 0 0 detail

/-- DETAIL of events 0x1 to 0x3 for a flow entry: SRC, DEST, TC, EVENT, WIN in MiB. -/
def flowDetail (e : BitVec 128) (event : Nat) : Nat :=
  bitsOf e 0 43 + event * 2 ^ 44 + (if event = 3 then 0 else min (bitsOf e 68 24 / 256) 0xFFFF * 2 ^ 48)

/-- BULK_EVICTED for an entry whose BULK bit is set (R276, R280). -/
def Chip.bulkEvicted (c : Chip) (d : Nat) (e : BitVec 128) : Chip :=
  if flowValid e ∧ bitsOf e 100 1 = 1 then c.bulkNotice d 1 3 (bitsOf e 43 3) (flowDetail e 3) else c

/-- Flow entries of a port die whose ingress block is b are discarded (R71, and by a block firebreak): bulk ones post event 0x3. -/
def Chip.discardFlows (c : Chip) (d b : Nat) : Chip :=
  if 32 ≤ d then c
  else
    let hit (e : Nat × BitVec 128) : Bool := e.1 / 2 ^ 20 == d && bitsOf e.2 43 3 == b
    let c1 := (c.tb.flow.filter hit).foldl (fun s e => s.bulkEvicted d e.2) c
    ({ c1 with tb := { c1.tb with flow := c1.tb.flow.filter (fun e => !hit e) } }).countTables d

/-- TABLE_ECC (event 0x5): index, or overflow slot + 0x1_0000, and the table. -/
def eccDetail (i table : Nat) : Nat :=
  (if overflowBase ≤ i then i - overflowBase + 0x10000 else i % 2 ^ 20) + table * 2 ^ 40 + 5 * 2 ^ 44

/-! ### Insert (R276) -/

/-- Where an insert writes, its outcome code of TBL_OP_STAT (0 DONE, 2 FULL, 3 EVICTED, 4 REPLACED). -/
structure Place where
  idx : Option Nat
  status : Nat
  deriving DecidableEq, Repr

/-- The lowest free overflow slot of n. -/
def freeSlot (used : Nat → Bool) : Nat → Nat → Option Nat
  | 0, _ => none
  | n + 1, i => if used (overflowBase + i) then freeSlot used n (i + 1) else some (overflowBase + i)

/-- The candidate way with the greatest age, on a tie the lowest. -/
def oldestWay (age : Nat → Nat) : List Nat → Option Nat
  | [] => none
  | i :: t =>
    match oldestWay age t with
    | none => some i
    | some j => if age j ≤ age i then some i else some j

/-- The place of a flow insert after its lookup, and whether the table LFSR made a choice. -/
def Chip.flowPlace (c : Chip) (d key lfsr : Nat) : Place × Bool :=
  match c.flowFind d key with
  | some i => (⟨some i, 4⟩, false)
  | none =>
    let ws := ways (c.flowBucket d key)
    let free (i : Nat) : Bool := !flowValid (c.flowEnt d i) || c.expired d (c.flowEnt d i)
    match ws.find? free with
    | some i => (⟨some i, 0⟩, false)
    | none =>
      match freeSlot (fun i => !free i) ((overflowIdx (listedIdx c.tb.flow d)).length + 1) 0 with
      | some i => if i < overflowBase + 4096 then (⟨some i, 0⟩, false) else (⟨none, 2⟩, false)
      | none =>
        (⟨none, 2⟩, false)
  |> fun r =>
    if r.1.status = 2 then
      let cand := (ways (c.flowBucket d key)).filter (fun i => bitsOf (c.flowEnt d i) 101 1 == 0)
      if cand.isEmpty then r
      else if c.flag (R.TBL_GEOM d) F.TBL_GEOM_FLOW_EVICT then (⟨cand[lfsr % cand.length]?, 3⟩, true)
      else (⟨oldestWay (fun i => c.ageOf (bitsOf (c.flowEnt d i) 52 16)) cand, 3⟩, false)
    else r

/-- Insert a flow entry with data e (its key in [42:0]); AGE is set to now. Answers the outcome, the place, and the entry
evicted. The lookup comes first: an expired entry of the key is invalidated, and the insert takes the lowest free way (R276). -/
def Chip.flowInsert (c0 : Chip) (d : Nat) (e : BitVec 128) : (Place × BitVec 128) × Chip :=
  let key := bitsOf e 0 43
  let c := (c0.flowLookup d key).2
  let lf := SMap.get (fun _ => 0xACE1) c.tb.lfsrFlow d
  let r := c.flowPlace d key lf
  let c0 := if r.2 then { c with tb := { c.tb with lfsrFlow := SMap.set (fun _ => 0xACE1) c.tb.lfsrFlow d (lfsrNext lf) } } else c
  match r.1.idx with
  | none => ((r.1, 0), c0)
  | some i =>
    let old := c0.flowEnt d i
    let c1 := if c0.expired d old then c0.incSat (R.TBL_AGE_STAT d) F.TBL_AGE_STAT_EXPIRED 1 else c0
    let c2 := if r.1.status = 3 then
        ((c1.incSat (R.TBL_LEARN_STAT d) F.TBL_LEARN_STAT_EVICT 1).pmcEvent d 0x053 none none 1).bulkEvicted d old else c1
    ((r.1, old), (c2.setFlow d i (putField (putField e 52 16 c.ms) 127 1 1)).countTables d)

/-- The place of a multicast insert. -/
def Chip.mcPlace (c : Chip) (d key lfsr : Nat) : Place × Bool :=
  match c.mcFind d key with
  | some i => (⟨some i, 4⟩, false)
  | none =>
    let ws := ways (c.mcBucket d key)
    match ws.find? (fun i => !mcValid (c.mcEnt d i)) with
    | some i => (⟨some i, 0⟩, false)
    | none =>
      match freeSlot (fun i => mcValid (c.mcEnt d i)) ((overflowIdx (listedIdx c.tb.mc d)).length + 1) 0 with
      | some i => if i < overflowBase + 1024 then (⟨some i, 0⟩, false) else (⟨none, 2⟩, false)
      | none => (⟨none, 2⟩, false)
  |> fun r =>
    if r.1.status = 2 then
      let cand := (ways (c.mcBucket d key)).filter (fun i => bitsOf (c.mcEnt d i) 132 1 == 0)
      if cand.isEmpty then r
      else if c.flag (R.TBL_GEOM d) F.TBL_GEOM_MC_EVICT then (⟨cand[lfsr % cand.length]?, 3⟩, true)
      else (⟨oldestWay (fun i => c.ageOf (bitsOf (c.mcEnt d i) 116 16)) cand, 3⟩, false)
    else r

/-- Insert a multicast entry; an evicted one posts event 0x4 (R276). -/
def Chip.mcInsert (c : Chip) (d : Nat) (e : BitVec 256) : (Place × BitVec 256) × Chip :=
  let key := bitsOf e 0 20
  let lf := SMap.get (fun _ => 0xACE1) c.tb.lfsrMc d
  let r := c.mcPlace d key lf
  let c0 := if r.2 then { c with tb := { c.tb with lfsrMc := SMap.set (fun _ => 0xACE1) c.tb.lfsrMc d (lfsrNext lf) } } else c
  match r.1.idx with
  | none => ((r.1, 0), c0)
  | some i =>
    let old := c0.mcEnt d i
    let c2 := if r.1.status = 3 then
        ((c0.incSat (R.TBL_LEARN_STAT d) F.TBL_LEARN_STAT_EVICT 1).pmcEvent d 0x053 none none 1).bulkNotice d 1 4 0
          (bitsOf old 0 20 * 2 ^ 20 + 4 * 2 ^ 44) else c0
    ((r.1, old), (c2.setMc d i (putField (putField e 116 16 c.ms) 255 1 1)).countTables d)

/-! ### Charging (R279, R280) -/

/-- The window number: floor(device time in ms / WINDOW). -/
def Chip.window (c : Chip) (d : Nat) : Nat := c.now / tuMs / max 1 (c.get (R.TBL_BULK_CFG d) F.TBL_BULK_CFG_WINDOW)

/-- The threshold in units of 4 KiB: THRESH × 256. -/
def Chip.bulkThresh (c : Chip) (d : Nat) : Nat := c.get (R.TBL_BULK_CFG d) F.TBL_BULK_CFG_THRESH * 256

/-- The last whole window before the current one, for an entry whose WIN stands for window W_ID. -/
def lastWhole (e : BitVec 128) (w : Nat) : Nat := if bitsOf e 92 8 = (w + 255) % 256 then bitsOf e 68 24 else 0

/-- BULK_END: in a later window after a low one, BULK clears and event 0x2 is posted (R280). -/
def Chip.bulkEnd (c : Chip) (d i : Nat) : Chip :=
  let e := c.flowEnt d i
  let w := c.window d
  if bitsOf e 100 1 = 1 ∧ bitsOf e 92 8 ≠ w % 256 ∧ 2 * lastWhole e w < c.bulkThresh d then
    (c.setFlow d i (putField e 100 1 0)).bulkNotice d 0 2 (bitsOf e 43 3) (flowDetail e 2)
  else c

/-- FLOW_CHARGE: charge the entry at index i with units; BULK_START when WIN reaches the threshold. -/
def Chip.flowCharge (c : Chip) (d i units : Nat) : Chip :=
  let c1 := c.bulkEnd d i
  let e := c1.flowEnt d i
  let w := c1.window d
  let win := if bitsOf e 92 8 = w % 256 then min (bitsOf e 68 24 + units) 0xFFFFFF else min units 0xFFFFFF
  let e1 := putField (putField e 68 24 win) 92 8 w
  if bitsOf e 100 1 = 0 ∧ c1.bulkThresh d ≤ win then
    let e2 := putField e1 100 1 1
    (c1.setFlow d i e2).bulkNotice d 0 1 (bitsOf e 43 3) (flowDetail e2 1)
  else c1.setFlow d i e1

end Sys2Proof.Machine
end

