-- ==== Sys2Proof/Machine/Ingress.lean ====
section
/-!
DEFINITION. Ingress on a port die (R186 to R195): the checks of R80, policing (R261), lookup, admission and the virtual
output queues. Meanings: CELL_INGRESS, SAF_HOLD_EXPIRY, POLICER_REFILL, FLOW_LEARN_INSERT.
-/

namespace Sys2Proof.Machine

/-! ### CHECK (R80) -/

/-- The classes a kind may use (R79). -/
def kindClass (kind tc : Nat) : Bool :=
  if kind = 0 then decide (tc ≤ 3)
  else if kind = 1 then decide (tc ≤ 3) || tc == 5
  else if kind = 2 then tc == 4
  else if kind = 3 ∨ kind = 4 then tc == 5
  else if kind = 5 then tc == 6
  else if kind = 6 then tc == 7
  else false

/-- Is a switch ID one the M40 answers for: its own, or a lost twin's (R470)? -/
def Chip.ownId (c : Chip) (d id : Nat) : Bool := id == c.switchId d || c.alias_ == some id

/-- Is the cell a link control cell (R101)? -/
def Cell.isLc (x : Cell) : Bool := x.kind == 5 && x.tc == 6 && x.byte 0 == 0

/-- Check 5 of R80: a reserved SCOPE, KIND 6 with SCOPE 0, or addressed to another switch. -/
def Chip.scopeBad (c : Chip) (d : Nat) (x : Cell) : Bool :=
  (x.kind == 5 || x.kind == 6) &&
    (decide (3 ≤ x.byte 0) || (x.kind == 6 && x.byte 0 == 0) || (x.byte 0 == 1 && !c.ownId d x.dest.toNat))

/-- Checks 2 to 5 of R80 pass. -/
def Chip.headerOk (c : Chip) (d : Nat) (x : Cell) : Bool :=
  x.kind != 7 && x.colour != 3 && kindClass x.kind.toNat x.tc.toNat && !c.scopeBad d x

/-- Count a dropped cell in a register field; a lossless cell that was counted as received is released at once (R80,
R190); a lossy one has been released at receipt (R250). -/
def Chip.dropRx (c : Chip) (l : Nat) (x : Cell) (a : Nat) (f : Fld) : Chip :=
  let c1 := (c.incSat a f 1).pmcDrop (laneDie l) 1
  if c.lossless (laneDie l) x.tc.toNat then c1.release l x.tc.toNat 1 else c1

/-- RECEIVED_c counts a CRC-good cell; a cell of a lossy class is released as it is received (R107, R250). -/
def Chip.countRx (c : Chip) (l k : Nat) : Chip :=
  let c1 := c.modLane l (fun y => { y with received := cntSet y.received k (cnt y.received k + 1) })
  let c2 := (c1.pmcEvent (laneDie l) 0x010 (some (laneLocal l)) (some k) 1).pmcFixed (laneDie l) 2 1
  if c.lossless (laneDie l) k then c2 else c2.release l k 1

/-! ### POLICE (R247, R260 to R263) -/

/-- Counted length of a cell on port p of die d: 64 + OVH (R247). -/
def Chip.cellLen (c : Chip) (d p : Nat) : Nat := 64 + c.get (R.SCH_OVH d p) F.SCH_OVH_OVH

/-- Bucket contents in bytes with 24 fractional bits; a bucket never touched since its reset is full (R263). -/
def Chip.committed (c : Chip) (d p k : Nat) : Int :=
  (SMap.get (fun _ => none) c.sw.committed ((d * 64 + p) * 4 + k)).getD
    (c.get (R.SCH_POL_CBS d p k) F.SCH_POL_CBS_VALUE * 2 ^ 24 : Nat)
def Chip.peak (c : Chip) (d p k : Nat) : Int :=
  (SMap.get (fun _ => none) c.sw.peak ((d * 64 + p) * 4 + k)).getD
    (c.get (R.SCH_POL_PBS d p k) F.SCH_POL_PBS_VALUE * 2 ^ 24 : Nat)
def Chip.setBuckets (c : Chip) (d p k : Nat) (cm pk : Int) : Chip :=
  c.modSw (fun w => { w with committed := SMap.set (fun _ => none) w.committed ((d * 64 + p) * 4 + k) (some cm),
                             peak := SMap.set (fun _ => none) w.peak ((d * 64 + p) * 4 + k) (some pk) })

/-- The colour the procedure of R261 gives, and what it takes from the buckets. -/
def policeColour (aware : Bool) (colour : Nat) (committed peak len : Int) : Nat × Int × Int :=
  if aware ∧ colour = 2 then (2, committed, peak)
  else if peak < len then (2, committed, peak)
  else if (aware ∧ colour = 1) ∨ committed < len then (1, committed, peak - len)
  else (0, committed - len, peak - len)

/-- POLICE_CELL: the cell with its colour, and whether it is dropped red (R262). -/
def Chip.police (c : Chip) (l : Nat) (x : Cell) : (Cell × Bool) × Chip :=
  let d := laneDie l
  let p := c.portOf l
  let k := x.tc.toNat
  let w := c.rd (R.SCH_POL_CIR d p k)
  if 4 ≤ k ∨ getBits w F.SCH_POL_CIR_ENABLE = 0 then ((x, false), c)
  else
    let r := policeColour (getBits w F.SCH_POL_CIR_AWARE == 1) x.colour.toNat (c.committed d p k) (c.peak d p k)
      (c.cellLen d p * 2 ^ 24 : Nat)
    let c1 := c.setBuckets d p k r.2.1 r.2.2
    let c2 := if r.1 = 1 then c1.incSat (R.SCH_POL_YELLOW d) F.SCH_POL_YELLOW_CELLS 1
      else if r.1 = 2 then c1.incSat (R.SCH_POL_RED d) F.SCH_POL_RED_CELLS 1 else c1
    let x1 := if r.1 = x.colour.toNat then x else ({ x with colour := BitVec.ofNat 2 r.1 } : Cell).seal
    let drop := r.1 == 2 && !c.lossless d k && getBits w F.SCH_POL_CIR_RED_DROP == 1
    ((x1, drop), if drop then c2.incSat (R.SCH_POL_DROP d) F.SCH_POL_DROP_CELLS 1 else c2)

/-- One enabled policer gains a slot at CIR and PIR, capped at CBS and PBS (R261, R256). -/
def Chip.policerGain (c : Chip) (d p k : Nat) : Chip :=
  let slots : Nat := if c.pw.clkHalf then 2 else 1
  let gain (r : Nat) : Int := (r * 2 ^ 24 * slots / 5000 : Nat)
  c.setBuckets d p k
    (min (c.committed d p k + gain (c.get (R.SCH_POL_CIR d p k) F.SCH_POL_CIR_CIR))
      (c.get (R.SCH_POL_CBS d p k) F.SCH_POL_CBS_VALUE * 2 ^ 24 : Nat))
    (min (c.peak d p k + gain (c.get (R.SCH_POL_PIR d p k) F.SCH_POL_PIR_VALUE))
      (c.get (R.SCH_POL_PBS d p k) F.SCH_POL_PBS_VALUE * 2 ^ 24 : Nat))

/-- POLICER_REFILL: at a slot boundary the enabled policer of class k of port p refills. -/
def Chip.policerRefill (c : Chip) (d p k : Nat) : Chip :=
  if c.flag (R.SCH_POL_CIR d p k) F.SCH_POL_CIR_ENABLE then c.policerGain d p k else c

/-! ### LOOKUP -/

/-- R271, R272: the egress die and port of a leaf, when its entry is VALID and names an enabled port that starts there. -/
def Chip.leafRoute (c : Chip) (d leaf : Nat) : Option (Nat × Nat) :=
  let e := c.leafEnt d leaf
  let ed := bitsOf e 1 6
  let ep := bitsOf e 7 6
  if bitsOf e 0 1 = 1 ∧ c.startsPort ed ep ∧ c.portEnabled (ed * 64 + ep) then some (ed, ep) else none

/-- FLOW_CHARGE and learning of a message head (R278, R279). -/
def Chip.learnHead (c : Chip) (l : Nat) (x : Cell) : Chip :=
  let d := laneDie l
  if x.kind ≠ 0 ∨ !x.first then c
  else
    let key := x.src.toNat + x.dest.toNat * 2 ^ 20 + x.tc.toNat * 2 ^ 40
    let units := ceilDiv (x.bytes 0 4 % 2 ^ 22 + 1) 64
    let r := c.flowLookup d key
    match r.1 with
    | some i =>
      let e := r.2.flowEnt d i
      let e1 := putField (putField (putField e 52 16 r.2.ms) 43 3 (laneBlock l)) 46 6 (r.2.portOf l)
      ((r.2.setFlow d i e1).flowCharge d i units).pmcEvent d 0x051 none (some x.tc.toNat) 1
    | none =>
      if !r.2.flag (R.TBL_BULK_CFG d) F.TBL_BULK_CFG_LEARN then r.2
      else
        let q := SMap.get (fun _ => []) r.2.tb.learnQ d
        if 64 ≤ q.length then r.2.incSat (R.TBL_LEARN_STAT d) F.TBL_LEARN_STAT_LOST 1
        else { r.2 with tb := { r.2.tb with learnQ := SMap.set (fun _ => []) r.2.tb.learnQ d
                                             (q ++ [⟨key, units, laneBlock l, r.2.portOf l⟩]) } }

/-- The learned entry of a queued key (R278, R279): charged in the current window. -/
def Chip.learnEntry (c : Chip) (d : Nat) (q : Learn) : BitVec 128 :=
  BitVec.ofNat 128 (q.key + q.block * 2 ^ 43 + q.port * 2 ^ 46 + min q.units 0xFFFFFF * 2 ^ 68
    + c.window d % 256 * 2 ^ 92)

/-- FLOW_LEARN_INSERT: the oldest queued key is inserted as a charged flow, or counted LOST when the outcome is FULL. A
key that has come into the table meanwhile is charged (R287). -/
def Chip.learnInsert (c : Chip) (d : Nat) : Chip :=
  match SMap.get (fun _ => []) c.tb.learnQ d with
  | [] => c
  | q :: t =>
    let c1 := { c with tb := { c.tb with learnQ := SMap.set (fun _ => []) c.tb.learnQ d t } }
    let r := c1.flowLookup d q.key
    match r.1 with
    | some i => r.2.flowCharge d i q.units
    | none =>
      let s := r.2.flowInsert d (r.2.learnEntry d q)
      match s.1.1.idx with
      | none => s.2.incSat (R.TBL_LEARN_STAT d) F.TBL_LEARN_STAT_LOST 1
      | some i => s.2.flowCharge d i 0

/-! ### Virtual output queues (R192, R195) -/

def voqKey (d b e k : Nat) : Nat := ((d * 8 + b) * 40 + e) * 8 + k
def voqBlock (key : Nat) : Nat := key / 320 % 8
def voqDest (key : Nat) : Nat := key / 8 % 40
def voqClass (key : Nat) : Nat := key % 8
def Chip.voq (c : Chip) (d b e k : Nat) : List VoqEnt := SMap.get (fun _ => []) c.sw.voqs (voqKey d b e k)
def Chip.setVoq (c : Chip) (key : Nat) (q : List VoqEnt) : Chip :=
  { c with sw := { c.sw with voqs := SMap.set (fun _ => []) c.sw.voqs key q } }

/-- The VOQs of a die that hold cells, as (key, cells). -/
def Chip.dieVoqs (c : Chip) (d : Nat) : SMap (List VoqEnt) := c.sw.voqs.filter (fun e => e.1 / 2560 == d)

/-- Store-and-forward cells of VOQ group (e, k) of die d that wait for their group (R195). -/
def Chip.safWaiting (c : Chip) (d e k : Nat) : Nat :=
  ((c.dieVoqs d).filter (fun v => voqDest v.1 == e && voqClass v.1 == k)).foldl
    (fun n v => n + (v.2.filter (fun x => x.eligible.isNone)).length) 0

/-- Every waiting store-and-forward cell of VOQ group (e, k) becomes eligible now (R195). -/
def Chip.safRelease (c : Chip) (d e k : Nat) : Chip :=
  c.modSw (fun w => { w with voqs := SMap.mapVals (fun _ => []) w.voqs (fun key q =>
    if key / 2560 = d ∧ voqDest key = e ∧ voqClass key = k then
      q.map (fun x => if x.eligible.isNone then { x with eligible := some c.slot } else x) else q) })

/-- Does class k of ingress port p of die d travel store-and-forward (R194)? -/
def Chip.safMode (c : Chip) (d p k : Nat) : Bool := bitOf (c.rd (R.PRT_FWD_MODE d p)).toNat k

/-- Queue a buffered cell in the VOQ of destination die e; a full group of 12 store-and-forward cells becomes eligible. -/
def Chip.enqueueVoq (c : Chip) (d b e k : Nat) (buf inPort egPort : Nat) (mcast : Bool) : Chip :=
  let saf := c.safMode d inPort k
  let ent : VoqEnt := { buf := buf, inPort := inPort, egPort := egPort, mcast := mcast, since := c.slot,
                        eligible := if saf then none else some c.slot, saf := saf }
  let c1 := (c.setVoq (voqKey d b e k) (c.voq d b e k ++ [ent])).pmcEvent d 0x020 (some b) (some k) 1
  if saf ∧ 12 ≤ c1.safWaiting d e k then c1.safRelease d e k else c1

/-- SAF_HOLD_EXPIRY: the oldest waiting cell of VOQ group (e, k) has waited HOLD slots (R195). -/
def Chip.safHoldExpiry (c : Chip) (d e k : Nat) : Chip := c.safRelease d e k

/-! ### ENQUEUE -/

/-- DIE_WAKE_REQUEST: a cell for a sleeping destination die requests its wake (R427). -/
def Chip.demandWake (c : Chip) (e port : Nat) : Chip :=
  if c.dieSt e = 1 ∨ c.dieSt e = 4 then c.wakeDie e (if e < 32 then 2 ^ (port / 8) else 0) 7 else c

/-- Queue a written cell's references, one per destination (die, port, multicast mark). -/
def Chip.enqueueAll (c : Chip) (l k buf : Nat) (dests : List (Nat × Nat × Bool)) : Chip :=
  dests.foldl (fun s e => (s.enqueueVoq (laneDie l) (laneBlock l) e.1 k buf (s.portOf l) e.2.1 e.2.2).demandWake e.1 e.2.1) c

/-- No-sharing mode (R225): one copy per further reference, each in the shared part and counted in BUF_COPY_b. -/
def Chip.copyRest (c : Chip) (l : Nat) (x : Cell) : List (Nat × Nat × Bool) → Chip
  | [] => c
  | e :: t =>
    match c.poolWrite (laneDie l) (laneBlock l) x 1 true none with
    | none => c
    | some (n, c1) =>
      ((c1.incSat (R.BUF_COPY (laneDie l) (laneBlock l)) F.BUF_COPY_CELLS 1).enqueueAll l x.tc.toNat n [e]).copyRest l x t

/-- References to VOQs of a lossy class that already hold 2 × LIMIT cells are dropped (R233). -/
def Chip.voqRoom (c : Chip) (l k : Nat) (e : Nat × Nat × Bool) : Bool :=
  decide ((c.voq (laneDie l) (laneBlock l) e.1 k).length <
    2 * c.get (R.BUF_VOQ_LIMIT (laneDie l)) F.BUF_VOQ_LIMIT_LIMIT)

/-- ENQUEUE for a lossless class: the reserved buffer of the lane; in no-sharing mode the cell waits until the shared
part has room for its further copies (R222, R225, R245). -/
def Chip.enqueueLossless (c : Chip) (l : Nat) (x : Cell) (dests : List (Nat × Nat × Bool)) : Chip :=
  let d := laneDie l
  let b := laneBlock l
  let noshare := c.flag (R.BUF_POOL_FLR d b) F.BUF_POOL_FLR_NOSHARE
  match c.poolWrite d b x (if noshare then 1 else dests.length) false (some l) with
  | none => c
  | some (n, c1) =>
    if !noshare then c1.enqueueAll l x.tc.toNat n dests
    else if c1.occ d b + (dests.length - 1) ≤ c1.sharedSize d b then
      (c1.enqueueAll l x.tc.toNat n (dests.take 1)).copyRest l x (dests.drop 1)
    else
      { c1 with tb := { c1.tb with ingWait := SMap.modify (fun _ => []) c1.tb.ingWait (d * 8 + b) (fun q =>
          q ++ [⟨l, x, n, dests.headD (0, 0, false), dests.drop 1⟩]) } }

/-- ENQUEUE for a lossy class (R226, R231, R233): dropped at FLOOR or without a shared buffer, by profile, or at a full
VOQ. -/
def Chip.enqueueLossy (c : Chip) (l : Nat) (x : Cell) (dests : List (Nat × Nat × Bool)) : Chip :=
  let d := laneDie l
  let b := laneBlock l
  let k := x.tc.toNat
  if c.level d b = 3 ∨ !c.sharedFree d b then (c.incSat (R.BUF_DROP_FLOOR d b) F.BUF_DROP_FLOOR_CELLS 1).pmcDrop d 1
  else
    let r := c.applyProfile d b x false
    if r.1 = .drop then
      ((r.2.incSat (R.BUF_DROP_RED d b) F.BUF_DROP_RED_CELLS 1).pmcEvent d 0x034 (some b) (some k) 1).pmcDrop d 1
    else
      let room := dests.filter (r.2.voqRoom l k)
      let c1 := if room.length < dests.length then
          (r.2.incSat (R.BUF_DROP_VOQ d) F.BUF_DROP_VOQ_CELLS (dests.length - room.length)).pmcDrop d 1 else r.2
      match room with
      | [] => c1
      | e :: t =>
        let noshare := c1.flag (R.BUF_POOL_FLR d b) F.BUF_POOL_FLR_NOSHARE
        match c1.poolWrite d b x (if noshare then 1 else room.length) true none with
        | none => (c1.incSat (R.BUF_DROP_FLOOR d b) F.BUF_DROP_FLOOR_CELLS 1).pmcDrop d 1
        | some (n, c2) => if noshare then (c2.enqueueAll l k n [e]).copyRest l x t else c2.enqueueAll l k n (e :: t)

/-- Cells of a block that wait for their copies' buffers go on in order, each once the shared part has room for all of them (R245).
References to a die isolated meanwhile are gone (R214). -/
def Chip.ingWaitPlace (c : Chip) (d b : Nat) : List IngWait → Chip
  | [] => { c with tb := { c.tb with ingWait := SMap.set (fun _ => []) c.tb.ingWait (d * 8 + b) [] } }
  | w :: t =>
    match (w.first :: w.rest).filter (fun e => !c.isolated e.1) with
    | [] => (c.poolRelease d b w.buf).ingWaitPlace d b t
    | e :: rest =>
      if c.occ d b + rest.length ≤ c.sharedSize d b then
        ((c.enqueueAll w.lane w.cell.tc.toNat w.buf [e]).copyRest w.lane w.cell rest).ingWaitPlace d b t
      else { c with tb := { c.tb with ingWait := SMap.set (fun _ => []) c.tb.ingWait (d * 8 + b) (w :: t) } }

/-- The waiting cells of port die d (R245). -/
def Chip.ingWaiting (c : Chip) (d : Nat) : Chip :=
  (List.range 8).foldl (fun s b =>
    match SMap.get (fun _ => []) s.tb.ingWait (d * 8 + b) with
    | [] => s
    | l => s.ingWaitPlace d b l) c

/-- ENQUEUE (R186): admission and the write to the virtual output queues. -/
def Chip.enqueue (c : Chip) (l : Nat) (x : Cell) (dests : List (Nat × Nat × Bool)) : Chip :=
  if c.lossless (laneDie l) x.tc.toNat then c.enqueueLossless l x dests else c.enqueueLossy l x dests

/-! ### DISPATCH (R188, R190) -/

/-- Where a cell goes: its references, or the counter of the drop (register, field). -/
inductive Treat where
  | go (dests : List (Nat × Nat × Bool))
  | drop (reg : Nat) (fld : Fld)
  deriving DecidableEq, Repr

/-- Unicast by the leaf field of DEST. -/
def Chip.treatLeaf (c : Chip) (d : Nat) (x : Cell) : Treat :=
  match c.leafRoute d (x.dest.toNat / 512) with
  | none => .drop (R.PRT_IN_DROP d) F.PRT_IN_DROP_NO_ROUTE
  | some (e, p) => if c.isolated e then .drop (R.PRT_IN_DROP2 d) F.PRT_IN_DROP2_EGRESS_DOWN else .go [(e, p, false)]

/-- The references of a KIND 1 cell (R191, R283, R319). -/
def Chip.treatGroup (c : Chip) (d : Nat) (x : Cell) : Treat :=
  if 0xFF000 ≤ x.dest.toNat then .drop (R.PRT_IN_DROP d) F.PRT_IN_DROP_NO_ROUTE
  else
    match c.mcFind d x.dest.toNat with
    | none => .drop (R.PRT_IN_DROP d) F.PRT_IN_DROP_NO_ROUTE
    | some i =>
      let e := c.mcEnt d i
      let map := bitsOf e 20 32
      if map = 0 then .drop (R.PRT_IN_DROP d) F.PRT_IN_DROP_NO_ROUTE
      else
        let up := (setBitsOf 32 map).filter (fun q => !c.isolated q)
        let stg := 32 + bitsOf e 134 3
        let st := if bitsOf e 133 1 = 1 ∧ !c.isolated stg then [(stg, 0, true)] else []
        if up.isEmpty then .drop (R.PRT_IN_DROP2 d) F.PRT_IN_DROP2_EGRESS_DOWN
        else .go (up.map (fun q => (q, 0, true)) ++ st)

/-- The core die of the primary hub, where cells for the M40 itself go (R188). -/
def Chip.hubDest (c : Chip) : Nat := hubDie (c.primary.getD 0)

def Chip.treat (c : Chip) (d : Nat) (x : Cell) : Treat :=
  let kd := x.kind.toNat
  if kd = 3 then .drop (R.PRT_IN_DROP d) F.PRT_IN_DROP_BAD_KIND
  else if kd = 2 then
    let h := 32 + x.dest.toNat / 2 ^ 17
    if c.isolated h then .drop (R.PRT_IN_DROP2 d) F.PRT_IN_DROP2_NO_HOME else .go [(h, 0, false)]
  else if kd = 1 then c.treatGroup d x
  else if (kd = 5 ∨ kd = 6) ∧ x.byte 0 = 1 then .go [(c.hubDest, 0, false)]
  else c.treatLeaf d x

/-- Isolated port dies in the map of a cell's group (R190). -/
def Chip.downDies (c : Chip) (d : Nat) (x : Cell) : Nat :=
  if x.kind ≠ 1 ∨ 0xFF000 ≤ x.dest.toNat then 0
  else match c.mcFind d x.dest.toNat with
    | none => 0
    | some i => ((setBitsOf 32 (bitsOf (c.mcEnt d i) 20 32)).filter (fun q => c.isolated q)).length

/-- R190: isolated dies of a multicast map are counted, one each. -/
def Chip.countDown (c : Chip) (d : Nat) (x : Cell) : Chip :=
  if x.kind ≠ 1 then c
  else match c.mcFind d x.dest.toNat with
    | none => c
    | some i =>
      let n := ((setBitsOf 32 (bitsOf (c.mcEnt d i) 20 32)).filter (fun q => c.isolated q)).length
      let up := ((setBitsOf 32 (bitsOf (c.mcEnt d i) 20 32)).filter (fun q => !c.isolated q)).length
      if n = 0 ∨ up = 0 then c else c.incSat (R.PRT_IN_DROP2 d) F.PRT_IN_DROP2_EGRESS_DOWN n

/-- A multicast entry's stamp is set to now on every ingress lookup hit (R275). -/
def Chip.mcTouch (c : Chip) (d : Nat) (x : Cell) : Chip :=
  if x.kind ≠ 1 ∨ 0xFF000 ≤ x.dest.toNat then c
  else match c.mcFind d x.dest.toNat with
    | none => c
    | some i => c.setMc d i (putField (c.mcEnt d i) 116 16 c.ms)

/-- DISPATCH to ENQUEUE for a cell that passed CHECK. LOOKUP matches every head that reaches it against the flow table (R279), also one
that its leaf lookup drops there. -/
def Chip.dispatch (c : Chip) (l : Nat) (x : Cell) : Chip :=
  let d := laneDie l
  match c.treat d x with
  | .drop a f =>
    if x.kind = 3 ∨ x.kind = 2 then c.dropRx l x a f
    else
      let r := c.police l x
      if r.1.2 then r.2.pmcDrop d 1
      else (((r.2.mcTouch d x).learnHead l r.1.1).incSat (R.PRT_IN_DROP2 d) F.PRT_IN_DROP2_EGRESS_DOWN (c.downDies d x - 1)).dropRx l x a f
  | .go dests =>
    let r := c.police l x
    if r.1.2 then r.2.pmcDrop d 1
    else (((r.2.countDown d x).mcTouch d x).learnHead l r.1.1).enqueue l r.1.1 dests

/-- CHECK, and what R214 does to cells received on a block behind a firebreak. -/
def Chip.receiveCell (c : Chip) (l : Nat) (x : Cell) : Chip :=
  let d := laneDie l
  let a := R.PRT_RX_ERR d (laneLocal l)
  if !x.crcOk then (c.incSat a F.PRT_RX_ERR_CRC_ERR 1).pmcDrop d 1
  else if x.isLc then c
  else
    let c1 := c.countRx l x.tc.toNat
    if !c1.headerOk d x then c1.dropRx l x a F.PRT_RX_ERR_HDR_ERR
    else if c1.blockFb d (laneBlock l) then c1.dropRx l x (R.PRT_FB_DISCARD d) F.PRT_FB_DISCARD_CELLS
    else c1.dispatch l x

/-- The decoder's queue without the cell the pipeline takes. -/
def Chip.takeRx (c : Chip) (l : Nat) (x : Cell) : Chip :=
  c.modLane l (fun y => match y.rx with
    | [] => y
    | h :: t => if h = x then { y with rx := t } else y)

/-- An uncorrectable ECC error in the leaf entry a cell looks up: the entry counts as not VALID, is invalidated, and
event 0x5 is posted (R272). -/
def Chip.leafEcc (c : Chip) (d leaf : Nat) : Chip := (c.setLeaf d leaf 0).bulkNotice d 1 5 0 (eccDetail leaf 0)

/-- A stray cell whose block is gated (R120): dropped, counted in HDR_ERR and released in the credits. -/
def Chip.drowsyDrop (c : Chip) (l : Nat) (x : Cell) : Chip :=
  let d := laneDie l
  if x.crcOk then
    let c1 := c.modLane l (fun y => { y with received := cntSet y.received x.tc.toNat (cnt y.received x.tc.toNat + 1) })
    ((c1.incSat (R.PRT_RX_ERR d (laneLocal l)) F.PRT_RX_ERR_HDR_ERR 1).pmcDrop d 1).release l x.tc.toNat 1
  else c.incSat (R.PRT_RX_ERR d (laneLocal l)) F.PRT_RX_ERR_CRC_ERR 1

/-- A cell on a DROWSY lane (R120): held in the elastic buffer at depth 1, dropped and released at depth 2, lost at
depth 3. -/
def Chip.drowsyCell (c : Chip) (l : Nat) (x : Cell) : Chip :=
  let d := laneDie l
  let depth := c.get (lstat l) F.PRT_LSTAT_DEPTH
  if depth = 1 then
    if 64 ≤ (c.lane l).elastic.length then c
    else (c.modLane l (fun y => { y with elastic := y.elastic ++ [x] })).wakeBlock d (laneBlock l) 2
  else if depth = 2 then c.drowsyDrop l x
  else c

/-- A cell on a trained lane of a block in RECESS waits in the elastic buffer and wakes the block; the logic of a gated block takes
nothing. -/
def Chip.recessCell (c : Chip) (l : Nat) (x : Cell) : Chip :=
  if 64 ≤ (c.lane l).elastic.length then c
  else (c.modLane l (fun y => { y with elastic := y.elastic ++ [x] })).wakeBlock (laneDie l) (laneBlock l) 2

/-- Lane states in which cells are received: ACTIVE, DRAINING, DRAINED (R119). -/
def receives (st : Nat) : Bool := st == LS.active || st == LS.draining || st == LS.drained

/-- CELL_INGRESS: a cell of lane l passes the ingress stages; `ecc` tells that the SRAM ECC check of the leaf entry it
looks up finds an uncorrectable error. -/
def Chip.cellIngress (c : Chip) (l : Nat) (x : Cell) (ecc : Bool) : Chip :=
  let d := laneDie l
  let c0 := c.takeRx l x
  if !c0.planeRuns d || c0.isolated d || c0.role l != 1 then c0
  else if c0.laneState l = LS.drowsy then
    if !(c0.lane l).mine ∧ c0.blkSt d (laneBlock l) = 0 ∧ c0.get (lstat l) F.PRT_LSTAT_DEPTH ≠ 3 then c0.receiveCell l x
    else c0.drowsyCell l x
  else if !receives (c0.laneState l) then c0
  else if c0.blkSt d (laneBlock l) = 1 ∨ c0.blkSt d (laneBlock l) = 4 then c0.recessCell l x
  else if c0.blkSt d (laneBlock l) = 2 then c0.drowsyDrop l x
  else
    let c1 := if c0.blkSt d (laneBlock l) = 3 then c0.abortEntry d (laneBlock l) else c0
    let uses := x.kind == 0 || x.kind == 4 || ((x.kind == 5 || x.kind == 6) && x.byte 0 == 2)
    let c2 := if ecc ∧ uses ∧ x.crcOk then c1.leafEcc d (x.dest.toNat / 512) else c1
    c2.receiveCell l x

end Sys2Proof.Machine
end

