-- ==== Sys2Proof/Machine/Uplink.lean ====
section
/-!
DEFINITION. The uplink envelope scheduler (R196 to R205), spill envelopes (R233, R234) and envelope credits (R200). Meanings:
UPLINK_SCHEDULE, ENV_CREDIT_RETURN.
-/

namespace Sys2Proof.Machine

/-! ### Envelope credits (R200) -/

/-- Key of the credit pair of ingress die d (0 to 31, or 32 for the local port) and destination e through core die k. -/
def pairKey (d k e : Nat) : Nat := (d * 8 + k) * 40 + e

def sget (m : SMap Nat) (k : Nat) : Nat := SMap.get (fun _ => 0) m k
def sset (m : SMap Nat) (k v : Nat) : SMap Nat := SMap.set (fun _ => 0) m k v
def sadd (m : SMap Nat) (k n : Nat) : SMap Nat := sset m k (sget m k + n)
def ssub (m : SMap Nat) (k n : Nat) : SMap Nat := sset m k (sget m k - n)

/-- Credits the ingress die holds for (k, e): ENV_CREDITS as applied on core die k, plus the returns still to be withheld
after a lowering, less those spent (R200). -/
def Chip.envHeld (c : Chip) (d k e : Nat) : Int :=
  (c.get (R.XBR_ARB_CFG (32 + k)) F.XBR_ARB_CFG_ENV_CREDITS : Int) + (sget c.sw.envLowered k : Int)
    - (sget c.sw.envWithheld (pairKey d k e) : Int) - (sget c.sw.envSpent (pairKey d k e) : Int)

/-- ENV_CREDIT_RETURN: core die k returns one waiting credit for (k, e) to ingress die d. While returns are withheld for
the pair, the return is absorbed. -/
def Chip.envCreditReturn (c : Chip) (d k e : Nat) : Chip :=
  let key := pairKey d k e
  if sget c.sw.envReturn key = 0 then c
  else
    c.modSw (fun w =>
      let w1 := { w with envReturn := ssub w.envReturn key 1, envSpent := ssub w.envSpent key 1 }
      if sget w.envWithheld key < sget w.envLowered k then { w1 with envWithheld := sadd w.envWithheld key 1 } else w1)

/-- A credit for (k, e) waits to be returned to ingress die d. -/
def Chip.envCreditDue (c : Chip) (d k e : Nat) : Chip :=
  c.modSw (fun w => { w with envReturn := sadd w.envReturn (pairKey d k e) 1 })

/-- The 128-bit tag that goes with an envelope (R196, R234). -/
def Env.tag (e : Env) : BitVec 128 :=
  let one (i : Nat) : Nat :=
    if e.spill then (if i = 0 then 2 ^ 6 + 2 ^ 7 else 0)
    else match e.cells[i]? with
      | some x => (if e.dst < 32 then x.port % 64 else 0) + x.mcast.toNat * 2 ^ 6 + x.saf.toNat * 2 ^ 7 * (decide (e.dst < 32)).toNat
      | none => 0
  BitVec.ofNat 128 (e.src * 2 ^ 122 + e.dst * 2 ^ 116 + (e.cells.length + e.spill.toNat) % 16 * 2 ^ 112 + e.seq % 65536 * 2 ^ 96
    + (List.range 12).foldl (fun n i => n + one i * 2 ^ (8 * i)) 0)

/-- The bytes of a spill descriptor cell: one little-endian 16-bit word for each parked cell (R234). -/
def spillDescriptor (ds : List SpillDesc) : List Nat :=
  let w (s : SpillDesc) : Nat := s.die + s.port * 2 ^ 6 + s.cls * 2 ^ 12 + s.mcast.toNat * 2 ^ 15
  ds.flatMap (fun s => leBytes 2 (w s)) ++ List.replicate (64 - 2 * ds.length) 0

/-! ### Eligibility (R202) -/

/-- A cell the scheduler may take: its VOQ, its place there, its age, class, block and destination. -/
structure Cand where
  key : Nat
  pos : Nat
  age : Nat
  ent : VoqEnt
  deriving DecidableEq, Repr

def Cand.cls (x : Cand) : Nat := voqClass x.key
def Cand.block (x : Cand) : Nat := voqBlock x.key
def Cand.dest (x : Cand) : Nat := voqDest x.key
/-- TC6 and TC7 come first. -/
def Cand.high (x : Cand) : Bool := decide (6 ≤ x.cls)

/-- May class k for die e cross uplink c of die d: pinned cells their own uplink, others the effective spray set (R188,
R189, R202)? -/
def Chip.mayCross (c : Chip) (d k e cls : Nat) : Bool :=
  let pinned := decide (32 ≤ e) || cls == 7
  let core := if 32 ≤ e then e - 32 else c.mgmtCore
  c.pathOpen d k e && (if pinned then core == k else bitOf (c.effective d) k)

/-- Is class k of die e held at port die d (R227)? -/
def Chip.heldAt (c : Chip) (d e k : Nat) : Bool := bitOf (sget c.sw.holdApplied (d * 32 + e)) k && decide (e < 32)

/-- The eligible cells of a VOQ, numbered from i. -/
def voqCands (key : Nat) : Nat → List VoqEnt → List Cand
  | _, [] => []
  | i, x :: t =>
    match x.eligible with
    | some a => ⟨key, i, a, x⟩ :: voqCands key (i + 1) t
    | none => voqCands key (i + 1) t

/-- The cells of port die d eligible for uplink k. -/
def Chip.candsFor (c : Chip) (d k : Nat) : List Cand :=
  (c.dieVoqs d).flatMap (fun v =>
    let e := voqDest v.1
    let cls := voqClass v.1
    if c.dieRuns e && !c.isolated e && !c.heldAt d e cls && c.mayCross d k e cls then voqCands v.1 0 v.2 else [])

/-- Comparison of R202 for filling: TC7 and TC6 before the rest, then age, then the higher class, then the block that
comes first at or after `start`. -/
def Cand.before (start : Nat) (x y : Cand) : Bool :=
  let rot (b : Nat) : Nat := (b + 8 - start) % 8
  if x.high != y.high then x.high
  else if x.age ≠ y.age then decide (x.age < y.age)
  else if x.cls ≠ y.cls then decide (y.cls < x.cls)
  else if x.block ≠ y.block then decide (rot x.block < rot y.block)
  else decide (x.pos < y.pos)

/-- The first candidate in an order. -/
def firstBy (lt : Cand → Cand → Bool) : List Cand → Option Cand
  | [] => none
  | x :: t =>
    match firstBy lt t with
    | none => some x
    | some y => if lt y x then some y else some x

/-- Fill an envelope: up to n cells, the block round robin starting after the block that gave the last cell. -/
def pickCells : Nat → Nat → List Cand → List Cand
  | 0, _, _ => []
  | n + 1, start, l =>
    match firstBy (Cand.before start) l with
    | none => []
    | some x => x :: pickCells n ((x.block + 1) % 8) (l.filter (fun y => !(y.key == x.key && y.pos == x.pos)))

/-- The destination die chosen (R202): that of the oldest eligible TC6 or TC7 cell when there is one, else of the oldest
eligible cell; a tie on age goes to the lower die. -/
def pickDest (l : List Cand) : Option Nat :=
  let older (x y : Cand) : Bool := decide (x.age < y.age) || (x.age == y.age && decide (x.dest < y.dest))
  let hi := l.filter Cand.high
  (firstBy older (if hi.isEmpty then l else hi)).map Cand.dest

/-- Take picked cells out of their VOQs. -/
def Chip.dropPicked (c : Chip) (picked : List Cand) : Chip :=
  c.modSw (fun w => { w with voqs := SMap.mapVals (fun _ => []) w.voqs (fun key q =>
    (q.zipIdx.filter (fun e => !(picked.any (fun x => x.key == key && x.pos == e.2)))).map (·.1)) })

/-- Read the picked cells for an envelope and release their buffers (R223). -/
def Chip.readPicked (c : Chip) (d : Nat) : List Cand → List EnvCell × Chip
  | [] => ([], c)
  | x :: t =>
    let cell := c.bufCell d x.block x.ent.buf
    let r := (c.poolRelease d x.block x.ent.buf).readPicked d t
    (⟨cell, x.ent.egPort, x.ent.mcast, x.ent.saf, some (d * 64 + x.ent.inPort), none⟩ :: r.1, r.2)

/-- Launch an envelope on uplink k of die d. -/
def Chip.sendUp (c : Chip) (d k : Nat) (env : Env) : Chip :=
  c.modSw (fun w => { w with up := SMap.modify (fun _ => []) w.up (d * 8 + k) (· ++ [env]),
                             envSeq := sset w.envSeq (d * 8 + k) ((sget w.envSeq (d * 8 + k) + 1) % 65536) })

/-- Cut-through bypass hits (event 0x021): cells taken in the slot in which they entered an empty group of a cut-through
class (R193). -/
def Chip.bypassHit (c : Chip) (d : Nat) (x : Cand) : Chip :=
  if !x.ent.saf ∧ x.ent.since = c.slot ∧
      ((c.dieVoqs d).filter (fun v => voqDest v.1 == x.dest && voqClass v.1 == x.cls)).foldl (fun n v => n + v.2.length) 0 = 1
  then c.pmcEvent d 0x021 (some x.block) none 1 else c

/-! ### Spill envelopes (R233, R234) -/

/-- The oldest cells beyond LIMIT of a lossy VOQ toward a port die, as candidates aged by arrival. -/
def Chip.spillCands (c : Chip) (d : Nat) (greenOnly : Bool) : List Cand :=
  (c.dieVoqs d).flatMap (fun v =>
    let k := voqClass v.1
    let lim := c.get (R.BUF_VOQ_LIMIT d) F.BUF_VOQ_LIMIT_LIMIT
    if c.lossless d k || decide (4 ≤ k) || decide (32 ≤ voqDest v.1) then []
    else
      ((v.2.zipIdx.take (v.2.length - lim)).map (fun e => (⟨v.1, e.2, e.1.since, e.1⟩ : Cand))).filter (fun x =>
        !greenOnly || (c.bufCell d x.block x.ent.buf).colour == 0))

/-- SPILL_ENVELOPE_SEND: an idle uplink carries up to 11 over-limit cells to core die k when its spill state admits them
and a spill credit is held. -/
def Chip.spillSend (c : Chip) (d k : Nat) : Chip :=
  let lv := c.spillLevel k
  if !c.flag (R.BUF_SPILL_CFG (32 + k)) F.BUF_SPILL_CFG_ENABLE || lv == 3 || !c.pathOpen d k (32 + k) ||
      decide (c.get (R.BUF_SPILL_CFG (32 + k)) F.BUF_SPILL_CFG_CREDITS ≤ sget c.sw.spillSpent (d * 8 + k)) then c
  else
    let older (x y : Cand) : Bool := decide (x.age < y.age)
    let rec pick : Nat → List Cand → List Cand
      | 0, _ => []
      | n + 1, l =>
        match firstBy older l with
        | none => []
        | some x => x :: pick n (l.filter (fun y => !(y.key == x.key && y.pos == x.pos)))
    let picked := pick 11 (c.spillCands d (lv == 2))
    if picked.isEmpty then c
    else
      let r := c.readPicked d picked
      let c1 := (r.2.dropPicked picked).incSat (R.BUF_SPILL_OUT d) F.BUF_SPILL_OUT_CELLS picked.length
      let env : Env := { src := d, dst := 32 + k, seq := sget c1.sw.envSeq (d * 8 + k), cells := r.1, spill := true,
                         descs := picked.map (fun x => ⟨x.dest, x.ent.egPort, x.cls, x.ent.mcast⟩), seen := lv }
      (c1.sendUp d k env).modSw (fun w => { w with spillSpent := sadd w.spillSpent (d * 8 + k) 1 })

/-! ### UPLINK_SCHEDULE -/

/-- One uplink's turn: `served` are the dies already given an envelope in this slot. -/
def Chip.uplinkTurn (c : Chip) (d k : Nat) (served : List Nat) : List Nat × Chip :=
  let el := (c.candsFor d k).filter (fun x => decide (0 < c.envHeld d k x.dest))
  let fresh := el.filter (fun x => !(x.dest ∈ served))
  let cand := if fresh.isEmpty then el else fresh
  match pickDest cand with
  | none => (served, (c.pmcEvent d 0x024 (some k) none 1).spillSend d k)
  | some e =>
    let picked := pickCells 12 (sget c.sw.lastBlock (d * 40 + e)) (cand.filter (fun x => x.dest == e))
    let c0 := picked.foldl (fun s x => s.bypassHit d x) c
    let r := c0.readPicked d picked
    let next := (picked.getLast?.map (fun x => (x.block + 1) % 8)).getD 0
    let env : Env := { src := d, dst := e, seq := sget c.sw.envSeq (d * 8 + k), cells := r.1 }
    let c1 := ((r.2.dropPicked picked).sendUp d k env).modSw (fun w =>
      { w with envSpent := sadd w.envSpent (pairKey d k e) 1, lastBlock := sset w.lastBlock (d * 40 + e) next })
    (served ++ [e], ((c1.pmcEvent d 0x022 (some k) none 1).pmcEvent d 0x023 (some k) none picked.length).pmcFixed
      d 4 1)

/-- UPLINK_SCHEDULE: cells that have waited for buffers of their copies enter their VOQs (R245; DEDUCED, log 60), then the eight uplinks
take their turns in ascending core die number from (slot mod 8). -/
def Chip.uplinkSchedule (c : Chip) (d : Nat) : Chip :=
  if !c.planeRuns d || c.isolated d || !c.dieRuns d then c
  else
    ((List.range 8).foldl (fun (s : List Nat × Chip) i =>
      s.2.uplinkTurn d ((c.slot + i) % 8) s.1) ([], c.ingWaiting d)).2

end Sys2Proof.Machine
end

