-- ==== Sys2Proof/Machine/Crossbar.lean ====
section
/-!
DEFINITION. The core die's side of the switching path: landing (R206), the spill pool (R235 to R237), staging copies
(R284), the crossbar (R207), and cells the core die originates (R206). Meanings: ENVELOPE_LAND_CORE,
CROSSBAR_ARBITRATE, SPILL_UNPARK, SPILL_LIFETIME_EXPIRY, SPILL_EXPIRY_WINDOW_END.
-/

namespace Sys2Proof.Machine

/-! ### Crossbar input queues (R206) -/

/-- Key of queue (i, o) of core die k (0 to 7); input 32 is the local port. -/
def xqKey (k i o : Nat) : Nat := k * 1056 + i * 32 + o
def Chip.xq (c : Chip) (k i o : Nat) : List XqEnt := SMap.get (fun _ => []) c.sw.xq (xqKey k i o)
def Chip.setXq (c : Chip) (k i o : Nat) (q : List XqEnt) : Chip :=
  c.modSw (fun w => { w with xq := SMap.set (fun _ => []) w.xq (xqKey k i o) q })

/-- Queue an envelope at input i for output o; one the core die builds takes the next ENV_SEQ of its own. -/
def Chip.xqPush (c : Chip) (k i o : Nat) (e : Env) : Chip :=
  let q := c.xq k i o
  let own := (32 + k) * 8 + k
  let n := sget c.sw.envSeq own
  let e1 := if i = 32 then { e with seq := n } else e
  let c1 := if i = 32 then c.modSw (fun w => { w with envSeq := sset w.envSeq own ((n + 1) % 65536) }) else c
  c1.setXq k i o (q ++ [⟨e1, c.slot, if q.isEmpty then some c.slot else none⟩])

/-- Pack cells for port die o in envelopes at the local port. -/
def Chip.corePack (c : Chip) (k o : Nat) : List EnvCell → Chip
  | [] => c
  | x :: t =>
    match (c.xq k 32 o).getLast? with
    | some e =>
      if e.head.isNone && !e.env.spill && decide (e.env.cells.length < 12) && e.landed == c.slot then
        (c.setXq k 32 o ((c.xq k 32 o).dropLast ++ [{ e with env := { e.env with cells := e.env.cells ++ [x] } }])).corePack k o t
      else (c.xqPush k 32 o { src := 32 + k, dst := o, seq := 0, cells := [x] }).corePack k o t
    | none => (c.xqPush k 32 o { src := 32 + k, dst := o, seq := 0, cells := [x] }).corePack k o t

/-- Cells the core die itself sends to port die o leave in envelopes of up to 12 through the local port (R206). The spec
does not say how a core die packs its own cells; they are packed in order, 12 at a time (DESIGN CHOICE, log 10). For an isolated die,
or one whose crossbar port is behind a firebreak, they are dropped as envelopes that land are (R214; DEDUCED, log 58). -/
def Chip.coreSend (c : Chip) (k o : Nat) (xs : List EnvCell) : Chip :=
  if c.isolated o ∨ c.tileFb (32 + k) o then
    (c.incSat (R.XBR_DROP (32 + k)) F.XBR_DROP_ENVELOPES (ceilDiv xs.length 12)).pmcDrop (32 + k) xs.length
  else c.corePack k o xs

/-! ### Spill pool (R235 to R237) -/

def parkKey (k die cls : Nat) : Nat := k * 256 + die * 8 + cls
def Chip.parked (c : Chip) (k die cls : Nat) : List Parked := SMap.get (fun _ => []) c.sw.parked (parkKey k die cls)
def Chip.setParked (c : Chip) (key : Nat) (q : List Parked) : Chip :=
  c.modSw (fun w => { w with parked := SMap.set (fun _ => []) w.parked key q })
def Chip.spillOcc (c : Chip) (k : Nat) : Nat := (c.rd (R.BUF_SPILL_OCC (32 + k))).toNat
def Chip.setSpillOcc (c : Chip) (k n : Nat) : Chip := c.set (R.BUF_SPILL_OCC (32 + k)) F.BUF_SPILL_OCC_PARKED n

/-- Park one cell, or drop it when the pool stands above the state its sender last saw (R235). -/
def Chip.parkCell (c : Chip) (k seen : Nat) (x : EnvCell) (s : SpillDesc) : Chip :=
  let lv := c.spillLevel k
  let excess := decide (seen < lv) && (lv == 3 || (lv == 2 && x.cell.colour != 0))
  if excess ∨ c.spillSize k ≤ c.spillOcc k then
    (c.incSat (R.BUF_SPILL_DROP (32 + k)) F.BUF_SPILL_DROP_CELLS 1).pmcDrop (32 + k) 1
  else (c.setParked (parkKey k s.die s.cls) (c.parked k s.die s.cls ++ [⟨x.cell, s.port, s.mcast, x.origin, c.now⟩])).setSpillOcc k
    (c.spillOcc k + 1)

/-- SPILL_PARK: park a spill envelope's cells and return the sender's spill credit. -/
def Chip.spillPark (c : Chip) (k : Nat) (e : Env) : Chip :=
  ((e.cells.zip e.descs).foldl (fun s p => s.parkCell k e.seen p.1 p.2) c).modSw
    (fun w => { w with spillSpent := ssub w.spillSpent (e.src * 8 + k) 1 })

/-! ### Staging (R284) -/

def Chip.slotSt (c : Chip) (k s : Nat) : Nat := c.get (R.TBL_STG_STAT (32 + k) s) F.TBL_STG_STAT_STATE
def Chip.stg (c : Chip) (k s : Nat) : StageSlot := SMap.get (fun _ => {}) c.stage (k * 4 + s)
def Extent.size (x : Extent) : Nat := x.cells.length * 64
def StageSlot.used (x : StageSlot) : Nat := x.extents.foldl (fun n e => n + e.size) 0

/-- Replace a staging slot and show its extents and HBM3E use. -/
def Chip.setStg (c : Chip) (k s : Nat) (x : StageSlot) : Chip :=
  let a := R.TBL_STG_STAT (32 + k) s
  (({ c with stage := SMap.set (fun _ => {}) c.stage (k * 4 + s) x }).set a F.TBL_STG_STAT_EXTENTS x.extents.length).set a
    F.TBL_STG_STAT_USED (ceilDiv x.used (2 ^ 20))

/-- Add a cell to an extent by its SEQ; a second copy is discarded (R91). The first cell gives COUNT and MSG_TAG (R86). -/
def Extent.add (x : Extent) (v : Cell) : Extent :=
  let x1 := if v.first then { x with count := some (v.bytes 0 4 % 2 ^ 22 + 1), tag := some (v.bytes 4 4) } else x
  let x2 := if (SMap.get (fun _ => none) x1.cells v.seq.toNat).isSome then x1
    else { x1 with cells := SMap.set (fun _ => none) x1.cells v.seq.toNat (some v) }
  { x2 with complete := x2.count == some x2.cells.length }

/-- A staging copy is not staged. -/
def Chip.stageDrop (c : Chip) (k : Nat) : Chip :=
  (c.incSat (R.TBL_STG_DROP (32 + k)) F.TBL_STG_DROP_CELLS 1).pmcDrop (32 + k) 1

/-- STAGE_COPY_LAND: a staging copy joins the open message of its (SRC, TC) in the slot of its group, or starts one; with
no OPEN slot, no room in the reserve or in the index it is not staged and counted. -/
def Chip.stageLand (c : Chip) (k : Nat) (v : Cell) : Chip :=
  match (List.range 4).find? (fun s => c.slotSt k s == 1 && (c.stg k s).group == v.dest.toNat) with
  | none => c.stageDrop k
  | some s =>
    let x := c.stg k s
    let open_ (e : Extent) : Bool := !e.complete && e.src == v.src.toNat && e.tc == v.tc.toNat
    if x.used + 64 > x.reserve * 2 ^ 30 ∨ (!x.extents.any open_ ∧ 4096 ≤ x.extents.length) then
      c.stageDrop k
    else if x.extents.any open_ then
      c.setStg k s { x with extents := x.extents.map (fun e => if open_ e then e.add v else e) }
    else
      let e : Extent := { src := v.src.toNat, tc := v.tc.toNat, tag := none, count := none, cells := [],
                          refs := popCount 32 x.dieMap, complete := false, released := [], bad := false }
      c.setStg k s { x with extents := x.extents ++ [e.add v] }

/-! ### Landing (R206, R200) -/

/-- The local landing buffer of core die k. -/
def Chip.landedAt (c : Chip) (k : Nat) : List Env := SMap.get (fun _ => []) c.sw.landed k
def Chip.setLanded (c : Chip) (k : Nat) (q : List Env) : Chip :=
  c.modSw (fun w => { w with landed := SMap.set (fun _ => []) w.landed k q })

/-- An envelope for the core die itself: staging copies go to the staging engine; the other cells wait in the local
landing buffer, and the credit returns once all are taken. -/
def Chip.landLocal (c : Chip) (k : Nat) (e : Env) : Chip :=
  let c1 := (e.cells.filter (fun x => x.mcast)).foldl (fun s x => s.stageLand k x.cell) c
  let rest := e.cells.filter (fun x => !x.mcast)
  if rest.isEmpty then c1.envCreditDue e.src k (32 + k)
  else c1.setLanded k (c1.landedAt k ++ [{ e with cells := rest }])

/-- A cell for the core die has been taken from the landing buffer by its cluster or hub (R200). -/
def Chip.takeLanded (c : Chip) (k : Nat) (x : Cell) : Chip :=
  let rec go : List Env → List Env × Option Nat
    | [] => ([], none)
    | e :: t =>
      if e.cells.any (fun y => y.cell = x) then
        let rest := e.cells.eraseP (fun y => y.cell = x)
        if rest.isEmpty then (t, some e.src) else ({ e with cells := rest } :: t, none)
      else
        let r := go t
        (e :: r.1, r.2)
  let r := go (c.landedAt k)
  let c1 := c.setLanded k r.1
  match r.2 with
  | some src => c1.envCreditDue src k (32 + k)
  | none => c1

/-- ENVELOPE_LAND_CORE: the next envelope of uplink (d, k) lands at core die k. -/
def Chip.landCore (c : Chip) (d k : Nat) : Chip :=
  match SMap.get (fun _ => []) c.sw.up (d * 8 + k) with
  | [] => c
  | e :: t =>
    let c1 := c.modSw (fun w => { w with up := SMap.set (fun _ => []) w.up (d * 8 + k) t })
    if c1.isolated (32 + k) then c1
    else if e.spill then c1.spillPark k e
    else if e.dst = 32 + k then c1.landLocal k e
    else if c1.isolated e.dst ∨ c1.tileFb (32 + k) e.dst ∨ c1.tileFb (32 + k) d then
      ((c1.incSat (R.XBR_DROP (32 + k)) F.XBR_DROP_ENVELOPES 1).pmcDrop (32 + k) e.cells.length).envCreditDue d k e.dst
    else c1.xqPush k d e.dst e

/-! ### Arbitration (R207) -/

/-- A request of input i for output o. -/
structure Req where
  i : Nat
  o : Nat
  urgent : Bool
  deriving DecidableEq, Repr

/-- Landing credits core die k holds from egress die o: 32, less those spent (R201). -/
def Chip.landHeld (c : Chip) (k o : Nat) : Nat := 32 - sget c.sw.landSpent (k * 32 + o)

/-- R227: a local-port envelope with a cell of a held class is not requested. The core die goes by the hold masks it has
received. -/
def Chip.localHeld (c : Chip) (k o : Nat) (e : Env) : Bool :=
  e.cells.any (fun x => bitOf (sget c.sw.holdSample (k * 32 + o)) x.cell.tc.toNat)

/-- Does the head of queue (i, o) request in the present slot: landed three slots ago, a landing credit held, no hold on
a local envelope, the output die in service? -/
def Chip.requests (c : Chip) (k i o : Nat) (x : XqEnt) : Bool :=
  decide (x.landed + 3 ≤ c.slot) && decide (0 < c.landHeld k o) && !c.isolated o && !c.d2dDown o k
    && !(i == 32 && c.localHeld k o x.env)

/-- Has the head waited at least AGE_LIMIT slots since it became the head? -/
def Chip.urgent (c : Chip) (k : Nat) (x : XqEnt) : Bool :=
  decide ((x.head.getD c.slot) + c.get (R.XBR_ARB_CFG (32 + k)) F.XBR_ARB_CFG_AGE_LIMIT ≤ c.slot)

/-- All requests of core die k. -/
def Chip.allReqs (c : Chip) (k : Nat) : List Req :=
  (c.sw.xq.filter (fun e => e.1 / 1056 == k)).filterMap (fun e =>
    let i := e.1 % 1056 / 32
    let o := e.1 % 32
    match e.2 with
    | [] => none
    | x :: _ => if c.requests k i o x then some ⟨i, o, c.urgent k x⟩ else none)

/-- The best of a list by a measure, the first on a tie. -/
def bestBy {α : Type} (m : α → Nat) : List α → Option α
  | [] => none
  | x :: t =>
    match bestBy m t with
    | none => some x
    | some y => if m x ≤ m y then some x else some y

/-- Urgent before others, then the distance from a pointer. -/
def Req.rank (r : Req) (dist : Nat) : Nat := (if r.urgent then 0 else 64) + dist

/-- One iteration: each output grants one request, each input accepts one grant. -/
def arbIterate (g a : Nat → Nat) (reqs : List Req) : List Req :=
  let grants := (List.range 32).filterMap (fun o =>
    bestBy (fun (r : Req) => r.rank ((r.i + 33 - g o) % 33)) (reqs.filter (fun r => r.o == o)))
  (List.range 33).filterMap (fun i =>
    bestBy (fun (r : Req) => r.rank ((r.o + 32 - a i) % 32)) (grants.filter (fun r => r.i == i)))

/-- The requests of inputs and outputs not yet matched. -/
def unmatched (m reqs : List Req) : List Req := reqs.filter (fun r => !(m.any (fun x => x.i == r.i || x.o == r.o)))

/-- A matched pair sends the head of its queue, spends a landing credit, and the ingress die's credit becomes due. -/
def Chip.switchHead (c : Chip) (k : Nat) (r : Req) : Chip :=
  match c.xq k r.i r.o with
  | [] => c
  | x :: t =>
    let t1 := match t with
      | [] => []
      | y :: u => { y with head := some c.slot } :: u
    let c1 := (c.setXq k r.i r.o t1).modSw (fun w =>
      { w with down := SMap.modify (fun _ => []) w.down (k * 32 + r.o) (· ++ [x.env]),
               landSpent := sadd w.landSpent (k * 32 + r.o) 1 })
    let c2 := if r.i < 32 then c1.envCreditDue r.i k r.o else c1
    let c3 := ((c2.incWrap (R.XBR_MATCHED (32 + k)) F.XBR_MATCHED_ENVELOPES 1).pmcEvent (32 + k) 0x100 (some r.o) none 1).pmcFixed
      (32 + k) 3 1
    if r.urgent then (c3.incSat (R.XBR_URGENT (32 + k)) F.XBR_URGENT_GRANTS 1).pmcEvent (32 + k) 0x101 (some r.o) none 1 else c3

/-- CROSSBAR_ARBITRATE: three iterations match inputs to outputs; the pointers move on first-iteration matches only. -/
def Chip.arbitrate (c : Chip) (k : Nat) : Chip :=
  if !c.planeRuns (32 + k) || c.isolated (32 + k) || !c.dieRuns (32 + k) then c
  else
    let g (o : Nat) : Nat := sget c.sw.gptr (k * 32 + o)
    let a (i : Nat) : Nat := sget c.sw.aptr (k * 33 + i)
    let reqs := c.allReqs k
    let m1 := arbIterate g a reqs
    let g' (o : Nat) : Nat := match m1.find? (fun r => r.o == o) with | some r => (r.i + 1) % 33 | none => g o
    let a' (i : Nat) : Nat := match m1.find? (fun r => r.i == i) with | some r => (r.o + 1) % 32 | none => a i
    let m2 := m1 ++ arbIterate g' a' (unmatched m1 reqs)
    let m3 := m2 ++ arbIterate g' a' (unmatched m2 reqs)
    let c1 := c.modSw (fun w => m1.foldl (fun w r =>
      { w with gptr := sset w.gptr (k * 32 + r.o) ((r.i + 1) % 33), aptr := sset w.aptr (k * 33 + r.i) ((r.o + 1) % 32) }) w)
    m3.foldl (fun s r => s.switchHead k r) c1

/-! ### Unparking (R236, R237) -/

/-- The keys of the FIFOs of core die k for destination die e that hold cells. -/
def Chip.parkKeys (c : Chip) (k e : Nat) : List Nat :=
  (c.sw.parked.filter (fun x => x.1 / 256 == k && x.1 / 8 % 32 == e)).map (·.1)

/-- Take up to n parked cells for die e, oldest FIFO first. -/
def Chip.unparkCells (c : Chip) (k e : Nat) : Nat → List EnvCell × Chip
  | 0 => ([], c)
  | n + 1 =>
    let heads := (c.parkKeys k e).filterMap (fun key =>
      match SMap.get (fun _ => []) c.sw.parked key with
      | [] => none
      | x :: t => some (key, x, t))
    match bestBy (fun (h : Nat × Parked × List Parked) => h.2.1.time) heads with
    | none => ([], c)
    | some h =>
      let r := ((c.setParked h.1 h.2.2).setSpillOcc k (c.spillOcc k - 1)).unparkCells k e n
      (⟨h.2.1.cell, h.2.1.port, h.2.1.mcast, false, h.2.1.origin, none⟩ :: r.1, r.2)

/-- Bytes read from the HBM3E of core die k, counted in 64-byte units by event 0x131. The spec does not say which stack
holds an address; the units are shared equally by both (DESIGN CHOICE, log 12). -/
def Chip.hbmRead (c : Chip) (k bytes : Nat) : Chip :=
  (c.pmcEvent (32 + k) 0x131 (some 0) none ((bytes / 64 + 1) / 2)).pmcEvent (32 + k) 0x131 (some 1) none (bytes / 64 / 2)

/-- SPILL_UNPARK: one envelope of up to 12 parked cells for destination die e joins the local port's queue, behind the
core die's own, when a landing credit is held and the crossbar port is not behind a firebreak. -/
def Chip.spillUnpark (c : Chip) (k e : Nat) : Chip :=
  if c.landHeld k e = 0 ∨ c.isolated e ∨ c.isolated (32 + k) ∨ c.tileFb (32 + k) e then c
  else
    let r := c.unparkCells k e 12
    if r.1.isEmpty then c else (r.2.hbmRead k (64 * r.1.length)).xqPush k 32 e { src := 32 + k, dst := e, seq := 0, cells := r.1, spill := false }

/-- SPILL_LIFETIME_EXPIRY: the head cell of FIFO (e, cls) has not been unparked within LIFE µs of its stamp; it is
dropped and counted, and the window remembers the first. -/
def Chip.spillExpire (c : Chip) (k e cls : Nat) : Chip :=
  match c.parked k e cls with
  | [] => c
  | _ :: t =>
    ((((c.setParked (parkKey k e cls) t).setSpillOcc k (c.spillOcc k - 1)).incSat (R.BUF_SPILL_EXPIRED (32 + k))
      F.BUF_SPILL_EXPIRED_CELLS 1).pmcDrop (32 + k) 1).modSw (fun w =>
        { w with expiredFirst := if sget w.expiredWin k = 0 then sset w.expiredFirst k (e + cls * 64) else w.expiredFirst,
                 expiredWin := sadd w.expiredWin k 1 })

/-- SPILL_EXPIRY_WINDOW_END: a 1 ms window with expiries posts one SPILL_EXPIRY notice (R237). -/
def Chip.spillWindowEnd (c : Chip) (k : Nat) : Chip :=
  let n := sget c.sw.expiredWin k
  if n = 0 then c
  else
    let f := sget c.sw.expiredFirst k
    (c.post (32 + k) 0x09 1 (32 + k) 3 0 0 (n % 2 ^ 32 + f % 64 * 2 ^ 32 + f / 64 * 2 ^ 38)).modSw
      (fun w => { w with expiredWin := sset w.expiredWin k 0, expiredFirst := sset w.expiredFirst k 0 })

end Sys2Proof.Machine
end

