-- ==== Sys2Proof/Machine/Egress.lean ====
section
/-!
DEFINITION. Egress on a port die (R209, R213, R223, R229, R231) and the hold-mask relay (R227). Meanings:
ENVELOPE_LAND_EGRESS, STALLED_CELL_PLACE, LANDING_CREDIT_RETURN, HOLD_MASK_SAMPLE, HOLD_MASK_RELAY, HOLD_MASK_APPLY.
-/

namespace Sys2Proof.Machine

/-! ### Placing a landing cell -/

/-- The landing slots of egress die d that still hold cells. -/
def Chip.landSlots (c : Chip) (d : Nat) : List LandSlot := SMap.get (fun _ => []) c.sw.landing d
def Chip.setLandSlots (c : Chip) (d : Nat) (q : List LandSlot) : Chip :=
  c.modSw (fun w => { w with landing := SMap.set (fun _ => []) w.landing d q })

/-- Does a placed cell of block b wait on die d (R229)? -/
def waitsFor (q : List LandSlot) (b : Nat) : Bool := q.any (fun s => s.cells.any (fun x => x.block == b))

/-- The local ports of a group's PORT_MAP that a copy goes to: not the cell's own ingress port (R283). -/
def groupPorts (map d : Nat) (origin : Option Nat) : List Nat :=
  (setBitsOf 64 map).filter (fun p => origin != some (d * 64 + p))

/-- The group of a landed copy: the group of its DEST, or for a result cell the result group of its object (R209,
R313). -/
def copyGroup (x : Cell) : Nat := if x.kind = 3 then 0xFF000 + x.dest.toNat / 256 else x.dest.toNat

/-- R209: a landed cell as writes to block pools; a multicast copy is written once in each block that holds ports of its
group. A copy whose group is absent or has no port here is counted in TBL_MC_MISS.EGRESS. -/
def Chip.landPlaces (c : Chip) (d : Nat) (x : EnvCell) : List Place1 × Chip :=
  if !x.mcast then ([⟨x.cell, x.port / 8, [x.port], x.saf, x.ts⟩], c)
  else
    let miss := c.incSat (R.TBL_MC_MISS d) F.TBL_MC_MISS_EGRESS 1
    match c.mcFind d (copyGroup x.cell) with
    | none => ([], miss)
    | some i =>
      let map := bitsOf (c.mcEnt d i) 52 64
      if map = 0 then ([], miss)
      else
        let ps := groupPorts map d x.origin
        (((List.range 8).map (fun b => (⟨x.cell, b, ps.filter (fun p => p / 8 == b), x.saf, x.ts⟩ : Place1))).filter
          (fun y => !y.ports.isEmpty), c)

/-- Egress demand or a landing wakes a sleeping block (R423). -/
def Chip.landWake (c : Chip) (d b : Nat) : Chip :=
  if c.blkSt d b = 0 then c else c.wakeBlock d b 5

/-- Append a written cell to the port queues of its ports. -/
def Chip.pqAppend (c : Chip) (d k : Nat) (e : PqEnt) (ports : List Nat) : Chip :=
  ports.foldl (fun s p => s.setPq d p k (s.pq d p k ++ [e])) c

/-- NOSHARE (R225): one copy per reference; every copy after the first is counted. -/
def Chip.copyEach (c : Chip) (d : Nat) (x : Place1) (v : Cell) : List Nat → Bool → Chip
  | [], _ => c
  | p :: t, extra =>
    match c.poolWrite d x.block v 1 true none with
    | none => c
    | some (n, c1) =>
      let c2 := c1.pqAppend d v.tc.toNat { buf := n, saf := x.saf, ts := x.ts } [p]
      (if extra then c2.incSat (R.BUF_COPY d x.block) F.BUF_COPY_CELLS 1 else c2).copyEach d x v t true

/-- The cell with CE set (R231) and its CRC rewritten (R199). -/
def Cell.markCe (v : Cell) : Cell := { v with ce := true : Cell }.seal

/-- Write a cell that has found room: by profile dropped or marked, then buffered and queued. -/
def Chip.placeWrite (c : Chip) (d : Nat) (x : Place1) : Chip :=
  let k := x.cell.tc.toNat
  let r := if k = 4 ∨ k = 7 then (Verdict.pass, c) else c.applyProfile d x.block x.cell true
  if r.1 = .drop then
    ((r.2.incSat (R.BUF_DROP_RED d x.block) F.BUF_DROP_RED_CELLS 1).pmcEvent d 0x034 (some x.block) (some k) 1).pmcDrop d 1
  else
    let marked := r.1 == .mark
    let v := if marked then x.cell.markCe else x.cell
    let c1 := if marked then
        (r.2.incSat (R.BUF_MARK d x.block) F.BUF_MARK_CELLS 1).pmcEvent d 0x033 (some x.block) (some k) 1 else r.2
    let c2 :=
      if c1.flag (R.BUF_POOL_FLR d x.block) F.BUF_POOL_FLR_NOSHARE then c1.copyEach d x v x.ports false
      else
        match c1.poolWrite d x.block v x.ports.length true none with
        | none => c1
        | some (n, c3) => c3.pqAppend d k { buf := n, saf := x.saf, ts := x.ts } x.ports
    c2.landWake d x.block

/-- Free shared buffers the cell needs: one, or one per port under NOSHARE. -/
def Chip.placeNeeds (c : Chip) (d : Nat) (x : Place1) : Nat :=
  if c.flag (R.BUF_POOL_FLR d x.block) F.BUF_POOL_FLR_NOSHARE then x.ports.length else 1

/-- Is there room for the cell? -/
def Chip.placeRoom (c : Chip) (d : Nat) (x : Place1) : Bool :=
  decide (c.occ d x.block + c.placeNeeds d x ≤ c.sharedSize d x.block)

/-- Ports of the cell that are down: one drop counted for each (R213). -/
def Chip.placeUp (c : Chip) (d : Nat) (x : Place1) : Place1 × Chip :=
  let dn := x.ports.filter (fun p => c.portDown d p)
  if dn.isEmpty then (x, c)
  else ({ x with ports := x.ports.filter (fun p => !c.portDown d p) },
    (c.incSat (R.PRT_EG_DROP d) F.PRT_EG_DROP_PORT_DOWN dn.length).pmcDrop d dn.length)

/-- Try to place a landing cell; `behind` when an earlier cell for its pool waits. Answers whether it still waits. -/
def Chip.placeCell (c : Chip) (d : Nat) (x0 : Place1) (behind : Bool) : Bool × Chip :=
  let u := c.placeUp d x0
  let x := u.1
  let c1 := u.2
  let lossy := !c1.lossless d x.cell.tc.toNat
  if x.ports.isEmpty then (false, c1)
  else if c1.blockFb d x.block then (false, (c1.incSat (R.PRT_FB_DISCARD d) F.PRT_FB_DISCARD_CELLS 1).pmcDrop d 1)
  else if lossy && (c1.level d x.block == 3 || !c1.placeRoom d x) then
    (false, (c1.incSat (R.BUF_DROP_FLOOR d x.block) F.BUF_DROP_FLOOR_CELLS 1).pmcDrop d 1)
  else if behind || !c1.placeRoom d x then (true, c1)
  else (false, c1.placeWrite d x)

/-- A landing stall of a pool begins: counted once per episode (R229). -/
def Chip.stallStart (c : Chip) (d b : Nat) : Chip :=
  if (c.pool d b).stalled then c
  else (c.setPool d b { c.pool d b with stalled := true }).incSat (R.BUF_POOL_STAT d b) F.BUF_POOL_STAT_STALLS 1

/-- Place the cells of one landing slot in order: those that still wait, behind the waiting cells of `q`. -/
def Chip.placeSlot (c : Chip) (d : Nat) (q : List LandSlot) : List Place1 → List Place1 → List Place1 × Chip
  | done, [] => (done, c)
  | done, x :: t =>
    let behind := waitsFor q x.block || done.any (fun y => y.block == x.block)
    let r := c.placeCell d x behind
    if r.1 then (r.2.stallStart d x.block).placeSlot d q (done ++ [x]) t else r.2.placeSlot d q done t

/-- A landing credit of core die k waits to be returned by egress die d (R201). -/
def Chip.landCreditDue (c : Chip) (k d : Nat) : Chip :=
  c.modSw (fun w => { w with landReturn := sadd w.landReturn (k * 32 + d) 1 })

/-- Gather the placements of an envelope's cells. -/
def Chip.gatherPlaces (c : Chip) (d : Nat) : List EnvCell → List Place1 × Chip
  | [] => ([], c)
  | x :: t =>
    let r := c.landPlaces d x
    let s := r.2.gatherPlaces d t
    (r.1 ++ s.1, s.2)

/-- ENVELOPE_LAND_EGRESS: the next envelope of downlink (k, d) lands at egress die d. An isolated die loses it (R216). -/
def Chip.landEgress (c : Chip) (d k : Nat) : Chip :=
  match SMap.get (fun _ => []) c.sw.down (k * 32 + d) with
  | [] => c
  | e :: t =>
    let c1 := c.modSw (fun w => { w with down := SMap.set (fun _ => []) w.down (k * 32 + d) t })
    if c1.isolated d || !c1.planeRuns d then c1
    else
      let g := c1.gatherPlaces d e.cells
      let q := g.2.landSlots d
      let r := g.2.placeSlot d q [] g.1
      if r.1.isEmpty then r.2.landCreditDue k d else r.2.setLandSlots d (q ++ [⟨k, r.1⟩])

/-- Walk the landing slots of a die in landing order, placing what now fits. -/
def Chip.placeAll (c : Chip) (d : Nat) : List LandSlot → List LandSlot → List LandSlot × Chip
  | done, [] => (done, c)
  | done, s :: t =>
    let r := c.placeSlot d done [] s.cells
    if r.1.isEmpty then (r.2.landCreditDue s.core d).placeAll d done t
    else r.2.placeAll d (done ++ [{ s with cells := r.1 }]) t

/-- Pools of die d for which no cell waits any more end their landing stall. -/
def Chip.stallEnd (c : Chip) (d : Nat) : Chip :=
  (List.range 8).foldl (fun s b =>
    if (s.pool d b).stalled && !waitsFor (s.landSlots d) b then s.setPool d b { s.pool d b with stalled := false } else s) c

/-- STALLED_CELL_PLACE: waiting landing cells are placed in landing order as far as their pools have room; a slot whose
cells are all placed returns its credit. -/
def Chip.placeStalled (c : Chip) (d : Nat) : Chip :=
  let r := c.placeAll d [] (c.landSlots d)
  (r.2.setLandSlots d r.1).stallEnd d

/-- LANDING_CREDIT_RETURN: egress die d returns one landing credit to core die k. -/
def Chip.landCreditReturn (c : Chip) (d k : Nat) : Chip :=
  let key := k * 32 + d
  if sget c.sw.landReturn key = 0 then c
  else c.modSw (fun w => { w with landReturn := ssub w.landReturn key 1, landSpent := ssub w.landSpent key 1 })

/-! ### Hold masks (R227) -/

/-- HOLD_MASK_SAMPLE: port die d samples its mask at a slot boundary and sends it to every core die whose link is up.
Performance event 0x031 counts the slots at or above PRESSURE. -/
def Chip.holdSample (c : Chip) (d : Nat) : Chip :=
  if c.isolated d || !c.planeRuns d then c
  else
    let m := c.holdMask d
    let c1 := (List.range 8).foldl (fun s b => if 2 ≤ s.level d b then s.pmcEvent d 0x031 (some b) none 1 else s) c
    c1.modSw (fun w => (List.range 8).foldl (fun w k =>
      if c.d2dDown d k || c.isolated (32 + k) then w else { w with holdSample := sset w.holdSample (k * 32 + d) m }) w)

/-- HOLD_MASK_RELAY: in slot s core die k relays the masks of port dies 4m to 4m + 3, m = s mod 8, on every downlink. It
relays no mask of a port die whose link to it is down. -/
def Chip.holdRelay (c : Chip) (k : Nat) : Chip :=
  if c.isolated (32 + k) || !c.planeRuns (32 + k) then c
  else
    let srcs := ((List.range 4).map (fun i => 4 * (c.slot % 8) + i)).filter (fun e => !c.d2dDown e k)
    let dsts := (List.range 32).filter (fun d => !c.d2dDown d k && !c.isolated d)
    c.modSw (fun w => dsts.foldl (fun w d => srcs.foldl (fun w e =>
      { w with holdRelay := SMap.set (fun _ => none) w.holdRelay (d * 32 + e) (some (sget c.sw.holdSample (k * 32 + e))) }) w) w)

/-- HOLD_MASK_APPLY: port die d applies the relayed masks that have arrived. -/
def Chip.holdApply (c : Chip) (d : Nat) : Chip :=
  c.modSw (fun w => (List.range 32).foldl (fun w e =>
    match SMap.get (fun _ => none) w.holdRelay (d * 32 + e) with
    | none => w
    | some m => { w with holdApplied := sset w.holdApplied (d * 32 + e) m,
                         holdRelay := SMap.set (fun _ => none) w.holdRelay (d * 32 + e) none }) w)

end Sys2Proof.Machine
end

