-- ==== Sys2Proof/Machine/Fec.lean ====
section
/-!
DEFINITION. The transmit side of a FEC block (R95 to R97, R158): block control word, cell slots, scrambler, symbols of the two
codewords, sync marker and PAM4 levels.
-/

namespace Sys2Proof.Machine

/-- The sync marker. -/
def syncMarker : Nat := 0xF0C3A5965A3C

/-- The block control word: BLOCK_NO in [55:40], VALID_MAP in [39:8], LANE_TAG in [7:0] (R97). -/
def blockControl (no tag : Nat) (slots : List (Option Cell)) : Nat :=
  no % 2 ^ 16 * 2 ^ 40 + ((List.range 32).foldl (fun m i => if (slots.getD i none).isSome then m + 2 ^ i else m) 0) * 2 ^ 8 + tag % 64

/-- The 64 bytes of a cell in the order they are sent (R76). -/
def Cell.line (x : Cell) : List Nat := x.headBytes ++ [x.crc.toNat / 256, x.crc.toNat % 256] ++ leBytes 52 x.payload.toNat

/-- The bits of a number of w bits, most significant first. -/
def lineBitsOf (w n : Nat) : List Bool := (List.range w).map (fun i => bitOf n (w - 1 - i))

/-- The 16,440 data bits of a block in order: its control word, then 32 slots, a slot without a cell being 0. -/
def blockData (no tag : Nat) (slots : List (Option Cell)) : List Bool :=
  lineBitsOf 56 (blockControl no tag slots) ++ (List.range 32).flatMap (fun i => match slots.getD i none with
    | some x => x.line.flatMap (lineBitsOf 8)
    | none => List.replicate 512 false)

/-- One bit through the self-synchronising scrambler 1 + x³⁹ + x⁵⁸: the bit sent, and the scrambler after it. -/
def scrambleBit (st : BitVec 58) (b : Bool) : Bool × BitVec 58 :=
  let o := (b != st.getLsbD 38) != st.getLsbD 57
  (o, (st <<< 1) ||| BitVec.ofNat 58 o.toNat)

/-- Bits through the scrambler in order. -/
def scramble : BitVec 58 → List Bool → List Bool × BitVec 58
  | st, [] => ([], st)
  | st, b :: t =>
    let r := scrambleBit st b
    let u := scramble r.2 t
    (r.1 :: u.1, u.2)

/-- One bit through the descrambler that follows the decoder. -/
def descrambleBit (st : BitVec 58) (b : Bool) : Bool × BitVec 58 :=
  ((b != st.getLsbD 38) != st.getLsbD 57, (st <<< 1) ||| BitVec.ofNat 58 b.toNat)

/-- The value of bits, most significant first. -/
def bitsVal (bs : List Bool) : Nat := bs.foldl (fun n b => 2 * n + b.toNat) 0

/-- The 1,644 data symbols of 10 bits. -/
def dataSymbols (bs : List Bool) : List Nat := (List.range 1644).map (fun i => bitsVal ((bs.drop (10 * i)).take 10))

/-- Symbols of codeword A (even index, `odd` = 0) or B (odd index). -/
def ofWord (odd : Nat) (syms : List Nat) : List Nat := (List.range 822).map (fun i => nth syms (2 * i + odd))

/-- The 46 parity symbols of a codeword. -/
def paritySymbols (word : List Nat) : List Nat :=
  let p := (Config.rsParity (word.foldl (fun n v => n * 1024 + v) 0)).toNat
  (List.range 46).map (fun i => p / 2 ^ (10 * (45 - i)) % 1024)

/-- The 1,736 symbols of a block: its data symbols, then the parity symbols of A and B in turn. -/
def blockSymbols (bs : List Bool) : List Nat :=
  let syms := dataSymbols bs
  let a := paritySymbols (ofWord 0 syms)
  let b := paritySymbols (ofWord 1 syms)
  syms ++ (List.range 46).flatMap (fun i => [nth a i, nth b i])

/-- The 17,408 bits on the line: the sync marker, not scrambled, then the symbols over scrambled data bits. -/
def lineBits (st : BitVec 58) (no tag : Nat) (slots : List (Option Cell)) : List Bool :=
  lineBitsOf 48 syncMarker ++ (blockSymbols (scramble st (blockData no tag slots)).1).flatMap (lineBitsOf 10)

/-- PAM4 levels 0 to 3 of the line's bit pairs, Gray coded without precoding (R95). -/
def pam4 : List Bool → List Nat
  | a :: b :: t => (if a then (if b then 2 else 3) else (if b then 1 else 0)) :: pam4 t
  | _ => []

/-- The cell slot passes with what it carried; after 32 the FEC block goes out, its data bits move the scrambler on, and the next block
begins. -/
def Chip.slotPass (c : Chip) (l : Nat) : Chip :=
  c.modLane l (fun y =>
    let slots := y.txSlots ++ [y.lastTx]
    if y.txSlot = 31 then
      { y with txSlot := 0, txLc := 0, txBlock := (y.txBlock + 1) % 2 ^ 16, txSlots := [], txFrame := some (y.txBlock, slots),
               scram := (scramble y.scram (blockData y.txBlock (laneLocal l) slots)).2 }
    else { y with txSlot := y.txSlot + 1, txSlots := slots })

/-- The PAM4 symbols of a lane's block that holds the slots given, from the scrambler as it stands. -/
def Chip.lineOf (c : Chip) (l : Nat) (slots : List (Option Cell)) : List Nat :=
  pam4 (lineBits (c.lane l).scram (c.lane l).txBlock (laneLocal l) slots)

end Sys2Proof.Machine
end

