-- ==== Sys2Proof/Machine/Scheduling.lean ====
section
/-!
DEFINITION. Lane assignment (R94, R211), lane scheduling (R252 to R254), shapers (R255 to R258), timed launches (R264 to
R267) and LEVEL_SAT notices (R243, R244). Meanings: LANE_ASSIGN, LANE_CELL_SLOT, SHAPER_REFILL, LAUNCH_PREPARE,
LATE_LAUNCH, LEVEL_SAT_DWELL, TSQ_ENTRY.
-/

namespace Sys2Proof.Machine

/-! ### Shapers -/

/-- Key of shaper s (0 to 7 of a class, 8 of the port) of port p of die d. -/
def shpKey (d p s : Nat) : Nat := (d * 64 + p) * 16 + s

/-- BURST of a shaper in bytes with 24 fractional bits. -/
def Chip.burst (c : Chip) (d p s : Nat) : Int :=
  ((c.get (R.SCH_SHP_BURST d p s) F.SCH_SHP_BURST_BURST * 2 ^ 24 : Nat) : Int)

/-- The token count; a shaper not touched since its reset holds BURST (R258). -/
def Chip.tokens (c : Chip) (d p s : Nat) : Int :=
  (SMap.get (fun _ => none) c.sw.tokens (shpKey d p s)).getD (c.burst d p s)

def Chip.setTokens (c : Chip) (d p s : Nat) (v : Int) : Chip :=
  c.modSw (fun w => { w with tokens := SMap.set (fun _ => none) w.tokens (shpKey d p s) (some v) })

def Chip.shaped (c : Chip) (d p s : Nat) : Bool := c.flag (R.SCH_SHP_RATE d p s) F.SCH_SHP_RATE_ENABLE

/-- SHAPER_REFILL: an enabled shaper gains RATE times the slot just ended, capped at BURST. A slot is 1.6 ns, 3.2 ns with
halved clocks (R256). -/
def Chip.shaperRefill (c : Chip) (d p s : Nat) : Chip :=
  if !c.shaped d p s then c
  else
    let slots : Nat := if c.pw.clkHalf then 2 else 1
    let gain : Int := ((c.get (R.SCH_SHP_RATE d p s) F.SCH_SHP_RATE_RATE * 2 ^ 24 * slots / 5000 : Nat) : Int)
    c.setTokens d p s (min (c.tokens d p s + gain) (c.burst d p s))

/-- Do the enabled shapers of (p, k) let a cell move (R256)? TC6 and TC7 are never held (R257). -/
def Chip.shaperOpen (c : Chip) (d p k : Nat) : Bool :=
  decide (6 ≤ k) || [k, 8].all (fun s => !c.shaped d p s || decide (((c.cellLen d p * 2 ^ 24 : Nat) : Int) ≤ c.tokens d p s))

/-- Charge a cell to the enabled shapers of its class and port. -/
def Chip.shaperCharge (c : Chip) (d p k : Nat) : Chip :=
  [k, 8].foldl (fun s i => if s.shaped d p i then s.setTokens d p i (s.tokens d p i - ((s.cellLen d p * 2 ^ 24 : Nat) : Int)) else s) c

/-! ### WFQ tags (R253) -/

/-- Is a behind b modulo 2³², by the sign of their difference? -/
def tagBefore (a b : Nat) : Bool := decide (2 ^ 31 ≤ (a + 2 ^ 32 - b) % 2 ^ 32)

/-- The tag of a cell of class k that enters a staging queue of lane l, and last(l, k) brought up to date. -/
def Chip.wfqTag (c : Chip) (l k : Nat) : Nat × Chip :=
  let d := laneDie l
  let v := sget c.sw.wfqV l
  let la := sget c.sw.wfqLast (stKey l k)
  let base := if tagBefore v la then la else v
  let t := (base + ceilDiv (c.cellLen d (c.portOf l) * 4096) (c.weight d k)) % 2 ^ 32
  (t, c.modSw (fun w => { w with wfqLast := sset w.wfqLast (stKey l k) t }))

/-- A cell enters staging queue (l, k): tagged unless the class is strict. -/
def Chip.stageCell (c : Chip) (l k : Nat) (e : PqEnt) : Chip :=
  if c.strict (laneDie l) k then c.setStq l k (c.stq l k ++ [{ e with tag := none }])
  else
    let r := c.wfqTag l k
    r.2.setStq l k (r.2.stq l k ++ [{ e with tag := some r.1 }])

/-! ### Assignment (R211) -/

/-- The weight of lane l for class k. -/
def Chip.laneWeight (c : Chip) (l k : Nat) : Nat :=
  let depth := (c.stq l k).length
  if c.laneState l ≠ LS.active ∨ !c.inSpray l then 0
  else if c.lossless (laneDie l) k ∧ (c.lane l).headroom k ≤ depth then 0
  else if 16 ≤ depth then 0
  else 4 - min 3 (depth / 4)

def Chip.current (c : Chip) (l k : Nat) : Int := SMap.get (fun _ => 0) c.sw.current (stKey l k)
def Chip.setCurrent (c : Chip) (l k : Nat) (v : Int) : Chip :=
  c.modSw (fun w => { w with current := SMap.set (fun _ => 0) w.current (stKey l k) v })

/-- The current values of a lane that is added to a port are 0 (R211). -/
def Chip.clearCurrent (c : Chip) (l : Nat) : Chip := (List.range 8).foldl (fun s k => s.setCurrent l k 0) c

/-- The lane with the largest current value, the lowest on a tie. -/
def Chip.largest (c : Chip) (k : Nat) : List Nat → Option Nat
  | [] => none
  | l :: t =>
    match c.largest k t with
    | none => some l
    | some m => if c.current m k ≤ c.current l k then some l else some m

/-- One turn of the smooth weighted round robin: the lane picked, and the current values after it. -/
def Chip.roundRobin (c : Chip) (d p k : Nat) : Option Nat × Chip :=
  let ls := (c.portLanes d p).filter (fun l => decide (0 < c.laneWeight l k))
  let total := ls.foldl (fun n l => n + c.laneWeight l k) 0
  let c1 := ls.foldl (fun s l => s.setCurrent l k (s.current l k + (c.laneWeight l k : Int))) c
  match c1.largest k ls with
  | none => (none, c)
  | some l => (some l, c1.setCurrent l k (c1.current l k - (total : Int)))

/-- The lane R94 names for KIND 6 cells: the lowest ACTIVE one, once the cells queued on the lane in use have left. -/
def Chip.tc7Target (c : Chip) (d p : Nat) : Option Nat :=
  match c.portActive d p with
  | [] => none
  | l :: _ =>
    match SMap.get (fun _ => none) c.sw.tc7Lane (d * 64 + p) with
    | none => some l
    | some m => if m = l ∨ (c.stq m 7).isEmpty then some l else some m

/-- May lane l take one more TC7 cell: fewer than 16 staged, and a credit for one more (R211)? -/
def Chip.tc7Room (c : Chip) (l : Nat) : Bool :=
  decide ((c.stq l 7).length < 16) && decide ((c.stq l 7).length < (c.lane l).headroom 7)
    && decide ((c.lane l).headroom 7 < 2 ^ 23)

/-- Is the head of (p, k) reserved for a timed launch: a late one, or one in a launch register? -/
def Chip.launchHolds (c : Chip) (d p k : Nat) : Bool :=
  (SMap.get (fun _ => none) c.sw.late (pqKey d p k)).isSome
    || (c.portLanes d p).any (fun l => match (c.lane l).launch with
      | some x => x.port == p && x.cls == k
      | none => false)

/-- Is queue (p, k) held for a timed launch (R264)? -/
def Chip.queueHeld (c : Chip) (d p k : Nat) : Bool := bitOf (c.get (R.SCH_HOLD d p) F.SCH_HOLD_HOLD) k

/-- Move the head of (p, k) to a lane's staging queue, if it can move: the chip after the move. -/
def Chip.moveHead (c : Chip) (d p k : Nat) : Option Chip :=
  match c.pq d p k with
  | [] => none
  | e :: t =>
    if c.queueHeld d p k || c.launchHolds d p k || !c.shaperOpen d p k then none
    else if k = 7 then
      match c.tc7Target d p with
      | none => none
      | some l =>
        if c.tc7Room l then
          some ((((c.setPq d p 7 t).shaperCharge d p 7).stageCell l 7 e).modSw
            (fun w => { w with tc7Lane := SMap.set (fun _ => none) w.tc7Lane (d * 64 + p) (some l) }))
        else none
    else
      match c.roundRobin d p k with
      | (none, _) => none
      | (some l, c1) => some (((c1.setPq d p k t).shaperCharge d p k).stageCell l k e)

/-- The order in which a port's classes are tried: strict ones highest first, then the others round robin. -/
def Chip.classOrder (c : Chip) (d p : Nat) : List Nat :=
  let last := sget c.sw.lastClass (d * 64 + p)
  [7, 6, 5, 4, 3, 2, 1, 0].filter (fun k => c.strict d k)
    ++ ((List.range 8).map (fun i => (last + i) % 8)).filter (fun k => !c.strict d k)

/-- Move one cell of port p, from the first class in order whose head can move. -/
def Chip.movePort (c : Chip) (d p : Nat) : List Nat → Chip
  | [] => c
  | k :: t =>
    match c.moveHead d p k with
    | some c1 =>
      if c1.strict d k then c1 else c1.modSw (fun w => { w with lastClass := sset w.lastClass (d * 64 + p) ((k + 1) % 8) })
    | none => c.movePort d p t

/-- R213: every lane of the port in its applied spray set is DROWSY while a cell waits: the egress die wakes the block, or asks the
partner to end its own DROWSY. -/
def Chip.portDemand (c : Chip) (d p : Nat) : Chip :=
  let ls := (c.portLanes d p).filter (fun l => c.inSpray l)
  if ls.isEmpty ∨ (List.range 8).all (fun k => (c.pq d p k).isEmpty) then c
  else if c.blkSt d (p / 8) ≠ 0 then c.wakeBlock d (p / 8) 5
  else if ls.all (fun l => c.laneState l == LS.drowsy) then ls.foldl Chip.askAwake c else c

/-- Cells at egress of a port that is down are dropped (R213). -/
def Chip.dropPortQueues (c : Chip) (d p : Nat) : Chip :=
  (List.range 8).foldl (fun s k =>
    let q := s.pq d p k
    if q.isEmpty then s
    else
      ((q.foldl (fun s e => s.poolRelease d (p / 8) e.buf) (s.setPq d p k [])).incSat (R.PRT_EG_DROP d)
        F.PRT_EG_DROP_PORT_DOWN q.length).pmcDrop d q.length) c

/-- Performance events counted once a slot: a shaper held a head (0x041), a lossless head waited for credit (0x015). -/
def Chip.waitEvents (c : Chip) (d p : Nat) : Chip :=
  if c.cycle % 4 ≠ 0 then c
  else
    (List.range 8).foldl (fun s k =>
      if (s.pq d p k).isEmpty then s
      else
        let s1 := if s.shaperOpen d p k then s else s.pmcEvent d 0x041 (some p) (some k) 1
        (s.portActive d p).foldl (fun s l =>
          if s.lossless d k && decide ((s.lane l).headroom k ≤ (s.stq l k).length) then
            s.pmcEvent d 0x015 (some (laneLocal l)) (some k) 1 else s) s1) c

/-- One port's turn in a core cycle: up to 2 cells. -/
def Chip.assignPort (c : Chip) (d p : Nat) : Chip :=
  if c.portDown d p then c.dropPortQueues d p
  else
    let c1 := (c.waitEvents d p).portDemand d p
    if c1.blkSt d (p / 8) ≠ 0 then c1 else
    let c2 := c1.movePort d p (c1.classOrder d p)
    c2.movePort d p (c2.classOrder d p)

/-- LANE_ASSIGN: in one core cycle each port of die d moves up to 2 cells to lane staging queues. -/
def Chip.laneAssign (c : Chip) (d : Nat) : Chip :=
  if c.isolated d || !c.planeRuns d || !c.dieRuns d then c
  else ((List.range 64).filter (fun p => c.startsPort d p)).foldl (fun s p => s.assignPort d p) c

/-! ### Timed launches (R265, R266) -/

/-- The lowest-numbered ACTIVE lane of port p in its applied spray set that may send one more cell of class k and whose
launch register is free. -/
def Chip.launchLane (c : Chip) (d p k : Nat) : Option Nat :=
  (c.portActive d p).find? (fun l => (!c.lossless d k || (c.lane l).mayCredit k) && (c.lane l).launch.isNone)

/-- Place the head of (p, k) in the launch register of the lane the rule names. -/
def Chip.launchPlace (c : Chip) (d p k : Nat) (mk : PqEnt → Launch) : Option Chip :=
  match c.pq d p k with
  | [] => none
  | e :: t =>
    match c.launchLane d p k with
    | none => none
    | some l => some ((c.setPq d p k t).modLane l (fun x => { x with launch := some (mk e) }))

/-- LAUNCH_PREPARE: 200 ns before release bell i of die d, the head of its held queue is placed in a launch register. -/
def Chip.launchPrepare (c : Chip) (d i : Nat) : Chip :=
  match SMap.get (fun _ => none) c.bells (d * 256 + i) with
  | none => c
  | some b =>
    let p := b.arg % 64
    let k := b.arg / 64 % 8
    if b.action ≠ 1 ∨ !c.queueHeld d p k then c
    else (c.launchPlace d p k (fun e => ⟨e.buf, e.ts, p, k, b.time, if b.ts then some (2 * 65536 + b.tag) else none, i,
      false, false⟩)).getD c

/-- LATE_LAUNCH: the head of (p, k) whose launch conditions failed, or whose lane left ACTIVE, is placed again once they
hold. -/
def Chip.lateLaunch (c : Chip) (d p k : Nat) : Chip :=
  match SMap.get (fun _ => none) c.sw.late (pqKey d p k) with
  | none => c
  | some x =>
    match c.launchPlace d p k (fun e => { x with buf := e.buf, own := e.ts }) with
    | none => c
    | some c1 => c1.modSw (fun w => { w with late := SMap.set (fun _ => none) w.late (pqKey d p k) none })

/-! ### Transmission (R199, R252) -/

/-- Send a buffered cell on lane l: checked, sealed afresh, counted in SENT_c, its buffer released, its timestamp taken. -/
def Chip.transmit (c : Chip) (l k buf : Nat) (stamps : List Nat) : Chip :=
  let d := laneDie l
  let x := c.bufCell d (laneBlock l) buf
  let c1 := c.poolRelease d (laneBlock l) buf
  if !x.crcOk then
    ((c1.incSat (R.PRT_EG_DROP d) F.PRT_EG_DROP_INTERNAL 1).pmcDrop d 1).modLane l (fun y => { y with lastTx := none })
  else
    let c2 := c1.modLane l (fun y => { y with lastTx := some x.seal, sent := cntSet y.sent k (cnt y.sent k + 1),
                                              syncDue := y.syncDue || c.lossless d k })
    let c3 := (c2.pmcEvent d 0x011 (some (laneLocal l)) (some k) 1).pmcFixed d 3 1
    { c3 with stamps := SMap.modify (fun _ => []) c3.stamps d
                (· ++ stamps.map (fun s => ⟨c.now, laneLocal l, s / 65536, s % 65536⟩)) }

/-- Count a launch on time or LATE (R266). -/
def Chip.launchCount (c : Chip) (d : Nat) (x : Launch) : Chip :=
  let dev := if x.time ≤ c.now then c.now - x.time else x.time - c.now
  if x.late ∨ 5 * tuNs < dev then c.incSat (R.SCH_LAUNCH_STAT d) F.SCH_LAUNCH_STAT_LATE 1
  else c.incWrap (R.SCH_LAUNCH_STAT d) F.SCH_LAUNCH_STAT_ON_TIME 1

/-- Send the cell of the lane's launch register; it is charged to its shapers (R257). -/
def Chip.sendLaunch (c : Chip) (l : Nat) (x : Launch) : Chip :=
  let d := laneDie l
  ((((c.modLane l (fun y => { y with launch := none })).shaperCharge d x.port x.cls).launchCount d x).transmit l x.cls x.buf
    (x.own.toList ++ x.ts.toList))

/-- The next link control message of a lane, whose CREDIT_SYNC carries SENT_c as it stands (R110). -/
def Chip.sendLc (c : Chip) (l : Nat) (m : Lc) (rest : List Lc) : Chip :=
  let x := c.lane l
  let m1 := if m.op = 0x05 then
      { m with body := creditBody (c.losslessMask (laneDie l)) ((List.range 8).map (cnt x.sent)) } else m
  c.modLane l (fun y => { y with lcOut := rest, lastTx := some (lcCell (laneLocal l) m1), txLc := y.txLc + 1 })

/-- The highest STRICT class with a staged cell. -/
def Chip.strictReady (c : Chip) (l : Nat) : Option Nat :=
  [7, 6, 5, 4, 3, 2, 1, 0].find? (fun k => c.strict (laneDie l) k && !(c.stq l k).isEmpty)

/-- The class WFQ chooses: the smallest head tag, the higher class on a tie. -/
def Chip.wfqReady (c : Chip) (l : Nat) : Option (Nat × Nat) :=
  [7, 6, 5, 4, 3, 2, 1, 0].foldl (fun best k =>
    if c.strict (laneDie l) k then best
    else match c.stq l k with
      | [] => best
      | e :: _ =>
        let t := e.tag.getD 0
        match best with
        | none => some (k, t)
        | some (j, u) => if tagBefore t u then some (k, t) else some (j, u)) none

/-- Send the head of staging queue (l, k). -/
def Chip.sendStaged (c : Chip) (l k : Nat) : Chip :=
  match c.stq l k with
  | [] => c
  | e :: t => (c.setStq l k t).transmit l k e.buf e.ts.toList

/-- A lane's transmitter carries FEC blocks: it is training, active, draining, drained, or drowsy above depth 3, or FAILED with
PORT_DOWN still to send (R123). An isolated die's transmitters are dark (R214). -/
def Chip.transmits (c : Chip) (l : Nat) : Bool :=
  let st := c.laneState l
  !c.isolated (laneDie l) && (st == LS.failed && !(c.lane l).lcOut.isEmpty || st == LS.training || receives st || (st == LS.drowsy && c.get (lstat l) F.PRT_LSTAT_DEPTH != 3))

/-- Strict classes before the WFQ choice; nothing is sent when every staging queue is empty (R252). -/
def Chip.cellSlotQueue (c : Chip) (l : Nat) : Chip :=
  match c.strictReady l with
  | some k => c.sendStaged l k
  | none =>
    match c.wfqReady l with
    | some (k, t) => (c.sendStaged l k).modSw (fun w => { w with wfqV := sset w.wfqV l t })
    | none => c.modLane l (fun y => { y with lastTx := none })

/-- A timed launch that is due, or the queues; an ACTIVE lane only. -/
def Chip.cellSlotData (c : Chip) (l : Nat) : Chip :=
  if c.laneState l ≠ LS.active then c.modLane l (fun y => { y with lastTx := none })
  else match (c.lane l).launch with
    | some v => if v.due then c.sendLaunch l v else c.cellSlotQueue l
    | none => c.cellSlotQueue l

/-- The choice of R252 for one cell slot: link control first, outside training at most 2 in an FEC block (R102) but on a lane of
ROLE 2 (R465). -/
def Chip.cellSlotSend (c : Chip) (l : Nat) : Chip :=
  match (c.lane l).lcOut with
  | m :: t => if (c.lane l).txLc < 2 ∨ c.laneState l = LS.training ∨ c.role l = 2 then c.sendLc l m t else c.cellSlotData l
  | [] => c.cellSlotData l

/-- LANE_CELL_SLOT: one cell slot of lane l. A chip that has gone dark still sends the SPINE_DOWN cells it has queued (R123). -/
def Chip.laneCellSlot (c : Chip) (l : Nat) : Chip :=
  if c.darkChip then
    match (c.lane l).lcOut with
    | m :: t => (c.sendLc l m t).slotPass l
    | [] => c
  else if !c.planeRuns (laneDie l) || !c.transmits l then c
  else (c.cellSlotSend l).slotPass l

/-! ### Transmit timestamp queue (R404, R405) -/

/-- TSQ_ENTRY: the oldest sent cell of die d with a timestamp request enters the queue, or is lost when the queue is full.
The first loss since the queue was last empty posts event 0x12. -/
def Chip.tsqEntry (c : Chip) (d : Nat) : Chip :=
  match SMap.get (fun _ => []) c.stamps d with
  | [] => c
  | s :: t =>
    let c1 := { c with stamps := SMap.set (fun _ => []) c.stamps d t }
    let a := R.TIM_TSQ_PTR d
    let hd := c1.get a F.TIM_TSQ_PTR_HEAD
    let tl := c1.get a F.TIM_TSQ_PTR_TAIL
    if hd % 64 = tl % 64 ∧ hd ≠ tl then
      let c2 := c1.incSat (R.TIM_TSQ_STAT d) F.TIM_TSQ_STAT_LOST 1
      if SMap.get (fun _ => false) c2.tsqLost d then c2
      else ({ c2 with tsqLost := SMap.set (fun _ => false) c2.tsqLost d true }).post d 0x0A 1 d 3 0 0
        (0x12 + s.lane * 2 ^ 8)
    else
      let e : BitVec 128 := BitVec.ofNat 128 (timeSec s.time * 2 ^ 80 + timeNsec s.time * 2 ^ 50 + timeFrac s.time * 2 ^ 34
        + s.lane * 2 ^ 28 + s.source * 2 ^ 24 + s.tag)
      let c2 := { c1 with tsq := SMap.set (fun _ => 0) c1.tsq (d * 64 + hd % 64) e }
      (c2.set a F.TIM_TSQ_PTR_HEAD (hd + 1))

/-! ### LEVEL_SAT (R243, R244) -/

/-- Does the unit saturate at this moment, as R243 asks of every moment of DWELL? u is the port, the block, or unused. WHAT 0x03 asks it
of half of them only. -/
def Chip.saturated (c : Chip) (what d u : Nat) (enter : Bool) : Bool :=
  if what = 1 then (List.range 8).any (fun k => !(c.pq d u k).isEmpty)
  else if what = 2 then decide (1 ≤ c.level d u)
  else if what = 3 then enter
  else decide (2 ≤ c.spillLevel (d - 32))

/-- The classes concerned. -/
def Chip.satClasses (c : Chip) (what d u : Nat) : Nat :=
  let m (p : Nat → Bool) : Nat := ((List.range 8).filter p).foldl (fun a k => a + 2 ^ k) 0
  if what = 1 then m (fun k => !(c.pq d u k).isEmpty)
  else if what = 2 then c.get (R.BUF_POOL_STAT d u) F.BUF_POOL_STAT_HOLD
  else if what = 3 then c.holdMask d
  else m (fun k => (List.range 32).any (fun e => !(c.parked (d - 32) e k).isEmpty))

/-- LEVEL_SAT_DWELL: the condition of R243 for a unit has held (`enter`), or has been false, for DWELL µs; `us` is the
time the notice gives. One ENTER, then one LEAVE. -/
def Chip.levelSat (c : Chip) (what d u : Nat) (enter : Bool) (us : Nat) : Chip :=
  let key := (what * 64 + d) * 64 + u
  let was := sget c.sw.satSince key != 0
  if was = enter ∨ !c.planeRuns d ∨ c.saturated what d u enter ≠ enter then c
  else
    let occ := if what = 2 then c.occ d u / 1024 else if what = 4 then c.spillOcc (d - 32) / 1024 else 0
    let detail := (if enter then 1 else 2) + what * 2 ^ 8 + c.satClasses what d u * 2 ^ 16 + min occ 0xFFFF * 2 ^ 24
      + min us 0xFFFFFF * 2 ^ 40
    (c.post d 0x02 (if enter then 1 else 0) d (if what = 1 then 1 else if what = 2 then 2 else 3)
      (if what = 1 then u / 8 else if what = 2 then u else 0) (if what = 1 then u else 0) detail).modSw
      (fun w => { w with satSince := sset w.satSince key enter.toNat })

end Sys2Proof.Machine
end

