-- ==== Sys2Proof/Machine/Ledger.lean ====
section
/-!
DEFINITION. The maintenance ledger (R475 to R483, R490): entries and their declarations, requests, admission rules, ends
and MAINT notices. Meanings: LEDGER_REQUEST, LEDGER_WAIT_NOTICE. Admission itself, which starts the activities, stands in
Admission.lean.
-/

namespace Sys2Proof.Machine

/-! ### Declarations (R476) -/

/-- ACT of an activity. -/
def Activity.act : Activity → Nat
  | .cal _ => 1
  | .swap .. => 2
  | .quiz .. => 3
  | .audit _ => 4
  | .tableScrub => 5
  | .hbmScrub _ => 6
  | .partialLoad _ => 7
  | .clearing .. => 8

/-- Local lanes an activity takes out of service. -/
def Activity.lanesOut : Activity → List Nat
  | .cal l => [laneLocal l]
  | .swap _ _ ls => ls.map laneLocal
  | .clearing r k => [8 * r + k, 8 * (r + 4) + k]
  | _ => []

/-- A unit's block or cluster: for a checker, lane group, transform unit or optimizer engine its cluster. -/
def QUnit.home (u : QUnit) : Option Nat := if u.ty = 4 then none else some u.block

/-- Blocks or clusters declared. -/
def Activity.blocks : Activity → List Nat
  | .quiz u _ => u.home.toList
  | .audit p => if p < 8 then [p] else []
  | .cal l => [laneBlock l]
  | .swap _ _ ls => ((ls.map laneBlock).eraseDups)
  | .clearing r _ => [r, r + 4]
  | .partialLoad d => List.range (if d < 32 then 8 else 4)
  | _ => []

/-- HBM3E stacks declared. -/
def Activity.stacks : Activity → List Nat
  | .audit p => if p = 8 then [0, 1] else []
  | .hbmScrub s => [s]
  | .partialLoad d => if d < 32 then [] else [0, 1]
  | _ => []

/-- Do two activities of one die conflict (R478)? -/
def Activity.conflicts (a b : Activity) : Bool :=
  a.act == 7 || b.act == 7 || (a.act == 1 && b.act == 1) || (a.act == 5 && b.act == 5)
    || a.blocks.any (fun x => x ∈ b.blocks) || a.stacks.any (fun x => x ∈ b.stacks)

/-! ### Entries -/

def Chip.entry (c : Chip) (d i : Nat) : Option LedgerEnt := SMap.get (fun _ => none) c.ledger (d * 64 + i)

/-- A mask of the listed bits. -/
def maskOf (l : List Nat) : Nat := l.eraseDups.foldl (fun m i => m + 2 ^ i) 0

/-- Show an entry in FLT_LDG_ENT_i and its lanes. -/
def Chip.showEntry (c : Chip) (d i : Nat) : Chip :=
  match c.entry d i with
  | none => ((c.wr (R.FLT_LDG_ENT d i) 0).wr (R.FLT_LDG_LANES_LO d i) 0).wr (R.FLT_LDG_LANES_HI d i) 0
  | some e =>
    let lm := maskOf e.act.lanesOut
    let w := (if e.running then 2 else 1) + e.head.toNat * 2 ^ 2 + e.act.act * 2 ^ 3 + maskOf e.act.blocks % 256 * 2 ^ 8
      + maskOf e.act.stacks * 2 ^ 16 + (e.act.act == 5 || (e.act.act == 7 && d < 32)).toNat * 2 ^ 18 + (e.act.act == 7).toNat * 2 ^ 19
      + (match e.act with | .swap _ f _ => 2 ^ (20 + f % 2) | _ => 0)
    ((c.wr (R.FLT_LDG_ENT d i) (BitVec.ofNat 32 w)).wr (R.FLT_LDG_LANES_LO d i) (BitVec.ofNat 32 (lm % 2 ^ 32))).wr
      (R.FLT_LDG_LANES_HI d i) (BitVec.ofNat 32 (lm / 2 ^ 32))

/-- The entries of a die that are not FREE. -/
def Chip.entries (c : Chip) (d : Nat) : List (Nat × LedgerEnt) :=
  (List.range 64).filterMap (fun i => (c.entry d i).map (fun e => (i, e)))

/-- Show the counts of RUNNING and QUEUED entries. -/
def Chip.showLedger (c : Chip) (d : Nat) : Chip :=
  let es := c.entries d
  (c.set (R.FLT_LDG_STAT d) F.FLT_LDG_STAT_RUNNING (es.filter (fun e => e.2.running)).length).set (R.FLT_LDG_STAT d)
    F.FLT_LDG_STAT_QUEUED (es.filter (fun e => !e.2.running)).length

def Chip.setEntry (c : Chip) (d i : Nat) (e : Option LedgerEnt) : Chip :=
  (({ c with ledger := SMap.set (fun _ => none) c.ledger (d * 64 + i) e }).showEntry d i).showLedger d

/-- A MAINT notice (R490): EVENT 1 ENDED, 2 REFUSED, 3 WAITING. -/
def Chip.maint (c : Chip) (d : Nat) (a : Activity) (event outcome entry us result : Nat) : Chip :=
  let sev := if event = 1 ∧ outcome = 0 ∧ (result = 0 ∨ a.act = 5 ∨ a.act = 6) then 0 else 1
  let b := a.blocks.foldl min 15
  c.post d 0x08 sev d (if a.blocks.isEmpty then 3 else 2) (if a.blocks.isEmpty then 0 else b) 0
    (event + a.act * 2 ^ 8 + outcome * 2 ^ 12 + entry * 2 ^ 16 + min us 0xFFFFF * 2 ^ 22 + min result 0x3FFFFF * 2 ^ 42)

/-- Band of an activity (R476): a swap is head, a quiz for a wake (1) or a check (2) is. -/
def Activity.headBand : Activity → Bool
  | .swap .. => true
  | .quiz _ r => r == 1 || r == 2
  | _ => false

/-- The lowest FREE entry of a die. -/
def Chip.freeEntry (c : Chip) (d : Nat) : Option Nat := (List.range 64).find? (fun i => (c.entry d i).isNone)

/-- A request is refused: counted, and reported with outcome REFUSED. -/
def Chip.ledgerRefuse (c : Chip) (d : Nat) (a : Activity) : Chip :=
  (c.incSat (R.FLT_LDG_STAT d) F.FLT_LDG_STAT_REFUSED 1).maint d a 2 5 0 0 0

/-- LEDGER_REQUEST: the activity takes a FREE entry as QUEUED; four entries are kept for the head band. Otherwise it is
refused. -/
def Chip.ledgerRequest (c : Chip) (d : Nat) (a : Activity) : Chip :=
  let free := 64 - (c.entries d).length
  match c.freeEntry d with
  | some i =>
    if a.headBand ∨ 4 < free then
      ({ c with ledgerNext := c.ledgerNext + 1 }).setEntry d i (some ⟨a, a.headBand, false, c.ledgerNext, c.now, false⟩)
    else c.ledgerRefuse d a
  | none => c.ledgerRefuse d a

/-- Does some entry of die d name this activity? -/
def Chip.hasEntry (c : Chip) (d : Nat) (p : Activity → Bool) : Option Nat :=
  ((c.entries d).find? (fun e => p e.2.act)).map (·.1)

/-- An entry ends (R481) with an outcome and a result; a quiz that ends DONE, FAILED or ABORTED posts no MAINT notice. -/
def Chip.entryEnd (c : Chip) (d i outcome result : Nat) : Chip :=
  match c.entry d i with
  | none => c
  | some e =>
    let us := (c.now - e.since) / tuUs
    let c1 := c.setEntry d i none
    let c2 := if outcome = 2 then c1.incSat (R.FLT_LDG_CNT d) F.FLT_LDG_CNT_PREEMPTED 1
      else if outcome = 4 then c1.incSat (R.FLT_LDG_CNT d) F.FLT_LDG_CNT_RESET 1 else c1
    if e.act.act = 3 ∧ (outcome = 0 ∨ outcome = 1 ∨ outcome = 3) then c2
    else c2.maint d e.act 1 outcome i us result

/-- End the entry of an activity, wherever it stands. -/
def Chip.activityEnd (c : Chip) (d : Nat) (p : Activity → Bool) (outcome result : Nat) : Chip :=
  match c.hasEntry d p with
  | some i => c.entryEnd d i outcome result
  | none => c

/-- Does the entry's activity run? -/
def Chip.running (c : Chip) (d : Nat) (p : Activity → Bool) : Bool :=
  (c.entries d).any (fun e => e.2.running && p e.2.act)

/-- LEDGER_WAIT_NOTICE: entry i has been QUEUED for WAIT_MAX ms; reported once (R490). -/
def Chip.waitNotice (c : Chip) (d i : Nat) : Chip :=
  match c.entry d i with
  | none => c
  | some e =>
    if e.running ∨ e.told then c
    else (c.setEntry d i (some { e with told := true })).maint d e.act 3 0 i ((c.now - e.since) / tuUs) 0

/-! ### Admission (R477, R479) -/

/-- Lanes of die d taken out by RUNNING entries, with those drained at −3.0 dB whose swap waits (R156, R477). -/
def Chip.lanesOut (c : Chip) (d : Nat) : List Nat :=
  ((c.entries d).filter (fun e => e.2.running)).flatMap (fun e => e.2.act.lanesOut)
    ++ (List.range 64).filter (fun p =>
      let x := SMap.get (fun _ => {}) c.optics.lanes (d * 64 + p)
      x.swapDue && decide (2 ≤ x.n30) && (c.entries d).any (fun e => !e.2.running && p ∈ e.2.act.lanesOut))

/-- Would a port group have more than one lane out? A swap's own lanes are not counted against it. -/
def Chip.capacityOk (c : Chip) (d : Nat) (a : Activity) : Bool :=
  let out := (c.lanesOut d).filter (fun p => !(a.act == 2 && p ∈ a.lanesOut))
  a.lanesOut.all (fun p =>
    let port := c.portOf (d * 64 + p)
    ((out.filter (fun q => c.portOf (d * 64 + q) == port)).length == 0) &&
      (a.act == 2 || ((a.lanesOut.filter (fun q => c.portOf (d * 64 + q) == port)).length ≤ 1)))

/-- No declared block, cluster or lane is behind a firebreak; none declared is in DEEP_RECESS or deeper, wake quizzes
excepted. -/
def Chip.unitsOk (c : Chip) (d : Nat) (a : Activity) : Bool :=
  !c.isolated d && a.blocks.all (fun b => !c.blockFb d b) && a.lanesOut.all (fun p => !c.tileFb d p)
    && (match a with
        | .quiz u r => (u.ty != 1 && u.ty != 4 && u.ty != 5 || !c.tileFb d u.tile) && (r == 1 || c.dieRuns d && a.blocks.all (fun b => c.blkSt d b != 2))
        | _ => c.dieRuns d && a.blocks.all (fun b => c.blkSt d b != 2))

/-- R477: may a QUEUED entry be admitted, given the activities of entries that stand before it in the queue? -/
def Chip.admissible (c : Chip) (d : Nat) (a : Activity) (before : List Activity) : Bool :=
  !(c.entries d).any (fun e => e.2.running && e.2.act.conflicts a) && !before.any (fun b => b.conflicts a)
    && c.capacityOk d a && !(a.act == 3 && c.sag) && c.unitsOk d a

/-- The queue of a die in band and request order. -/
def Chip.ledgerQueue (c : Chip) (d : Nat) : List (Nat × LedgerEnt) :=
  let q := (c.entries d).filter (fun e => !e.2.running)
  let ord : List (Nat × LedgerEnt) → List (Nat × LedgerEnt) := orderBy (fun x => x.2.order)
  ord (q.filter (fun e => e.2.head)) ++ ord (q.filter (fun e => !e.2.head))

end Sys2Proof.Machine
end

