-- ==== Sys2Proof/Machine/Integrity.lean ====
section
/-!
DEFINITION. Failure signature records (R384, R386), QUIZ notices (R391), implicated units and their verdicts (R377,
R378). Shared by the checks of collectives and by the quizzes.
-/

namespace Sys2Proof.Machine

/-- An open value (DESIGN CHOICE, log 6): the next free value of the chip. -/
def Chip.drawFree (c : Chip) : Nat × Chip := ((Config.freeValue c.draws).toNat, { c with draws := c.draws + 1 })

/-- The first 16 bytes of the device identity digest, of one M40 (DESIGN CHOICE, log 5). -/
def deviceDigest : Nat := (Config.crypto 1 0).toNat % 2 ^ 128

/-- LEVEL of a unit in notices: a lane pipeline, crossbar port or lane group is a tile, every other unit a block's or
cluster's. -/
def QUnit.level (u : QUnit) : Nat := if u.ty = 1 ∨ u.ty = 4 ∨ u.ty = 5 then 1 else 2

/-- The 64 bytes of a record (R384), the CRC-16 over bytes 0 to 61 in bytes 62 and 63. -/
def fsigBytes (kind check : Nat) (u : QUnit) (expected observed mv temp mhz rep now ctx flags : Nat) : List Nat :=
  let b := [1, kind] ++ leBytes 2 check ++ leBytes 16 deviceDigest ++ [u.die, u.level + u.ty * 16, u.block, u.tile]
    ++ leBytes 8 expected ++ leBytes 8 observed ++ leBytes 2 mv ++ leBytes 2 temp ++ leBytes 2 mhz ++ leBytes 2 rep
    ++ leBytes 6 (timeSec now) ++ leBytes 4 (timeNsec now) ++ leBytes 2 ctx ++ [flags, 0]
  let r := (b.foldl crcByte 0xFFFF).toNat
  b ++ [r / 256, r % 256]

/-- REPEAT of a record identity, counted up. -/
def tally (key : List Nat) : List (List Nat × Nat) → Nat × List (List Nat × Nat)
  | [] => (1, [(key, 1)])
  | e :: t =>
    if e.1 = key then (min 0xFFFF (e.2 + 1), (key, min 0xFFFF (e.2 + 1)) :: t)
    else
      let r := tally key t
      (r.1, e :: r.2)

/-- FSIG_WRITE: write a record to the ring of the primary hub, and kinds PERMANENT and UNRESOLVED to the flash log of the
last 256. A full ring loses its oldest record. Vector 66 is signalled (R449). Answers the ring index. The supply voltage at the event is a measured
value no rule gives (DESIGN CHOICE, log 6). -/
def Chip.fsigWrite (c : Chip) (kind check : Nat) (u : QUnit) (expected observed ctx flags : Nat) : Nat × Chip :=
  let f := c.drawFree
  let t := tally [kind, check, u.die, u.level + u.ty * 16, u.block, u.tile] f.2.integ.repeats
  let temp := f.2.get (R.PWR_TEMP u.die) F.PWR_TEMP_NOW
  let bytes := fsigBytes kind check u expected observed (f.1 % 65536) temp (if f.2.pw.clkHalf then 1250 else 2500) t.1
    f.2.now ctx flags
  let a := R.FLT_FSIG_PTR f.2.primaryDie
  let hd := f.2.get a F.FLT_FSIG_PTR_HEAD
  let tl := f.2.get a F.FLT_FSIG_PTR_TAIL
  let full := hd % 4096 = tl % 4096 ∧ hd ≠ tl
  let c1 := { f.2 with integ := { f.2.integ with ring := SMap.set (fun _ => []) f.2.integ.ring (hd % 4096) bytes,
                                                 repeats := t.2 } }
  let c2 := if full then (c1.incSat a F.FLT_FSIG_PTR_LOST 1).set a F.FLT_FSIG_PTR_TAIL (tl + 1) else c1
  let c3 := c2.set a F.FLT_FSIG_PTR_HEAD (hd + 1)
  let last256 (l : List (List Nat)) : List (List Nat) := (l ++ [bytes]).drop (l.length + 1 - 256)
  let keep (x : Hub) : Hub := { x with flash := { x.flash with fsig := last256 x.flash.fsig } }
  let c4 := match c3.primary with
    | some h => c3.signal h 66
    | none => c3
  (hd % 4096, if kind = 3 ∨ kind = 4 then (c4.modHub 0 keep).modHub 1 keep else c4)

/-- A QUIZ notice (R391). -/
def Chip.quizNotice (c : Chip) (u : QUnit) (id result reason fsig us obj : Nat) : Chip :=
  let sev := if result = 1 ∨ result = 13 then 2
    else if (result = 0 ∧ reason = 2) ∨ result = 3 ∨ result = 4 ∨ (8 ≤ result ∧ result ≤ 12) then 1 else 0
  c.post u.die 0x05 sev u.die u.level u.block (if u.level = 1 then u.tile else 0)
    (id + result * 2 ^ 16 + reason * 2 ^ 20 + fsig * 2 ^ 24 + min us 0xFFFF * 2 ^ 36 + obj * 2 ^ 52)

def Chip.modInteg (c : Chip) (f : Integrity → Integrity) : Chip := { c with integ := f c.integ }

/-- An entry names a quiz of this unit. -/
def isQuizOf (u : QUnit) (a : Activity) : Bool :=
  match a with
  | .quiz v _ => v == u
  | _ => false

/-- A check implicates a unit (R375 to R377): it is noted and quizzed, unless its quiz is already running (R392). -/
def Chip.implicate (c : Chip) (x : Implicated) : Chip :=
  let c1 := c.modInteg (fun g => { g with implicated := g.implicated ++ [x] })
  if c1.running x.unit.die (isQuizOf x.unit) then c1 else c1.ledgerRequest x.unit.die (.quiz x.unit 2)

/-- TRANSIENT verdicts of a unit within TR_WINDOW hours (R378). -/
def Chip.recentTransients (c : Chip) (u : QUnit) : Nat :=
  let span := c.get (R.FLT_QUIZ_POL u.die) F.FLT_QUIZ_POL_TR_WINDOW * 3600 * tuSec
  (c.integ.transients.filter (fun e => e.1 == u && decide (c.now ≤ e.2 + span))).length

/-- The firebreak a failed unit calls for (R19, R380): its level, its number and the trigger of its kind; a checker, transform
unit or optimizer engine takes its cluster. -/
def QUnit.due (u : QUnit) : FbDue :=
  if u.ty = 1 ∨ u.ty = 4 then ⟨1, u.die, u.tile, 0x02⟩
  else if u.ty = 5 then ⟨1, u.die, u.tile, 0x04⟩
  else ⟨2, u.die, u.block, if u.die < 32 then 0x05 else 0x06⟩

/-- Note a firebreak trigger; it is raised before the command ends. -/
def Chip.fbDue (c : Chip) (x : FbDue) : Chip := c.modInteg (fun g => { g with due := g.due ++ [x] })

/-- A verdict on a unit that passed its quiz: TRANSIENT, or PERMANENT with REPEAT_LIMIT and its firebreak once TR_LIMIT
has been reached (R377, R378). -/
def Chip.transientVerdict (c : Chip) (x : Implicated) : Chip :=
  let fl := x.early.toNat * 2
  if c.get (R.FLT_QUIZ_POL x.unit.die) F.FLT_QUIZ_POL_TR_LIMIT ≤ c.recentTransients x.unit then
    (c.fsigWrite 3 0xF001 x.unit x.expected x.observed x.obj (fl + 1)).2.fbDue x.unit.due
  else
    (c.fsigWrite 2 0xF001 x.unit x.expected x.observed x.obj fl).2.modInteg
      (fun g => { g with transients := g.transients ++ [(x.unit, c.now)] })

/-- Settle the implicated units whose quiz and, where one is needed, whose rerun verdict are known: a passed quiz gives a
verdict for a checker and for a lane group whose rerun verdict is FIRST_PASS. A failed quiz has written its own record. -/
def Chip.settle (c : Chip) : Chip :=
  let ready (x : Implicated) : Bool := x.quiz.isSome && (x.checker || x.verdict.isSome)
  let done := c.integ.implicated.filter ready
  let c1 := c.modInteg (fun g => { g with implicated := g.implicated.filter (fun x => !ready x) })
  done.foldl (fun s x =>
    if x.quiz = some true ∧ (x.checker ∨ x.verdict = some 1) then s.transientVerdict x else s) c1

/-- A rerun verdict is known for the units implicated by the check of an object's position (R377), or, with `pos` none, of
all its positions. -/
def Chip.rerunKnown (c : Chip) (obj : Nat) (pos : Option Nat) (verdict : Nat) : Chip :=
  (c.modInteg (fun g => { g with implicated := g.implicated.map (fun x =>
    if x.obj = obj ∧ (pos.isNone ∨ pos = some x.pos) ∧ !x.checker ∧ x.verdict.isNone then { x with verdict := some verdict } else x) })).settle

end Sys2Proof.Machine
end

