-- ==== Sys2Proof/Machine/ClearOps.lean ====
section
/-!
DEFINITION. Internal bells (R406), and the messages, cancels and teardowns of clearings (R172 to R179, R183). The switchovers
themselves, which move rings, stand in Clearings.lean.
-/

namespace Sys2Proof.Machine

/-! ### Bells (R406) -/

def bellKey (d i : Nat) : Nat := d * 256 + i
def Chip.bell (c : Chip) (d i : Nat) : Option Bell := SMap.get (fun _ => none) c.bells (bellKey d i)

/-- Arm or free a bell, and show it in TIM_BELL_STATE_i. -/
def Chip.setBell (c : Chip) (d i : Nat) (b : Option Bell) : Chip :=
  let w := match b with
    | none => 0
    | some b => 1 + b.action % 16 * 2 + b.owner % 4 * 32
  ({ c with bells := SMap.set (fun _ => none) c.bells (bellKey d i) b }).wr (R.TIM_BELL_STATE d i) (BitVec.ofNat 32 w)

/-- Arm an internal bell: the lowest FREE one of bells 192 to 255 (DESIGN CHOICE, log 16). -/
def Chip.armInternal (c : Chip) (d action arg time : Nat) : Nat × Chip :=
  match ((List.range 64).map (· + 192)).find? (fun i => (c.bell d i).isNone) with
  | some i => (i, c.setBell d i (some ⟨time, action, arg, 0, false, false, 2⟩))
  | none => (0, c)

/-- An internal bell that is no longer needed returns to FREE. -/
def Chip.disarm (c : Chip) (d i : Nat) : Chip := if 192 ≤ i then c.setBell d i none else c

/-! ### Clearings (R163, R165, R170) -/

def clrKey (d r k : Nat) : Nat := d * 32 + r * 8 + k
def Chip.clr (c : Chip) (d r k : Nat) : Clearing := SMap.get (fun _ => {}) c.clears (clrKey d r k)
def Chip.setClr (c : Chip) (d r k : Nat) (x : Clearing) : Chip :=
  { c with clears := SMap.set (fun _ => {}) c.clears (clrKey d r k) x }

/-- CLR_CHAN_r_k.STATE: 0 FREE, 1 QUEUED, 2 DRAINING, 3 OFFERED, 4 ARMED, 5 CLEARED, 6 ENDING, 7 RETURNING. -/
def Chip.clrSt (c : Chip) (d r k : Nat) : Nat := c.get (R.CLR_CHAN d r k) F.CLR_CHAN_STATE

/-- Give a clearing a state, and show it in CLR_ROUTE_r. -/
def Chip.setClrSt (c : Chip) (d r k st : Nat) : Chip :=
  ((c.set (R.CLR_CHAN d r k) F.CLR_CHAN_STATE st).set (R.CLR_ROUTE d r) ⟨k, 1⟩ (st == 5).toNat).set (R.CLR_ROUTE d r) ⟨8 + k, 1⟩
    (st != 0 && st != 5).toNat

/-- The lane of a clearing on side 0 (Fr) or 1 (Fr+4). -/
def clrLane (d r k side : Nat) : Nat := d * 64 + 8 * (r + 4 * side) + k

/-- Both lanes. -/
def clrLanes (d r k : Nat) : List Nat := [clrLane d r k 0, clrLane d r k 1]

/-- Is a clearing of die d not FREE? -/
def Chip.anyClearing (c : Chip) (d : Nat) : Bool :=
  (List.range 4).any (fun r => (List.range 8).any (fun k => c.clrSt d r k != 0))

def Chip.clrHandle (c : Chip) (d r k : Nat) : Nat := c.get (R.CLR_CHAN d r k) F.CLR_CHAN_HANDLE

/-- A CLEARING notice (R183); it names the lane on Fr (DESIGN CHOICE, log 17). -/
def Chip.clrNotice (c : Chip) (d r k event reason : Nat) : Chip :=
  c.post d 0x0C (if event = 3 ∨ event = 4 then 1 else 0) d 1 r (8 * r + k)
    (event + r * 2 ^ 8 + k * 2 ^ 10 + c.clrHandle d r k * 2 ^ 13 + reason * 2 ^ 21 + c.clrSt d r k * 2 ^ 29)

/-! ### Messages (R172, R173) -/

/-- Bell seconds (6 bytes) and nanoseconds (4 bytes) of a body. -/
def bellBytes (t : Nat) : List Nat := leBytes 6 (timeSec t) ++ leBytes 4 (timeNsec t)

/-- The lowest-numbered ACTIVE lane of the port that holds lane l. -/
def Chip.activeOfPort (c : Chip) (l : Nat) : Option Nat :=
  (c.portLanes (laneDie l) (c.portOf l)).find? (fun m => c.laneState m == LS.active)

/-- Send CLEAR_END of a PHASE to the leaf of one side, on the lowest ACTIVE lane of its port; a leaf without one cannot be
reached (R178). -/
def Chip.clearEnd (c : Chip) (d r k side phase time : Nat) : Chip :=
  let l := clrLane d r k side
  match c.activeOfPort l with
  | none => c
  | some m => c.lcRequest m 0x19 ([c.clrHandle d r k, laneLocal l, phase] ++ List.replicate 3 0
      ++ (if time = 0 then [] else bellBytes time))

/-- Withdraw the clearing's own unanswered requests from every lane of its two ports. -/
def Chip.clrVoid (c : Chip) (d r k : Nat) : Chip :=
  let h := c.clrHandle d r k
  (clrLanes d r k).foldl (fun s l =>
    (s.portLanes d (s.portOf l)).foldl (fun s m =>
      s.modLane m (fun x => { x with reqs := x.reqs.filter (fun q => !((q.op == 0x18 || q.op == 0x19) && nth q.body 0 == h)) })) s) c

/-- Is the entry's activity the set-up of this clearing? -/
def isClearing (r k : Nat) (a : Activity) : Bool :=
  match a with
  | .clearing r' k' => r' == r && k' == k
  | _ => false

/-- Cancel a set-up in QUEUED to ARMED (R179): CLEAR_END with PHASE 4 to every leaf that had accepted, event 0x03, and the
ledger activity ends FAILED. -/
def Chip.clrCancel (c : Chip) (d r k reason : Nat) : Chip :=
  let st := c.clrSt d r k
  if st = 0 ∨ 5 ≤ st then c
  else
    let x := c.clr d r k
    let c1 := c.clrVoid d r k
    let c2 := (List.range 2).foldl (fun s i => if bitOf x.acks i then s.clearEnd d r k i 4 0 else s) c1
    let c3 := (((c2.disarm d x.index).setClr d r k {}).setClrSt d r k 0).set (R.CLR_CHAN d r k) F.CLR_CHAN_REASON reason
    (c3.clrNotice d r k 3 reason).activityEnd d (isClearing r k) 1 0

/-- Start a teardown of a CLEARED clearing (R176): CLEAR_END with PHASE 1 to the leaves that have not sent CLEAR_DRAINED.
`reason` is recorded for a ring move (R180). -/
def Chip.clrTeardown (c : Chip) (d r k drained reason : Nat) : Chip :=
  let c0 := (c.setClr d r k { phase := 1, drained := drained }).setClrSt d r k 6
  let c1 := if reason = 0 then c0 else c0.set (R.CLR_CHAN d r k) F.CLR_CHAN_REASON reason
  let c2 := c1.set (R.CLR_CHAN d r k) F.CLR_CHAN_FORCED 0
  (List.range 2).foldl (fun s i => if bitOf drained i then s else s.clearEnd d r k i 1 0) c2

/-- A forced teardown (R178): CLEAR_END with PHASE 3 and a bell 150 µs ahead to each leaf that can be reached, event 0x04; the
M40 acts at its own bell. -/
def Chip.clrForce (c : Chip) (d r k reason : Nat) : Chip :=
  let st := c.clrSt d r k
  if st ≠ 5 ∧ st ≠ 6 then c
  else
    let t := c.now + 150 * tuUs
    let c1 := (c.clrVoid d r k).disarm d (c.clr d r k).index
    let a := c1.armInternal d 4 (r * 8 + k) t
    let c2 := ((a.2.setClr d r k { phase := 3, bell := t, index := a.1 }).setClrSt d r k 6).set (R.CLR_CHAN d r k)
      F.CLR_CHAN_REASON reason
    let c3 := (List.range 2).foldl (fun s i => s.clearEnd d r k i 3 t) (c2.set (R.CLR_CHAN d r k) F.CLR_CHAN_FORCED 1)
    c3.clrNotice d r k 4 reason

/-- Fix the teardown bell 150 µs ahead and offer it to both leaves (R176). -/
def Chip.clrPhase2 (c : Chip) (d r k : Nat) : Chip :=
  let t := c.now + 150 * tuUs
  let c1 := c.setClr d r k { c.clr d r k with phase := 2, bell := t, acks := 0 }
  (List.range 2).foldl (fun s i => s.clearEnd d r k i 2 t) c1

/-- A ring move needs the clearing out of its way (R179, R180): a set-up is cancelled and a cleared one torn down with reason
0x0A. -/
def Chip.clrYield (c : Chip) (d r k : Nat) : Chip :=
  let st := c.clrSt d r k
  if st = 5 then c.clrTeardown d r k 0 0x0A else c.clrCancel d r k 0x0A

end Sys2Proof.Machine
end

