-- ==== Sys2Proof/Machine/Optics.lean ====
section
/-!
DEFINITION. The optical engine (chapter 04): ring states (R131 to R133), search (R134 to R136), pilot tones (R137), recovery
(R139), lock loops (R140 to R142), and the crossing rule (R180). Meanings: SEARCH_START, RING_SWEEP_DONE, RING_LOCK_CAPTURE,
RING_CAPTURE_TIMEOUT, TONE_CHECK_WINDOW, RING_RECOVERY_DONE, LOCK_SLIP, RING_LIGHT_LOSS, RING_LIGHT_RESTORED,
RING_LIGHT_APPEARS, LOCK_LOOP_UPDATE.
-/

namespace Sys2Proof.Machine

/-! ### Records -/

def ringKey (d f r : Nat) : Nat := d * 256 + f * 17 + r
def Chip.ring (c : Chip) (d f r : Nat) : Ring := SMap.get (fun _ => {}) c.optics.rings (ringKey d f r)
def Chip.modOptics (c : Chip) (f : Optics → Optics) : Chip := { c with optics := f c.optics }
def Chip.modRing (c : Chip) (d f r : Nat) (g : Ring → Ring) : Chip :=
  c.modOptics (fun o => { o with rings := SMap.modify (fun _ => {}) o.rings (ringKey d f r) g })
def Chip.laneOpt (c : Chip) (l : Nat) : LaneOpt := SMap.get (fun _ => {}) c.optics.lanes l
def Chip.modLaneOpt (c : Chip) (l : Nat) (g : LaneOpt → LaneOpt) : Chip :=
  c.modOptics (fun o => { o with lanes := SMap.modify (fun _ => {}) o.lanes l g })

/-- Ring states of R131. -/
abbrev RS.parked : Nat := 0
abbrev RS.search : Nat := 1
abbrev RS.locking : Nat := 2
abbrev RS.confirm : Nat := 3
abbrev RS.locked : Nat := 4
abbrev RS.held : Nat := 5
abbrev RS.recover : Nat := 6
abbrev RS.fault : Nat := 7

def Chip.ringSt (c : Chip) (d f r : Nat) : Nat := c.get (R.PRT_RING d f r) F.PRT_RING_STATE
def Chip.setRingSt (c : Chip) (d f r st : Nat) : Chip := c.set (R.PRT_RING d f r) F.PRT_RING_STATE st
def Chip.ringCh (c : Chip) (d f r : Nat) : Nat := c.get (R.PRT_RING d f r) F.PRT_RING_CHANNEL
def Chip.ringHtr (c : Chip) (d f r : Nat) : Nat := c.get (R.PRT_RING d f r) F.PRT_RING_HTR
def Chip.ringRec (c : Chip) (d f r : Nat) : Bool := c.flag (R.PRT_RING d f r) F.PRT_RING_RECORD

/-- All rings of a die as (f, r) (R127). -/
def ringsOf : List (Nat × Nat) := (List.range 8).flatMap (fun f => (List.range 17).map (fun r => (f, r)))

/-- The lane whose modulator or drop ring a ring is; the spare monitor ring belongs to none. -/
def ringLane (d f r : Nat) : Option Nat := if r < 16 then some (d * 64 + 8 * f + r % 8) else none

/-- The heater code of 20 mW, one free spectral range (full scale 4,095 is 25 mW). -/
def fsrCode : Nat := 3276

/-- Heater power held on die d, in mW. -/
def Chip.heldPower (c : Chip) (d : Nat) : Nat := (ringsOf.foldl (fun n p => n + c.ringHtr d p.1 p.2) 0) * 25 / 4095

/-- Set a heater drive and show the die's heater power. -/
def Chip.setHtr (c : Chip) (d f r code : Nat) : Chip :=
  let c1 := c.set (R.PRT_RING d f r) F.PRT_RING_HTR code
  c1.set (R.PRT_OPT_STAT d) F.PRT_OPT_STAT_HTR_PWR (c1.heldPower d)

/-- May one more sweep or locked drive of `mw` start within the die's heater cap (R135)? -/
def Chip.capOk (c : Chip) (d mw : Nat) : Bool := decide (c.heldPower d + mw ≤ c.get (R.PRT_OPT_POL d) F.PRT_OPT_POL_HTR_CAP * 20)

/-- Rings left PARKED on lanes that need them, for event 0x0E. -/
def Chip.parkedCount (c : Chip) (d : Nat) : Nat :=
  (ringsOf.filter (fun p => c.ringSt d p.1 p.2 == RS.parked &&
    (match ringLane d p.1 p.2 with
     | some l => c.laneState l == LS.tuning
     | none => false))).length

/-! ### Notices (R161) -/

/-- Severity of an OPTICAL event. -/
def opticalSev (event : Nat) : Nat :=
  if event = 0x0C then 2 else if event ∈ [0x01, 0x06, 0x08, 0x09, 0x0D, 0x10] then 0 else 1

/-- An OPTICAL notice of a ring or its lane: LEVEL 1 with the lane as TILE, LEVEL 2 for a spare monitor ring, LEVEL 3 for an
event of the die or a feed (DESIGN CHOICE, log 18). -/
def Chip.opticalNotice (c : Chip) (d f r ch event : Nat) (value : Int) : Chip :=
  let whole := event = 0x01 ∨ event = 0x0C ∨ event = 0x0D ∨ event = 0x0E
  let level := if whole then 3 else if r < 16 then 1 else 2
  c.post d 0x07 (opticalSev event) d level (if whole then 0 else f) (if level = 1 then 8 * f + r % 8 else 0)
    (event + f * 2 ^ 8 + r * 2 ^ 11 + ch * 2 ^ 16 + ofSigned 16 value * 2 ^ 20)

/-- The same for the modulator ring of a lane. -/
def Chip.laneOptical (c : Chip) (l event : Nat) (value : Int) : Chip :=
  c.opticalNotice (laneDie l) (laneBlock l) (l % 8) (c.get (R.PRT_OPT_PWR (laneDie l) (laneLocal l)) F.PRT_OPT_PWR_CHANNEL) event value

/-! ### Lanes and their rings -/

/-- A drain of the optical engine: the lane leaves its applied spray set without a new generation, and drains (R146). -/
def Chip.opticalDrain (c : Chip) (l reason : Nat) : Chip :=
  let st := c.laneState l
  if st = LS.active then (c.clearSpray l).startDrain l reason 5
  else if st = LS.drowsy then c.clearSpray l
  else c

/-- R133: a ring of the lane has left LOCKED. -/
def Chip.ringLeft (c : Chip) (d f r : Nat) : Chip :=
  match ringLane d f r with
  | some l => c.opticalDrain l 3
  | none => c

/-- R133: a TUNING lane whose rings are both LOCKED enters TRAINING. A lane whose feed has been restored trains from T1 once its
rings have relocked (R157). -/
def Chip.tuningCheck (c : Chip) (l : Nat) : Chip :=
  if !c.ringsLocked l then c
  else if c.laneState l = LS.tuning then
    (c.modLaneOpt l (fun x => { x with fastNext := false, relight := false })).train l (c.laneOpt l).fastNext
  else if (c.laneOpt l).relight then
    let c1 := c.modLaneOpt l (fun x => { x with relight := false })
    if c1.laneState l = LS.drained ∨ c1.laneState l = LS.draining ∨ c1.laneState l = LS.training then c1.train l false else c1
  else c

/-! ### The crossing rule (R180) -/

/-- Clearings that are not FREE on the route of fibre pair f. -/
def Chip.routeBusy (c : Chip) (d f : Nat) : List Nat := (List.range 8).filter (fun k => c.clrSt d (f % 4) k != 0)

/-- Does a move of the heater from one code to another pass channel k of the ring, of which some order lies at its recorded code
or one free spectral range above? A ring without a record may pass any channel. -/
def Chip.crosses (c : Chip) (d f r k a b : Nat) : Bool :=
  if !c.ringRec d f r then a != b
  else
    let x := nth (c.ring d f r).record k
    [x, x + fsrCode].any (fun y => decide (min a b ≤ y) && decide (y ≤ max a b))

/-- The channels of clearings a move of ring (f, r) would pass. Modulator rings stand on another waveguide, and the drop ring of
the cleared channel itself is no other ring. -/
def Chip.crossed (c : Chip) (d f r a b : Nat) : List Nat :=
  if r < 8 then [] else (c.routeBusy d f).filter (fun k => r != 8 + k && c.crosses d f r k a b)

/-- Ask every clearing in the way of a move to end. Answers whether the move must wait. -/
def Chip.crossYield (c : Chip) (d f r a b : Nat) : Bool × Chip :=
  let c1 := (c.crossed d f r a b).foldl (fun s k => s.clrYield d (f % 4) k) c
  (!(c1.crossed d f r a b).isEmpty, c1)

/-! ### Moves of one ring -/

/-- A ring is parked: heater at 0. -/
def Chip.parkRing (c : Chip) (d f r : Nat) : Chip :=
  ((c.setRingSt d f r RS.parked).setHtr d f r 0).modRing d f r (fun x => { record := x.record, dark := x.dark })

/-- A ring moves to its recorded point of channel ch and locks. One that cannot be given its drive within the cap stays PARKED,
with event 0x0E (R135). -/
def Chip.ringTo (c : Chip) (d f r ch : Nat) (fromHeld : Bool) : Chip :=
  let code := nth (c.ring d f r).record ch
  let c1 := (c.set (R.PRT_RING d f r) F.PRT_RING_CHANNEL ch).setHtr d f r 0
  if c1.capOk d (code * 25 / 4095) then
    ((c1.setRingSt d f r RS.locking).setHtr d f r code).modRing d f r (fun x => { x with fromHeld := fromHeld, badTones := 0 })
  else
    let c2 := c1.parkRing d f r
    c2.opticalNotice d f r ch 0x0E (c2.parkedCount d)

/-- A sweep starts, within the heater cap (R135); the drive reads the end of the sweep meanwhile (DESIGN CHOICE, log 18). -/
def Chip.sweepStart (c : Chip) (d f r : Nat) : Chip :=
  let c1 := c.setHtr d f r 0
  if c1.capOk d 20 then
    ((c1.setRingSt d f r RS.search).setHtr d f r fsrCode).modRing d f r (fun x => { x with fromHeld := false, waits := 0, dark := false })
  else
    let c2 := c1.parkRing d f r
    c2.opticalNotice d f r (c2.ringCh d f r) 0x0E (c2.parkedCount d)

/-- A full search under the crossing rule: it waits until the clearings it would pass are FREE. -/
def Chip.searchRing (c : Chip) (d f r : Nat) : Chip :=
  let y := c.crossYield d f r 0 fsrCode
  if y.1 then y.2.modRing d f r (fun x => { x with waits := 1 }) else y.2.sweepStart d f r

/-- Step 1 of R139: the heater is driven to code 0, under the crossing rule. -/
def Chip.recoverRing (c : Chip) (d f r : Nat) : Chip :=
  let y := c.crossYield d f r (c.ringHtr d f r) 0
  if y.1 then (y.2.setRingSt d f r RS.recover).modRing d f r (fun x => { x with waits := 2 })
  else ((y.2.setRingSt d f r RS.recover).setHtr d f r 0).modRing d f r (fun x => { x with waits := 0 })

/-- A ring goes to FAULT: a lane's ring raises trigger 0x03 on the lane, a spare monitor ring makes its spare unavailable
(R133, R139). -/
def Chip.ringFault (c : Chip) (d f r : Nat) : Chip :=
  let c1 := (c.setRingSt d f r RS.fault).modRing d f r (fun x => { x with waits := 0 })
  if r < 16 then c1.fbDue ⟨1, d, 8 * f + r % 8, 0x03⟩ else c1.set (R.PRT_FP d f) F.PRT_FP_SPARE_STATE 3

/-! ### Start-up search (R135, R136) -/

/-- Does the lane of a ring, or some lane of a spare monitor ring's fibre pair, wait in TUNING with a role? -/
def Chip.ringWanted (c : Chip) (d f r : Nat) : Bool :=
  let wants (l : Nat) : Bool := c.laneState l == LS.tuning && (c.role l == 1 || c.role l == 2)
  match ringLane d f r with
  | some l => wants l
  | none => (blockLanes d f).any wants

/-- Rings of search group g = 2f (modulator and spare monitor rings of fibre pair f) or 2f + 1 (its drop rings). -/
def groupRings (g : Nat) : List Nat := if g % 2 = 0 then List.range 8 ++ [16] else (List.range 8).map (· + 8)

/-- Light is present on the receive waveguide of fibre pair f. -/
def Chip.rxLight (c : Chip) (d f : Nat) : Bool := SMap.get (fun _ => false) c.optics.rxLight (d * 8 + f)

/-- Rings of a group that are to be searched. -/
def Chip.groupDue (c : Chip) (d g : Nat) : List Nat :=
  let f := g / 2
  if g % 2 = 1 ∧ !c.rxLight d f then []
  else (groupRings g).filter (fun r => c.ringSt d f r == RS.parked && !c.ringRec d f r && !(c.ring d f r).dark && c.ringWanted d f r)

/-- Is a ring of the group still on its way? A ring that waits for light or for a clearing is not. -/
def Chip.groupRuns (c : Chip) (d g : Nat) : Bool :=
  let f := g / 2
  (groupRings g).any (fun r =>
    let st := c.ringSt d f r
    (st == RS.search || st == RS.locking || st == RS.confirm || st == RS.recover) && !(c.ring d f r).dark && (c.ring d f r).waits == 0)

/-- The group being searched + 1; 0 none. -/
def Chip.searchAt (c : Chip) (d : Nat) : Nat := SMap.get (fun _ => 0) c.optics.searchAt d
def Chip.setSearchAt (c : Chip) (d v : Nat) : Chip :=
  c.modOptics (fun o => { o with searchAt := SMap.set (fun _ => 0) o.searchAt d v })

/-- The die's search has ended: SEARCH shows whether rings stay PARKED or in FAULT, and event 0x01 is posted. -/
def Chip.searchEnd (c : Chip) (d : Nat) : Chip :=
  let left := ringsOf.any (fun p => c.ringSt d p.1 p.2 == RS.fault ||
    (c.ringSt d p.1 p.2 == RS.parked && c.ringWanted d p.1 p.2))
  let c1 := (c.setSearchAt d 0).set (R.PRT_OPT_STAT d) F.PRT_OPT_STAT_SEARCH (if left then 3 else 2)
  c1.opticalNotice d 0 0 0 0x01 (ringsOf.filter (fun p => c1.ringSt d p.1 p.2 == RS.locked)).length

/-- Search the groups from g on, one at a time; a group none of whose rings can start is passed over. -/
def Chip.searchFrom (c : Chip) (d : Nat) : Nat → Nat → Chip
  | 0, _ => c.searchEnd d
  | n + 1, g =>
    if (c.groupDue d g).isEmpty then c.searchFrom d n (g + 1)
    else
      let c1 := (c.groupDue d g).foldl (fun s r => s.sweepStart d (g / 2) r) (c.setSearchAt d (g + 1))
      if c1.groupRuns d g then c1 else c1.searchFrom d n (g + 1)

/-- A ring of die d has moved: when the group being searched is through, the next one starts. -/
def Chip.searchStep (c : Chip) (d : Nat) : Chip :=
  let g := c.searchAt d
  if g = 0 ∨ c.groupRuns d (g - 1) then c else c.searchFrom d (16 - g) g

/-- Rings that have become due after the die's search had begun are searched once no other group is. -/
def Chip.searchKick (c : Chip) (d : Nat) : Chip :=
  if c.get (R.PRT_OPT_STAT d) F.PRT_OPT_STAT_SEARCH = 0 ∨ c.searchAt d ≠ 0 then c
  else if (List.range 16).any (fun g => !(c.groupDue d g).isEmpty) then
    (c.set (R.PRT_OPT_STAT d) F.PRT_OPT_STAT_SEARCH 1).searchFrom d 16 0
  else c

/-- SEARCH_START: die d starts its ring search after a POWER reset. -/
def Chip.searchStart (c : Chip) (d : Nat) : Chip :=
  if c.get (R.PRT_OPT_STAT d) F.PRT_OPT_STAT_SEARCH ≠ 0 ∨ c.pw.dataHeld then c
  else (c.set (R.PRT_OPT_STAT d) F.PRT_OPT_STAT_SEARCH 1).searchFrom d 16 0

/-- The channel a ring is to lock on: the lane's channel, or for the spare monitor ring λS or the channel of the lane that uses
the spare (R153). -/
def Chip.wantedCh (c : Chip) (d f r : Nat) : Nat :=
  if r < 16 then c.get (R.PRT_OPT_PWR d (8 * f + r % 8)) F.PRT_OPT_PWR_CHANNEL
  else
    let k := c.get (R.PRT_FP d f) F.PRT_FP_SPARE_LANE
    if c.flag (R.PRT_OPT_PWR d (8 * f + k)) F.PRT_OPT_PWR_ON_SPARE then k else 8

/-- A lane enters TUNING with or without a cause: PARKED rings with a record go to LOCKING, those without wait for the search;
rings that stayed LOCKED pass at once (R132, R136). -/
def Chip.enterTuning (c : Chip) (l : Nat) (cause : Option Nat) : Chip :=
  let d := laneDie l
  let f := laneBlock l
  let c1 := match cause with
    | some x => c.laneTo l LS.tuning x
    | none => c.laneMove l LS.tuning
  let wake (s : Chip) (r : Nat) : Chip :=
    if s.ringSt d f r = RS.parked ∧ s.ringRec d f r then s.ringTo d f r (s.wantedCh d f r) false else s
  ((([l % 8, 8 + l % 8, 16].foldl wake c1).searchKick d)).tuningCheck l

/-! ### Labelling of dips (R134) -/

/-- Twice the median of a list of spacings. -/
def median2 (l : List Nat) : Nat :=
  let s := orderBy id l
  let n := s.length
  if n % 2 = 1 then 2 * nth s (n / 2) else nth s (n / 2 - 1) + nth s (n / 2)

/-- The index of the first dip of channel 8, or none when the sweep failed. -/
def firstDip (dips : List Nat) : Option Nat :=
  if dips.length < 9 then none
  else
    let sp := (List.range (dips.length - 1)).map (fun i => nth dips (i + 1) - nth dips i)
    let m := median2 sp
    let wide := (List.range sp.length).filter (fun i => decide (3 * m ≤ 4 * nth sp i) && decide (4 * nth sp i ≤ 5 * m))
    match wide with
    | [] => some 0
    | [i] => some (i + 1)
    | _ => none

/-- The channel of dip i when channel 8 stands at dip `first`. -/
def dipChannel (n first i : Nat) : Nat := 8 - (if first ≤ i then i - first else i + n - first) % 9

/-- The search record: the least heater code of each channel. -/
def sweepRecord (dips : List Nat) : Option (List Nat) :=
  match firstDip dips with
  | none => none
  | some first =>
    let n := dips.length
    let rec_ := (List.range 9).map (fun k =>
      ((List.range n).filter (fun i => dipChannel n first i == k)).map (fun i => nth dips i))
    if rec_.any (fun l => l.isEmpty) then none else some (rec_.map (fun l => l.foldl min 4095))

/-! ### Ring events (R132) -/

/-- RING_SWEEP_DONE: the heater sweep of a ring in SEARCH ends; `light` tells whether its monitor saw light, `dips` are the
heater codes at which it fell below half its running maximum, ascending. -/
def Chip.ringSweepDone (c : Chip) (d f r : Nat) (light : Bool) (dips : List Nat) : Chip :=
  if c.ringSt d f r ≠ RS.search then c
  else
    let c1 :=
      if !light then
        let p := (c.parkRing d f r).modRing d f r (fun x => { x with dark := true })
        let p1 := if r < 8 then p else p.modOptics (fun o => { o with rxLight := SMap.set (fun _ => false) o.rxLight (d * 8 + f) false })
        p1.opticalNotice d f r (c.wantedCh d f r) 0x02 0
      else match sweepRecord dips with
        | some v =>
          ((c.modRing d f r (fun x => { x with record := v, badSweeps := 0 })).set (R.PRT_RING d f r) F.PRT_RING_RECORD 1).ringTo
            d f r (c.wantedCh d f r) false
        | none =>
          if 1 ≤ (c.ring d f r).badSweeps then c.ringFault d f r
          else c.modRing d f r (fun x => { x with badSweeps := x.badSweeps + 1 })
    c1.searchStep d

/-- RING_LOCK_CAPTURE: LOCKING to CONFIRM. -/
def Chip.ringLockCapture (c : Chip) (d f r : Nat) : Chip :=
  if c.ringSt d f r = RS.locking then
    (c.setRingSt d f r RS.confirm).modRing d f r (fun x => { x with dark := false, badTones := 0 })
  else c

/-- A wrong lock, or a recovery attempt that failed: the first and second attempt, then one full search, then FAULT (R139). -/
def Chip.ringWrong (c : Chip) (d f r : Nat) : Chip :=
  let x := c.ring d f r
  if x.full then c.ringFault d f r
  else if x.tries = 0 ∨ x.tries = 1 then (c.modRing d f r (fun y => { y with tries := y.tries + 1 })).recoverRing d f r
  else
    let c1 := c.modRing d f r (fun y => { y with full := true, badSweeps := 0 })
    c1.searchRing d f r

/-- A wrong lock is counted and posted, and the ring recovers. -/
def Chip.wrongLock (c : Chip) (d f r : Nat) : Chip :=
  let c1 := c.incSat (R.PRT_RING d f r) F.PRT_RING_WRONG 1
  let c2 := c1.opticalNotice d f r (c1.ringCh d f r) 0x03 (c1.get (R.PRT_RING d f r) F.PRT_RING_WRONG)
  ((c2.ringWrong d f r).ringLeft d f r).searchStep d

/-- RING_CAPTURE_TIMEOUT: 1 ms of light without capture: back to SEARCH for a ring that was HELD, otherwise to RECOVER with event
0x03. -/
def Chip.ringCaptureTimeout (c : Chip) (d f r : Nat) : Chip :=
  if c.ringSt d f r ≠ RS.locking ∨ (c.ring d f r).waits ≠ 0 then c
  else if (c.ring d f r).fromHeld then (c.modRing d f r (fun x => { x with badSweeps := 0 })).searchRing d f r
  else ((c.opticalNotice d f r (c.ringCh d f r) 0x03 (c.get (R.PRT_RING d f r) F.PRT_RING_WRONG)).ringWrong d f r).searchStep d

/-- The tone check (R137): the amplitude at the intended channel reaches 60 % of the reference, each neighbour's stays within
20 % of it. -/
def toneOk (ch amp below above ref : Nat) : Bool :=
  decide (60 * ref ≤ 100 * amp) && (ch == 0 || decide (100 * below ≤ 20 * amp)) && (ch == 8 || decide (100 * above ≤ 20 * amp))

/-- A ring is LOCKED: its lane may leave TUNING; a spare monitor ring serves again. -/
def Chip.ringLock (c : Chip) (d f r : Nat) : Chip :=
  let c1 := (c.setRingSt d f r RS.locked).modRing d f r (fun x => { x with tries := 0, full := false, fromHeld := false, badTones := 0 })
  match ringLane d f r with
  | some l => c1.tuningCheck l
  | none =>
    if c1.get (R.PRT_FP d f) F.PRT_FP_SPARE_STATE = 3 then
      c1.set (R.PRT_FP d f) F.PRT_FP_SPARE_STATE (if c1.wantedCh d f r = 8 then 0 else 1) else c1

/-- TONE_CHECK_WINDOW: a 250 µs window ends with the measured amplitudes at the intended channel and its neighbours, and the
amplitude a depth of 0.5 % gives at the measured average power. -/
def Chip.toneCheck (c : Chip) (d f r amp below above ref : Nat) : Chip :=
  let ok := toneOk (c.ringCh d f r) amp below above ref
  let st := c.ringSt d f r
  if st = RS.confirm then
    if ok then (c.ringLock d f r).searchStep d else c.wrongLock d f r
  else if st = RS.locked then
    if ok then c.modRing d f r (fun x => { x with badTones := 0 })
    else if 3 ≤ (c.ring d f r).badTones then c.wrongLock d f r
    else c.modRing d f r (fun x => { x with badTones := x.badTones + 1 })
  else c

/-- RING_RECOVERY_DONE: the offset sweep of R139 ends, with the code at which it captured a resonance, if any. -/
def Chip.ringRecoveryDone (c : Chip) (d f r : Nat) (captured : Option Nat) : Chip :=
  if c.ringSt d f r ≠ RS.recover ∨ (c.ring d f r).waits ≠ 0 then c
  else match captured with
    | some code => (c.setRingSt d f r RS.confirm).setHtr d f r (min code 4095)
    | none => (c.ringWrong d f r).searchStep d

/-- LOCK_SLIP: a LOCKED ring returns to LOCKING with event 0x05. -/
def Chip.lockSlip (c : Chip) (d f r : Nat) : Chip :=
  if c.ringSt d f r = RS.locked then
    (((c.setRingSt d f r RS.locking).modRing d f r (fun x => { x with fromHeld := false })).opticalNotice d f r (c.ringCh d f r)
      0x05 0).ringLeft d f r
  else c

/-- A LOCKED ring is HELD at its last drive. -/
def Chip.holdRing (c : Chip) (d f r : Nat) : Chip :=
  if c.ringSt d f r = RS.locked then c.setRingSt d f r RS.held else c

/-- RING_LIGHT_LOSS: light below −10 dB of commissioned moves a LOCKED ring to HELD; its lane drains (R133). -/
def Chip.ringLightLoss (c : Chip) (d f r : Nat) : Chip :=
  let c1 := c.modRing d f r (fun x => { x with dark := true })
  if c.ringSt d f r = RS.locked then (c1.holdRing d f r).ringLeft d f r else c1.searchStep d

/-- A HELD ring goes to LOCKING with the window of R132. -/
def Chip.unholdRing (c : Chip) (d f r : Nat) : Chip :=
  if c.ringSt d f r = RS.held then
    (c.setRingSt d f r RS.locking).modRing d f r (fun x => { x with fromHeld := true, dark := false })
  else c.modRing d f r (fun x => { x with dark := false })

/-- RING_LIGHT_RESTORED: light restored for 100 ms. The modulator rings of a lost feed wait for R157, every ring for the exit from
STANDBY. -/
def Chip.ringLightRestored (c : Chip) (d f r : Nat) : Chip :=
  if c.pw.standby ∨ (r < 8 ∧ c.flag (R.PRT_FP d f) F.PRT_FP_FEED_LOST) then c else c.unholdRing d f r

/-- RING_LIGHT_APPEARS: light appears at the monitor of a PARKED ring after NO_LIGHT, or on the receive waveguide of a fibre pair
(`ring` none): the ring's, or the drop rings', search is tried. -/
def Chip.ringLightAppears (c : Chip) (d f : Nat) (ring : Option Nat) : Chip :=
  let c1 := match ring with
    | some r => c.modRing d f r (fun x => { x with dark := false })
    | none => c
  let rx : Bool := match ring with
    | some r => decide (8 ≤ r)
    | none => true
  let c2 := if rx then c1.modOptics (fun o => { o with rxLight := SMap.set (fun _ => false) o.rxLight (d * 8 + f) true }) else c1
  c2.searchKick d

/-- OPT_SEARCH_AGAIN: request OP 3 searches a PARKED ring again (R132). -/
def Chip.searchAgain (c : Chip) (d : Nat) : Chip :=
  let n := c.get (R.PRT_OPT_REQ d) F.PRT_OPT_REQ_RING
  let f := n / 17
  let r := n % 17
  let c1 := c.setBoth (R.PRT_OPT_REQ d) F.PRT_OPT_REQ_OP 0
  if c.get (R.PRT_OPT_REQ d) F.PRT_OPT_REQ_OP ≠ 3 then c
  else if 136 ≤ n ∨ c.ringSt d f r ≠ RS.parked then c1
  else (c1.modRing d f r (fun x => { x with badSweeps := 0, dark := false })).searchRing d f r

/-! ### Calibration requests (R142 to R144) -/

/-- Is the entry's activity a calibration of this lane? -/
def isCal (l : Nat) (a : Activity) : Bool :=
  match a with
  | .cal m => m == l
  | _ => false

/-- A ring calibration of a lane is requested. The only lane of a port is skipped, with event 0x06, unless CAL_SOLO is set or it is
DRAINED already (R144). A lane whose calibration is already in the ledger is not requested twice. -/
def Chip.calRequest (c : Chip) (l : Nat) : Chip :=
  let d := laneDie l
  if (c.role l != 1 && c.role l != 2) || c.laneState l == LS.cleared || (c.hasEntry d (isCal l)).isSome then c
  else if c.role l = 1 ∧ c.portWidth l = 1 ∧ !c.flag (R.PRT_OPT_POL d) F.PRT_OPT_POL_CAL_SOLO ∧ c.laneState l ≠ LS.drained then
    c.laneOptical l 0x06 0xFFFF
  else c.ledgerRequest d (.cal l)

/-- CALIBRATION_DUE. -/
def Chip.calibrationDue (c : Chip) (l : Nat) : Chip := c.calRequest l

/-- 95 % of the heater's full scale. -/
def nearTop : Nat := 3890

/-- LOCK_LOOP_UPDATE: the lock loop of a ring gives its heater a new drive. Beyond 95 % of full scale event 0x0F is posted and a
calibration queued; at full scale the ring loses lock (R142). -/
def Chip.lockLoopUpdate (c : Chip) (d f r code : Nat) : Chip :=
  let st := c.ringSt d f r
  if st ≠ RS.locking ∧ st ≠ RS.confirm ∧ st ≠ RS.locked then c
  else
    let v := min code 4095
    let c1 := c.setHtr d f r v
    let c2 :=
      if st = RS.locked ∧ nearTop < v ∧ c.ringHtr d f r ≤ nearTop then
        let n := c1.opticalNotice d f r (c1.ringCh d f r) 0x0F ((v * 2500 / 4095 : Nat) : Int)
        match ringLane d f r with
        | some l => n.calRequest l
        | none => n
      else c1
    if v = 4095 then c2.lockSlip d f r else c2

end Sys2Proof.Machine
end

