-- ==== Sys2Proof/Machine/Moves.lean ====
section
/-!
DEFINITION. Calibration, laser fade and the spare wavelength (R143 to R157): fade tracking, the RETUNE exchange (R122), the moves
of a lane to and from λS, and feed loss. Meanings: CALIBRATION_DUE, CALIBRATION_DONE, FADE_READING, SWAP_TRAIN_TIMEOUT,
OPT_RETURN_FROM_SPARE, OPT_CALIBRATE_NOW, OPT_SEARCH_AGAIN, OPT_CLEAR_FADE_HOLD.
-/

namespace Sys2Proof.Machine

/-! ### A lane's optics -/

def optPwr (l : Nat) : Nat := R.PRT_OPT_PWR (laneDie l) (laneLocal l)
def laneFp (l : Nat) : Nat := R.PRT_FP (laneDie l) (laneBlock l)

/-- The feed of a fibre pair: 2d for F0 to F3, 2d + 1 for F4 to F7 (R128). -/
def feedOf (l : Nat) : Nat := 2 * laneDie l + laneBlock l / 4

/-- FADE of a lane as signed. -/
def Chip.fade (c : Chip) (l : Nat) : Int := toSigned 16 (c.get (optPwr l) F.PRT_OPT_PWR_FADE)

/-- The last fade read by the spare monitor ring of a lane's fibre pair. -/
def Chip.spareFade (c : Chip) (l : Nat) : Int := SMap.get (fun _ => 0) c.optics.spareFade (l / 8)

def Chip.onSpare (c : Chip) (l : Nat) : Bool := c.flag (optPwr l) F.PRT_OPT_PWR_ON_SPARE
def Chip.setHold (c : Chip) (l : Nat) (b : Bool) : Chip := c.set (optPwr l) F.PRT_OPT_PWR_HOLD b.toNat

/-- Drain and fade hold, with event 0x0B (R149). -/
def Chip.fadeHoldNow (c : Chip) (l : Nat) : Chip :=
  ((c.opticalDrain l 4).setHold l true).laneOptical l 0x0B (c.fade l)

/-- Is the entry's activity a swap or return that holds the lane? -/
def isSwapOf (l : Nat) (a : Activity) : Bool :=
  match a with
  | .swap _ _ ls => l ∈ ls
  | _ => false

/-- The activity that moves a lane: its lanes. -/
def Chip.moveLanes (c : Chip) (l : Nat) : List Nat :=
  match (c.entries (laneDie l)).find? (fun e => e.2.running && (isSwapOf l e.2.act || isCal l e.2.act)) with
  | some e => (match e.2.act with
    | .swap _ _ ls => ls
    | .cal m => [m]
    | _ => [])
  | none => []

/-- Moves of an activity that are through: it ends DONE with the lanes moved, or FAILED when every lane was abandoned. -/
def Chip.moveEndCheck (c : Chip) (l : Nat) : Chip :=
  let ls := c.moveLanes l
  let mv (m : Nat) : Option Move := (c.laneOpt m).move
  if ls.isEmpty ∨ ls.any (fun m => match mv m with
      | some x => !x.fin
      | none => false) then c
  else
    let good := (ls.filter (fun m => match mv m with
      | some x => !x.failed
      | none => false)).length
    let c1 := ls.foldl (fun s m => s.modLaneOpt m (fun x => { x with move := none, waitFree := false })) c
    c1.activityEnd (laneDie l) (fun a => isSwapOf l a || isCal l a) (if good = 0 then 1 else 0)
      (if ls.any (fun m => match mv m with
        | some x => x.kind == 3
        | none => false) then 0 else good)

/-- The lane is done with its move. -/
def Chip.moveFin (c : Chip) (l : Nat) (failed : Bool) : Chip :=
  (c.modLaneOpt l (fun x => { x with move := x.move.map (fun m => { m with fin := true, failed := failed, out := false }),
                                     swapDue := false })).moveEndCheck l

/-- The far end did not follow (R156): a swap is abandoned for the lane: fade hold, the spare set free, event 0x0A. A return leaves
the lane on the spare; a calibration ends without its result (DESIGN CHOICE, log 19). -/
def Chip.moveFail (c : Chip) (l : Nat) : Chip :=
  match (c.laneOpt l).move with
  | none => c
  | some m =>
    let c1 :=
      if m.kind = 1 then
        let c2 := if c.onSpare l then c else c.set (laneFp l) F.PRT_FP_SPARE_STATE 0
        (c2.setHold l true).laneOptical l 0x0A (c.fade l)
      else if m.kind = 2 then c.laneOptical l 0x0A (c.fade l) else c
    c1.moveFin l true

/-! ### RETUNE (R122, R153) -/

/-- The channel a move takes the lane to. -/
def Chip.moveTarget (c : Chip) (l kind : Nat) : Nat :=
  if kind = 1 then 8 else if kind = 2 then l % 8 else c.get (optPwr l) F.PRT_OPT_PWR_CHANNEL

/-- Send RETUNE to the far end of a lane, with a bell 200 µs ahead for a calibration (R145) and otherwise 250 µs, which lies between
the 100 µs and 1 ms of R153 (DESIGN CHOICE, log 19). A swap
takes the fibre pair's spare (R150). -/
def Chip.sendRetune (c : Chip) (l : Nat) : Chip :=
  match (c.laneOpt l).move with
  | none => c
  | some m =>
    let t := c.now + (if m.kind = 3 then 200 else 250) * tuUs
    let c1 := c.modLaneOpt l (fun x => { x with move := some { m with sends := m.sends + 1, out := true, time := t, index := 0 } })
    let c2 := if m.kind = 1 then (c1.set (laneFp l) F.PRT_FP_SPARE_STATE 1).set (laneFp l) F.PRT_FP_SPARE_LANE (l % 8) else c1
    c2.lcRequest l 0x0E ([c.moveTarget l m.kind, m.kind] ++ bellBytes t)

/-- The ring moves of a lane's swap or return that the crossing rule covers: its drop ring's and the spare monitor ring's. Answers
whether they must wait. -/
def Chip.moveCrosses (c : Chip) (l kind : Nat) : Bool × Chip :=
  if kind = 3 then (false, c)
  else
    let d := laneDie l
    let f := laneBlock l
    let yieldTo (r ch : Nat) (s : Chip) : Bool × Chip := s.crossYield d f r (s.ringHtr d f r) (nth (s.ring d f r).record ch)
    let a := yieldTo (8 + l % 8) (c.moveTarget l kind) c
    let b := yieldTo 16 (if kind = 1 then l % 8 else 8) a.2
    (a.1 || b.1, b.2)

/-- The lane of a move stands DRAINED and no RETUNE is out: it is sent, unless a clearing must end first (R180). -/
def Chip.moveReady (c : Chip) (l : Nat) : Chip :=
  match (c.laneOpt l).move with
  | none => c
  | some m =>
    if m.fin ∨ m.out ∨ m.acted ∨ m.index ≠ 0 ∨ c.laneState l ≠ LS.drained then c
    else
      let y := c.moveCrosses l m.kind
      if y.1 then y.2.modLaneOpt l (fun x => { x with waitFree := true })
      else (y.2.modLaneOpt l (fun x => { x with waitFree := false })).sendRetune l

/-- A lane of the engine enters DRAINED: every lane of its activity that stands ready sends RETUNE, once all of them are drained or
done, so that one bell serves them (R406). -/
def Chip.moveDrained (c : Chip) (l : Nat) : Chip :=
  let ls := c.moveLanes l
  let open_ (m : Nat) : Bool := match (c.laneOpt m).move with
    | some x => !x.fin && !x.acted && x.sends == 0 && c.laneState m != LS.drained
    | none => false
  if ls.any open_ then c else ls.foldl Chip.moveReady c

/-- The ledger has admitted a calibration, swap or return: its lanes drain (R145, R153), or go on at once when DRAINED. A lane that
does not run cannot move. -/
def Chip.moveStart (c : Chip) (kind : Nat) (ls : List Nat) : Chip :=
  let c1 := ls.foldl (fun s l => s.modLaneOpt l (fun x => { x with move := some { kind := kind } })) c
  let c2 := ls.foldl (fun s l =>
    let st := s.laneState l
    if st = LS.dark ∨ st = LS.cleared ∨ st = LS.failed then s.moveFail l
    else if st = LS.drowsy then (s.opticalDrain l 0).wakeBlock (laneDie l) (laneBlock l) 0
    else (s.opticalDrain l (if kind = 3 then 0x31 else 0x32)).clearSpray l) c1
  match ls.find? (fun l => c2.laneState l == LS.drained) with
  | some l => c2.moveDrained l
  | none => c2

/-- RETUNE_ACK with accept: the bell is armed; lanes of one activity with the same bell time share one bell (R406). -/
def Chip.retuneAccept (c : Chip) (l : Nat) : Chip :=
  match (c.laneOpt l).move with
  | none => c
  | some m =>
    if !m.out then c
    else
      let give (i : Nat) (s : Chip) : Chip :=
        s.modLaneOpt l (fun x => { x with move := some { m with out := false, index := i } })
      match (c.moveLanes l).findSome? (fun k => match (c.laneOpt k).move with
          | some y => if y.index ≠ 0 ∧ y.time = m.time then some y.index else none
          | none => none) with
      | some i => give i c
      | none =>
        let a := c.armInternal (laneDie l) 6 (laneLocal l) m.time
        give a.1 a.2

/-- RETUNE refused: with TOO_LATE it is sent once more with a new bell; otherwise, or the second time, the move is abandoned
(R156). -/
def Chip.retuneRefused (c : Chip) (l status : Nat) : Chip :=
  match (c.laneOpt l).move with
  | none => c
  | some m =>
    if !m.out then c
    else if status = 4 ∧ m.sends < 2 then
      (c.modLaneOpt l (fun x => { x with move := some { m with out := false } })).moveReady l
    else c.moveFail l

/-- RETUNE unanswered after its repeats: it may be sent once more when the lane stands DRAINED again (R105, R156). -/
def Chip.retuneLost (c : Chip) (l : Nat) : Chip :=
  match (c.laneOpt l).move with
  | none => c
  | some m =>
    if !m.out then c
    else if m.sends < 2 then c.modLaneOpt l (fun x => { x with move := some { m with out := false } })
    else c.moveFail l

/-- The optical record in the flash of both hubs: whether a lane is on the spare (R153). -/
def Chip.recordSpare (c : Chip) (l : Nat) (b : Bool) : Chip :=
  let keep (x : Hub) : Hub := { x with flash := { x.flash with optical := SMap.set (fun _ => 0) x.flash.optical (2048 + l) b.toNat } }
  (c.modHub 0 keep).modHub 1 keep

/-- The bell of a lane's move: TUNING with cause 0x0D, its rings to LOCKING at the target, the spare monitor ring to the channel
the lane has left, and the record in flash (R145, R153). -/
def Chip.moveBell (c : Chip) (l : Nat) : Chip :=
  match (c.laneOpt l).move with
  | none => c
  | some m =>
    let d := laneDie l
    let f := laneBlock l
    let st := c.laneState l
    if st = LS.dark ∨ st = LS.failed ∨ st = LS.cleared then
      (c.modLaneOpt l (fun x => { x with move := some { m with index := 0 } })).moveFail l
    else
      let ch := c.moveTarget l m.kind
      let c1 := (c.laneTo l LS.tuning 0x0D).modLaneOpt l
        (fun x => { x with fastNext := true, move := some { m with acted := true, out := false, index := 0 } })
      let c2 := (c1.ringTo d f (l % 8) ch false).ringTo d f (8 + l % 8) ch false
      if m.kind = 3 then c2
      else
        let on := m.kind == 1
        let c3 := (c2.set (optPwr l) F.PRT_OPT_PWR_CHANNEL ch).set (optPwr l) F.PRT_OPT_PWR_ON_SPARE on.toNat
        let c4 := c3.recordSpare l on
        if c4.ringSt d f 16 = RS.fault then c4 else c4.ringTo d f 16 (if on then l % 8 else 8) false

/-- The retune bell numbered i of die d acts on every lane that waits for it. -/
def Chip.retuneBell (c : Chip) (d i : Nat) : Chip :=
  ((dieLanes d).filter (fun l => match (c.laneOpt l).move with
    | some m => m.index == i
    | none => false)).foldl Chip.moveBell c

/-- A moved lane has trained: event 0x09 or 0x10; a return frees the spare and ends the fade hold (R151, R153, R155). -/
def Chip.moveTrained (c : Chip) (l : Nat) : Chip :=
  match (c.laneOpt l).move with
  | none => c
  | some m =>
    if !m.acted ∨ m.fin ∨ m.kind = 3 then c
    else if m.kind = 1 then (c.laneOptical l 0x09 (c.spareFade l)).moveFin l false
    else
      (((c.set (laneFp l) F.PRT_FP_SPARE_STATE 0).setHold l false).laneOptical l 0x10 (c.spareFade l)).moveFin l false

/-- CALIBRATION_DONE: the calibration steps and the fast retrain of a lane are complete, after `us` µs; the lane waits in
DRAINED. -/
def Chip.calibrationDone (c : Chip) (l us : Nat) : Chip :=
  match (c.laneOpt l).move with
  | none => c
  | some m =>
    if m.kind ≠ 3 ∨ !m.acted ∨ m.fin ∨ c.laneState l ≠ LS.drained then c
    else
      (c.laneOptical l 0x06 (us : Int)).moveFin l false

/-- SWAP_TRAIN_TIMEOUT: training on the new wavelength is not complete 10 ms after the bell: event 0x0A; the lane goes on
training (R154). -/
def Chip.swapTrainTimeout (c : Chip) (l : Nat) : Chip :=
  match (c.laneOpt l).move with
  | none => c
  | some m =>
    if m.kind = 3 ∨ !m.acted ∨ m.fin then c
    else (c.laneOptical l 0x0A (c.fade l)).moveFin l true

/-- A firebreak or a reset has ended the activity that moved the lanes: the spare stays as recorded at the bell (R156). -/
def Chip.moveDrop (c : Chip) (l : Nat) : Chip :=
  match (c.laneOpt l).move with
  | none => c
  | some m =>
    let c1 := if m.kind = 1 ∧ !m.acted ∧ 1 ≤ m.sends then c.set (laneFp l) F.PRT_FP_SPARE_STATE 0 else c
    (c1.modLaneOpt l (fun x => { x with move := none, waitFree := false, swapDue := false })).modLane l
      (fun x => { x with reqs := x.reqs.filter (fun q => q.op != 0x0E) })

/-! ### Requests (R155, R143, R151) -/

/-- The applied request's lane, and OP set back to 0 in both copies. -/
def Chip.optReqLane (c : Chip) (d : Nat) : Nat := d * 64 + c.get (R.PRT_OPT_REQ d) F.PRT_OPT_REQ_LANE
def Chip.optReqOp (c : Chip) (d : Nat) : Nat := c.get (R.PRT_OPT_REQ d) F.PRT_OPT_REQ_OP
def Chip.optReqDone (c : Chip) (d : Nat) : Chip := c.setBoth (R.PRT_OPT_REQ d) F.PRT_OPT_REQ_OP 0

/-- OPT_RETURN_FROM_SPARE: OP 1 on a lane on the spare whose channel reads above −0.5 dB on the spare monitor ring. -/
def Chip.returnFromSpare (c : Chip) (d : Nat) : Chip :=
  let l := c.optReqLane d
  if c.optReqOp d ≠ 1 then c
  else if c.onSpare l ∧ c.spareFade l > -50 then (c.optReqDone d).ledgerRequest d (.swap true (feedOf l) [l])
  else c.optReqDone d

/-- OPT_CALIBRATE_NOW: OP 2. -/
def Chip.calibrateNow (c : Chip) (d : Nat) : Chip :=
  if c.optReqOp d ≠ 2 then c else (c.optReqDone d).calRequest (c.optReqLane d)

/-- The hold of a lane ends once its channel has read above −1.0 dB for 100 ms (R151). -/
def Chip.holdEndCheck (c : Chip) (l : Nat) : Chip :=
  let x := c.laneOpt l
  if x.holdClear ∧ 100 ≤ x.nAbove10 then (c.setHold l false).modLaneOpt l (fun y => { y with holdClear := false }) else c

/-- OPT_CLEAR_FADE_HOLD: OP 4. -/
def Chip.clearFadeHold (c : Chip) (d : Nat) : Chip :=
  let l := c.optReqLane d
  if c.optReqOp d ≠ 4 then c
  else if c.fadeHold l then ((c.optReqDone d).modLaneOpt l (fun x => { x with holdClear := true })).holdEndCheck l
  else c.optReqDone d

/-! ### Fade tracking (R148, R149) -/

/-- A saturating run length: how many readings in a row satisfied a condition. -/
def runLen (n : Nat) (b : Bool) : Nat := if b then min 1000000 (n + 1) else 0

/-- One reading of a judged lane: FADE, the run lengths, and the warning. -/
def Chip.fadeNote (c : Chip) (l : Nat) (v : Int) : Chip :=
  let c1 := (c.set (optPwr l) F.PRT_OPT_PWR_FADE (ofSigned 16 v)).modLaneOpt l (fun x =>
    { x with n10 := runLen x.n10 (decide (v ≤ -100)), n15 := runLen x.n15 (decide (v ≤ -150)), n30 := runLen x.n30 (decide (v ≤ -300)),
             nClear := runLen x.nClear (decide (-70 < v)), nAbove10 := runLen x.nAbove10 (decide (-100 < v)) })
  let x := c1.laneOpt l
  let c2 := if 2 ≤ x.n10 ∧ !c1.flag (optPwr l) F.PRT_OPT_PWR_WARN then (c1.set (optPwr l) F.PRT_OPT_PWR_WARN 1).laneOptical l 0x07 v
    else if 2 ≤ x.nClear then c1.set (optPwr l) F.PRT_OPT_PWR_WARN 0 else c1
  c2.holdEndCheck l

/-- Is the lane judged for fade: its modulator ring LOCKED, not CLEARED, with a commissioned power? -/
def Chip.judged (c : Chip) (l : Nat) : Bool :=
  c.ringSt (laneDie l) (laneBlock l) (l % 8) == RS.locked && c.laneState l != LS.cleared

/-- The commissioned power of a lane, when one is recorded. -/
def Chip.commissioned (c : Chip) (l : Nat) : Option Int :=
  let v := c.get (R.PRT_OPT_COMM (laneDie l) (laneLocal l)) F.PRT_OPT_COMM_POWER
  if v = 0x8000 then none else some (toSigned 16 v)

/-- The fade of a lane by a power reading. -/
def Chip.fadeOf (c : Chip) (l : Nat) (powers : List Int) : Option Int := (c.commissioned l).map (fun p => powers.getD (laneLocal l) 0 - p)

/-- One lane's reading: a lane without a commissioned power is reported once with 0x8000. -/
def Chip.fadeRead (c : Chip) (powers : List Int) (l : Nat) : Chip :=
  if !c.judged l then c
  else match c.fadeOf l powers with
    | none =>
      if (c.laneOpt l).told then c
      else (c.modLaneOpt l (fun x => { x with told := true })).laneOptical l 0x07 (-32768)
    | some v => c.fadeNote l v

/-- Lanes of a die whose fade has crossed −1.5 dB and that have no swap asked for, no move but a calibration (R156) and no hold. -/
def Chip.newlyFaded (c : Chip) (d : Nat) : List Nat :=
  (dieLanes d).filter (fun l =>
    let x := c.laneOpt l
    c.judged l && decide (2 ≤ x.n15) && !x.swapDue && !c.fadeHold l && (match x.move with
      | some m => m.kind == 3
      | none => true))

/-- May a faded lane take its fibre pair's spare: it is free, and no lower channel of the pair takes it in this reading
(R150, R152)? -/
def Chip.takesSpare (c : Chip) (faded : List Nat) (l : Nat) : Bool :=
  !c.onSpare l && c.get (laneFp l) F.PRT_FP_SPARE_STATE == 0
    && !(faded.any (fun m => laneBlock m == laneBlock l && decide (m < l)))
    && !((blockLanes (laneDie l) (laneBlock l)).any (fun m => (c.laneOpt m).swapDue))

/-- The −1.5 dB crossings of one reading: one swap activity per feed, event 0x08 for each of its lanes; the others drain into fade
hold (R149, R152). A swap the ledger refuses is asked for again with the next reading (R475). -/
def Chip.fadeCross (c : Chip) (d : Nat) : Chip :=
  let faded := c.newlyFaded d
  let swaps := faded.filter (c.takesSpare faded)
  let c1 := (faded.filter (fun l => !(l ∈ swaps))).foldl Chip.fadeHoldNow c
  [2 * d, 2 * d + 1].foldl (fun s feed =>
    let ls := swaps.filter (fun l => feedOf l == feed)
    if ls.isEmpty then s
    else
      let s1 := s.ledgerRequest d (.swap false feed ls)
      if (s1.hasEntry d (fun a => a == .swap false feed ls)).isNone then s1
      else ls.foldl (fun s l => (s.modLaneOpt l (fun x => { x with swapDue := true })).laneOptical l 0x08 (s.fade l)) s1) c1

/-- The −3.0 dB crossings: drain at once, outside the ledger, and fade hold. -/
def Chip.fadeUnusable (c : Chip) (d : Nat) : Chip :=
  ((dieLanes d).filter (fun l => c.judged l && decide (2 ≤ (c.laneOpt l).n30) && !c.fadeHold l)).foldl Chip.fadeHoldNow c

/-- The spare monitor ring of a fibre pair reads: SPARE_STATE is 2 while λS reads at or below −1.0 dB (R150). -/
def Chip.spareRead (c : Chip) (d f : Nat) (v : Int) : Chip :=
  let c1 := c.modOptics (fun o => { o with spareFade := SMap.set (fun _ => 0) o.spareFade (d * 8 + f) v })
  let st := c1.get (R.PRT_FP d f) F.PRT_FP_SPARE_STATE
  if c1.ringSt d f 16 ≠ RS.locked ∨ c1.ringCh d f 16 ≠ 8 then c1
  else if st = 0 ∧ v ≤ -100 then c1.set (R.PRT_FP d f) F.PRT_FP_SPARE_STATE 2
  else if st = 2 ∧ -100 < v then c1.set (R.PRT_FP d f) F.PRT_FP_SPARE_STATE 0
  else c1

/-! ### Feed loss (R157) -/

/-- Lanes of a feed. -/
def feedLanes (feed : Nat) : List Nat := (List.range 32).map (fun i => feed / 2 * 64 + feed % 2 * 32 + i)

/-- Fades of the lanes of a feed that use channel k, by a reading. -/
def Chip.channelFades (c : Chip) (feed k : Nat) (powers : List Int) : List Int :=
  ((feedLanes feed).filter (fun l => c.get (optPwr l) F.PRT_OPT_PWR_CHANNEL == k && c.laneState l != LS.cleared)).filterMap
    (fun l => c.fadeOf l powers)

/-- Channels of a feed of which every reading is at or below −3.0 dB. -/
def Chip.deadChannels (c : Chip) (feed : Nat) (powers : List Int) : Nat :=
  ((List.range 9).filter (fun k =>
    let v := c.channelFades feed k powers
    !v.isEmpty && v.all (fun x => decide (x ≤ -300)))).length

/-- Feed state: 0 not lost, else 1 + good readings in a row. -/
def Chip.feedState (c : Chip) (feed : Nat) : Nat := SMap.get (fun _ => 0) c.optics.feedLost feed
def Chip.setFeed (c : Chip) (feed v : Nat) : Chip :=
  c.modOptics (fun o => { o with feedLost := SMap.set (fun _ => 0) o.feedLost feed v })

/-- Show FEED_LOST on the four fibre pairs of a feed. -/
def Chip.showFeed (c : Chip) (feed v : Nat) : Chip :=
  (List.range 4).foldl (fun s i => s.set (R.PRT_FP (feed / 2) (feed % 2 * 4 + i)) F.PRT_FP_FEED_LOST v) c

/-- A feed is declared lost: event 0x0C, its modulator rings HELD, its ACTIVE lanes drained. -/
def Chip.feedDown (c : Chip) (feed n : Nat) : Chip :=
  let c1 := ((c.setFeed feed 1).showFeed feed 1).opticalNotice (feed / 2) (feed % 2 * 4) 0 0 0x0C (n : Int)
  (feedLanes feed).foldl (fun s l =>
    ((s.holdRing (laneDie l) (laneBlock l) (l % 8)).modLaneOpt l (fun x => { x with n10 := 0, n15 := 0, n30 := 0 })).opticalDrain l 5) c1

/-- A feed is restored: event 0x0D, its rings relock, and its lanes then train from T1. -/
def Chip.feedUp (c : Chip) (feed : Nat) : Chip :=
  let c1 := ((c.setFeed feed 0).showFeed feed 0).opticalNotice (feed / 2) (feed % 2 * 4) 0 0 0x0D 0
  (feedLanes feed).foldl (fun s l =>
    (s.unholdRing (laneDie l) (laneBlock l) (l % 8)).modLaneOpt l (fun x => { x with relight := true })) c1

/-- One feed's reading. -/
def Chip.feedRead (c : Chip) (feed : Nat) (powers : List Int) : Chip :=
  let s := c.feedState feed
  if s = 0 then
    let n := c.deadChannels feed powers
    if 6 ≤ n then c.feedDown feed n else c
  else
    let good := (feedLanes feed).all (fun l => c.laneState l == LS.cleared || (match c.fadeOf l powers with
      | some v => decide (-100 < v)
      | none => true))
    if !good then c.setFeed feed 1
    else if 100 ≤ s then c.feedUp feed
    else c.setFeed feed (s + 1)

/-- FADE_READING: the 1 ms readings of die d: the power at each lane's monitor in 0.01 dBm, by local lane, and the fade each spare
monitor ring reads in 0.01 dB, by fibre pair. -/
def Chip.fadeReading (c : Chip) (d : Nat) (powers spares : List Int) : Chip :=
  let c1 := (List.range 8).foldl (fun s f => s.spareRead d f (spares.getD f 0)) c
  let c2 := [2 * d, 2 * d + 1].foldl (fun s feed => s.feedRead feed powers) c1
  let c3 := (dieLanes d).foldl (fun s l => s.fadeRead powers l) c2
  (c3.fadeCross d).fadeUnusable d

end Sys2Proof.Machine
end

