-- ==== Sys2Proof/Machine/Clearings.lean ====
section
/-!
DEFINITION. Clearings (chapter 05): requests, switchovers at the bells, and the answers of the leaves (R166, R171 to R184).
Meanings: CLEARING_SETUP, CLEARING_TEARDOWN, CLEAR_SET_SEND, CLEAR_ACK, CLEAR_DRAINED, CLEAR_DRAINED_TIMEOUT,
CLEARING_IMAGE_TEARDOWN.
-/

namespace Sys2Proof.Machine

/-! ### Moves that waited for a clearing (R180) -/

/-- Clearings of die d have become FREE: ring moves and lane moves that waited for them are made. -/
def Chip.clrFreed (c : Chip) (d : Nat) : Chip :=
  let c1 := ringsOf.foldl (fun s p =>
    let w := (s.ring d p.1 p.2).waits
    if w = 1 then s.searchRing d p.1 p.2 else if w = 2 then s.recoverRing d p.1 p.2 else s) c
  (dieLanes d).foldl (fun s l => if (s.laneOpt l).waitFree then s.moveReady l else s) c1

/-- Cancel a set-up, and let what waited for it go on. -/
def Chip.clrCancelNow (c : Chip) (d r k reason : Nat) : Chip := (c.clrCancel d r k reason).clrFreed d

/-! ### Requests (R166, R174, R176, R184) -/

/-- The conditions of R166. -/
def Chip.clrAllowed (c : Chip) (d r k : Nat) : Bool :=
  let la := clrLane d r k 0
  let lb := clrLane d r k 1
  let one (l : Nat) : Bool :=
    c.role l == 1 && c.clearCap l && !c.onSpare l && !c.fadeHold l
      && (c.portLanes d (c.portOf l)).any (fun m => m != l && c.inSpray m)
      && c.flag (R.PRT_LPARTNER d (laneLocal l)) F.PRT_LPARTNER_VALID
  let sid (l : Nat) : Nat := c.get (R.PRT_LPARTNER d (laneLocal l)) F.PRT_LPARTNER_SWITCH_ID
  one la && one lb && sid la != sid lb && c.clrSt d r k == 0

def Chip.clrReqOp (c : Chip) (d : Nat) : Nat := c.get (R.CLR_REQ d) F.CLR_REQ_OP
def Chip.clrReqRoute (c : Chip) (d : Nat) : Nat := c.get (R.CLR_REQ d) F.CLR_REQ_ROUTE
def Chip.clrReqChan (c : Chip) (d : Nat) : Nat := c.get (R.CLR_REQ d) F.CLR_REQ_CHANNEL
def Chip.clrReqDone (c : Chip) (d : Nat) : Chip := c.setBoth (R.CLR_REQ d) F.CLR_REQ_OP 0

/-- CLEARING_SETUP: an applied OP 1 gives the set-up to the ledger; a set-up the ledger refuses stays FREE. -/
def Chip.clearingSetup (c : Chip) (d : Nat) : Chip :=
  if c.clrReqOp d ≠ 1 then c
  else
    let r := c.clrReqRoute d
    let k := c.clrReqChan d
    if !c.clrAllowed d r k then c.clrReqDone d
    else
      let c1 := (c.clrReqDone d).ledgerRequest d (.clearing r k)
      if (c1.hasEntry d (isClearing r k)).isSome then
        -- the LEAD of the request is kept for the admission
        ((c1.setClr d r k { bell := c.get (R.CLR_REQ d) F.CLR_REQ_LEAD }).setClrSt d r k 1).set (R.CLR_CHAN d r k)
          F.CLR_CHAN_REASON 0
      else c1

/-- CLEARING_TEARDOWN: an applied OP 2 starts a teardown, or cancels a set-up with reason 0x05. -/
def Chip.clearingTeardown (c : Chip) (d : Nat) : Chip :=
  if c.clrReqOp d ≠ 2 then c
  else
    let r := c.clrReqRoute d
    let k := c.clrReqChan d
    let c1 := c.clrReqDone d
    if c1.clrSt d r k = 5 then c1.clrTeardown d r k 0 0 else c1.clrCancelNow d r k 5

/-! ### Set-up (R174) -/

/-- CLEAR_SET_SEND: both lanes are DRAINED: CLEAR_SET goes to both leaves and the clearing is OFFERED; less than 100 µs before the
bell it is cancelled instead (R179). -/
def Chip.clearSetSend (c : Chip) (d r k : Nat) : Chip :=
  if c.clrSt d r k ≠ 2 ∨ !(clrLanes d r k).all (fun l => c.laneState l == LS.drained) then c
  else
    let x := c.clr d r k
    if x.bell < c.now + 100 * tuUs then c.clrCancelNow d r k 4
    else
      let set (s : Chip) (side : Nat) : Chip :=
        let l := clrLane d r k side
        let p := clrLane d r k (1 - side)
        let peer := R.PRT_LPARTNER d (laneLocal p)
        s.lcRequest l 0x18 ([s.clrHandle d r k, laneLocal l] ++ leBytes 3 (s.get peer F.PRT_LPARTNER_SWITCH_ID)
          ++ [s.get peer F.PRT_LPARTNER_LANE] ++ bellBytes x.bell)
      (set (set c 0) 1).setClrSt d r k 3

/-- The set-up has been admitted (R174 step 2): the bell is fixed, HANDLE assigned and both lanes drain. -/
def Chip.clearingStart (c : Chip) (d r k : Nat) : Chip :=
  if c.clrSt d r k ≠ 1 then c.activityEnd d (isClearing r k) 1 0
  else
    let h := SMap.get (fun _ => 0) c.optics.clearCh d
    let c1 := c.modOptics (fun o => { o with clearCh := SMap.set (fun _ => 0) o.clearCh d ((h + 1) % 256) })
    let c2 := (c1.setClr d r k { bell := c.now + (c.clr d r k).bell * tuUs }).set (R.CLR_CHAN d r k) F.CLR_CHAN_HANDLE h
    let c3 := c2.setClrSt d r k 2
    (clrLanes d r k).foldl (fun s l =>
      let s1 := s.opticalDrain l 0x33
      if s1.laneState l = LS.drowsy then s1.wakeBlock d (laneBlock l) 0 else s1.clearSpray l) c3

/-- A lane has entered DRAINED: what waited for it goes on: its move, and its clearing's set-up. -/
def Chip.afterDrained (c : Chip) (l : Nat) : Chip :=
  let d := laneDie l
  let c1 := c.moveDrained l
  if c1.laneState l = LS.drained then c1.clearSetSend d (laneBlock l % 4) (l % 8) else c1

/-! ### Bells -/

/-- The set-up bell (R174 step 5): the four rings are PARKED and both lanes CLEARED with cause 0x0E; event 0x01; the ledger
activity ends. -/
def Chip.clrSetupBell (c : Chip) (d r k : Nat) : Chip :=
  let one (s : Chip) (l : Nat) : Chip :=
    ((s.laneTo l LS.cleared 0x0E).parkRing d (laneBlock l) k).parkRing d (laneBlock l) (8 + k)
  let c1 := ((clrLanes d r k).foldl one c).setClr d r k {}
  (((c1.setClrSt d r k 5).set (R.CLR_CHAN d r k) F.CLR_CHAN_FORCED 0).clrNotice d r k 1 0).activityEnd d (isClearing r k) 0 0

/-- The teardown bell (R176): both lanes go to TUNING with cause 0x0E, their rings to LOCKING, and the clearing is RETURNING. -/
def Chip.clrTeardownBell (c : Chip) (d r k : Nat) : Chip :=
  let c1 := (c.setClr d r k {}).setClrSt d r k 7
  (clrLanes d r k).foldl (fun s l => s.enterTuning l (some 0x0E)) c1

/-- The bell of a clearing acts. -/
def Chip.clearingBell (c : Chip) (d r k : Nat) : Chip :=
  if c.clrSt d r k = 4 then c.clrSetupBell d r k
  else if c.clrSt d r k = 6 then c.clrTeardownBell d r k
  else c

/-- A lane has left TRAINING: a RETURNING clearing both of whose lanes have is FREE, with event 0x02. -/
def Chip.clrReturnCheck (c : Chip) (l : Nat) : Chip :=
  let d := laneDie l
  let r := laneBlock l % 4
  let k := l % 8
  let away (m : Nat) : Bool := c.laneState m != LS.training && c.laneState m != LS.tuning
  if c.clrSt d r k = 7 ∧ (clrLanes d r k).all away then
    ((c.setClrSt d r k 0).clrNotice d r k 2 0).clrFreed d
  else c

/-! ### Answers of the leaves (R172, R173, R177, R179) -/

/-- The side of a clearing a lane of fibre pair f belongs to. -/
def sideOf (l : Nat) : Nat := laneBlock l / 4

/-- Both leaves have answered a request of the clearing with accept. -/
def Chip.clrAccepted (c : Chip) (d r k : Nat) : Chip :=
  let x := c.clr d r k
  if x.acks ≠ 3 then c
  else if c.clrSt d r k = 3 then
    let a := c.armInternal d 4 (r * 8 + k) x.bell
    (a.2.setClr d r k { x with index := a.1 }).setClrSt d r k 4
  else if c.clrSt d r k = 6 ∧ x.phase = 2 ∧ x.index = 0 then
    let a := c.armInternal d 4 (r * 8 + k) x.bell
    a.2.setClr d r k { x with index := a.1 }
  else c

/-- CLEAR_ACK on lane l: the answer to the request with this LC_SEQ. CLEAR_SET accepted by both leaves arms the bell, refused it
cancels the set-up with the STATUS as reason; PHASE 2 accepted by both arms the teardown bell, otherwise it is offered again with a
new bell (DEDUCED, log 20). -/
def Chip.clearAck (c : Chip) (l seq handle status : Nat) : Chip :=
  match (c.lane l).reqs.find? (fun q => (q.op == 0x18 || q.op == 0x19) && q.seq == seq) with
  | none => c
  | some q =>
    let d := laneDie l
    let r := laneBlock l % 4
    let k := nth q.body 1 % 8
    let side := sideOf l
    let c1 := c.lcAnswered l q.op seq
    let x := c1.clr d r k
    let yes := c1.setClr d r k { x with acks := putBit x.acks side true }
    if c1.clrHandle d r k ≠ handle ∨ nth q.body 0 ≠ handle then c1
    else if q.op = 0x18 then
      if c1.clrSt d r k ≠ 3 then c1
      else if status = 0 then yes.clrAccepted d r k
      else c1.clrCancelNow d r k (min status 5)
    else if nth q.body 2 = 2 ∧ c1.clrSt d r k = 6 ∧ x.phase = 2 then
      if status = 0 then yes.clrAccepted d r k
      else if x.index = 0 then (c1.clrVoid d r k).clrPhase2 d r k
      else c1
    else c1

/-- A clearing request has gone unanswered after its repeats (R179): a set-up is cancelled with 0x06; a teardown bell no leaf
accepted is forced. -/
def Chip.clearLost (c : Chip) (l : Nat) (q : LcReq) : Chip :=
  let d := laneDie l
  let r := laneBlock l % 4
  let k := nth q.body 1 % 8
  if q.op = 0x18 then c.clrCancelNow d r k 6
  else if q.op = 0x19 ∧ nth q.body 2 = 2 ∧ c.clrSt d r k = 6 ∧ (c.clr d r k).phase = 2 then c.clrForce d r k 6
  else c

/-- CLEAR_DRAINED on lane l for the clearing of a HANDLE and LANE: answered accept, and while CLEARED taken as the leaf's end
request; both arrived, the teardown bell is fixed. A HANDLE that names no such clearing is answered UNKNOWN_HANDLE. -/
def Chip.clearDrained (c : Chip) (l seq handle lane : Nat) : Chip :=
  let d := laneDie l
  let r := laneBlock l % 4
  let k := lane % 8
  let side := sideOf l
  let st := c.clrSt d r k
  let answer (s : Chip) (v : Nat) : Chip := s.lcSend l 0x1A seq [handle, v]
  if c.clrHandle d r k ≠ handle ∨ (st ≠ 5 ∧ st ≠ 6) then answer c 6
  else
    let c1 := answer c 0
    if (c.lane l).acted? 0x1B seq then c1
    else
      let c2 := c1.lcActed l 0x1B seq
      if st = 5 then (c2.clrTeardown d r k (2 ^ side) 0).clrNotice d r k 5 0
      else
        let x := c2.clr d r k
        let c3 := c2.setClr d r k { x with drained := putBit x.drained side true }
        if (c3.clr d r k).drained = 3 ∧ x.phase = 1 then c3.clrPhase2 d r k else c3

/-- CLEAR_DRAINED_TIMEOUT: a leaf's CLEAR_DRAINED has not arrived within 1 ms of phase 1. -/
def Chip.clearDrainedTimeout (c : Chip) (d r k : Nat) : Chip :=
  if c.clrSt d r k = 6 ∧ (c.clr d r k).phase = 1 then c.clrForce d r k 0x0C else c

/-- A leaf's port has lost its last ACTIVE lane while one of its lanes is CLEARED (R179). A DROWSY lane still serves its port
(R181). -/
def Chip.clrPortCheck (c : Chip) (l : Nat) : Chip :=
  let d := laneDie l
  if (c.activeOfPort l).isSome || (c.portLanes d (c.portOf l)).any (fun m => c.laneState m == LS.drowsy) then c
  else (c.portLanes d (c.portOf l)).foldl (fun s m =>
    let r := laneBlock m % 4
    if s.clrSt d r (m % 8) = 5 ∧ s.laneState m = LS.cleared then s.clrForce d r (m % 8) 9 else s) c

/-- Before its bell a clearing's lane loses block lock (R179). -/
def Chip.clrLockLost (c : Chip) (l : Nat) : Chip :=
  let d := laneDie l
  let r := laneBlock l % 4
  let st := c.clrSt d r (l % 8)
  if 1 ≤ st ∧ st ≤ 4 then c.clrCancelNow d r (l % 8) 7 else c

/-- A firebreak on a lane or block before the bell cancels the set-up (R179); one still QUEUED waits (R477). -/
def Chip.clrFirebreak (c : Chip) (l : Nat) : Chip :=
  let d := laneDie l
  let r := laneBlock l % 4
  let st := c.clrSt d r (l % 8)
  if 2 ≤ st ∧ st ≤ 4 then c.clrCancelNow d r (l % 8) 8 else c

/-- CLEARING_IMAGE_TEARDOWN: the loaded image no longer has CLEAR_CAP on both lanes, and a lane of each port is ACTIVE (R181). -/
def Chip.clearingImageTeardown (c : Chip) (d r k : Nat) : Chip :=
  let ok := (clrLanes d r k).all (fun l => c.clearCap l)
  let up := (clrLanes d r k).all (fun l => (c.activeOfPort l).isSome)
  if c.clrSt d r k = 5 ∧ !ok ∧ up then c.clrForce d r k 0x0B else c

end Sys2Proof.Machine
end

