-- ==== Sys2Proof/Machine/Admission.lean ====
section
/-!
DEFINITION. Admission of ledger entries and what starts with them (R477, R479), and how firebreaks, resets and sag warnings end
them (R24, R481 to R483). Meanings: LEDGER_REQUEST, LEDGER_TICK, LEDGER_WAIT_NOTICE.
-/

namespace Sys2Proof.Machine

/-- A leak audit starts (R240): the young bits of the pool are cleared and set on every allocation from now on. -/
def Chip.auditStart (c : Chip) (d pool : Nat) : Chip :=
  if 8 ≤ pool then c
  else
    let p := c.pool d pool
    c.setPool d pool { p with auditing := true,
                              bufs := SMap.mapVals (fun _ => none) p.bufs (fun _ x => x.map (fun b => { b with young := false })) }

/-- An admitted activity starts. Quizzes and scrubs run on their own until their end is reported. -/
def Chip.startActivity (c : Chip) (d : Nat) (a : Activity) : Chip :=
  match a with
  | .cal l => c.moveStart 3 [l]
  | .swap back _ ls => c.moveStart (if back then 2 else 1) ls
  | .audit p => c.auditStart d p
  | .clearing r k => c.clearingStart d r k
  | .quiz _ _ => c
  | .tableScrub => c
  | .hbmScrub _ => c
  | .partialLoad _ => c

/-- One entry of the queue: admitted when R477 allows and no entry queued before it conflicts. -/
def Chip.admitOne (c : Chip) (d : Nat) (before : List Activity) (i : Nat) (e : LedgerEnt) : Chip :=
  if c.admissible d e.act before then
    ((c.setEntry d i (some { e with running := true, since := c.now })).incWrap (R.FLT_LDG_CNT d) F.FLT_LDG_CNT_ADMITTED 1).startActivity
      d e.act
  else c

/-- The queue in order: an entry that stays QUEUED holds its declarations against those after it. -/
def Chip.admitAll (c : Chip) (d : Nat) (before : List Activity) : List (Nat × LedgerEnt) → Chip
  | [] => c
  | (i, e) :: t =>
    if c.admissible d e.act before then (c.admitOne d before i e).admitAll d before t
    else c.admitAll d (before ++ [e.act]) t

/-- LEDGER_TICK: the ledger of die d admits every QUEUED entry that R477 allows, the head band first. -/
def Chip.ledgerTick (c : Chip) (d : Nat) : Chip := c.admitAll d [] (c.ledgerQueue d)

/-! ### Ends that events force -/

/-- What is left of an activity when a firebreak or a reset ends it. -/
def Chip.stopActivity (c : Chip) (d : Nat) (a : Activity) : Chip :=
  match a with
  | .cal l => c.moveDrop l
  | .swap _ _ ls => ls.foldl Chip.moveDrop c
  | .audit p => if p < 8 then c.setPool d p { c.pool d p with auditing := false } else c
  | .partialLoad _ => { c with loading := SMap.modify (fun _ => none) c.loading d (fun x => x.map (fun y => { y with dead := true })) }
  | _ => c

/-- A quiz that ends without a result (R382): counted, reported ABORTED and queued again. -/
def Chip.quizAborted (c : Chip) (u : QUnit) (reason us : Nat) : Chip :=
  ((c.incSat (R.FLT_QUIZ_STAT u.die) F.FLT_QUIZ_STAT_ABORTED 1).quizNotice u 0 2 reason 0xFFF us 0).ledgerRequest u.die
    (.quiz u reason)

/-- A RUNNING entry ends with an outcome other than its own. -/
def Chip.forceEnd (c : Chip) (d i outcome : Nat) : Chip :=
  match c.entry d i with
  | none => c
  | some e =>
    let c1 := (c.entryEnd d i outcome 0).stopActivity d e.act
    match e.act with
    | .quiz u r => c1.quizAborted u r ((c.now - e.since) / tuUs)
    | _ => c1

/-- R24: the RUNNING entries of die d of which p holds are pre-empted. A clearing set-up is then cancelled by its own rule. -/
def Chip.preempt (c : Chip) (d : Nat) (p : Activity → Bool) : Chip :=
  (((c.entries d).filter (fun e => e.2.running && p e.2.act)).map (·.1)).foldl (fun s i => s.forceEnd d i 2) c

/-- R483: a BLOCK or TILE reset ends the RUNNING entries that declare the unit. -/
def Chip.resetEnd (c : Chip) (d : Nat) (p : Activity → Bool) : Chip :=
  (((c.entries d).filter (fun e => e.2.running && p e.2.act)).map (·.1)).foldl (fun s i => s.forceEnd d i 4) c

/-- A sag warning ends the RUNNING quizzes of every die (R382). -/
def Chip.sagQuizzes (c : Chip) : Chip :=
  (List.range 40).foldl (fun s d =>
    (((s.entries d).filter (fun e => e.2.running && e.2.act.act == 3)).map (·.1)).foldl (fun s i => s.forceEnd d i 3) s) c

/-- Does an activity declare something inside tile t of its die? -/
def Activity.inTile (t : Nat) (a : Activity) : Bool :=
  t ∈ a.lanesOut || (match a with
    | .quiz u _ => (u.ty == 1 || u.ty == 4 || u.ty == 5) && u.tile == t
    | _ => false)

/-- Does an activity declare block or cluster b, or a lane in it? -/
def Activity.inBlock (b : Nat) (a : Activity) : Bool := b ∈ a.blocks

end Sys2Proof.Machine
end

