-- ==== Sys2Proof/Machine/Arith.lean ====
section
/-!
DEFINITION. Exact reduction arithmetic (chapter 11): formats and element cells (R325 to R327), exact values (R329, R330),
rounding and range (R332 to R334), and the FP32 operations of chapter 12 (R349, R362).
-/

namespace Sys2Proof.Machine

/-! ### Formats (R325) -/

/-- How the top exponent is used: IEEE (infinities and NaN), E4M3 (only S.1111.111 is NaN), or none. -/
inductive Tops where
  | ieee | e4m3 | plain
  deriving DecidableEq, Repr

/-- A floating element format: exponent bits, mantissa bits, bias, use of the top exponent, exponent of the largest
binade, largest significand there, canonical NaN. -/
structure FpFmt where
  eb : Nat
  mb : Nat
  bias : Nat
  tops : Tops
  emax : Nat
  maxSig : Nat
  nan : Nat
  deriving DecidableEq, Repr

def fp64 : FpFmt := ⟨11, 52, 1023, .ieee, 1023, 2 ^ 53 - 1, 0x7FF8000000000000⟩
def fp32 : FpFmt := ⟨8, 23, 127, .ieee, 127, 2 ^ 24 - 1, 0x7FC00000⟩
def bf16 : FpFmt := ⟨8, 7, 127, .ieee, 127, 2 ^ 8 - 1, 0x7FC0⟩
def fp16 : FpFmt := ⟨5, 10, 15, .ieee, 15, 2 ^ 11 - 1, 0x7E00⟩
def e4m3 : FpFmt := ⟨4, 3, 7, .e4m3, 8, 14, 0x7F⟩
def e5m2 : FpFmt := ⟨5, 2, 15, .ieee, 15, 7, 0x7E⟩
def e3m2 : FpFmt := ⟨3, 2, 3, .plain, 4, 7, 0⟩
def e2m3 : FpFmt := ⟨2, 3, 1, .plain, 2, 15, 0⟩
def e2m1 : FpFmt := ⟨2, 1, 1, .plain, 2, 3, 0⟩

/-- The element format of a format code; for an MX format, of its elements. -/
def fmtOf (code : Nat) : FpFmt :=
  if code = 1 then fp64 else if code = 2 then fp32 else if code = 3 then bf16 else if code = 4 then fp16
  else if code = 5 ∨ code = 7 then e4m3 else if code = 6 ∨ code = 8 then e5m2
  else if code = 9 then e3m2 else if code = 10 then e2m3 else e2m1

def isMx (code : Nat) : Bool := decide (7 ≤ code) && decide (code ≤ 11)
def isInt (code : Nat) : Bool := code == 12 || code == 13
/-- Bits of an element. -/
def elemBits (code : Nat) : Nat :=
  if code = 1 then 64 else if code = 2 ∨ code = 12 then 32 else if code = 3 ∨ code = 4 then 16
  else if code = 9 ∨ code = 10 then 6 else if code = 11 then 4 else 8
/-- EPC, elements per cell. -/
def epc (code : Nat) : Nat :=
  if code = 1 then 6 else if code = 2 ∨ code = 12 then 13 else if code = 3 ∨ code = 4 then 26
  else if code = 7 ∨ code = 8 then 32 else if code = 9 ∨ code = 10 then 64 else if code = 11 then 96 else 52

/-- The unit exponent of exact values of an input format: A2176 for FP64, A320 for every other (R335). -/
def unitOf (code : Nat) : Nat := if code = 1 then 1074 else 149

/-! ### Decoding -/

/-- The value of the bits of a floating element, in units of 2^(sh − u): for an MX element sh is its scale less 127. -/
def decodeFp (f : FpFmt) (u x bits : Nat) : Val :=
  let m := bits % 2 ^ f.mb
  let e := bits / 2 ^ f.mb % 2 ^ f.eb
  let neg := bitOf bits (f.mb + f.eb)
  let top := e == 2 ^ f.eb - 1
  if f.tops = .ieee ∧ top ∧ m = 0 then .inf neg
  else if f.tops = .ieee ∧ top then .nan
  else if f.tops = .e4m3 ∧ top ∧ m = 2 ^ f.mb - 1 then .nan
  else
    let sig := if e = 0 then m else m + 2 ^ f.mb
    .fin neg (sig * 2 ^ (max e 1 + u + x - 127 - f.bias - f.mb))

/-- The value of element j of an element-cell payload (R326, R327). -/
def elemVal (code payload j : Nat) : Val :=
  let w := elemBits code
  if isMx code then
    let per := 1 + 32 * w / 8
    let b := payload / 2 ^ (8 * per * (j / 32))
    let x := b % 256
    if x = 255 then .nan else decodeFp (fmtOf code) 149 x (slice b (8 + w * (j % 32)) w)
  else if isInt code then
    let v := toSigned w (slice payload (w * j) w)
    .fin (decide (v < 0)) (v.natAbs * 2 ^ 149)
  else decodeFp (fmtOf code) (unitOf code) 127 (slice payload (w * j) w)

/-- The raw bits of an integer element. -/
def elemRaw (code payload j : Nat) : Nat := slice payload (elemBits code * j) (elemBits code)

/-! ### Accumulation (R329, R330, R335) -/

/-- The order of MIN and MAX: −∞, the finite values with −0 below +0, +∞. -/
def Val.key : Val → Int × Int
  | .nan => (2, 0)
  | .inf true => (-1, 0)
  | .inf false => (1, 0)
  | .fin true m => (0, -(m : Int) * 2 - 1)
  | .fin false m => (0, (m : Int) * 2)

def Val.le (a b : Val) : Bool := decide (a.key.1 < b.key.1) || (a.key.1 == b.key.1 && decide (a.key.2 ≤ b.key.2))

/-- One input element enters an accumulator. -/
def Acc.add (a : Acc) (op : Nat) (v : Val) (raw : Nat) : Acc :=
  let neg0 := v == .fin true 0
  let pos0 := v == .fin false 0
  let a1 := { a with allNeg0 := a.allNeg0 && neg0, allPos0 := a.allPos0 && pos0 }
  let a2 := match v with
    | .nan => { a1 with nan := true }
    | .inf true => { a1 with negInf := true }
    | .inf false => { a1 with posInf := true }
    | .fin n m => { a1 with sum := a1.sum + (if n then -(m : Int) else (m : Int)) }
  let a3 := if v = .nan then a2 else
    match a2.ext with
    | none => { a2 with ext := some v }
    | some x => { a2 with ext := some (if op = 2 then (if v.le x then v else x) else (if x.le v then v else x)) }
  let b := match a3.bits with
    | none => raw
    | some y => if op = 4 then y &&& raw else if op = 5 then y ||| raw else y ^^^ raw
  { a3 with bits := some b }

/-- A value as sign and rational magnitude num / (den·2^unit), or a special value. -/
inductive Exact where
  | nan
  | inf (neg : Bool)
  | rat (neg : Bool) (num den : Nat)
  deriving DecidableEq, Repr

/-- The exact value V of an output element (R329 to R331), in units 2^−unit. -/
def Acc.value (a : Acc) (op members round : Nat) : Exact :=
  if a.nan then .nan
  else if op ≤ 1 then
    if a.posInf && a.negInf then .nan
    else if a.posInf then .inf false
    else if a.negInf then .inf true
    else
      let den := if op = 1 then members else 1
      if a.sum = 0 then .rat (if round = 3 then !a.allPos0 else a.allNeg0) 0 den
      else .rat (decide (a.sum < 0)) a.sum.natAbs den
  else
    match a.ext with
    | none => .rat false 0 1
    | some .nan => .nan
    | some (.inf n) => .inf n
    | some (.fin n m) => .rat n m 1

/-! ### Rounding (R332) -/

/-- num/den rounded to an integer: ROUND 0 to nearest even, 1 toward zero, 2 toward +∞, 3 toward −∞. -/
def roundNat (mode : Nat) (neg : Bool) (num den : Nat) : Nat :=
  let q := num / den
  let r := num % den
  if r = 0 then q
  else if mode = 0 then (if 2 * r < den then q else if den < 2 * r then q + 1 else q + q % 2)
  else if mode = 2 then (if neg then q else q + 1)
  else if mode = 3 then (if neg then q + 1 else q)
  else q

/-- Floor of log2 of num/den, for a positive value. -/
def ratLog2 (num den : Nat) : Int :=
  let k : Int := (Nat.log2 num : Int) - (Nat.log2 den : Int)
  let lt : Bool := if 0 ≤ k then decide (num < den * 2 ^ k.toNat) else decide (num * 2 ^ (-k).toNat < den)
  if lt then k - 1 else k

/-- A magnitude num/(den·2^u) as a multiple of 2^q, rounded. -/
def quantise (mode : Nat) (neg : Bool) (num den u : Nat) (q : Int) : Nat :=
  let s : Int := q + (u : Int)
  if 0 ≤ s then roundNat mode neg num (den * 2 ^ s.toNat) else roundNat mode neg (num * 2 ^ (-s).toNat) den

/-- The sign, quantum exponent and significand a magnitude rounds to with the precision of f and its least exponent, the
exponent unbounded above. -/
def roundFp (f : FpFmt) (mode : Nat) (neg : Bool) (num den u : Nat) : Int × Nat :=
  if num = 0 then (1 - (f.bias : Int) - (f.mb : Int), 0)
  else
    let e := max (ratLog2 num den - (u : Int)) (1 - (f.bias : Int))
    let q := e - (f.mb : Int)
    let n := quantise mode neg num den u q
    if n = 2 ^ (f.mb + 1) then (q + 1, 2 ^ f.mb) else (q, n)

/-- Does a rounded magnitude exceed the format's largest finite value? -/
def overflows (f : FpFmt) (r : Int × Nat) : Bool :=
  let top : Int := (f.emax : Int) - (f.mb : Int)
  decide (top < r.1) || (r.1 == top && decide (f.maxSig < r.2))

/-- The encoding of a rounded value in range. -/
def encodeFp (f : FpFmt) (neg : Bool) (r : Int × Nat) : Nat :=
  let body := if r.2 < 2 ^ f.mb then r.2 else (r.1 + (f.mb : Int) + (f.bias : Int)).toNat * 2 ^ f.mb + (r.2 - 2 ^ f.mb)
  neg.toNat * 2 ^ (f.eb + f.mb) + body

def maxFinite (f : FpFmt) (neg : Bool) : Nat := encodeFp f neg ((f.emax : Int) - (f.mb : Int), f.maxSig)
def infBits (f : FpFmt) (neg : Bool) : Nat := neg.toNat * 2 ^ (f.eb + f.mb) + (2 ^ f.eb - 1) * 2 ^ f.mb

/-! ### Output (R330, R332 to R334) -/

/-- What rounding output elements gives: the payload bits, the saturated and NaN elements counted, and whether the result
is out of range, and that by an infinity. -/
structure Out where
  bits : Nat := 0
  sat : Nat := 0
  nans : Nat := 0
  range : Bool := false
  inf : Bool := false
  deriving DecidableEq, Repr

/-- One element in a format from 0x01 to 0x06. -/
def outFp (code mode u : Nat) (v : Exact) : Out :=
  let f := fmtOf code
  match v with
  | .nan => { bits := f.nan, nans := 1 }
  | .inf n => if code = 5 then { range := true, inf := true } else { bits := infBits f n }
  | .rat n num den =>
    let r := roundFp f mode n num den u
    if overflows f r then (if code = 5 then { bits := maxFinite f n, sat := 1 } else { range := true })
    else { bits := encodeFp f n r }

/-- One element of INT32 or INT8 (R333). A NaN has no integer; `free` stands for it (DESIGN CHOICE, log 6). -/
def outInt (w mode u : Nat) (free : Nat) (v : Exact) : Out :=
  match v with
  | .nan => { bits := free % 2 ^ w, nans := 1 }
  | .inf _ => { range := true, inf := true }
  | .rat n num den =>
    let q := roundNat mode n num (den * 2 ^ u)
    let lim := if n then 2 ^ (w - 1) else 2 ^ (w - 1) - 1
    let m := min q lim
    { bits := if n then (2 ^ w - m) % 2 ^ w else m, sat := (decide (lim < q)).toNat }

def Exact.isNan : Exact → Bool
  | .nan => true
  | _ => false
def Exact.isInf : Exact → Bool
  | .inf _ => true
  | _ => false

/-- floor(log2 m) of the greatest finite magnitude of a block, none when every one is 0. -/
def blockLog (u : Nat) (vs : List Exact) : Option Int :=
  vs.foldl (fun best v =>
    match v with
    | .rat _ num den =>
      if num = 0 then best
      else
        let e := ratLog2 num den - (u : Int)
        match best with
        | none => some e
        | some b => some (max b e)
    | _ => best) none

/-- An MX block of up to 32 elements (R334): scale byte, then the elements. A block with a NaN result is written as scale
0xFF and zeros; an infinite element is out of range. -/
def outMx (code mode u : Nat) (vs : List Exact) : Out :=
  let f := fmtOf code
  let w := elemBits code
  if vs.any Exact.isInf then { range := true, inf := true }
  else if vs.any Exact.isNan then { bits := 255, nans := 32 }
  else
    let x0 : Int := match blockLog u vs with
      | none => 0
      | some e => e - (f.emax : Int) + 127
    let x : Nat := if x0 < 0 then 0 else if 254 < x0 then 254 else x0.toNat
    let clampedTop := decide (254 < x0)
    let els := vs.map (fun v =>
      match v with
      | .rat n num den =>
        -- v · 2^(127 − x): the unit exponent moves by x − 127
        let r := if u + x < 127 then roundFp f mode n (num * 2 ^ (127 - u - x)) den 0 else roundFp f mode n num den (u + x - 127)
        if overflows f r then (maxFinite f n, 1) else (encodeFp f n r, 0)
      | _ => (0, 0))
    { bits := x + (els.zipIdx.foldl (fun s e => s + e.1.1 * 2 ^ (8 + w * e.2)) 0),
      sat := if clampedTop then els.foldl (fun s e => s + e.2) 0 else 0 }

/-- Split a list into pieces of n. -/
def piecesOf {α : Type} (n : Nat) : Nat → List α → List (List α)
  | 0, _ => []
  | fuel + 1, l => if l.isEmpty then [] else l.take n :: piecesOf n fuel (l.drop n)

/-- One output cell: its payload from up to EPC exact elements; `free j` stands for a NaN at element j of an integer
cell (DESIGN CHOICE, log 6). -/
def outCell (code mode u : Nat) (free : Nat → Nat) (vs : List Exact) : Out :=
  let parts : List (Out × Nat) :=
    if isMx code then
      let per := 8 * (1 + 32 * elemBits code / 8)
      ((piecesOf 32 4 vs).map (outMx code mode u)).zipIdx.map (fun p => (p.1, per * p.2))
    else if isInt code then vs.zipIdx.map (fun p => (outInt (elemBits code) mode u (free p.2) p.1, elemBits code * p.2))
    else (vs.map (outFp code mode u)).zipIdx.map (fun p => (p.1, elemBits code * p.2))
  parts.foldl (fun (s : Out) p =>
    { bits := s.bits + p.1.bits * 2 ^ p.2, sat := s.sat + p.1.sat, nans := s.nans + p.1.nans,
      range := s.range || p.1.range, inf := s.inf || p.1.inf }) {}

/-- Integer bitwise results keep the input bits (R328). -/
def outBits (w : Nat) (bs : List Nat) : Nat := bs.zipIdx.foldl (fun s p => s + p.1 % 2 ^ w * 2 ^ (w * p.2)) 0

/-! ### FP32 operations, to nearest even (R349, R362) -/

def f32 (b : Nat) : Val := decodeFp fp32 149 127 b
def f32Nan : Nat := 0x7FC00000
def f32Neg (b : Nat) : Nat := if bitOf b 31 then b - 2 ^ 31 else b + 2 ^ 31

/-- Round a rational to FP32 under nearest even; overflow gives an infinity. -/
def f32Round (neg : Bool) (num den u : Nat) : Nat :=
  let r := roundFp fp32 0 neg num den u
  if overflows fp32 r then infBits fp32 neg else encodeFp fp32 neg r

/-- Sum of two values in units 2^−u, rounded to FP32. -/
def sumRound (u : Nat) (a b : Val) : Nat :=
  match a, b with
  | .nan, _ => f32Nan
  | _, .nan => f32Nan
  | .inf m, .inf n => if m = n then infBits fp32 m else f32Nan
  | .inf m, _ => infBits fp32 m
  | _, .inf n => infBits fp32 n
  | .fin m x, .fin n y =>
    let s : Int := (if m then -(x : Int) else (x : Int)) + (if n then -(y : Int) else (y : Int))
    if s = 0 then (if m && n then 2 ^ 31 else 0) else f32Round (decide (s < 0)) s.natAbs 1 u

def f32Add (a b : Nat) : Nat := sumRound 149 (f32 a) (f32 b)
def f32Sub (a b : Nat) : Nat := f32Add a (f32Neg b)

/-- The exact product, in units of the product of the two units. -/
def valMul (a b : Val) : Val :=
  match a, b with
  | .nan, _ => .nan
  | _, .nan => .nan
  | .inf m, .inf n => .inf (m != n)
  | .inf m, .fin n y => if y = 0 then .nan else .inf (m != n)
  | .fin m x, .inf n => if x = 0 then .nan else .inf (m != n)
  | .fin m x, .fin n y => .fin (m != n) (x * y)

def valRound (u : Nat) (v : Val) : Nat :=
  match v with
  | .nan => f32Nan
  | .inf n => infBits fp32 n
  | .fin n m => f32Round n m 1 u

def f32Mul (a b : Nat) : Nat := valRound 298 (valMul (f32 a) (f32 b))

def f32Div (a b : Nat) : Nat :=
  match f32 a, f32 b with
  | .nan, _ => f32Nan
  | _, .nan => f32Nan
  | .inf _, .inf _ => f32Nan
  | .inf m, .fin n _ => infBits fp32 (m != n)
  | .fin m _, .inf n => (m != n).toNat * 2 ^ 31
  | .fin m x, .fin n y =>
    if y = 0 then (if x = 0 then f32Nan else infBits fp32 (m != n))
    else f32Round (m != n) x y 0

/-- Integer square root by bisection over b bits. -/
def isqrt : Nat → Nat → Nat → Nat
  | 0, _, r => r
  | b + 1, n, r => let t := r + 2 ^ b; if t * t ≤ n then isqrt b n t else isqrt b n r

/-- Square root, correctly rounded: the root of the magnitude with a sticky half unit when it is not exact. -/
def f32Sqrt (a : Nat) : Nat :=
  match f32 a with
  | .nan => f32Nan
  | .inf n => if n then f32Nan else infBits fp32 false
  | .fin n m =>
    if m = 0 then a
    else if n then f32Nan
    else
      -- m · 2⁻¹⁴⁹ = (m · 2¹⁵¹) · 2⁻³⁰⁰
      let s := m * 2 ^ 151
      let r := isqrt 240 s 0
      f32Round false (2 * r + (decide (r * r < s)).toNat) 2 150

def f32Finite (b : Nat) : Bool := b / 2 ^ 23 % 256 != 255
def f32One : Nat := 0x3F800000

/-! ### Rounding a working value to BF16 or FP8 E4M3 (R352) -/

/-- The FP32 bits of a BF16 or FP8 E4M3 encoding. -/
def toF32 (code bits : Nat) : Nat :=
  match decodeFp (fmtOf code) 149 127 bits with
  | .nan => f32Nan
  | .inf n => infBits fp32 n
  | .fin n m => f32Round n m 1 149

/-- A finite FP32 value rounded to nearest even to FMT, as FP32 bits; a NaN stays the canonical NaN. -/
def narrow (code b : Nat) : Nat :=
  match f32 b with
  | .nan => f32Nan
  | .inf n => infBits fp32 n
  | .fin n m =>
    let f := fmtOf code
    let r := roundFp f 0 n m 1 149
    if overflows f r then (if code = 5 then toF32 code (maxFinite f n) else infBits fp32 n) else toF32 code (encodeFp f n r)

/-- Is a working value beyond the largest finite value of FMT? -/
def beyond (code b : Nat) : Bool :=
  match f32 b with
  | .nan => false
  | .inf _ => true
  | .fin _ m =>
    match decodeFp (fmtOf code) 149 127 (maxFinite (fmtOf code) false) with
    | .fin _ x => decide (x < m)
    | _ => false

/-- One multiply-accumulate: the exact product added to the register with one rounding (R349). -/
def mac (acc x m : Nat) : Nat :=
  match valMul (f32 x) (f32 m) with
  | .nan => f32Nan
  | .inf n => sumRound 298 (match f32 acc with | .fin p y => .fin p (y * 2 ^ 149) | v => v) (.inf n)
  | .fin n z => sumRound 298 (match f32 acc with | .fin p y => .fin p (y * 2 ^ 149) | v => v) (.fin n z)

end Sys2Proof.Machine
end

