-- ==== Sys2Proof/Machine/Recipes.lean ====
section
/-!
DEFINITION. Recipes (R350 to R357) and the optimizer's update rules (R361 to R363) as functions of their inputs.
-/

namespace Sys2Proof.Machine

/-! ### Steps (R351, R353) -/

def stepOf (w : Nat) : Step1 := ⟨w / 2 ^ 56 % 256, w / 2 ^ 48 % 256, w / 2 ^ 40 % 256, w / 2 ^ 32 % 256, w % 2 ^ 32⟩

/-- Rule 6 of R353: FMT and ARG in range. -/
def stepInRange (s : Step1) : Bool :=
  if s.op = 1 then decide (1 ≤ s.fmt) && decide (s.fmt ≤ 13) && s.arg == 0
  else if s.op = 2 then (s.fmt == 2 || s.fmt == 3) && decide (s.arg ≤ 3)
  else if s.op = 4 then (s.fmt == 3 || s.fmt == 5) && decide (s.arg ≤ 127)
  else if s.op = 5 then (s.fmt == 3 || s.fmt == 5) && decide (s.arg ≤ 3)
  else if s.op = 6 then s.fmt == 0 && decide (s.arg ≤ 2)
  else if s.op = 7 then decide (1 ≤ s.fmt) && decide (s.fmt ≤ 13) && s.arg == 0
  else decide (s.op ≤ 8) && s.fmt == 0 && s.arg == 0

/-- No transform or SCALE step follows an OPTIMIZE, and at most one OPTIMIZE. -/
def optimizeLast : List Step1 → Bool
  | [] => true
  | s :: t => if s.op = 6 then t.isEmpty else optimizeLast t

/-- R353 for a run-time recipe (rule 5: no TRANSFORM_WIDE); with `wide` for a wide one. -/
def recipeValid (ws : List Nat) (wide : Bool) : Bool :=
  let ss := ws.map stepOf
  let n := ss.length
  let mid := (ss.drop 2).take (n - 5)
  let ops := ss.map (·.op)
  decide (5 ≤ n) && decide (n ≤ 32) && ops.take 2 == [1, 2] && ops.drop (n - 3) == [7, 8, 0]
    && !(ops.take (n - 1)).any (· == 0) && mid.all (fun s => s.op == 3 || s.op == 4 || s.op == 5 || s.op == 6)
    && decide ((mid.filter (fun s => s.op != 6)).length ≤ 8)
    && decide ((mid.filter (fun s => s.op == 4 || s.op == 5)).length ≤ 4) && optimizeLast mid
    && (wide || !mid.any (fun s => s.op == 5)) && ss.all stepInRange

/-- The step words of a recipe in memory, up to END, at most 32. -/
def recipeWords (ws : List Nat) : List Nat :=
  let n := (ws.takeWhile (fun w => w / 2 ^ 56 % 256 != 0)).length
  ws.take (n + 1)

/-! ### Transforms (R346, R349, R352) -/

/-- Entry (k, j) of a stored matrix (rows, columns, entries), TRANSPOSE reading (j, k), as an FP32 value. -/
def matEntry (fmt : Nat) (m : Nat × Nat × List Nat) (tr : Bool) (k j : Nat) : Nat :=
  toF32 fmt (nth m.2.2 (if tr then j * m.2.1 + k else k * m.2.1 + j))

/-- Rows and columns as the step uses the matrix. -/
def matIn (m : Nat × Nat × List Nat) (tr : Bool) : Nat := if tr then m.2.1 else m.1
def matOut (m : Nat × Nat × List Nat) (tr : Bool) : Nat := if tr then m.1 else m.2.1

/-- Output j of one row: per block of 32 inputs the products of hi in ascending k, then with SPLIT those of lo. -/
def rowOut (fmt : Nat) (m : Nat × Nat × List Nat) (tr split : Bool) (xs : List Nat) (j : Nat) : Nat :=
  (List.range (matIn m tr / 32)).foldl (fun acc b =>
    let ks := (List.range 32).map (fun i => 32 * b + i)
    let hi (k : Nat) : Nat := narrow fmt (nth xs k)
    let acc1 := ks.foldl (fun a k => mac a (hi k) (matEntry fmt m tr k j)) acc
    if split then ks.foldl (fun a k => mac a (narrow fmt (f32Sub (nth xs k) (hi k))) (matEntry fmt m tr k j)) acc1 else acc1) 0

/-- A transform over the working values, row by row (32 elements, or R of a wide step). -/
def transform (fmt : Nat) (m : Nat × Nat × List Nat) (tr split : Bool) (xs : List Nat) : List Nat :=
  let r := matIn m tr
  (piecesOf r (xs.length + 1) xs).flatMap (fun row => (List.range (matOut m tr)).map (rowOut fmt m tr split row))

/-! ### Optimizer (R362, R363) -/

/-- The state planes of a chunk and what OPTIMIZE needs beside them. -/
structure OptCtx where
  rule : Nat
  p : OptParams
  c1 : Nat
  c2 : Nat
  w : List Nat
  m1 : List Nat
  m2 : List Nat
  deriving DecidableEq, Repr

/-- sign(x): +1, −1, or 0 for either zero. -/
def f32Sign (x : Nat) : Nat :=
  match f32 x with
  | .nan => f32Nan
  | .inf n => if n then f32Neg f32One else f32One
  | .fin n m => if m = 0 then 0 else if n then f32Neg f32One else f32One

/-- One element: g and the new w, m1, m2. -/
def optElement (o : OptCtx) (x w m1 m2 : Nat) : Nat × Nat × Nat × Nat :=
  let p := o.p
  let g := f32Mul p.gscale x
  let decay (d : Nat) : Nat := f32Sub w (f32Mul p.lr (f32Add d (f32Mul p.wd w)))
  if o.rule = 0 then
    let m := f32Add (f32Mul p.b1 m1) g
    let d := if p.nesterov then f32Add g (f32Mul p.b1 m) else m
    (g, decay d, m, m2)
  else if o.rule = 1 then
    let m := f32Add (f32Mul p.b1 m1) (f32Mul p.omb1 g)
    let v := f32Add (f32Mul p.b2 m2) (f32Mul p.omb2 (f32Mul g g))
    (g, decay (f32Div (f32Div m o.c1) (f32Add (f32Sqrt (f32Div v o.c2)) p.eps)), m, v)
  else
    let d := f32Sign (f32Add (f32Mul p.b1 m1) (f32Mul p.omb1 g))
    (g, decay d, f32Add (f32Mul p.b2 m1) (f32Mul p.omb2 g), m2)

/-- What running a recipe's steps gives: the working values, whether the collective aborts with 0x07, the new planes when
an OPTIMIZE ran, and the elements skipped. -/
structure RunRes where
  work : List Nat
  abort : Bool := false
  planes : Option (List Nat × List Nat × List Nat) := none
  skipped : Nat := 0
  deriving DecidableEq, Repr

/-- OPTIMIZE over the chunk's elements; `skip` is NF_SKIP: only with it are elements that are not finite counted (R363). -/
def optimize (o : OptCtx) (skip : Bool) (xs : List Nat) : RunRes :=
  let els := xs.zipIdx.map (fun e =>
    let w := nth o.w e.2
    let m1 := nth o.m1 e.2
    let m2 := nth o.m2 e.2
    let r := optElement o e.1 w m1 m2
    if f32Finite r.1 && f32Finite r.2.1 && f32Finite r.2.2.1 && f32Finite r.2.2.2 then (r.2.1, r.2.2.1, r.2.2.2, false)
    else (w, m1, m2, true))
  let bad := els.any (fun e => e.2.2.2)
  { work := els.map (·.1), abort := bad && !skip,
    planes := some (els.map (·.1), els.map (fun e => e.2.1), els.map (fun e => e.2.2.1)),
    skipped := if skip then (els.filter (fun e => e.2.2.2)).length else 0 }

/-- The steps between REDUCE and QUANT, in order. `opt` is the chunk's optimizer context, none when its record already
carries the step's stamp (R365): then the stored w passes to QUANT. -/
def runSteps (opt : Option OptCtx) (stored : List Nat) : List (Step1 × Option (Nat × Nat × List Nat)) → List Nat → RunRes
  | [], xs => { work := xs }
  | (s, m) :: t, xs =>
    if s.op = 3 then runSteps opt stored t (xs.map (fun x => f32Mul x s.imm))
    else if s.op = 4 ∨ s.op = 5 then
      if xs.any (beyond s.fmt) then { work := xs, abort := true }
      else
        match m with
        | none => runSteps opt stored t xs
        | some mm => runSteps opt stored t (transform s.fmt mm (bitOf s.flags 0) (bitOf s.flags 1) xs)
    else if s.op = 6 then
      match opt with
      | none => { work := stored.take xs.length }
      | some o => optimize o (bitOf s.flags 0) xs
    else runSteps opt stored t xs

/-- Elements a chunk of e elements has after the recipe's wide steps (R356). -/
def outCount : List (Step1 × Option (Nat × Nat × List Nat)) → Nat → Nat
  | [], e => e
  | (s, m) :: t, e =>
    if s.op = 5 then
      match m with
      | some mm => outCount t (e / matIn mm (bitOf s.flags 0) * matOut mm (bitOf s.flags 0))
      | none => outCount t e
    else outCount t e

end Sys2Proof.Machine
end

