-- ==== Sys2Proof/Machine/CollGeom.lean ====
section
/-!
DEFINITION. Collectives: the descriptor (R293), its digest (R294), how a collective is cut into chunks, positions and
cells (R295 to R297), the limits of a first descriptor (R300, R328, R354, R359), and the objects' records (R289).
-/

namespace Sys2Proof.Machine

/-! ### Objects (R289, R305) -/

/-- Core die index, die ID and index of object n. -/
def objCore (n : Nat) : Nat := n / 512
def objDie (n : Nat) : Nat := 32 + n / 512
def objReg (n : Nat) : Nat := R.SYN_OBJ (objDie n) (n % 512)

def Chip.obj (c : Chip) (n : Nat) : SyncObj := SMap.get (fun _ => {}) c.coll.objs n
def Chip.setObj (c : Chip) (n : Nat) (o : SyncObj) : Chip :=
  { c with coll := { c.coll with objs := SMap.set (fun _ => {}) c.coll.objs n o } }
def Chip.modObj (c : Chip) (n : Nat) (f : SyncObj → SyncObj) : Chip := c.setObj n (f (c.obj n))

/-- State codes of R305: 0 FREE, 1 ARMED, 2 COLLECTING, 3 RESOLVING, 4 DELIVERING, 5 SEALED, 6 ABORTED, 7 QUARANTINE. -/
def Chip.objState (c : Chip) (n : Nat) : Nat := c.get (objReg n) F.SYN_OBJ_STATE
def Chip.setObjState (c : Chip) (n v : Nat) : Chip := c.set (objReg n) F.SYN_OBJ_STATE v

/-- A collective is in progress: COLLECTING, RESOLVING or DELIVERING. -/
def Chip.objBusy (c : Chip) (n : Nat) : Bool := decide (2 ≤ c.objState n) && decide (c.objState n ≤ 4)
def Chip.objEpoch (c : Chip) (n : Nat) : Nat := (c.rd (R.SYN_EPOCH (objDie n) (n % 512))).toNat

/-- The allocation of an object; an object without one has empty fields. -/
def SyncObj.al (o : SyncObj) : AllocReq := o.alloc.getD ⟨0, 1, 0, 0, false, 0, 0, 0, 0, 0, 0, 0⟩

/-- Rank of an end-point ID on the roll. -/
def SyncObj.rank (o : SyncObj) (ep : Nat) : Option Nat := o.roll.findIdx? (fun m => m.ep == ep)

/-! ### The descriptor (R293, R294) -/

structure Desc where
  op : Nat
  inFmt : Nat
  outFmt : Nat
  round : Nat
  elements : Nat
  chunkLog2 : Nat
  spines : Nat
  window : Nat
  flags : Nat
  recipe : Nat
  thresh : Nat
  members : Nat
  seq : Nat
  tag : Nat
  deriving DecidableEq, Repr

def descOf (b : List Nat) : Desc :=
  let f (lo n : Nat) : Nat := leVal ((b.drop lo).take n)
  ⟨f 0 1, f 1 1, f 2 1, f 3 1, f 4 8, f 12 1, f 13 1, f 14 1, f 15 1, f 16 2, f 18 2, f 20 4, f 24 8, f 32 8⟩

/-- FIELD code of descriptor byte i. -/
def fieldOfByte (i : Nat) : Nat :=
  if i < 4 then i + 1 else if i < 12 then 5 else if i < 16 then i - 6 else if i < 18 then 0x0A
  else if i < 20 then 0x0B else if i < 24 then 0x0C else if i < 32 then 0x0D else if i < 40 then 0x0E else 0x0F

/-- The FIELD of the first differing byte of two descriptors (R299). -/
def firstDiff (a b : List Nat) : Option Nat :=
  ((List.range 52).find? (fun i => nth a i != nth b i)).map fieldOfByte

/-- The descriptor digest: bits [5:0] of CRC-32C over the 52 bytes. -/
def descDigest (b : List Nat) : Nat := ((b.foldl crc32cByte 0xFFFFFFFF) ^^^ 0xFFFFFFFF).toNat % 64

/-- The 52 payload bytes of a cell. -/
def Cell.payloadBytes (x : Cell) : List Nat := leBytes 52 x.payload.toNat

/-! ### Chunks, positions and cells (R295, R296) -/

/-- The cut of a collective as one spine sees it: input cells, cells of a full chunk, chunks, the first chunk of this spine,
how many positions it has, spines, elements and elements per input cell. -/
structure Geo where
  cells : Nat
  q : Nat
  chunks : Nat
  first : Nat
  count : Nat
  spines : Nat
  elements : Nat
  per : Nat
  deriving DecidableEq, Repr

def geoOf (d : Desc) (spine : Nat) : Geo :=
  let e := ceilDiv d.elements (epc d.inFmt)
  let single := decide (e * 64 ≤ d.thresh * 1024)
  let q := if single then e else 2 ^ d.chunkLog2 / 64
  let n := if single then 1 else ceilDiv e q
  let s := max 1 d.spines
  let f := (spine % s + s - d.seq % s) % s
  ⟨e, q, n, f, if f < n then (n - 1 - f) / s + 1 else 0, s, d.elements, epc d.inFmt⟩

/-- The chunk at a position of this spine. -/
def Geo.chunk (g : Geo) (k : Nat) : Nat := g.first + k * g.spines

/-- Input cells and elements of chunk n, and of position k. -/
def Geo.cellsOf (g : Geo) (n : Nat) : Nat := if n + 1 = g.chunks then g.cells - n * g.q else g.q
def Geo.elemsOf (g : Geo) (n : Nat) : Nat := min (g.elements - n * g.q * g.per) (g.cellsOf n * g.per)
def Geo.cellsAt (g : Geo) (k : Nat) : Nat := g.cellsOf (g.chunk k)
def Geo.elemsAt (g : Geo) (k : Nat) : Nat := g.elemsOf (g.chunk k)

/-- Cells of the contribution message after its descriptor: every position but the last is full. -/
def Geo.inputCells (g : Geo) : Nat := if g.count = 0 then 0 else (g.count - 1) * g.q + g.cellsAt (g.count - 1)

/-- Position and cell of an element cell by its SEQ, when it lies in the message. -/
def Geo.place (g : Geo) (seq : Nat) : Option (Nat × Nat) :=
  if 1 ≤ seq ∧ seq ≤ g.inputCells ∧ g.q ≠ 0 then some ((seq - 1) / g.q, (seq - 1) % g.q) else none

/-- The steps a program keeps after REDUCE. -/
def progSteps (p : Option Program) : List (Step1 × Option (Nat × Nat × List Nat)) :=
  match p with
  | none => []
  | some p => p.steps

/-- Output elements and cells of position k (R295, R356). -/
def Geo.outElems (g : Geo) (p : Option Program) (k : Nat) : Nat := outCount (progSteps p) (g.elemsAt k)
def Geo.outCells (g : Geo) (p : Option Program) (outFmt k : Nat) : Nat := ceilDiv (g.outElems p k) (epc outFmt)

/-- SEQ of the first result cell of position k: result cells of the lower positions, which are all full. -/
def Geo.outBase (g : Geo) (p : Option Program) (outFmt k : Nat) : Nat := if k = 0 then 0 else k * g.outCells p outFmt 0

/-- Cells of the result message. -/
def Geo.resultCells (g : Geo) (p : Option Program) (outFmt : Nat) : Nat :=
  if g.count = 0 then 0 else g.outBase p outFmt (g.count - 1) + g.outCells p outFmt (g.count - 1)

/-! ### Limits of a first descriptor (R300) -/

def fpFmt (f : Nat) : Bool := decide (1 ≤ f) && decide (f ≤ 11)

/-- R328: may the pair be used for the operation? -/
def pairOk (op i o : Nat) : Bool :=
  if op ≤ 1 then (fpFmt i && fpFmt o) || (isInt i && (isInt o || o == 1 || o == 2))
  else if op ≤ 3 then (fpFmt i && fpFmt o) || (isInt i && isInt o)
  else if op ≤ 6 then isInt i && o == i
  else false

/-- FIELD of a pair R328 does not allow. -/
def pairField (op i o : Nat) : Option Nat :=
  if 6 < op then some 1
  else if !(List.range 14).any (fun x => pairOk op i x) then some 2
  else if !pairOk op i o then some 3
  else none

/-- R297: is a message of the collective, contribution or result, too long on some spine? -/
def tooLong (d : Desc) (p : Option Program) : Bool :=
  (List.range (max 1 d.spines)).any (fun s =>
    let g := geoOf d s
    decide (2 ^ 22 < g.inputCells + 1) || decide (2 ^ 22 < g.resultCells p d.outFmt))

/-! ### Recipes of a home die (R350, R354) -/

/-- The step words a RECIPE value names on core die k, and the matrices of a wide recipe. -/
def Chip.recipeAt (c : Chip) (k id : Nat) : Option (List Nat × Option (List (Nat × Nat × List Nat))) :=
  if 1 ≤ id ∧ id ≤ 255 then
    (SMap.get (fun _ => none) c.coll.recipes (k * 256 + id)).map (fun ws => (ws, none))
  else if 0x100 ≤ id ∧ id ≤ 0x13F then
    (c.coll.wide[id - 0x100]?).map (fun w => (w.steps.map (·.toNat), some w.mats))
  else none

/-- The matrix a transform step names; none when it is not loaded in the step's format. -/
def Chip.stepMatrix (c : Chip) (k : Nat) (wide : Option (List (Nat × Nat × List Nat))) (s : Step1) :
    Option (Nat × Nat × List Nat) :=
  if s.op = 4 then
    match SMap.get (fun _ => none) c.coll.mats (k * 128 + s.arg) with
    | some m => if m.fmt = s.fmt then some (32, 32, m.entries) else none
    | none => none
  else
    match wide with
    | some l => l[s.arg]?
    | none => none

def isTransform (s : Step1) : Bool := s.op == 4 || s.op == 5

/-- The reading of a recipe (R354): its steps after REDUCE up to QUANT with their matrices; none when a matrix is missing. -/
def Chip.program (c : Chip) (k : Nat) (r : List Nat × Option (List (Nat × Nat × List Nat))) : Option Program :=
  let ss := ((recipeWords r.1).map stepOf).drop 2
  let mid := ss.filter (fun s => s.op == 3 || isTransform s || s.op == 6)
  let ps := mid.map (fun s => (s, if isTransform s then c.stepMatrix k r.2 s else none))
  if ps.any (fun p => isTransform p.1 && p.2.isNone) then none else some ⟨ps⟩

/-- With wide steps, every chunk's element count is a multiple of each step's rows as the count stands there. -/
def wideFits : List (Step1 × Option (Nat × Nat × List Nat)) → Nat → Bool
  | [], _ => true
  | (s, m) :: t, e =>
    match m with
    | some mm =>
      if s.op = 5 then
        let r := matIn mm (bitOf s.flags 0)
        e % r == 0 && wideFits t (e / r * matOut mm (bitOf s.flags 0))
      else wideFits t e
    | none => wideFits t e

/-- The rows of R354 on DEQUANT, REDUCE and QUANT. -/
def formatsFit (ws : List Nat) (d : Desc) : Bool :=
  let ss := (recipeWords ws).map stepOf
  (ss.head?.map (·.fmt)) == some d.inFmt && (ss[1]?.map (·.arg)) == some d.op
    && ((ss.find? (fun s => s.op == 7)).map (·.fmt)) == some d.outFmt

/-- The binding of an object on its home die: its number and record. -/
def Chip.bindOf (c : Chip) (n : Nat) : Option (Nat × Binding) :=
  (List.range 64).findSome? (fun i =>
    match SMap.get (fun _ => none) c.coll.binds (objCore n * 64 + i) with
    | some b => if b.object = n then some (i, b) else none
    | none => none)

/-- The conditions of R359 and R367 on OPTIMIZE; the rule the step names is the binding's (DEDUCED, log 13). -/
def Chip.optFits (c : Chip) (n : Nat) (d : Desc) (g : Geo) (rule : Nat) : Bool :=
  match c.bindOf n with
  | none => false
  | some (_, b) =>
    d.spines == 1 && !b.busy && !b.lost && b.elements == d.elements && b.ep == g.elemsOf 0 && b.chunks == g.chunks
      && b.rule == rule

/-- R354: the program of the recipe a first descriptor names, or none when the home die cannot run it. -/
def Chip.readRecipe (c : Chip) (n : Nat) (d : Desc) : Option Program :=
  let g := geoOf d 0
  match c.recipeAt (objCore n) d.recipe with
  | none => none
  | some r =>
    match c.program (objCore n) r with
    | none => none
    | some p =>
      let ss := p.steps.map (·.1)
      if formatsFit r.1 d && (!ss.any isTransform || d.elements % 32 == 0)
        && wideFits p.steps (g.elemsOf 0) && wideFits p.steps (g.elemsOf (g.chunks - 1))
        && (match ss.find? (fun s => s.op == 6) with
            | none => true
            | some s => c.optFits n d g s.arg) then some p
      else none

/-- R300: the first failing field of a first descriptor, in table order. -/
def Chip.breach (c : Chip) (n : Nat) (d : Desc) : Option Nat :=
  let o := c.obj n
  let a := o.al
  let p := if d.recipe = 0 then none else c.readRecipe n d
  match pairField d.op d.inFmt d.outFmt with
  | some f => some f
  | none =>
    if 3 < d.round then some 4
    else if d.elements = 0 ∨ tooLong d p then some 5
    else if d.chunkLog2 < 12 ∨ a.maxChunk < d.chunkLog2 then some 6
    else if d.spines ≠ a.spines then some 7
    else if d.window = 0 ∨ a.window < d.window then some 8
    else if bitOf d.flags 0 ≠ a.early then some 9
    else if d.recipe ≠ 0 ∧ p.isNone then some 0x0A
    else if d.thresh ≠ a.thresh then some 0x0B
    else if d.members ≠ o.roll.length then some 0x0C
    else if d.seq ≠ o.nextSeq then some 0x0D
    else none

/-! ### Clusters (R310, R337) -/

/-- Clusters of core die k in service, ascending. -/
def Chip.clustersIn (c : Chip) (k : Nat) : List Nat := (List.range 4).filter (fun b => !c.blockFb (32 + k) b)

/-- The cluster of a position; with none in service, the one R310 would give a whole die. -/
def Chip.clusterFor (c : Chip) (k pos : Nat) : Nat :=
  let l := c.clustersIn k
  l.getD (pos % max 1 l.length) (pos % 4)

/-- The next cluster in service after b. -/
def Chip.nextCluster (c : Chip) (k b : Nat) : Nat :=
  let l := c.clustersIn k
  ((l.find? (fun x => decide (b < x))).or l.head?).getD b

/-- Lane groups of core die k in service, ascending. -/
def Chip.groupsIn (c : Chip) (k : Nat) : List Nat :=
  (List.range 48).filter (fun g => !c.tileFb (32 + k) (64 + g) && !c.blockFb (32 + k) (g / 12))

/-- Does a position with e elements held by cluster b have accumulators in lane group g (R337)? -/
def Chip.usesGroup (c : Chip) (k b e g : Nat) : Bool :=
  let l := c.groupsIn k
  let h := ((c.clustersIn k).findIdx? (· == b)).getD 0
  match l.findIdx? (· == g) with
  | none => false
  | some i => (List.range (min e l.length)).any (fun j => (j + 12 * h) % l.length == i)

end Sys2Proof.Machine
end

