-- ==== Sys2Proof/Machine/CollOps.lean ====
section
/-!
DEFINITION. Shared operations of collectives: collective notices (R298), aborts (R302, R303), replays (R312, R315, R316),
results (R313), rounding at completion (R329, R352), update records (R360 to R365), seals (R314) and the moves of R306.
-/

namespace Sys2Proof.Machine

/-! ### Bindings (R359, R360) -/

def Chip.bind (c : Chip) (k i : Nat) : Option Binding := SMap.get (fun _ => none) c.coll.binds (k * 64 + i)

/-- Replace a binding and show it in OPT_BIND_i. -/
def Chip.setBind (c : Chip) (k i : Nat) (b : Option Binding) : Chip :=
  let c1 := { c with coll := { c.coll with binds := SMap.set (fun _ => none) c.coll.binds (k * 64 + i) b } }
  let a := R.OPT_BIND (32 + k) i
  match b with
  | none => c1.wr a 0
  | some b =>
    (((c1.set a F.OPT_BIND_STATE (if b.busy then 2 else if b.lost then 3 else 1)).set a F.OPT_BIND_OBJECT b.object).set a
      F.OPT_BIND_RULE b.rule).set a F.OPT_BIND_NEXT b.next.isSome.toNat

/-- State bytes per element, record stride in bytes, and the byte address of record r in the OPT region. -/
def Binding.sb (b : Binding) : Nat := if b.rule = 1 then 12 else 8
def Binding.stride (b : Binding) : Nat := ceilDiv (64 + b.ep * b.sb) 4096 * 4096
def Binding.recAddr (b : Binding) (r : Nat) : Nat := b.base * 2 ^ 20 + r * b.stride
/-- Bytes a binding takes, its update buffer of 8 records included. -/
def Binding.bytes (b : Binding) : Nat := (b.chunks + 8) * b.stride

/-- A 32-bit word of the OPT region of core die k, by byte address. -/
def Chip.optWord (c : Chip) (k a : Nat) : Nat := SMap.get (fun _ => 0) c.coll.opt (k * 2 ^ 40 + a / 4)
def Chip.setOptWord (c : Chip) (k a v : Nat) : Chip :=
  { c with coll := { c.coll with opt := SMap.set (fun _ => 0) c.coll.opt (k * 2 ^ 40 + a / 4) (v % 2 ^ 32) } }

/-- The step stamp of the record at a byte address. -/
def Chip.stamp (c : Chip) (k a : Nat) : Nat := c.optWord k a + c.optWord k (a + 4) * 2 ^ 32
def Chip.setStamp (c : Chip) (k a t : Nat) : Chip := (c.setOptWord k a t).setOptWord k (a + 4) (t / 2 ^ 32)

/-- The first n values of plane p of the record at a byte address; plane 0 is W, 1 M1, 2 M2. -/
def Chip.plane (c : Chip) (k : Nat) (b : Binding) (a p n : Nat) : List Nat :=
  (List.range n).map (fun j => c.optWord k (a + 64 + p * b.ep * 4 + 4 * j))
def Chip.setPlane (c : Chip) (k : Nat) (b : Binding) (a p : Nat) (vs : List Nat) : Chip :=
  vs.zipIdx.foldl (fun s e => s.setOptWord k (a + 64 + p * b.ep * 4 + 4 * e.2) e.1) c

/-- Copy an update buffer record into the record of a chunk and stamp it (R364). -/
def Chip.copyRecord (c : Chip) (k : Nat) (b : Binding) (r : Nat × Nat × Nat) : Chip :=
  let src := b.recAddr (b.chunks + r.1)
  let dst := b.recAddr r.2.1
  let words := 16 + b.ep * b.sb / 4
  (((List.range words).foldl (fun s i => s.setOptWord k (dst + 4 * i) (c.optWord k (src + 4 * i))) c).setStamp k dst
    r.2.2).hbmRead k (b.ep * b.sb)

/-- A binding ends. A copy at a seal that has not finished is made good first: its chunk is sealed, so its record is
committed (R364). -/
def Chip.unbind (c : Chip) (k i : Nat) : Chip :=
  match c.bind k i with
  | none => c
  | some b => (b.commits.foldl (fun s r => s.copyRecord k b r) c).setBind k i none

/-- The binding of an object ends as it enters QUARANTINE (R359). -/
def Chip.unbindObj (c : Chip) (n : Nat) : Chip :=
  match c.bindOf n with
  | none => c
  | some (i, _) => c.unbind (objCore n) i

/-! ### Collective notices (R298) -/

/-- The payload of a collective notice. -/
def collPayload (kind code obj epoch seq rank field spine pos final hold : Nat) : BitVec 416 :=
  payloadOf ([kind, code] ++ leBytes 2 obj ++ leBytes 4 epoch ++ leBytes 8 seq ++ leBytes 4 rank ++ [field, spine, 0, 0]
    ++ leBytes 4 pos ++ [final, 0, 0, 0] ++ leBytes 4 hold)

/-- Send one collective notice to a member from the local port of core die k. -/
def Chip.noticeTo (c : Chip) (k : Nat) (m : Member) (p : BitVec 416) : Chip :=
  let x : Cell := { kind := 4, tc := 5, first := true, last := true, dest := BitVec.ofNat 20 m.ep,
                    src := BitVec.ofNat 20 (c.switchId m.die), payload := p : Cell }.seal
  c.coreSend k m.die [{ cell := x, port := m.port, mcast := false, saf := false }]

/-- Send a notice to every member of a roll, built from the member's rank. -/
def Chip.noticeAll (c : Chip) (k : Nat) (roll : List Member) (p : Nat → BitVec 416) : Chip :=
  roll.zipIdx.foldl (fun s m => s.noticeTo k m.1 (p m.2)) c

/-- A SEAL notice with the present MARK to every member (R314). -/
def Chip.sealNotice (c : Chip) (n seq final : Nat) : Chip :=
  let o := c.obj n
  (c.noticeAll (objCore n) o.roll (fun r =>
    collPayload 2 0 n (c.objEpoch n) seq r 0 o.al.spine o.mark final 0)).modObj n (fun o => { o with told := o.mark })

/-- A COLL_FAULT notice (R323). -/
def Chip.collFault (c : Chip) (n sev level block code rank field event pos : Nat) : Chip :=
  c.post (objDie n) 0x03 sev (objDie n) level block 0
    (n + code * 2 ^ 12 + rank % 2 ^ 18 * 2 ^ 20 + field * 2 ^ 38 + event * 2 ^ 43 + pos % 2 ^ 16 * 2 ^ 47)

/-! ### The pending store (R308) -/

def Chip.pendingOf (c : Chip) (k : Nat) : List Pending := SMap.get (fun _ => []) c.coll.pending k
def Chip.setPending (c : Chip) (k : Nat) (l : List Pending) : Chip :=
  ({ c with coll := { c.coll with pending := SMap.set (fun _ => []) c.coll.pending k l } }).set (R.SYN_STORE (32 + k))
    F.SYN_STORE_PENDING l.length

/-- Drop a KIND 2 cell and count it in a field of SYN_DROP or SYN_DROP2. -/
def Chip.synDrop (c : Chip) (k a : Nat) (f : Fld) (n : Nat) : Chip := (c.incSat a f n).pmcDrop (32 + k) n
def Chip.synStale (c : Chip) (k n : Nat) : Chip := c.synDrop k (R.SYN_DROP (32 + k)) F.SYN_DROP_STALE n
def Chip.synOverrun (c : Chip) (k : Nat) : Chip := c.synDrop k (R.SYN_DROP2 (32 + k)) F.SYN_DROP2_OVERRUN 1

/-- Hold a cell, or drop it when the store is full. -/
def Chip.hold (c : Chip) (n : Nat) (x : Cell) : Chip :=
  let k := objCore n
  let l := c.pendingOf k
  if 32768 ≤ l.length then c.synDrop k (R.SYN_DROP2 (32 + k)) F.SYN_DROP2_PENDING_FULL 1
  else c.setPending k (l ++ [⟨n, x⟩])

/-- The pending cells of an object that is freed or aborted are dropped as stale. -/
def Chip.dropPending (c : Chip) (n : Nat) : Chip :=
  let k := objCore n
  let l := c.pendingOf k
  let gone := (l.filter (fun p => p.obj == n)).length
  if gone = 0 then c else (c.setPending k (l.filter (fun p => p.obj != n))).synStale k gone

/-! ### Aborts (R302, R303) -/

/-- Abort the collective numbered seq of object n; `via` is the core die whose local port sends the notices. -/
def Chip.collAbortVia (c : Chip) (via n code : Nat) (rank : Option Nat) (field pos seq : Nat) : Chip :=
  let o := c.obj n
  let d := objDie n
  let hold := c.get (R.SYN_CFG d) F.SYN_CFG_HOLD * 100
  let r32 := rank.getD 0xFFFFFFFF
  let r18 := rank.getD 0x3FFFF
  let c1 := c.noticeAll via o.roll (fun _ =>
    collPayload 1 code n (c.objEpoch n) seq r32 (if code = 2 then field else 0) o.al.spine (if code = 3 then pos else 0) 0 hold)
  let e := R.SYN_LASTERR d (n % 512)
  let c2 := ((c1.set e F.SYN_LASTERR_CODE code).set e F.SYN_LASTERR_RANK r18).set e F.SYN_LASTERR_FIELD
    (if code = 2 then field else 0)
  let c3 := (c2.setObjState n 6).incSat (R.SYN_STAT d) F.SYN_STAT_ABORTS 1
  let c4 := (c3.modObj n (fun o => { o with desc := none, prog := none, params := none, chunks := [], done := [], gap := false,
                                            nextSeq := (seq + 1) % 2 ^ 64, abortedAt := some c3.slot })).dropPending n
  c4.collFault n (if code = 3 ∨ code = 8 then 2 else 1) 3 0 code r18 (if code = 2 then field else 0) 1 pos

/-- The COLL_SEQ of the collective in progress. -/
def Chip.seqOf (c : Chip) (n : Nat) : Nat :=
  match (c.obj n).desc with
  | some b => (descOf b).seq
  | none => (c.obj n).nextSeq

/-- Abort the collective in progress. A rerun's verdict is then not drawn (R392). -/
def Chip.collAbort (c : Chip) (n code : Nat) (rank : Option Nat) (field pos : Nat) : Chip :=
  (c.collAbortVia (objCore n) n code rank field pos (c.seqOf n)).rerunKnown n none 2

/-- A further cause of an abort in the slot in which the collective was aborted is counted, without a notice (R302). -/
def Chip.lateCause (c : Chip) (n : Nat) : Chip :=
  if (c.obj n).abortedAt = some c.slot then c.incSat (R.SYN_STAT (objDie n)) F.SYN_STAT_ABORTS 1 else c

/-- An abort with code 0x07, counted in RED_RANGE. -/
def Chip.rangeAbort (c : Chip) (n : Nat) (inf : Bool) : Chip :=
  let a := R.RED_RANGE (objDie n)
  let c1 := c.incSat a F.RED_RANGE_ABORTS 1
  (if inf then c1.incSat a F.RED_RANGE_INFINITE 1 else c1).collAbort n 7 none 0 0

/-! ### Chunks -/

def SyncObj.chunk (o : SyncObj) (pos : Nat) : Chunk := SMap.get (fun _ => {}) o.chunks pos
def Chip.setChunk (c : Chip) (n pos : Nat) (x : Chunk) : Chip :=
  c.modObj n (fun o => { o with chunks := SMap.set (fun _ => {}) o.chunks pos x })

/-- The open chunk at a position; one that nothing has touched is given its cluster (R310). -/
def Chip.openChunk (c : Chip) (n pos : Nat) : Chunk :=
  let x := (c.obj n).chunk pos
  if x = {} then { cluster := c.clusterFor (objCore n) pos } else x

/-- Is position pos sealed? -/
def SyncObj.isSealed (o : SyncObj) (pos : Nat) : Bool := pos ∈ o.done

/-- Clear a chunk's counts, bitmaps and accumulators as a replay pass starts (R307, R343). -/
def Chunk.clear (x : Chunk) : Chunk :=
  { x with got := [], counts := [], acc := [], full := 0, complete := false, checked := false, stepped := false, wanted := 0,
           pass := true, work := [], out := [] }

/-- The geometry of the collective in progress, with its descriptor. -/
def SyncObj.geo (o : SyncObj) : Desc × Geo :=
  let d := descOf (o.desc.getD [])
  (d, geoOf d o.al.spine)

/-- Send REPLAY for a position to every member (R312, R315, R316) and post the notice of R323. -/
def Chip.replayNotice (c : Chip) (n pos reason : Nat) : Chip :=
  let o := c.obj n
  let seq := c.seqOf n
  let c1 := c.noticeAll (objCore n) o.roll (fun r => collPayload 3 reason n (c.objEpoch n) seq r 0 o.al.spine pos 0 0)
  ((c1.incSat (R.SYN_STAT (objDie n)) F.SYN_STAT_REPLAYS 1).pmcEvent (objDie n) 0x113 none none 1).collFault n 0 2
    (c.openChunk n pos).cluster reason 0x3FFFF 0 2 pos

/-- LOSS_REPLAY: an incomplete position that has had no loss replay is asked for again (R312); the limit counts loss replays only. -/
def Chip.lossReplay (c : Chip) (n pos : Nat) : Chip :=
  let x := c.openChunk n pos
  if x.lossReplayed ∨ x.complete then c
  else (c.replayNotice n pos 1).setChunk n pos { x with lossReplayed := true, replayed := true, wanted := 1 }

/-! ### Moves between states (R306) -/

/-- Positions of the spine's message that are complete or sealed. -/
def SyncObj.allComplete (o : SyncObj) : Bool :=
  (List.range o.geo.2.count).all (fun p => o.isSealed p || (o.chunk p).complete)

/-- Give a busy object the state its chunks call for. -/
def Chip.collState (c : Chip) (n : Nat) : Chip :=
  let o := c.obj n
  if !c.objBusy n then c
  else if o.chunks.any (fun e => e.2.resolving && !o.isSealed e.1) then c.setObjState n 3
  else if o.allComplete then c.setObjState n 4 else c.setObjState n 2

/-- MARK: positions sealed without a gap from 0. -/
def markOf (done : List Nat) : Nat → Nat → Nat
  | 0, m => m
  | f + 1, m => if m ∈ done then markOf done f (m + 1) else m

/-- STEP, B1T and B2T of the object's binding advance when FINAL is sent, if the collective ran OPTIMIZE (R364). -/
def Chip.advanceBinding (c : Chip) (n : Nat) : Chip :=
  let opt := (progSteps (c.obj n).prog).any (fun p => p.1.op == 6)
  match c.bindOf n with
  | none => c
  | some (i, b) =>
    if opt then c.setBind (objCore n) i (some { b with step := (b.step + 1) % 2 ^ 64, b1t := f32Mul b.b1t b.cur.b1,
                                                       b2t := f32Mul b.b2t b.cur.b2 })
    else c

/-- COLLECTIVE_FINAL: every position is sealed: FINAL goes out at once, and the object is SEALED. -/
def Chip.collFinal (c : Chip) (n : Nat) : Chip :=
  let seq := c.seqOf n
  (((c.sealNotice n seq 1).advanceBinding n).setObjState n 5).modObj n (fun o =>
    { o with desc := none, prog := none, params := none, chunks := [], done := [], gap := false,
             nextSeq := (o.nextSeq + 1) % 2 ^ 64 })

/-- After a seal: MARK, the SEAL notice the gap allows, FINAL. -/
def Chip.markAdvance (c : Chip) (n : Nat) : Chip :=
  let o := c.obj n
  let m := markOf o.done (o.done.length + 1) o.mark
  let c1 := c.modObj n (fun o => { o with mark := m })
  if m = o.geo.2.count then c1.collFinal n
  else if o.mark < m ∧ !o.gap then (c1.sealNotice n (c.seqOf n) 0).modObj n (fun o => { o with gap := true })
  else c1

/-! ### Results (R313) -/

/-- The result cells of a position leave for every port die of the fan-out as copies of the object's result group. -/
def Chip.sendResult (c : Chip) (n pos : Nat) : Chip :=
  let o := c.obj n
  let g := o.geo
  let x := o.chunk pos
  let base := g.2.outBase o.prog g.1.outFmt pos
  let total := g.2.resultCells o.prog g.1.outFmt
  let mk (die : Nat) (p : Nat × Nat) : EnvCell :=
    { cell := { kind := 3, tc := 5, first := base + p.2 == 0, last := base + p.2 + 1 == total,
                dest := BitVec.ofNat 20 (n * 256 + c.objEpoch n % 256), src := BitVec.ofNat 20 (c.switchId die),
                seq := BitVec.ofNat 22 (base + p.2), digest := BitVec.ofNat 6 (descDigest (o.desc.getD [])),
                payload := BitVec.ofNat 416 p.1 : Cell }.seal,
      port := 0, mcast := true, saf := false }
  ((setBitsOf 32 o.al.fanout).foldl (fun s e => s.coreSend (objCore n) e (x.out.zipIdx.map (mk e))) c).setChunk n pos
    { x with sent := true }

/-! ### Rounding (R329, R332 to R334, R352) -/

/-- The output cells of a list of exact values in format code, in units 2^−u; every cell draws its own open values. -/
def roundCells (code mode u draw : Nat) (vs : List Exact) : List Out :=
  (piecesOf (epc code) vs.length vs).zipIdx.map (fun p =>
    outCell code mode u (fun j => (Config.freeValue (draw + p.2 * 128 + j)).toNat) p.1)

/-- An FP32 working value as an exact value. -/
def workExact (b : Nat) : Exact :=
  match f32 b with
  | .nan => .nan
  | .inf n => .inf n
  | .fin n m => .rat n m 1

/-- Store the output cells of a chunk: counts of R344, and abort when one is out of range (R343). Answers whether it
aborted. -/
def Chip.putOut (c : Chip) (n pos : Nat) (os : List Out) : Bool × Chip :=
  let a := objDie n
  let c1 := (c.incSat (R.RED_SAT a) F.RED_SAT_ELEMENTS (os.foldl (fun s o => s + o.sat) 0)).incSat (R.RED_NAN a)
    F.RED_NAN_ELEMENTS (os.foldl (fun s o => s + o.nans) 0)
  let c2 := { c1 with draws := c1.draws + 128 * os.length }
  if os.any (·.range) then (true, c2.rangeAbort n (os.any (·.inf)))
  else (false, c2.setChunk n pos { (c2.obj n).chunk pos with out := os.map (·.bits) })

/-- The exact value of each element of a chunk. -/
def chunkValues (d : Desc) (e : Nat) (x : Chunk) : List Exact :=
  (List.range e).map (fun j => (SMap.get (fun _ => {}) x.acc j).value d.op d.members d.round)

/-- Rounding of a plain reduction. -/
def plainOut (d : Desc) (e draw : Nat) (x : Chunk) : List Out :=
  if 4 ≤ d.op then
    (piecesOf (epc d.outFmt) e (List.range e)).map (fun js =>
      { bits := outBits (elemBits d.outFmt) (js.map (fun j => ((SMap.get (fun _ => ({} : Acc)) x.acc j).bits).getD 0)) })
  else roundCells d.outFmt d.round (unitOf d.inFmt) draw (chunkValues d e x)

/-- The working values of a recipe: V rounded once to REDUCE's FMT and held in FP32; none when one overflows. -/
def workValues (d : Desc) (fmt e : Nat) (x : Chunk) : Option (List Nat) :=
  let os := (chunkValues d e x).map (outFp fmt d.round (unitOf d.inFmt))
  if os.any (·.range) then none else some (os.map (fun o => toF32 fmt o.bits))

/-- FMT of the REDUCE step of the recipe in use. -/
def Chip.reduceFmt (c : Chip) (n : Nat) (d : Desc) : Nat :=
  match c.recipeAt (objCore n) d.recipe with
  | none => 2
  | some r => ((recipeWords r.1).map stepOf)[1]?.elim 2 (fun s => s.fmt)

/-! ### Sealing (R305, R313, R364) -/

/-- COMMIT of the update record of a sealed chunk: the copy is asked for (R364). -/
def Chip.askCopy (c : Chip) (n pos : Nat) (x : Chunk) : Chip :=
  match x.ubuf, c.bindOf n with
  | some u, some (i, b) => c.setBind (objCore n) i (some { b with commits := b.commits ++ [(u, pos, b.step + 1)] })
  | _, _ => c

/-- CHUNK_SEAL: the chunk is sealed; a result not yet sent leaves, the record's copy starts, MARK may advance. -/
def Chip.chunkSeal (c : Chip) (n pos : Nat) : Chip :=
  let x := (c.obj n).chunk pos
  let c1 := if x.sent then c else c.sendResult n pos
  let c2 := (c1.askCopy n pos x).pmcEvent (objDie n) 0x112 (some x.cluster) none 1
  let c3 := c2.modObj n (fun o => { o with done := o.done ++ [pos], chunks := SMap.set (fun _ => {}) o.chunks pos {} })
  (c3.collState n).markAdvance n

/-- Seal the chunk when its result has passed its check and every step before MCAST has run (R355, R374). -/
def Chip.trySeal (c : Chip) (n pos : Nat) : Chip :=
  let x := (c.obj n).chunk pos
  if x.complete && x.checked && x.stepped then c.chunkSeal n pos else c.collState n

/-- Early delivery: the result leaves as soon as it is rounded, once (R313, R315). -/
def Chip.earlySend (c : Chip) (n pos : Nat) : Chip :=
  if (c.obj n).al.early ∧ !((c.obj n).chunk pos).sent then c.sendResult n pos else c

/-! ### Completion (R305, R312, R374) -/

/-- CHUNK_COMPLETE: every member's count for the chunk is full. Lower incomplete positions are asked for again; the lanes
round; a chunk without a residue check counts as checked. -/
def Chip.chunkComplete (c : Chip) (n pos : Nat) : Chip :=
  let o := c.obj n
  let g := o.geo
  let x := o.chunk pos
  let c1 := c.setChunk n pos { x with complete := true, wanted := 0, checked := decide (2 ≤ g.1.op), stepped := g.1.recipe == 0 }
  let low := (List.range pos).filter (fun p => decide (o.mark ≤ p) && !o.isSealed p && !(o.chunk p).complete)
  let c2 := low.foldl (fun s p => s.lossReplay n p) c1
  let e := g.2.elemsAt pos
  if g.1.recipe = 0 then
    let r := c2.putOut n pos (plainOut g.1 e c2.draws x)
    if r.1 then r.2 else (r.2.earlySend n pos).trySeal n pos
  else
    match workValues g.1 (c2.reduceFmt n g.1) e x with
    | none => c2.rangeAbort n false
    | some ws => (c2.setChunk n pos { (c2.obj n).chunk pos with work := ws }).collState n

/-! ### Cluster replays (R316, R338) -/

/-- One open chunk of a lost cluster or lane group: replayed for reason CLUSTER on the next cluster, or an abort 0x05 when
it has been replayed once. -/
def Chip.clusterReplay (c : Chip) (n pos : Nat) : Chip :=
  let x := (c.obj n).chunk pos
  if !c.objBusy n ∨ (c.obj n).isSealed pos then c
  else if x.replayed then c.collAbort n 5 none 0 0
  else
    let y := { x.clear with replayed := true, resolving := true, cluster := c.nextCluster (objCore n) x.cluster }
    ((c.replayNotice n pos 3).setChunk n pos y).collState n

/-- Every open chunk of the die that p picks. -/
def Chip.replayWhere (c : Chip) (k : Nat) (p : Nat → SyncObj → Nat → Chunk → Bool) : Chip :=
  let hits := (c.coll.objs.filter (fun e => objCore e.1 == k && c.objBusy e.1)).flatMap (fun e =>
    (e.2.chunks.filter (fun x => p e.1 e.2 x.1 x.2)).map (fun x => (e.1, x.1)))
  hits.foldl (fun s h => s.clusterReplay h.1 h.2) c

/-- A cluster goes behind a firebreak (R316). -/
def Chip.clusterLost (c : Chip) (k b : Nat) : Chip := c.replayWhere k (fun _ _ _ x => x.cluster == b)

/-- A lane group goes behind a tile firebreak, before it leaves service (R338). -/
def Chip.groupLost (c : Chip) (k g : Nat) : Chip :=
  c.replayWhere k (fun _ o pos x => c.usesGroup k x.cluster (o.geo.2.elemsAt pos) g)

end Sys2Proof.Machine
end

