-- ==== Sys2Proof/Machine/Collectives.lean ====
section
/-!
DEFINITION. Collectives (chapter 10). Meanings: SYN_ALLOC, ROLL_LOAD_DONE, SYN_FREE, DROP_MEMBER, SYN_READ,
CONTRIBUTION_CELL, PENDING_RELEASE, PROGRESS_TIMEOUT, COLLECTIVE_TIMEOUT, SEAL_NOTICE_GAP, ABORT_HOLD_EXPIRY,
QUARANTINE_EXPIRY, HOME_DIE_READMIT.
-/

namespace Sys2Proof.Machine

/-! ### Sync-object operations (R317 to R320) -/

/-- The operation code applied on core die k, and its object. -/
def Chip.synOp (c : Chip) (k : Nat) : Nat := c.get (R.SYN_OP (32 + k)) F.SYN_OP_OP
def Chip.synObj (c : Chip) (k : Nat) : Nat := c.get (R.SYN_OP (32 + k)) F.SYN_OP_OBJECT

/-- Report an outcome in SYN_OP_STAT. -/
def Chip.synStat (c : Chip) (n status : Nat) : Chip :=
  let a := R.SYN_OP_STAT (objDie n)
  (c.set a F.SYN_OP_STAT_STATUS status).set a F.SYN_OP_STAT_OBJECT n

/-- An operation completes: OP becomes 0 in both copies (R317). -/
def Chip.synDone (c : Chip) (k : Nat) : Chip := c.setBoth (R.SYN_OP (32 + k)) F.SYN_OP_OP 0

/-- The allocation group of object n (R51). -/
def Chip.syncGroup (c : Chip) (n : Nat) : SyncGroup := ((c.die (objDie n)).groups[n % 512 / 64]?).getD {}

/-- The fields an ALLOC sets; a TIMEOUT or THRESH of 0 takes the allocation group's default. -/
def Chip.allocReq (c : Chip) (n : Nat) : AllocReq :=
  let d := objDie n
  let g := c.syncGroup n
  let t := c.get (R.SYN_ALLOC_B d) F.SYN_ALLOC_B_TIMEOUT
  let th := c.get (R.SYN_ALLOC_C d) F.SYN_ALLOC_C_THRESH
  { members := c.get (R.SYN_ALLOC_A d) F.SYN_ALLOC_A_MEMBERS
    spines := c.get (R.SYN_ALLOC_A d) F.SYN_ALLOC_A_SPINES
    spine := c.get (R.SYN_ALLOC_A d) F.SYN_ALLOC_A_SPINE_INDEX
    timeout := if t = 0 then g.timeout else t
    early := c.flag (R.SYN_ALLOC_B d) F.SYN_ALLOC_B_EARLY
    window := c.get (R.SYN_ALLOC_B d) F.SYN_ALLOC_B_WINDOW
    maxChunk := c.get (R.SYN_ALLOC_B d) F.SYN_ALLOC_B_MAX_CHUNK
    thresh := if th = 0 then g.thresh else th
    nextSeq := (c.rd (R.SYN_SEQ_LO d)).toNat + (c.rd (R.SYN_SEQ_HI d)).toNat * 2 ^ 32
    addr := c.get (R.SYN_ROLL_ADDR d) F.SYN_ROLL_ADDR_ADDR
    hub := c.get (R.SYN_ROLL_ADDR d) F.SYN_ROLL_ADDR_HUB
    fanout := (c.rd (R.SYN_FANOUT d)).toNat }

/-- An ALLOC that may go ahead by the object's state: GROUP_DISABLED, or its roll starts to load. -/
def Chip.allocStart (c : Chip) (n : Nat) (r : AllocReq) : Chip :=
  if (c.syncGroup n).enable ∧ !c.isolated (objDie n) then c.modObj n (fun o => { o with loading := some r })
  else c.synStat n 3

/-- SYN_ALLOC: the outcomes BUSY, QUEUED and GROUP_DISABLED, or the roll starts to load. -/
def Chip.synAlloc (c : Chip) (k : Nat) : Chip :=
  if c.synOp k ≠ 1 then c
  else
    let n := c.synObj k
    let c1 := c.synDone k
    let o := c.obj n
    if c.objState n = 7 ∧ c.flag (R.SYN_OP (32 + k)) F.SYN_OP_QUEUE ∧ o.queued.isNone then
      ((c1.modObj n (fun o => { o with queued := some (c.allocReq n) })).set (objReg n) F.SYN_OBJ_QUEUED 1).synStat n 1
    else if c.objState n ≠ 0 ∨ o.loading.isSome then c1.synStat n 2
    else c1.allocStart n (c.allocReq n)

/-- The roll as it stands in hub memory (R318). -/
def readRoll (read : Nat → Nat) (addr members : Nat) : List Member :=
  (List.range members).map (fun i =>
    let w := leVal ((List.range 4).map (fun j => read (addr * 4096 + 4 * i + j)))
    ⟨w % 2 ^ 20, slice w 20 5, slice w 25 6⟩)

/-- No two members share an end-point ID, and every egress die lies in the fan-out. -/
def rollValid (roll : List Member) (fanout : Nat) : Bool :=
  (roll.map (·.ep)).eraseDups.length == roll.length && roll.all (fun m => bitOf fanout m.die)

/-- Chunk store an allocation reserves (R309). -/
def AllocReq.reserve (r : AllocReq) : Nat :=
  let q := max (2 ^ r.maxChunk) (r.thresh * 1024) / 64
  r.window * (4096 * q + ceilDiv (r.members * q) 8)

/-- Chunk store and roll entries in use on core die k. -/
def Chip.objsOf (c : Chip) (k : Nat) : SMap SyncObj := c.coll.objs.filter (fun e => objCore e.1 == k)
def Chip.storeUsed (c : Chip) (k : Nat) : Nat := (c.objsOf k).foldl (fun s e => s + e.2.reserved) 0
def Chip.rollUsed (c : Chip) (k : Nat) : Nat := (c.objsOf k).foldl (fun s e => s + e.2.roll.length) 0

/-- R309: is there room for the allocation beside the roll store of 8 MiB and the pending store of 2 MiB? -/
def Chip.storeFits (c : Chip) (k : Nat) (r : AllocReq) : Bool :=
  decide (c.storeUsed k + r.reserve + 10 * 2 ^ 20 ≤ (c.die (32 + k)).red * 2 ^ 20)
    && decide (c.rollUsed k + r.members ≤ 2097152)

def Chip.showStore (c : Chip) (k : Nat) : Chip :=
  c.set (R.SYN_STORE (32 + k)) F.SYN_STORE_RESERVED (ceilDiv (c.storeUsed k) (2 ^ 20))

/-- ROLL_LOAD_DONE: the roll of an ALLOC has been read from hub LPDDR5X; the outcome is written and on DONE the object is
ARMED. `read h a` is byte a of the memory of hub h. -/
def Chip.rollLoadDone (c : Chip) (n : Nat) (read : Nat → Nat → Nat) : Chip :=
  match (c.obj n).loading with
  | none => c
  | some r =>
    let k := objCore n
    let c1 := c.modObj n (fun o => { o with loading := none })
    let roll := readRoll (read r.hub) r.addr r.members
    if !rollValid roll r.fanout then c1.synStat n 5
    else if !c1.storeFits k r then c1.synStat n 4
    else
      let e := (c.objEpoch n + 1) % 2 ^ 32
      let c2 := c1.setObj n { alloc := some r, roll := roll, reserved := r.reserve, nextSeq := r.nextSeq }
      let c3 := ((c2.wr (R.SYN_EPOCH (objDie n) (n % 512)) (BitVec.ofNat 32 e)).wr (R.SYN_OP_EPOCH (objDie n))
        (BitVec.ofNat 32 e)).wr (objReg n) (BitVec.ofNat 32 (1 + r.early.toNat * 2 ^ 4))
      let c4 := { c3 with coll := { c3.coll with copies := SMap.set (fun _ => []) c3.coll.copies n roll } }
      (c4.showStore k).synStat n 0

/-- The object enters QUARANTINE: its reservation is released, its binding and its collective state end (R320, R359). -/
def Chip.toQuarantine (c : Chip) (n : Nat) : Chip :=
  let q := (c.obj n).queued
  let c1 := ((c.unbindObj n).dropPending n).setObj n
    { nextSeq := (c.obj n).nextSeq, queued := q, abortedAt := (c.obj n).abortedAt }
  let c2 := c1.wr (objReg n) (BitVec.ofNat 32 (7 + q.isSome.toNat * 2 ^ 5))
  ({ c2 with coll := { c2.coll with copies := SMap.set (fun _ => []) c2.coll.copies n [],
                                    orphans := SMap.set (fun _ => none) c2.coll.orphans n none } }).showStore (objCore n)

/-- SYN_FREE: the object enters QUARANTINE, a collective in progress aborting first with code 0x06. -/
def Chip.synFree (c : Chip) (k : Nat) : Chip :=
  if c.synOp k ≠ 2 then c
  else
    let n := c.synObj k
    let c1 := c.synDone k
    if c.objState n = 0 then c1.synStat n 6
    else if c.objState n = 7 then c1.synStat n 0
    else ((if c.objBusy n then c1.collAbort n 6 none 0 0 else c1).toQuarantine n).synStat n 0

/-- DROP_MEMBER: the rank is marked lost; a collective in progress aborts with code 0x04. -/
def Chip.dropMember (c : Chip) (k : Nat) : Chip :=
  if c.synOp k ≠ 3 then c
  else
    let n := c.synObj k
    let r := c.get (R.SYN_RANK (32 + k)) F.SYN_RANK_RANK
    let c1 := c.synDone k
    if c.objState n = 0 ∨ c.objState n = 7 then c1.synStat n 6
    else if (c.obj n).roll.length ≤ r then c1.synStat n 0
    else
      let c2 := (c1.modObj n (fun o => { o with lost := if r ∈ o.lost then o.lost else o.lost ++ [r] })).set (objReg n)
        F.SYN_OBJ_LOST 1
      (if c.objBusy n then c2.collAbort n 4 (some r) 0 0 else c2.lateCause n).synStat n 0

/-- SYN_READ: the descriptor (zeros while none is fixed), NEXT_SEQ and MARK go to SYN_RES_n. -/
def Chip.synRead (c : Chip) (k : Nat) : Chip :=
  if c.synOp k ≠ 4 then c
  else
    let n := c.synObj k
    let c1 := c.synDone k
    if c.objState n = 0 then c1.synStat n 6
    else
      let o := c.obj n
      let b := o.desc.getD []
      let words := (List.range 13).map (fun i => leVal ((b.drop (4 * i)).take 4))
        ++ [o.nextSeq % 2 ^ 32, o.nextSeq / 2 ^ 32, o.mark]
      (words.zipIdx.foldl (fun s w => s.wr (R.SYN_RES (32 + k) w.2) (BitVec.ofNat 32 w.1)) c1).synStat n 0

/-! ### The first descriptor (R299 to R301) -/

/-- The parameter sets a descriptor uses (R361): the next set becomes current when COLL_SEQ has reached its FROM_SEQ. -/
def Chip.switchParams (c : Chip) (n seq : Nat) : Chip :=
  match c.bindOf n with
  | none => c
  | some (i, b) =>
    match b.next with
    | some (p, from_) =>
      if from_ ≤ seq then c.setBind (objCore n) i (some { b with cur := p, next := none }) else c
    | none => c

/-- Wake the clusters of a die that hold positions of a new collective (R427). -/
def Chip.wakeClusters (c : Chip) (k : Nat) : Chip :=
  (c.clustersIn k).foldl (fun s b => if s.blkSt (32 + k) b = 0 then s else s.wakeBlock (32 + k) b 7) c

/-- DESCRIPTOR_FIX: the first descriptor of a collective, from rank r: an abort 0x04 when a member is lost, 0x02 when it
breaks a limit, else it is fixed and the object is COLLECTING. -/
def Chip.fixDescriptor (c : Chip) (n r : Nat) (b : List Nat) : Chip :=
  let o := c.obj n
  let d := descOf b
  if !o.lost.isEmpty then c.collAbortVia (objCore n) n 4 (some (o.lost.foldl min (2 ^ 32))) 0 0 d.seq
  else
    match c.breach n d with
    | some f => c.collAbortVia (objCore n) n 2 (some r) f 0 d.seq
    | none =>
      let p := if d.recipe = 0 then none else c.readRecipe n d
      let c1 := c.switchParams n d.seq
      let c2 := c1.modObj n (fun o =>
        { o with desc := some b, prog := p, params := (c1.bindOf n).map (fun x => x.2.cur), mark := 0, told := 0, gap := false,
                 done := [], chunks := [] })
      (c2.setObjState n 2).wakeClusters (objCore n)

/-! ### Contribution cells (R307) -/

/-- A replay pass starts: counts, bitmaps and accumulators are cleared; a check rerun moves to the next cluster (R307,
R310). -/
def Chip.passStart (c : Chip) (n : Nat) (x : Chunk) : Chunk :=
  if x.wanted = 2 then { x.clear with cluster := c.nextCluster (objCore n) x.cluster } else x.clear

/-- Elements of cell i of a chunk of e elements. -/
def cellElems (per e i : Nat) : Nat := min per (e - i * per)

/-- Row 10: the cell's elements enter the accumulators; rank r's count rises. -/
def addCell (d : Desc) (per e r i cells : Nat) (v : Cell) (x : Chunk) : Chunk :=
  let pl := v.payload.toNat
  let acc := (List.range (cellElems per e i)).foldl (fun m j =>
    SMap.set (fun _ => {}) m (i * per + j)
      ((SMap.get (fun _ => {}) m (i * per + j)).add d.op (elemVal d.inFmt pl j)
        (if isInt d.inFmt then elemRaw d.inFmt pl j else 0))) x.acc
  let cnt := SMap.get (fun _ => 0) x.counts r + 1
  { x with got := SMap.set (fun _ => false) x.got (r * 2 ^ 22 + i) true, counts := SMap.set (fun _ => 0) x.counts r cnt,
           acc := acc, full := if cnt = cells then x.full + 1 else x.full }

/-- Rows 6 to 10 for an element cell of rank r that lies at (pos, i) of its message. -/
def Chip.elementCell (c : Chip) (n r pos i : Nat) (v : Cell) : Chip :=
  let k := objCore n
  let o := c.obj n
  let g := o.geo
  let x0 := c.openChunk n pos
  let x := if v.retx ∧ x0.wanted ≠ 0 then c.passStart n x0 else x0
  let cells := g.2.cellsAt pos
  if o.isSealed pos ∨ cells ≤ SMap.get (fun _ => 0) x.counts r ∨ SMap.get (fun _ => false) x.got (r * 2 ^ 22 + i) then
    c.synOverrun k
  else if x.pass ∧ !v.retx then c.synStale k 1
  else if o.mark + g.1.window ≤ pos then c.synOverrun k
  else
    let e := g.2.elemsAt pos
    let m := cellElems g.2.per e i
    let y := addCell g.1 g.2.per e r i cells v x
    let c1 := (((c.setChunk n pos y).pmcEvent (32 + k) 0x110 (some y.cluster) none 1).pmcEvent (32 + k) 0x111
      (some y.cluster) none m).pmcFixed (32 + k) 7 m
    if y.full = o.roll.length then c1.chunkComplete n pos else c1

/-- Does the cluster of a position still wake from DEEP_RECESS (R307 row 5)? -/
def Chip.clusterWakes (c : Chip) (k b : Nat) : Bool :=
  c.blkSt (32 + k) b == 2
    || (c.blkSt (32 + k) b == 4 && (match SMap.get (fun _ => none) c.pw.wake ((32 + k) * 8 + b) with
        | some w => w.from_ == 2
        | none => false))
    || c.dieSt (32 + k) != 0

/-- A cell for a resting cluster wakes it. -/
def Chip.wakeFor (c : Chip) (k b : Nat) : Chip :=
  if c.blkSt (32 + k) b = 0 ∧ c.dieSt (32 + k) = 0 then c else c.wakeBlock (32 + k) b 7

/-- Rows 4 to 10, once the descriptor is fixed. -/
def Chip.contribFixed (c : Chip) (n r : Nat) (v : Cell) (b : List Nat) : Chip :=
  let k := objCore n
  let o := c.obj n
  if v.seq = 0 then
    match firstDiff b v.payloadBytes with
    | some f => c.collAbort n 2 (some r) f 0
    | none => c
  else
    let place := o.geo.2.place v.seq.toNat
    let cl := (place.map (fun p => (c.openChunk n p.1).cluster)).getD 0
    let c1 := if place.isSome then c.wakeFor k cl else c
    if place.isSome ∧ c1.clusterWakes k cl then c1.hold n v
    else if v.digest.toNat ≠ descDigest b then c1.collAbort n 2 (some r) 0x10 0
    else
      match place with
      | none => c1.synOverrun k
      | some p => c1.elementCell n r p.1 p.2 v

/-- The rows of R307 for a KIND 2 cell of object n. -/
def Chip.contribute (c : Chip) (n : Nat) (v : Cell) : Chip :=
  let k := objCore n
  let st := c.objState n
  let o := c.obj n
  if st = 0 ∨ 6 ≤ st ∨ v.dest.toNat % 256 ≠ c.objEpoch n % 256 then c.synStale k 1
  else
    match o.rank v.src.toNat with
    | none => c.synDrop k (R.SYN_DROP (32 + k)) F.SYN_DROP_NOT_MEMBER 1
    | some r =>
      match o.desc with
      | some b => c.contribFixed n r v b
      | none => if v.seq = 0 ∧ !c.sag then c.fixDescriptor n r v.payloadBytes else c.hold n v

/-- CONTRIBUTION_CELL: core die k takes a landed KIND 2 cell of an object it homes through the rows of R307. -/
def Chip.contributionCell (c : Chip) (k : Nat) (v : Cell) : Chip :=
  let n := v.dest.toNat / 256
  if v.kind ≠ 2 ∨ objCore n ≠ k ∨ c.isolated (32 + k) ∨ !c.planeRuns (32 + k) then c
  else (c.takeLanded k v).contribute n v

/-- PENDING_RELEASE: the cells of core die k's pending store pass through R307 again, in arrival order; one whose hold
still stands returns to the store. -/
def Chip.pendingRelease (c : Chip) (k : Nat) : Chip :=
  if c.isolated (32 + k) then c
  else (c.pendingOf k).foldl (fun s p => s.contribute p.obj p.cell) (c.setPending k [])

/-! ### Timers (R303, R311, R312, R314, R320) -/

/-- The oldest incomplete position of an object. -/
def SyncObj.oldest (o : SyncObj) : Option Nat :=
  (List.range o.geo.2.count).find? (fun p => !o.isSealed p && !(o.chunk p).complete)

/-- PROGRESS_TIMEOUT: the oldest incomplete position, holding at least one cell of every member, is asked for again. -/
def Chip.progressTimeout (c : Chip) (n : Nat) : Chip :=
  let o := c.obj n
  if !c.objBusy n then c
  else
    match o.oldest with
    | none => c
    | some p =>
      if (List.range o.roll.length).all (fun r => SMap.get (fun _ => 0) (o.chunk p).counts r != 0) then c.lossReplay n p else c

/-- The rank with the fewest cells of a chunk, the lowest on a tie. -/
def fewest (x : Chunk) (members : Nat) : Option Nat :=
  bestBy (fun r => SMap.get (fun _ => 0) x.counts r) (List.range members)

/-- COLLECTIVE_TIMEOUT: abort 0x01 naming the rank of R311. -/
def Chip.collectiveTimeout (c : Chip) (n : Nat) : Chip :=
  let o := c.obj n
  if !c.objBusy n then c.lateCause n
  else c.collAbort n 1 (o.oldest.bind (fun p => fewest (o.chunk p) o.roll.length)) 0 0

/-- SEAL_NOTICE_GAP: SEAL_GAP µs have passed since a SEAL notice; a MARK not yet told goes out now. -/
def Chip.sealGap (c : Chip) (n : Nat) : Chip :=
  let o := c.obj n
  if !o.gap then c
  else if o.told < o.mark ∧ c.objBusy n then c.sealNotice n (c.seqOf n) 0
  else c.modObj n (fun o => { o with gap := false })

/-- ABORT_HOLD_EXPIRY: after HOLD the object returns to ARMED. -/
def Chip.abortHoldExpiry (c : Chip) (n : Nat) : Chip := if c.objState n = 6 then c.setObjState n 1 else c

/-- QUARANTINE_EXPIRY: the object is FREE and a queued ALLOC takes effect (R320). -/
def Chip.quarantineExpiry (c : Chip) (n : Nat) : Chip :=
  if c.objState n ≠ 7 then c
  else
    let q := (c.obj n).queued
    let c1 := ((c.setObjState n 0).set (objReg n) F.SYN_OBJ_QUEUED 0).setObj n {}
    match q with
    | none => c1
    | some r => c1.allocStart n r

/-! ### Loss of the home die (R23, R321, R322) -/

/-- The roll the primary hub holds a copy of. -/
def Chip.rollCopy (c : Chip) (n : Nat) : List Member := SMap.get (fun _ => []) c.coll.copies n

/-- Note an object whose home die is lost, and the collective it concerned. -/
def Chip.orphan (c : Chip) (n : Nat) (sent : Bool) : Chip :=
  { c with coll := { c.coll with
      orphans := SMap.set (fun _ => none) c.coll.orphans n (some (c.objEpoch n, c.seqOf n, sent)) } }

/-- Objects of core die k that are neither FREE nor in QUARANTINE. -/
def Chip.liveObjs (c : Chip) (k : Nat) : List Nat :=
  ((List.range 512).map (fun i => k * 512 + i)).filter (fun n => c.objState n != 0 && c.objState n != 7)

/-- SPINE_LOST: core die k is isolated: every live object aborts with code 0x05, notified from the management core die, and
its binding ends (R23, R359). -/
def Chip.homeLost (c : Chip) (k : Nat) : Chip :=
  (c.liveObjs k).foldl (fun s n =>
    let s1 := s.orphan n true
    ((s1.unbindObj n).collAbortVia s1.mgmtCore n 5 none 0 0 (s.seqOf n)).rerunKnown n none 2) c

/-- One orphan after its home die returns: SPINE_LOST from the roll copy when it has not been sent, then QUARANTINE. -/
def Chip.orphanReturn (c : Chip) (n : Nat) : Chip :=
  match SMap.get (fun _ => none) c.coll.orphans n with
  | none => c
  | some (e, seq, sent) =>
    let hold := c.get (R.SYN_CFG (objDie n)) F.SYN_CFG_HOLD * 100
    let c1 := if sent then c else
      (c.noticeAll c.mgmtCore (c.rollCopy n) (fun _ =>
        collPayload 1 5 n e seq 0xFFFFFFFF 0 (c.obj n).al.spine 0 0 hold)).incSat (R.SYN_STAT (objDie n)) F.SYN_STAT_ABORTS 1
    c1.toQuarantine n

/-- HOME_DIE_READMIT: once core die k runs again, its lost objects move to QUARANTINE. -/
def Chip.homeReadmit (c : Chip) (k : Nat) : Chip :=
  if c.isolated (32 + k) ∨ !c.planeRuns (32 + k) then c
  else ((c.coll.orphans.filter (fun e => objCore e.1 == k)).map (·.1)).foldl Chip.orphanReturn c

end Sys2Proof.Machine
end

