-- ==== Sys2Proof/Machine/Firebreaks.lean ====
section
/-!
DEFINITION. Firebreaks (R18 to R26, R214): tile, block, region and chip, their notices (R34), hub takeover (R17), and the order in
which triggers of one command are raised (R20, R21). Meanings: BLOCK_FIREBREAK_DRAIN_TIMEOUT, HUB_TAKEOVER, FIRMWARE_GO_DARK,
PLL_LOSS_OF_LOCK, PLL_LOCK_FAIL, UPLINK_SCHEDULER_FAULT, SLOT_CROSSBAR_FAULT.
-/

namespace Sys2Proof.Machine

/-! ### Notices (R19, R34) -/

/-- Blocks and tiles of a die that are behind firebreaks. -/
def Chip.fbBlocks (c : Chip) (d : Nat) : Nat := popCount 8 (c.get (R.FLT_FB_STATE d) F.FLT_FB_STATE_BLOCK_FB)
def Chip.fbTiles (c : Chip) (d : Nat) : Nat :=
  popCount 32 (c.rd (R.FLT_FB_TILE_LO d)).toNat + popCount 32 (c.rd (R.FLT_FB_TILE_HI d)).toNat
    + (if d < 32 then 0 else popCount 32 (c.rd (R.RED_LG_FB_LO d)).toNat + popCount 32 (c.rd (R.RED_LG_FB_HI d)).toNat)

/-- DETAIL of a FIREBREAK notice, with the counts before the action. -/
def Chip.fbDetail (c : Chip) (d trigger : Nat) : Nat := trigger + c.fbBlocks d * 2 ^ 8 + c.fbTiles d * 2 ^ 12

/-! ### Tiles -/

/-- The block or cluster a tile of a die lies in; a crossbar port lies in none. -/
def tileBlock (d t : Nat) : Option Nat := if d < 32 then some (t / 8) else if t < 64 then none else some ((t - 64) / 12)

/-- A lane goes FAILED (R214): its staged cells return, what waited in its transmitter is lost, its requests are void. A DARK lane
stays DARK. -/
def Chip.failLane (c : Chip) (l : Nat) : Chip :=
  let c1 := if c.laneState l = LS.dark then c else c.laneMove l LS.failed
  c1.modLane l (fun x => { x with lcOut := [], reqs := [], drain := none, lock := false, blockNo := none })

/-- R22, R123: the last lane of a port is behind a firebreak: PORT_DOWN three times on every lane of the port whose transmitter
still works, which then go dark. -/
def Chip.portDownSend (c : Chip) (d p : Nat) : Chip :=
  ((c.portLanes d p).filter (fun l => c.laneState l != LS.dark && c.laneState l != LS.cleared)).foldl (fun s l =>
    (List.range 3).foldl (fun s _ => s.lcSend l 0x10 0 [1]) s) c

/-- A tile firebreak on a lane. More than 4 lanes of a block behind firebreaks trigger the block (R19). -/
def Chip.tileLane (c : Chip) (d t trigger : Nat) : Chip :=
  let l := d * 64 + t
  if c.laneState l = LS.cleared then c
  else
    let detail := c.fbDetail d trigger
    let c1 := (c.preempt d (Activity.inTile t)).clrFirebreak l
    let c2 := ((c1.failLane l).setTileFb d t true).post d 0x04 2 d 1 (t / 8) t detail
    let p := c2.portOf l
    let c3 := if c2.role l = 1 ∧ c2.portDown d p then c2.portDownSend d p else c2
    let c4 := c3.clrPortCheck l
    if 4 < ((blockLanes d (t / 8)).filter (fun m => c4.tileFb d (laneLocal m))).length then c4.fbDue ⟨2, d, t / 8, 0x09⟩ else c4

/-- Envelopes queued at core die k for output t or from input t are dropped and their credits return (R214). -/
def Chip.xportDrop (c : Chip) (k t : Nat) : Chip :=
  let hits := c.sw.xq.filter (fun e => e.1 / 1056 == k && (e.1 % 32 == t || e.1 % 1056 / 32 == t))
  hits.foldl (fun s e =>
    e.2.foldl (fun s x =>
      let s1 := (s.incSat (R.XBR_DROP (32 + k)) F.XBR_DROP_ENVELOPES 1).pmcDrop (32 + k) x.env.cells.length
      if e.1 % 1056 / 32 < 32 then s1.envCreditDue (e.1 % 1056 / 32) k (e.1 % 32) else s1)
      (s.modSw (fun w => { w with xq := SMap.erase w.xq e.1 }))) c

/-- A tile firebreak on a crossbar port of core die d. -/
def Chip.tilePort (c : Chip) (d t trigger : Nat) : Chip :=
  let detail := c.fbDetail d trigger
  let c1 := ((c.preempt d (Activity.inTile t)).setTileFb d t true).xportDrop (d - 32) t
  c1.showSprayAll.post d 0x04 2 d 1 0 t detail

/-- A tile firebreak on an accumulator lane group (R337, R338). -/
def Chip.tileGroup (c : Chip) (d t trigger : Nat) : Chip :=
  let detail := c.fbDetail d trigger
  let c1 := (c.preempt d (Activity.inTile t)).groupLost (d - 32) (t - 64)
  (c1.setTileFb d t true).post d 0x04 2 d 1 ((t - 64) / 12) t detail

/-- A tile firebreak; nothing for a tile inside a unit that is behind one already (R20). -/
def Chip.raiseTile (c : Chip) (d t trigger : Nat) : Chip :=
  let covered := c.isolated d || c.tileFb d t || (match tileBlock d t with
    | some b => c.blockFb d b
    | none => false)
  if covered then c
  else if d < 32 then c.tileLane d t trigger
  else if t < 64 then c.tilePort d t trigger
  else c.tileGroup d t trigger

/-! ### Blocks -/

/-- Cells of a block's VOQs, port queues and staging queues, and those that wait at ingress, are discarded (R214). -/
def Chip.discardBlock (c : Chip) (d b : Nat) : Chip :=
  let free (s : Chip) (n : Nat) : Chip :=
    ((s.poolRelease d b n).incSat (R.PRT_FB_DISCARD d) F.PRT_FB_DISCARD_CELLS 1).pmcDrop d 1
  let vs := c.sw.voqs.filter (fun e => e.1 / 320 == d * 8 + b)
  let c1 := vs.foldl (fun s e => e.2.foldl (fun s x => free s x.buf) (s.setVoq e.1 [])) c
  let ps := c1.sw.pq.filter (fun e => e.1 / 64 == d * 8 + b)
  let c2 := ps.foldl (fun s e => e.2.foldl (fun s x => free s x.buf)
    (s.modSw (fun w => { w with pq := SMap.erase w.pq e.1, late := SMap.erase w.late e.1 }))) c1
  let ss := c2.sw.stq.filter (fun e => e.1 / 64 == d * 8 + b)
  let c3 := ss.foldl (fun s e => e.2.foldl (fun s x => free s x.buf) (s.modSw (fun w => { w with stq := SMap.erase w.stq e.1 }))) c2
  (SMap.get (fun _ => []) c3.tb.ingWait (d * 8 + b)).foldl (fun s x => free s x.buf)
    { c3 with tb := { c3.tb with ingWait := SMap.erase c3.tb.ingWait (d * 8 + b) } }

/-- A block firebreak on a port die: its lanes drain with cause 0x0F and its cells are discarded. -/
def Chip.blockPort (c : Chip) (d b : Nat) : Chip :=
  let c1 := (blockLanes d b).foldl (fun s l => (s.clrFirebreak l).startDrain l 2 0x0F) c
  (c1.discardBlock d b).discardFlows d b

/-- A block or cluster firebreak. -/
def Chip.raiseBlock (c : Chip) (d b trigger : Nat) : Chip :=
  if c.isolated d || c.blockFb d b then c
  else
    let detail := c.fbDetail d trigger
    let c1 := (c.preempt d (Activity.inBlock b)).setBlockFb d b true
    let c2 := if d < 32 then c1.blockPort d b else c1.clusterLost (d - 32) b
    c2.post d 0x04 2 d 2 b 0 detail

/-- BLOCK_FIREBREAK_DRAIN_TIMEOUT: a block firebreak whose lanes are not DRAINED 200 µs later raises the region trigger 0x0E. -/
def Chip.fbDrainTimeout (c : Chip) (d b : Nat) : Chip :=
  if d < 32 ∧ c.blockFb d b ∧ (blockLanes d b).any (fun l => c.laneState l == LS.active || c.laneState l == LS.draining)
  then c.fbDue ⟨3, d, 0, 0x0E⟩ else c

/-! ### Hubs (R17) -/

/-- A HUB_ROLE event of a hub (R450): bit 0 the primary hub, bit 1 PATH_LOST. -/
def Chip.hubRole (c : Chip) (h detail : Nat) : Chip := c.hostEvent h 0x81 detail

/-- The standby hub fences the old primary and takes the primary role (R17). Both functions enter a HUB_ROLE event and signal vector
64; commands of the old primary's windows that have not completed are lost, and their slots become FREE (DEDUCED, log 21); its sessions close
(R454). The pointers of the mirrored FSIG ring pass to its window (R386). A hub that has failed its identity check never takes the role
(R457). With `tell` it posts a FIREBREAK notice of region level for the lost hub's die in its own die's queues. -/
def Chip.takeRole (c : Chip) (tell : Bool) : Chip :=
  match c.primary with
  | none => c
  | some h =>
    let n := 1 - h
    if c.isolated (hubDie n) ∨ (c.hub n).fenced ∨ !(c.hub n).idOk then c
    else
      let lost (x : Hub) : Hub :=
        { x with fenced := true, sessions := [], slots := x.slots.filter (fun e => e.2.owner != 1 && e.2.owner != 2) }
      let c1 := ((c.modHub h lost).set (R.MGT_ROLE (hubDie h)) F.MGT_ROLE_PRIMARY 0).set (R.MGT_ROLE (hubDie n)) F.MGT_ROLE_PRIMARY 1
      let c2 := ((((c1.wr (R.FLT_FSIG_PTR (hubDie n)) (c1.rd (R.FLT_FSIG_PTR (hubDie h)))).hubRole h n).hubRole n n).signal h 64).signal n 64
      if tell then c2.post (hubDie n) 0x04 2 (hubDie h) 3 0 0 (c2.fbDetail (hubDie h) 0) else c2

/-- HUB_TAKEOVER: three heartbeats missed on both paths, or the primary hub's die isolated. -/
def Chip.hubTakeover (c : Chip) : Chip := c.takeRole true

/-! ### Regions -/

/-- Envelopes a core die holds for an isolated port die are dropped and their credits return. -/
def Chip.dropFor (c : Chip) (k e : Nat) : Chip :=
  let hits := c.sw.xq.filter (fun x => x.1 / 1056 == k && x.1 % 32 == e)
  hits.foldl (fun s x =>
    x.2.foldl (fun s y =>
      let s1 := (s.incSat (R.XBR_DROP (32 + k)) F.XBR_DROP_ENVELOPES 1).pmcDrop (32 + k) y.env.cells.length
      if x.1 % 1056 / 32 < 32 then s1.envCreditDue (x.1 % 1056 / 32) k e else s1)
      (s.modSw (fun w => { w with xq := SMap.erase w.xq x.1 }))) c

/-- The other port dies discard their VOQ cells for an isolated port die. -/
def Chip.discardFor (c : Chip) (e : Nat) : Chip :=
  let hits := c.sw.voqs.filter (fun x => voqDest x.1 == e && x.1 / 2560 != e)
  hits.foldl (fun s x =>
    x.2.foldl (fun s y => ((s.poolRelease (x.1 / 2560) (voqBlock x.1) y.buf).incSat (R.PRT_IN_DROP2 (x.1 / 2560))
      F.PRT_IN_DROP2_EGRESS_DOWN 1).pmcDrop (x.1 / 2560) 1) (s.setVoq x.1 [])) c

/-- The queues and pools of an isolated port die are lost with its data plane. -/
def Switch.loseDie (w : Switch) (d : Nat) : Switch :=
  { w with voqs := SMap.clearWhere w.voqs (fun k => k / 2560 == d),
           pq := SMap.clearWhere w.pq (fun k => k / 512 == d), stq := SMap.clearWhere w.stq (fun k => k / 512 == d),
           late := SMap.clearWhere w.late (fun k => k / 512 == d), landing := SMap.clearWhere w.landing (fun k => k == d),
           pools := SMap.clearWhere w.pools (fun k => k / 8 == d), holdSample := SMap.clearWhere w.holdSample (fun k => k % 32 == d),
           holdRelay := SMap.clearWhere w.holdRelay (fun k => k % 32 == d || k / 32 == d),
           holdApplied := SMap.clearWhere w.holdApplied (fun k => k % 32 == d || k / 32 == d) }

/-- The lanes of a die whose data plane is gone: nothing waits in their transmitters, no request is out. -/
def Chip.quietLanes (c : Chip) (d : Nat) : Chip :=
  (dieLanes d).foldl (fun s l => s.modLane l (fun x => { x with lcOut := [], reqs := [], lastTx := none, launch := none })) c

/-- A port die is isolated (R214): its transmitters go dark with it. -/
def Chip.isoPort (c : Chip) (d : Nat) : Chip :=
  let c1 := (List.range 8).foldl (fun s k => s.dropFor k d) (c.discardFor d)
  let c2 := { c1 with tb := { c1.tb with ingWait := SMap.clearWhere c1.tb.ingWait (fun k => k / 8 == d) } }
  (c2.modSw (fun w => w.loseDie d)).quietLanes d

/-- Envelope credits port die d has outstanding toward core die k are restored, and counted as lost envelopes (R214). -/
def Chip.restoreCredits (c : Chip) (k d : Nat) : Chip :=
  let base := (d * 8 + k) * 40
  let n := (c.sw.envSpent.filter (fun e => base ≤ e.1 && e.1 < base + 40)).foldl (fun s e => s + e.2) 0
  (c.incSat (R.PRT_UPL_LOST d) F.PRT_UPL_LOST_ENVELOPES n).modSw (fun w =>
    { w with envSpent := SMap.clearWhere w.envSpent (fun x => base ≤ x && x < base + 40),
             envReturn := SMap.clearWhere w.envReturn (fun x => base ≤ x && x < base + 40),
             up := SMap.clearWhere w.up (fun x => x == d * 8 + k) })

/-- The staging slots and extents of an isolated core die are lost (R286). -/
def Chip.loseStaging (c : Chip) (k : Nat) : Chip :=
  (List.range 4).foldl (fun s i => (s.setStg k i {}).set (R.TBL_STG_STAT (32 + k) i) F.TBL_STG_STAT_STATE 0) c

/-- A core die is isolated (R23, R214, R245, R286): its objects abort, its parked and queued cells and its staged messages are lost, its
credits are restored. -/
def Chip.isoCore (c : Chip) (k : Nat) : Chip :=
  let c1 := (c.homeLost k).loseStaging k
  let c2 := (List.range 32).foldl (fun s d => s.restoreCredits k d) c1
  (((c2.modSw (fun w =>
    { w with parked := SMap.clearWhere w.parked (fun x => x / 256 == k), xq := SMap.clearWhere w.xq (fun x => x / 1056 == k),
             landed := SMap.clearWhere w.landed (fun x => x == k), spillSpent := SMap.clearWhere w.spillSpent (fun x => x % 8 == k),
             landSpent := SMap.clearWhere w.landSpent (fun x => x / 32 == k),
             landReturn := SMap.clearWhere w.landReturn (fun x => x / 32 == k) })).setSpillOcc k 0).setPending k [])

/-- A region firebreak: the die is isolated. The primary hub posts its notice, or the standby hub when the primary's die is the one
isolated, which then takes over. -/
def Chip.raiseRegion (c : Chip) (d trigger : Nat) : Chip :=
  if c.isolated d then c
  else
    let detail := c.fbDetail d trigger
    let c1 := (c.preempt d (fun _ => true)).set (R.FLT_FB_STATE d) F.FLT_FB_STATE_REGION_ISO 1
    let c2 := (if d < 32 then c1.isoPort d else c1.isoCore (d - 32)).showSprayAll
    let poster := if d = c.primaryDie then hubDie (1 - c.primary.getD 0) else c.primaryDie
    let c3 := c2.post poster 0x04 2 d 3 0 0 detail
    let c4 := if some d = c.primary.map hubDie then c3.takeRole false else c3
    let c5 := if c4.isolated 32 ∧ c4.isolated 39 then c4.fbDue ⟨4, d, 0, 0x10⟩ else c4
    if c5.coresInService.length < 4 then c5.fbDue ⟨4, d, 0, 0x0F⟩ else c5

/-! ### The chip (R26) -/

/-- Lanes still in service: trained ones, and DROWSY ones whose transmitter carries blocks. SPINE_DOWN is not sent on CLEARED
lanes (R179). -/
def Chip.lanesInService (c : Chip) : List Nat :=
  (c.lanes.map (·.1)).filter (fun l => !c.isolated (laneDie l) && (c.laneState l == LS.active || c.laneState l == LS.draining
    || c.laneState l == LS.drained || c.laneState l == LS.drowsy))

/-- The lanes that carry the Wefer link: lanes of ROLE 2. -/
def Chip.weferActive (c : Chip) : List Nat :=
  (c.lanes.map (·.1)).filter (fun l => c.role l == 2 && c.laneState l == LS.active)

/-- A chip firebreak: the chip goes dark (R26): FAULT_N low, SPINE_DOWN three times on every lane still in service, TW_LOSS with
cause 0x03 to the twin, and a notice by the surviving hub, if any. -/
def Chip.raiseChip (c : Chip) (trigger : Nat) : Chip :=
  if c.darkChip then c
  else
    let h := match c.primary with
      | some h => if c.isolated (hubDie h) then none else some h
      | none => none
    let c1 := match h with
      | some h => c.post (hubDie h) 0x04 2 (hubDie h) 4 0 0 (c.fbDetail (hubDie h) trigger)
      | none => c
    let c2 := c1.weferActive.foldl (fun s l => s.lcSend l 0x26 0 [3]) c1
    let c3 := c2.lanesInService.foldl (fun s l => (List.range 3).foldl (fun s _ => s.lcSend l 0x11 0 []) s) c2
    { c3 with darkChip := true, faultN := false }

/-! ### Raising what a command has triggered (R21) -/

def Chip.raiseOne (c : Chip) (x : FbDue) : Chip :=
  if x.level = 1 then c.raiseTile x.die x.unit x.trigger
  else if x.level = 2 then c.raiseBlock x.die x.unit x.trigger
  else if x.level = 3 then c.raiseRegion x.die x.trigger
  else c.raiseChip x.trigger

/-- Raise the triggers noted so far, the highest level first; a trigger of a unit that has come behind a firebreak raises
nothing. -/
def Chip.raisePass (c : Chip) : Chip :=
  let l := c.integ.due
  let by_ (n : Nat) : List FbDue := l.filter (fun x => x.level == n)
  (by_ 4 ++ by_ 3 ++ by_ 2 ++ (by_ 1)).foldl Chip.raiseOne (c.modInteg (fun g => { g with due := [] }))

/-- Raise every trigger of a command, those that firebreaks themselves trigger at the level above too: tile, block, region, chip. -/
def Chip.raiseDue (c : Chip) : Chip := if c.integ.due.isEmpty then c else c.raisePass.raisePass.raisePass.raisePass.raisePass

/-! ### Triggers that hardware reports (R19) -/

/-- PLL_LOSS_OF_LOCK and PLL_LOCK_FAIL: a die PLL raises the region trigger 0x0B, a lane PLL (of block b) the block trigger 0x08. -/
def Chip.pllLoss (c : Chip) (d : Nat) (block : Option Nat) : Chip :=
  match block with
  | some b => c.fbDue ⟨2, d, b, 0x08⟩
  | none => c.fbDue ⟨3, d, 0, 0x0B⟩

def Chip.pllLossOfLock (c : Chip) (d : Nat) (block : Option Nat) : Chip := c.pllLoss d block
def Chip.pllLockFail (c : Chip) (d : Nat) (block : Option Nat) : Chip := c.pllLoss d block

/-- UPLINK_SCHEDULER_FAULT on a port die. -/
def Chip.uplinkSchedulerFault (c : Chip) (d : Nat) : Chip := c.fbDue ⟨3, d, 0, 0x0C⟩

/-- SLOT_CROSSBAR_FAULT on core die k. -/
def Chip.slotCrossbarFault (c : Chip) (k : Nat) : Chip := c.fbDue ⟨3, 32 + k, 0, 0x0D⟩

/-- FIRMWARE_GO_DARK: trigger 0x12. -/
def Chip.goDark (c : Chip) : Chip := c.fbDue ⟨4, 32, 0, 0x12⟩

end Sys2Proof.Machine
end

