-- ==== Sys2Proof/Machine/Sleep.lean ====
section
/-!
DEFINITION. Low-power entries and wakes of tiles, blocks, clusters and dies (R69 to R71, R120, R422 to R428). Meanings: TILE_IDLE,
RECESS_ENTRY, DEEP_RECESS_ENTRY, SLEEP_ENTRY, RECESS_WAKE, BLOCK_WAKE, BLOCK_READMIT, STALE_RELOAD_DONE, DIE_WAKE.
-/

namespace Sys2Proof.Machine

/-! ### Idleness (R422, R424) -/

/-- Blocks of a port die, or clusters of a core die. -/
def blocksOf (d : Nat) : Nat := if d < 32 then 8 else 4

/-- Every VOQ, port queue and staging queue of a block is empty, and no cell waits to be placed in it. -/
def Chip.blockQuiet (c : Chip) (d b : Nat) : Bool :=
  !(c.sw.voqs.any (fun e => e.1 / 320 == d * 8 + b)) && !(c.sw.pq.any (fun e => e.1 / 64 == d * 8 + b))
    && !(c.sw.stq.any (fun e => e.1 / 64 == d * 8 + b)) && !waitsFor (c.landSlots d) b

/-- A cluster holds no open chunk and no check. -/
def Chip.clusterQuiet (c : Chip) (k b : Nat) : Bool :=
  (c.objsOf k).all (fun o => o.2.chunks.all (fun x => x.2.cluster != b))

/-- Some binding of core die k is BUSY. -/
def Chip.bindBusy (c : Chip) (k : Nat) : Bool :=
  c.coll.binds.any (fun e => e.1 / 64 == k && (match e.2 with
    | some b => b.busy
    | none => false))

/-- The block or cluster is idle. -/
def Chip.unitQuiet (c : Chip) (d b : Nat) : Bool := if d < 32 then c.blockQuiet d b else c.clusterQuiet (d - 32) b

/-- PWR_POL_MAX.MAX of block or cluster b. -/
def Chip.blkMax (c : Chip) (d b : Nat) : Nat := c.get (R.PWR_POL_MAX d) ⟨3 * b, 3⟩

/-- The unit can change its low-power state at all. -/
def Chip.mayRest (c : Chip) (d b : Nat) : Bool :=
  decide (b < blocksOf d) && c.dieRuns d && c.planeRuns d && !c.isolated d && !c.blockFb d b

/-- A lane of ROLE 2 of the block is ACTIVE. -/
def Chip.twinActive (c : Chip) (d b : Nat) : Bool :=
  decide (d < 32) && (blockLanes d b).any (fun l => c.role l == 2 && c.laneState l == LS.active)

/-- Lanes whose state does not hold up a deeper entry: CLEARED, DRAINED, FAILED, DROWSY, and lanes without a role (DEDUCED, log 22). -/
def Chip.laneRests (c : Chip) (l : Nat) : Bool :=
  let st := c.laneState l
  st == LS.cleared || st == LS.drained || st == LS.failed || st == LS.drowsy || (st == LS.dark && c.role l == 0)

/-! ### The drowsy handshake (R120) -/

/-- Bytes 5 to 8 of DROWSY: nanoseconds until the earliest WAKE bell of the block, or of the die at depth 3. -/
def Chip.wakeIn (c : Chip) (d b depth : Nat) : Nat :=
  let hits := (c.bells.filter (fun e => e.1 / 256 == d)).filterMap (fun e => match e.2 with
    | some x => if x.action = 2 ∧ (bitOf x.arg b || (depth == 3 && bitOf x.arg 8)) then some x.time else none
    | none => none)
  match hits with
  | [] => 0xFFFFFFFF
  | t :: r => min ((r.foldl min t - c.now) / tuNs) 0xFFFFFFFE

/-- Send DROWSY at a depth. -/
def Chip.sendDrowsy (c : Chip) (l depth : Nat) : Chip :=
  c.lcRequest l 0x0A (depth :: leBytes 4 (c.wakeIn (laneDie l) (laneBlock l) depth))

/-- Has some lane of the block an unanswered DROWSY? -/
def Chip.drowsyOut (c : Chip) (ls : List Nat) : Bool := ls.any (fun l => (c.lane l).waitsOp 0x0A)

/-! ### Entries (R422 to R425) -/

def Chip.setAsleep (c : Chip) (k : Nat) : Chip := c.modPw (fun p => { p with asleep := SMap.set (fun _ => 0) p.asleep k c.now })
def Chip.asleepUs (c : Chip) (k : Nat) : Nat := (c.now - SMap.get (fun _ => 0) c.pw.asleep k) / tuUs

/-- The canopy stores the shadow of a block, tagged with the generation (R70). -/
def Chip.storeShadow (c : Chip) (d b : Nat) : Chip :=
  ((c.set (R.CFG_BLK_TAG d b) F.CFG_BLK_TAG_TAG (c.rd (R.CFG_GEN d)).toNat).set (R.CFG_BLK_TAG d b) F.CFG_BLK_TAG_STALE 0).modPw
    (fun p => { p with shadow := SMap.set (fun _ => false) p.shadow (d * 8 + b) true })

/-- An entry of a block completes: RECESS, or DEEP_RECESS with its shadow stored and event 0x01. -/
def Chip.entryDone (c : Chip) (d b : Nat) : Chip :=
  let t := SMap.get (fun _ => 0) c.pw.entry (d * 8 + b)
  let c1 := (((c.setBlkSt d b t).modPw (fun p => { p with entry := SMap.set (fun _ => 0) p.entry (d * 8 + b) 0 })).setAsleep (d * 16 + b))
  if t = 2 then (c1.storeShadow d b).powerNotice d 0 2 b (powerDetail 1 2 1 0 0 0 0 0) else c1

/-- The handshakes of an entry in progress are complete. -/
def Chip.entryCheck (c : Chip) (d b : Nat) : Chip :=
  if c.blkSt d b ≠ 3 ∨ (d < 32 ∧ c.drowsyOut (blockLanes d b)) then c
  else if SMap.get (fun _ => 0) c.pw.entry (d * 8 + b) = 2 ∧ d < 32 ∧ !((blockLanes d b).all c.laneRests) then c.abortEntry d b
  else c.entryDone d b

/-- Begin an entry: state 3, and DROWSY on the lanes that need it. -/
def Chip.entryStart (c : Chip) (d b target : Nat) (ls : List Nat) : Chip :=
  let c1 := (c.setBlkSt d b 3).modPw (fun p => { p with entry := SMap.set (fun _ => 0) p.entry (d * 8 + b) target })
  (ls.foldl (fun s l => s.sendDrowsy l target) c1).entryCheck d b

/-- RECESS_ENTRY: the block or cluster has been idle for REC_IDLE µs: DROWSY with depth 1 goes out on every ACTIVE lane; the block
is in RECESS once all are acknowledged. -/
def Chip.recessEntry (c : Chip) (d b : Nat) : Chip :=
  if !c.mayRest d b then c
  else if c.blkSt d b = 3 then c.entryCheck d b
  else if c.blkSt d b ≠ 0 ∨ c.blkMax d b = 0 ∨ !c.unitQuiet d b ∨ c.twinActive d b then c
  else c.entryStart d b 1 (if d < 32 then (blockLanes d b).filter (fun l => c.laneState l == LS.active) else [])

/-- The conditions of R424 beside the handshake. -/
def Chip.deepOk (c : Chip) (d b : Nat) : Bool :=
  c.blkMax d b == 2 && c.unitQuiet d b && !c.running d (Activity.inBlock b)
    && (if d < 32 then !c.twinActive d b && (blockLanes d b).all c.laneRests else !c.bindBusy (d - 32))

/-- DEEP_RECESS_ENTRY: a block in RECESS that has been idle for DEEP_IDLE µs: DROWSY with depth 2 on its DROWSY lanes, then the
shadow and the power gate. -/
def Chip.deepRecessEntry (c : Chip) (d b : Nat) : Chip :=
  if !c.mayRest d b then c
  else if c.blkSt d b = 3 then c.entryCheck d b
  else if c.blkSt d b ≠ 1 ∨ !c.deepOk d b then c
  else c.entryStart d b 2 (if d < 32 then (blockLanes d b).filter (fun l => c.laneState l == LS.drowsy) else [])

/-- Every envelope and landing credit toward a die has returned (R425). -/
def Chip.creditsHome (c : Chip) (d : Nat) : Bool :=
  if d < 32 then c.sw.envSpent.all (fun e => e.1 % 40 != d) && c.sw.landSpent.all (fun e => e.1 % 32 != d)
  else c.sw.envSpent.all (fun e => e.1 / 40 % 8 != d - 32)

/-- What R425 asks of a core die. -/
def Chip.coreMaySleep (c : Chip) (k : Nat) : Bool :=
  k != c.mgmtCore && (List.range 32).all (fun p => !bitOf (c.get (R.PRT_CSPRAY p) F.PRT_CSPRAY_MASK) k)
    && c.spillOcc k == 0 && (c.objsOf k).all (fun o => !c.objBusy o.1)

/-- The entry of a die into SLEEP completes. -/
def Chip.sleepDone (c : Chip) (d : Nat) : Chip :=
  ((c.setDieSt d 1).setAsleep (d * 16 + 8)).powerNotice d 0 3 0 (powerDetail 1 3 0 0 0 0 0 0)

def Chip.sleepCheck (c : Chip) (d : Nat) : Chip :=
  if c.dieSt d = 3 ∧ !(d < 32 && c.drowsyOut (dieLanes d)) then c.sleepDone d else c

/-- SLEEP_ENTRY: every block of the die has been in DEEP_RECESS for SLEEP_IDLE ms. -/
def Chip.sleepEntry (c : Chip) (d : Nat) : Chip :=
  if c.dieSt d = 3 then c.sleepCheck d
  else if !c.dieRuns d ∨ !c.planeRuns d ∨ c.isolated d ∨ !c.flag (R.PWR_POL_MAX d) F.PWR_POL_MAX_DIE_MAX
    ∨ !((List.range (blocksOf d)).all (fun b => c.blkSt d b == 2)) ∨ !c.creditsHome d
    ∨ (d < 32 ∧ !((dieLanes d).all c.laneRests)) ∨ (32 ≤ d ∧ !c.coreMaySleep (d - 32)) then c
  else
    let ls := if d < 32 then (dieLanes d).filter (fun l => c.laneState l == LS.drowsy) else []
    (ls.foldl (fun s l => s.sendDrowsy l 3) (c.setDieSt d 3)).sleepCheck d

/-- TILE_IDLE: a tile without work for 16 core cycles stops its clock (`idle`), or work for it starts the clock again. -/
def Chip.tileIdle (c : Chip) (d t : Nat) (idle : Bool) : Chip :=
  if c.tileFb d t then c else c.modPw (fun p => { p with idle := SMap.set (fun _ => false) p.idle (d * 128 + t) idle })

/-! ### Re-admission (R71) -/

/-- Is the shadow of a block fresh: STALE clear and its tag equal to CFG_GEN? -/
def Chip.shadowFresh (c : Chip) (d b : Nat) : Bool :=
  SMap.get (fun _ => false) c.pw.shadow (d * 8 + b) && !c.flag (R.CFG_BLK_TAG d b) F.CFG_BLK_TAG_STALE
    && c.get (R.CFG_BLK_TAG d b) F.CFG_BLK_TAG_TAG == (c.rd (R.CFG_GEN d)).toNat % 2 ^ 31

/-- The credit counters of a block's lanes are zeroed and re-initialised on the lanes that carry blocks (R111). -/
def Chip.zeroCredits (c : Chip) (d b : Nat) : Chip :=
  if 32 ≤ d then c
  else
    (blockLanes d b).foldl (fun s l =>
      let s1 := s.modLane l (fun x => { x with sent := [], txLimit := [], received := [], released := [], advertised := [],
                                               unadvertised := [], txInit := false, rxInit := false })
      if s1.laneState l = LS.drowsy ∧ s1.get (lstat l) F.PRT_LSTAT_DEPTH ≠ 3 ∨ receives (s1.laneState l) then s1.creditInit l else s1) c

/-- The reload of a stale block begins. -/
def Chip.reloadStart (c : Chip) (d b : Nat) : Chip :=
  (((c.discardFlows d b).zeroCredits d b).incSat (R.CFG_STALE_RELOADS d) F.CFG_STALE_RELOADS_COUNT 1).modPw
    (fun p => { p with reload := SMap.set (fun _ => none) p.reload (d * 8 + b) (some (c.rd (R.CFG_GEN d)).toNat) })

/-! ### Wake quizzes (R381) -/

/-- The units of a block or cluster a wake or a boot quizzes. -/
def unitsOfBlock (d b : Nat) (lanes : List Nat) : List QUnit :=
  if d < 32 then lanes.map (fun l => ⟨1, d, b, l % 64⟩) ++ [⟨2, d, b, 0⟩, ⟨3, d, b, 0⟩]
  else (List.range 12).map (fun g => ⟨5, d, b, 64 + 12 * b + g⟩)
    ++ [⟨6, d, b, 0⟩, ⟨6, d, b, 1⟩, ⟨7, d, b, 2 * b⟩, ⟨7, d, b, 2 * b + 1⟩, ⟨8, d, b, 0⟩]

/-- Give the wake quizzes of a block to the ledger. -/
def Chip.wakeQuizzes (c : Chip) (d b : Nat) : Chip :=
  (unitsOfBlock d b ((blockLanes d b).filter (fun l => c.role l == 1 || c.role l == 2))).foldl
    (fun s u => s.ledgerRequest d (.quiz u 1)) c

/-! ### Wakes -/

/-- A block runs again: its lanes wake; a DEEP_RECESS wake is counted, reported and quizzed. -/
def Chip.blockRuns (c : Chip) (d b : Nat) (stale : Bool) : Chip :=
  let k := d * 8 + b
  let w := SMap.get (fun _ => none) c.pw.wake k
  let src := (w.map (·.source)).getD 0
  let deep := (w.map (·.from_)).getD 1 == 2
  let c1 := ((c.setBlkSt d b 0).modPw (fun p =>
    { p with wake := SMap.set (fun _ => none) p.wake k none, reload := SMap.set (fun _ => none) p.reload k none })).wakeLanes d b
  if !deep then c1
  else
    let c2 := (c1.incWrap (R.PWR_WAKE_CNT d) F.PWR_WAKE_CNT_WAKES 1).pmcEvent d 0x060 (some b) none 1
    (c2.powerNotice d 0 2 b (powerDetail (if stale then 3 else 2) 0 2 src 0 0 0 (c1.asleepUs (d * 16 + b)))).wakeQuizzes d b

/-- Has block b been woken from a given state? -/
def Chip.wokenFrom (c : Chip) (d b st : Nat) : Bool :=
  c.blkSt d b == 4 && ((SMap.get (fun _ => none) c.pw.wake (d * 8 + b)).map (·.from_)) == some st

/-- RECESS_WAKE: the 40 ns of a wake from RECESS have passed. -/
def Chip.recessWake (c : Chip) (d b : Nat) : Chip := if c.wokenFrom d b 1 then c.blockRuns d b false else c

/-- BLOCK_WAKE: power-up from DEEP_RECESS ends; the block is re-admitted from its shadow, or its reload begins. -/
def Chip.blockWake (c : Chip) (d b : Nat) : Chip :=
  if !c.wokenFrom d b 2 ∨ (SMap.get (fun _ => none) c.pw.reload (d * 8 + b)).isSome then c
  else if c.shadowFresh d b then c.blockRuns d b false
  else c.reloadStart d b

/-- A block behind a firebreak is back in service (R25): its bit clears and its lanes leave DARK; the die's own firebreak ends with
the last of its blocks. -/
def Chip.readmitted (c : Chip) (d b : Nat) : Chip :=
  let c1 := (c.setBlockFb d b false).modPw (fun p =>
    { p with readmit := SMap.set (fun _ => false) p.readmit (d * 8 + b) false, reload := SMap.set (fun _ => none) p.reload (d * 8 + b) none })
  let left := (List.range (blocksOf d)).any (fun x => SMap.get (fun _ => false) c1.pw.readmit (d * 8 + x))
  let c2 := if c1.isolated d ∧ !left then (c1.set (R.FLT_FB_STATE d) F.FLT_FB_STATE_REGION_ISO 0).showSprayAll else c1
  if 32 ≤ d then c2
  else
    (blockLanes d b).foldl (fun s l =>
      if (s.lane l).inReset then (s.modLane l (fun x => { x with inReset := false })).enterTuning l none else s) c2

/-- BLOCK_READMIT: a block back from a BLOCK or REGION reset after a firebreak is re-admitted from its shadow, or reloaded first. -/
def Chip.blockReadmit (c : Chip) (d b : Nat) : Chip :=
  if !SMap.get (fun _ => false) c.pw.readmit (d * 8 + b) ∨ (SMap.get (fun _ => none) c.pw.reload (d * 8 + b)).isSome then c
  else if c.shadowFresh d b then c.readmitted d b
  else c.reloadStart d b

/-- STALE_RELOAD_DONE: the reload from the region master is complete; a commit applied meanwhile starts it again (R428). -/
def Chip.staleReloadDone (c : Chip) (d b : Nat) : Chip :=
  let g := (c.rd (R.CFG_GEN d)).toNat
  match SMap.get (fun _ => none) c.pw.reload (d * 8 + b) with
  | none => c
  | some v =>
    if v ≠ g then c.modPw (fun p => { p with reload := SMap.set (fun _ => none) p.reload (d * 8 + b) (some g) })
    else if SMap.get (fun _ => false) c.pw.readmit (d * 8 + b) then c.readmitted d b
    else if c.blkSt d b = 4 then c.blockRuns d b true
    else c

/-- DIE_WAKE: a sleeping die is running after its wake; the blocks its source needs wake next. -/
def Chip.dieWake (c : Chip) (d : Nat) : Chip :=
  if c.dieSt d ≠ 4 then c
  else match SMap.get (fun _ => none) c.pw.dieWake d with
    | none => c.setDieSt d 0
    | some w =>
      let c1 := ((c.setDieSt d 0).modPw (fun p => { p with dieWake := SMap.set (fun _ => none) p.dieWake d none })).incWrap
        (R.PWR_WAKE_CNT d) F.PWR_WAKE_CNT_WAKES 1
      let c2 := c1.powerNotice d 0 3 0 (powerDetail 2 0 3 w.source 0 0 0 (c.asleepUs (d * 16 + 8)))
      (setBitsOf (blocksOf d) w.mask).foldl (fun s b => s.wakeBlock d b w.source) c2

/-- WAKE_BURST_DETECT: the canopy detects a wake burst on a lane at depth 3 (R121). -/
def Chip.wakeBurst (c : Chip) (l : Nat) : Chip :=
  if c.laneState l = LS.drowsy ∧ c.get (lstat l) F.PRT_LSTAT_DEPTH = 3 then
    if c.dieSt (laneDie l) = 0 then c.wakeBlock (laneDie l) (laneBlock l) 4 else c.wakeDie (laneDie l) (2 ^ laneBlock l) 4
  else c

end Sys2Proof.Machine
end

