-- ==== Sys2Proof/Machine/LinkControl.lean ====
section
/-!
DEFINITION. The receive side of a lane: FEC blocks and block lock (R96 to R100, R138), and link control messages (R101 to R122, R511).
Meanings: FEC_BLOCK_RECEIVE, FEC_WINDOW_END, BLOCK_LOCK_ACQUIRE, BLOCK_LOCK_LOSS, HELLO, CREDIT_INIT, CREDIT_INIT_ACK, CREDIT,
CREDIT_SYNC, SYNC_REQ, DRAIN, DRAIN_ACK, RESUME, DROWSY, DROWSY_ACK, WAKE_REQ, AWAKE, RETUNE, RETUNE_ACK, RESERVED_LC_OP,
LC_REPEAT_TIMEOUT, CREDIT_ADVERTISE_TIMER, CREDIT_SYNC_TIMER.
-/

namespace Sys2Proof.Machine

/-- Does lane l carry FEC blocks in both directions: its die's data plane runs, it has a role, and it is in TRAINING, in service, or
DROWSY above depth 3? -/
def Chip.lcOpen (c : Chip) (l : Nat) : Bool :=
  let d := laneDie l
  let st := c.laneState l
  c.planeRuns d && !c.isolated d && (c.role l == 1 || c.role l == 2)
    && (st == LS.training || receives st || (st == LS.drowsy && c.get (lstat l) F.PRT_LSTAT_DEPTH != 3))

/-! ### What follows a lane's change of state -/

/-- The lane has left TRAINING: a move, a clearing, and what waited for DRAINED go on. -/
def Chip.leftTraining (c : Chip) (l : Nat) : Chip :=
  let c1 := (c.moveTrained l).clrReturnCheck l
  if c1.laneState l = LS.drained then c1.afterDrained l else c1

/-- A drain may have completed. -/
def Chip.drainStep (c : Chip) (l : Nat) : Chip :=
  let c1 := c.drainCheck l
  if c.laneState l = LS.draining ∧ c1.laneState l = LS.drained then c1.afterDrained l else c1

/-- The lane enters ACTIVE by a completed RESUME exchange; one that has left its applied spray set meanwhile drains again. -/
def Chip.resumed (c : Chip) (l : Nat) : Chip :=
  let st := c.laneState l
  if st = LS.training ∨ st = LS.drained then
    let c1 := (c.modLane l (fun x => { x with wait := false })).laneTo l LS.active (if st = LS.training then 1 else 7)
    let c2 := if st = LS.training then c1.leftTraining l else c1
    if c2.inSpray l then c2 else c2.startDrain l 1 3
  else c.modLane l (fun x => { x with wait := false })

/-- What a lane's loss of the link does to a clearing, a retune and an entry into a low-power state. -/
def Chip.linkLost (c : Chip) (l : Nat) : Chip :=
  ((((c.clrLockLost l).clrPortCheck l).retuneLost l).entryCheck (laneDie l) (laneBlock l)).sleepCheck (laneDie l)

/-! ### FEC blocks (R96 to R100) -/

/-- A LANE_TAG other than the partner's lane for 4 blocks in a row is a wrong lock of the drop ring (R138). -/
def Chip.tagCheck (c : Chip) (l tag : Nat) : Chip :=
  let a := R.PRT_LPARTNER (laneDie l) (laneLocal l)
  if !c.flag a F.PRT_LPARTNER_VALID ∨ tag % 64 = c.get a F.PRT_LPARTNER_LANE then c.modLane l (fun x => { x with tagMiss := 0 })
  else if 3 ≤ (c.lane l).tagMiss then
    (c.modLane l (fun x => { x with tagMiss := 0 })).wrongLock (laneDie l) (laneBlock l) (8 + l % 8)
  else c.modLane l (fun x => { x with tagMiss := x.tagMiss + 1 })

/-- An uncorrectable block: all slots discarded, counted, and SYNC_REQ sent (R98). -/
def Chip.fecBad (c : Chip) (l : Nat) : Chip :=
  let a := R.PRT_FEC_UNCORR (laneDie l) (laneLocal l)
  (((c.incSat a F.PRT_FEC_UNCORR_TOTAL 1).incSat a F.PRT_FEC_UNCORR_WINDOW 1).pmcEvent (laneDie l) 0x013 (some (laneLocal l)) none
    1).lcRequest l 0x06 []

/-- FEC_BLOCK_RECEIVE: the decoder releases block `no` with its LANE_TAG and 32 slots; `ok` tells that both codewords decoded,
`corrected` how many symbols were corrected. Link control cells of the block act by their own rows. -/
def Chip.fecBlock (c : Chip) (l no : Nat) (ok : Bool) (corrected tag : Nat) (slots : List (Option Cell)) : Chip :=
  let d := laneDie l
  let x := c.lane l
  if !c.lcOpen l ∨ !x.lock then c
  else
    let wanted : Nat := match x.blockNo with
      | some p => (p + 1) % 2 ^ 16
      | none => no % 2 ^ 16
    let c1 := c.modLane l (fun y => { y with blockNo := some (if ok then no % 2 ^ 16 else wanted) })
    if !ok ∨ no % 2 ^ 16 ≠ wanted then c1.fecBad l
    else
      let c2 := (c1.incSat (R.PRT_FEC_CORR d (laneLocal l)) F.PRT_FEC_CORR_COUNT corrected).pmcEvent d 0x012 (some (laneLocal l)) none
        corrected
      let cells := (slots.filterMap id).filter (fun v => !v.isLc)
      (c2.modLane l (fun y => { y with rx := y.rx ++ cells })).tagCheck l tag

/-- FEC_WINDOW_END: the 1 ms window of die d ends: a lane that counted more than LIMIT uncorrectable blocks gets a tile firebreak. -/
def Chip.fecWindowEnd (c : Chip) (d : Nat) : Chip :=
  (dieLanes d).foldl (fun s l =>
    let a := R.PRT_FEC_UNCORR d (laneLocal l)
    let n := s.get a F.PRT_FEC_UNCORR_WINDOW
    let s1 := s.set a F.PRT_FEC_UNCORR_WINDOW 0
    if s.get (R.PRT_FEC_LIMIT d) F.PRT_FEC_LIMIT_LIMIT < n then s1.fbDue ⟨1, d, laneLocal l, 0x01⟩ else s1) c

/-- BLOCK_LOCK_ACQUIRE. -/
def Chip.lockAcquire (c : Chip) (l : Nat) : Chip :=
  if c.lcOpen l then c.modLane l (fun x => { x with lock := true, blockNo := none }) else c

/-- BLOCK_LOCK_LOSS (R100): a trained lane returns to TRAINING at T3, a DROWSY one once its block has woken; requests of a lane in
TRAINING are void. -/
def Chip.blockLockLoss (c : Chip) (l : Nat) : Chip :=
  let st := c.laneState l
  if !c.lcOpen l ∨ !(c.lane l).lock then c
  else if receives st then (c.lockLost l).linkLost l
  else
    let c1 := c.modLane l (fun x => { x with lock := false, blockNo := none, reqs := [] })
    if st ≠ LS.drowsy then c1
    else if c1.blkSt (laneDie l) (laneBlock l) = 0 then (c1.lockLost l).modLane l (fun x => { x with mine := false, wakeSeq := none })
    else c1.wakeBlock (laneDie l) (laneBlock l) 3

/-! ### HELLO (R117) -/

/-- The body of the M40's HELLO: switch ID, ROLE, port WIDTH, contract level 1. -/
def Chip.helloBody (c : Chip) (l : Nat) : List Nat :=
  leBytes 3 (c.switchId (laneDie l)) ++ [c.role l, c.widthCode l, 1]

/-- The HELLO check: the role, and the switch ID of the port's other ACTIVE lanes. -/
def Chip.helloOk (c : Chip) (l : Nat) : Bool :=
  let d := laneDie l
  let sid (m : Nat) : Nat := c.get (R.PRT_LPARTNER d (laneLocal m)) F.PRT_LPARTNER_SWITCH_ID
  c.get (R.PRT_LPARTNER d (laneLocal l)) F.PRT_LPARTNER_ROLE == c.role l && (c.portLanes d (c.portOf l)).all (fun m =>
    m == l || c.laneState m != LS.active || sid m == sid l)

/-- A lane in T4 whose check fails is held there, with cause 0x0B. -/
def Chip.helloCheck (c : Chip) (l : Nat) : Chip :=
  if c.helloOk l then c.modLane l (fun x => { x with held := false })
  else (c.modLane l (fun x => { x with held := true })).laneNotice l LS.training LS.training 0x0B

/-- HELLO: the partner's switch ID, lane and role are recorded, and checked while the lane trains. A HELLO that does not answer the
M40's own is answered. -/
def Chip.hello (c : Chip) (l seq sid plane prole : Nat) : Chip :=
  let a := R.PRT_LPARTNER (laneDie l) (laneLocal l)
  if !c.lcOpen l then c
  else
    let c1 := (((c.set a F.PRT_LPARTNER_SWITCH_ID sid).set a F.PRT_LPARTNER_LANE plane).set a F.PRT_LPARTNER_ROLE prole).set a
      F.PRT_LPARTNER_VALID 1
    let c2 := if (c.lane l).waits 0x01 seq then c1.lcAnswered l 0x01 seq else c1.lcSend l 0x01 seq (c1.helloBody l)
    if c2.laneState l = LS.training ∧ c2.get (lstat l) F.PRT_LSTAT_PHASE = 4 then c2.helloCheck l else c2

/-! ### Credits (R107 to R111) -/

/-- CREDIT_INIT: SENT_c is zeroed and LIMIT_c taken, once; every copy is answered. -/
def Chip.creditInitRx (c : Chip) (l seq : Nat) (limits : List Nat) : Chip :=
  if !c.lcOpen l then c
  else
    let c1 := if (c.lane l).acted? 0x02 seq then c
      else (c.lcActed l 0x02 seq).modLane l (fun x =>
        { x with sent := [], txLimit := (List.range 8).foldl (fun m k => cntSet m k (nth limits k)) [], txInit := true })
    c1.lcSend l 0x03 seq []

/-- CREDIT_INIT_ACK. -/
def Chip.creditInitAck (c : Chip) (l seq : Nat) : Chip :=
  if c.lcOpen l ∧ (c.lane l).waits 0x02 seq then (c.lcAnswered l 0x02 seq).modLane l (fun x => { x with rxInit := true }) else c

/-- A limit never moves backwards (R109). -/
def limitForward (old new : Nat) : Nat := if (new + 2 ^ 24 - old) % 2 ^ 24 < 2 ^ 23 then new % 2 ^ 24 else old

/-- CREDIT: the limits of the classes of its mask, and the mask. -/
def Chip.creditRx (c : Chip) (l mask : Nat) (limits : List Nat) : Chip :=
  if !c.lcOpen l then c
  else c.modLane l (fun x =>
    { x with txMask := mask, txLimit := (setBitsOf 8 mask).foldl (fun m k => cntSet m k (limitForward (cnt m k) (nth limits k))) x.txLimit })

/-- The loss of one class that a CREDIT_SYNC shows (R110). -/
def Chip.syncClass (c : Chip) (l k v : Nat) : Chip :=
  let lost := (v + 2 ^ 24 - cnt (c.lane l).received k) % 2 ^ 24
  if lost = 0 then c
  else
    let c1 := c.modLane l (fun x => { x with received := cntSet x.received k (cnt x.received k + lost) })
    (c1.incSat (R.PRT_CR_LOST (laneDie l) (laneLocal l)) F.PRT_CR_LOST_LOST lost).release l k lost

/-- CREDIT_SYNC: lost cells are added to RECEIVED_c and RELEASED_c; a SYNC_REQ is answered, and a drain that has been acknowledged goes on. -/
def Chip.creditSync (c : Chip) (l seq mask : Nat) (sents : List Nat) : Chip :=
  if !c.lcOpen l then c
  else
    let c1 := (setBitsOf 8 mask).foldl (fun s k => s.syncClass l k (nth sents k)) (c.lcAnswered l 0x06 seq)
    (c1.modLane l (fun x => { x with drain := x.drain.map (fun v => { v with synced := v.acked }) })).drainStep l

/-- SYNC_REQ: a CREDIT_SYNC goes out at once, with its LC_SEQ. -/
def Chip.syncReq (c : Chip) (l seq : Nat) : Chip :=
  if !c.lcOpen l then c
  else (c.lcSend l 0x05 seq (creditBody (c.losslessMask (laneDie l)) ((List.range 8).map (cnt (c.lane l).sent)))).modLane l
    (fun x => { x with syncDue := false })

/-- CREDIT_ADVERTISE_TIMER: 320 ns after an advance not yet sent. -/
def Chip.creditTimer (c : Chip) (l : Nat) : Chip :=
  let due := (List.range 8).any (fun k => c.lossless (laneDie l) k && decide (1 ≤ c.creditAdvance l k) && decide (c.creditAdvance l k < 2 ^ 23))
  if c.lcOpen l ∧ due then c.sendCredit l else c

/-- CREDIT_SYNC_TIMER: 2 µs have passed and a lossless cell has been sent since the last CREDIT_SYNC. -/
def Chip.syncTimer (c : Chip) (l : Nat) : Chip := if c.lcOpen l ∧ (c.lane l).syncDue then c.sendCreditSync l else c

/-! ### Drains (R119, R106) -/

/-- DRAIN: an ACTIVE lane goes to DRAINING with cause 0x04; its staged cells have gone back, so DRAIN_ACK and CREDIT_SYNC follow at
once. A DROWSY of the M40 that it crosses is dropped. -/
def Chip.drainRx (c : Chip) (l seq : Nat) : Chip :=
  if !c.lcOpen l then c
  else if c.laneState l ≠ LS.active ∨ (c.lane l).acted? 0x07 seq then (c.lcActed l 0x07 seq).lcSend l 0x08 seq []
  else
    let c1 := (c.lcActed l 0x07 seq).modLane l (fun x => { x with reqs := x.reqs.filter (fun r => r.op != 0x0A) })
    let c2 := (c1.laneTo l LS.draining 4).modLane l (fun x => { x with drain := some ⟨0, true, false⟩ })
    ((((c2.lcSend l 0x08 seq []).sendCreditSync l).clrPortCheck l).entryCheck (laneDie l) (laneBlock l))

/-- DRAIN_ACK: the answer to a DRAIN, or the refusal of a RESUME. -/
def Chip.drainAck (c : Chip) (l seq : Nat) : Chip :=
  if !c.lcOpen l then c
  else if (c.lane l).waits 0x07 seq then
    (((c.lcAnswered l 0x07 seq).modLane l (fun x => { x with drain := x.drain.map (fun v => { v with acked := true }) })).sendCreditSync
      l).drainStep l
  else if (c.lane l).waits 0x09 seq then
    let c1 := (c.lcAnswered l 0x09 seq).modLane l (fun x => { x with wait := false })
    if c1.laneState l = LS.training then (c1.laneTo l LS.drained 1).leftTraining l else c1
  else c

/-! ### RESUME (R511) -/

/-- RESUME: the answer to the M40's own, or a request, answered RESUME when the lane may resume and DRAIN_ACK when it may not. A lane
that still trains gives no answer yet. -/
def Chip.resumeRx (c : Chip) (l seq : Nat) : Chip :=
  let st := c.laneState l
  if !c.lcOpen l then c
  else if (c.lane l).waits 0x09 seq then (c.lcAnswered l 0x09 seq).resumed l
  else if st = LS.training ∧ !(c.lane l).wait then c
  else if c.mayResume l ∧ (st = LS.active ∨ st = LS.drained ∨ st = LS.training) then (c.lcSend l 0x09 seq []).resumed l
  else c.lcSend l 0x08 seq []

/-! ### Drowsy and wake (R120, R121) -/

/-- DROWSY: the partner takes the lane drowsy; acknowledged after the last cell. A drain of the M40 wins. -/
def Chip.drowsyRx (c : Chip) (l seq depth : Nat) : Chip :=
  let st := c.laneState l
  if !c.lcOpen l ∨ (c.lane l).waitsOp 0x07 ∨ (st ≠ LS.active ∧ st ≠ LS.drowsy) ∨ depth = 0 ∨ 3 < depth then c
  else
    let c1 := if (c.lane l).acted? 0x0A seq then c
      else
        let s := (c.lcActed l 0x0A seq).laneMove l LS.drowsy
        if st = LS.active then (s.set (lstat l) F.PRT_LSTAT_DEPTH depth).modLane l (fun x => { x with mine := false })
        else s.set (lstat l) F.PRT_LSTAT_DEPTH (max depth (c.get (lstat l) F.PRT_LSTAT_DEPTH))
    c1.lcSend l 0x0B seq []

/-- DROWSY_ACK: the handshake is complete. One whose entry has been given up meanwhile is answered with AWAKE. -/
def Chip.drowsyAck (c : Chip) (l seq : Nat) : Chip :=
  if !c.lcOpen l then c
  else match (c.lane l).reqs.find? (fun r => r.op == 0x0A && r.seq == seq) with
    | none => if c.laneState l = LS.active then c.lcSend l 0x0D (c.lane l).lcSeq [] else c
    | some r =>
      let c1 := c.lcAnswered l 0x0A seq
      let c2 := ((c1.laneMove l LS.drowsy).set (lstat l) F.PRT_LSTAT_DEPTH (nth r.body 0)).modLane l (fun x => { x with mine := true })
      (c2.entryCheck (laneDie l) (laneBlock l)).sleepCheck (laneDie l)

/-- WAKE_REQ: the block wakes and AWAKE follows; one that crosses a DROWSY cancels the entry (R106). -/
def Chip.wakeReq (c : Chip) (l seq : Nat) : Chip :=
  let d := laneDie l
  let b := laneBlock l
  if !c.lcOpen l then c
  else if c.laneState l = LS.drowsy then
    let c1 := c.modLane l (fun x => { x with wakeSeq := some seq })
    if c1.blkSt d b = 0 then c1.sendAwake l
    else (c1.modLane l (fun x => { x with mine := true })).wakeBlock d b 3
  else if c.laneState l = LS.active then
    (if (c.lane l).waitsOp 0x0A then c.abortEntry d b else c).lcSend l 0x0D seq []
  else c

/-- AWAKE: the lane's own WAKE_REQ is answered, or the partner has ended its DROWSY. -/
def Chip.awakeRx (c : Chip) (l seq : Nat) : Chip :=
  if !c.lcOpen l then c
  else
    let c1 := c.lcAnswered l 0x0C seq
    if c1.laneState l = LS.drowsy ∧ !(c1.lane l).mine then c1.laneAwake l else c1

/-! ### RETUNE (R106, R122) -/

/-- RETUNE from the leaf: CROSSED when it meets one of the M40, NOT_DRAINED on a lane that is not DRAINED; only the M40 begins a
retune (R103), so another is not answered (DEDUCED, log 23). -/
def Chip.retuneRx (c : Chip) (l seq : Nat) : Chip :=
  if !c.lcOpen l then c
  else if (c.lane l).waitsOp 0x0E then c.lcSend l 0x0F seq [3]
  else if c.laneState l ≠ LS.drained then c.lcSend l 0x0F seq [1]
  else c

/-- RETUNE_ACK. -/
def Chip.retuneAck (c : Chip) (l seq status : Nat) : Chip :=
  if c.lcOpen l ∧ (c.lane l).waits 0x0E seq then
    if status = 0 then (c.lcAnswered l 0x0E seq).retuneAccept l else (c.lcAnswered l 0x0E seq).retuneRefused l status
  else c

/-! ### Reserved ops, repeats (R103, R105) -/

/-- The ops of R103. -/
def knownOp (op : Nat) : Bool := (decide (1 ≤ op) && decide (op ≤ 0x11)) || (decide (0x18 ≤ op) && decide (op ≤ 0x1B))
  || (decide (0x20 ≤ op) && decide (op ≤ 0x2F))

/-- RESERVED_LC_OP. -/
def Chip.reservedOp (c : Chip) (l op : Nat) : Chip :=
  if c.lcOpen l ∧ !knownOp op then c.incSat (R.PRT_RX_ERR (laneDie l) (laneLocal l)) F.PRT_RX_ERR_HDR_ERR 1 else c

/-- What an unanswered request means beside the full training (R105, R156, R179, R434). -/
def Chip.lcFailure (c : Chip) (l : Nat) (q : LcReq) : Chip :=
  let d := laneDie l
  let b := laneBlock l
  if q.op = 0x07 then c
  else
    let c1 := if q.op = 0x0A then (if c.dieSt d = 3 then c.wakeDie d 0 0 else if c.blkSt d b = 3 then c.abortEntry d b else c)
      else if q.op = 0x18 ∨ q.op = 0x19 then c.clearLost l q else c
    ((c1.retrain l 0x0C).modLane l (fun x => { x with mine := false, wakeSeq := none })).linkLost l

/-- LC_REPEAT_TIMEOUT: 10 µs without an answer: repeated with the same LC_SEQ up to 8 times, then a failure. An unanswered DRAIN runs
on to its own limit. -/
def Chip.lcRepeat (c : Chip) (l op seq : Nat) : Chip :=
  let a := R.PRT_LC_STAT (laneDie l) (laneLocal l)
  if !c.lcOpen l then c
  else match (c.lane l).reqs.find? (fun r => r.op == op && r.seq == seq) with
    | none => c
    | some q =>
      if q.repeats < 8 then
        ((c.modLane l (fun x => { x with reqs := x.reqs.map (fun r => if r.op = op ∧ r.seq = seq then { r with repeats := r.repeats + 1 } else r) })).incSat
          a F.PRT_LC_STAT_RETRIES 1).lcSend l op seq q.body
      else ((c.incSat a F.PRT_LC_STAT_FAILURES 1).lcAnswered l op seq).lcFailure l q

end Sys2Proof.Machine
end

