-- ==== Sys2Proof/Machine/Training.lean ====
section
/-!
DEFINITION. Training (R116 to R118) and the timers of a lane. Meanings: TRAINING_PHASE_DONE, TRAINING_PHASE_TIMEOUT, HELLO_RETRY,
TRAIN_RETRY, DRAIN_TIMEOUT.
-/

namespace Sys2Proof.Machine

def Chip.phase (c : Chip) (l : Nat) : Nat := c.get (lstat l) F.PRT_LSTAT_PHASE
def Chip.setPhase (c : Chip) (l v : Nat) : Chip := c.set (lstat l) F.PRT_LSTAT_PHASE v

/-- T5 is complete (R115, R121, R511): a lane woken from SLEEP sends AWAKE, a lane of ROLE 2 is ACTIVE, a lane that may resume sends
RESUME, any other is DRAINED. -/
def Chip.trained (c : Chip) (l : Nat) : Chip :=
  let c1 := c.modLane l (fun x => { x with fails := 0 })
  if (c.lane l).awaking then c1.sendAwake l
  else if c.role l = 2 then (c1.laneTo l LS.active 1).leftTraining l
  else if c.mayResume l then (c1.modLane l (fun x => { x with wait := true })).sendResume l
  else (c1.laneTo l LS.drained 1).leftTraining l

/-- TRAINING_PHASE_DONE: T3 ends with block lock, T4 with the partner's HELLO checked and the M40's own answered, T5 with both
directions' credits initialised. -/
def Chip.phaseDone (c : Chip) (l : Nat) : Chip :=
  let x := c.lane l
  let p := c.phase l
  if !c.lcOpen l ∨ c.laneState l ≠ LS.training ∨ x.held ∨ x.wait then c
  else if p = 1 then c.setPhase l 2
  else if p = 2 then c.setPhase l 3
  else if p = 3 then (if x.lock then (c.setPhase l 4).lcRequest l 0x01 (c.helloBody l) else c)
  else if p = 4 then
    if !c.flag (R.PRT_LPARTNER (laneDie l) (laneLocal l)) F.PRT_LPARTNER_VALID ∨ x.waitsOp 0x01 then c
    else if c.helloOk l then (c.setPhase l 5).creditInit l else c.helloCheck l
  else if p = 5 ∧ x.txInit ∧ x.rxInit then c.trained l
  else c

/-- TRAINING_PHASE_TIMEOUT: training starts again from T1 as a full training; the third failure in a row, and every 16 further ones,
post cause 0x0A, and from then on the lane waits for TRAIN_RETRY. A lane held in T4, or waiting for the answer to RESUME, runs past
no limit. -/
def Chip.phaseTimeout (c : Chip) (l : Nat) : Chip :=
  let x := c.lane l
  if !c.lcOpen l ∨ c.laneState l ≠ LS.training ∨ x.held ∨ x.wait then c
  else
    let n := x.fails + 1
    let c1 := (c.trainAt l 1 false).modLane l (fun y => { y with fails := n, held := decide (3 ≤ n) })
    if 3 ≤ n ∧ (n - 3) % 16 = 0 then c1.laneNotice l LS.training LS.training 0x0A else c1

/-- HELLO_RETRY: a lane held in T4 repeats the HELLO exchange. -/
def Chip.helloRetry (c : Chip) (l : Nat) : Chip :=
  if c.lcOpen l ∧ c.laneState l = LS.training ∧ c.phase l = 4 ∧ (c.lane l).held then
    (c.modLane l (fun x => { x with reqs := x.reqs.filter (fun r => r.op != 0x01) })).lcRequest l 0x01 (c.helloBody l)
  else c

/-- TRAIN_RETRY: a lane that waits after repeated failures tries again. -/
def Chip.trainRetry (c : Chip) (l : Nat) : Chip :=
  if c.lcOpen l ∧ c.laneState l = LS.training ∧ c.phase l = 1 then c.modLane l (fun x => { x with held := false }) else c

/-- DRAIN_TIMEOUT: a drain running past 100 µs ends in DRAINED with cause 0x06. -/
def Chip.drainTimeout (c : Chip) (l : Nat) : Chip :=
  if c.laneState l = LS.draining ∧ c.planeRuns (laneDie l) then
    ((c.laneTo l LS.drained 6).modLane l (fun x => { x with drain := none, reqs := x.reqs.filter (fun r => r.op != 0x07) })).afterDrained l
  else c

end Sys2Proof.Machine
end

