-- ==== Sys2Proof/Machine/Quizzes.lean ====
section
/-!
DEFINITION. Quizzes (R379 to R383, R390 to R393) and quiz packs (R387, R389). Meanings: QUIZ_DUE, QUIZ_REQUEST, QUIZ_END,
PROVISIONAL_RERUN.
-/

namespace Sys2Proof.Machine

/-- Does a unit exist on its die (R384)? -/
def QUnit.exists_ (u : QUnit) : Bool :=
  if u.die < 32 then
    (u.ty == 1 && decide (u.tile < 64) && u.block == u.tile / 8) || ((u.ty == 2 || u.ty == 3) && decide (u.block < 8))
  else
    decide (u.die < 40) && ((u.ty == 4 && decide (u.tile < 64)) || (decide (u.block < 4) &&
      ((u.ty == 5 && decide (64 + 12 * u.block ≤ u.tile) && decide (u.tile < 76 + 12 * u.block)) || (u.ty == 6 && decide (u.tile < 2))
        || (u.ty == 7 && decide (u.tile / 2 = u.block)) || u.ty == 8)))

/-- QUIZ_DUE: a unit's active time has reached PERIOD. A unit whose quiz stands in the ledger already is not queued twice. -/
def Chip.quizDue (c : Chip) (u : QUnit) : Chip :=
  if !u.exists_ ∨ (c.hasEntry u.die (isQuizOf u)).isSome then c else c.ledgerRequest u.die (.quiz u 0)

/-- QUIZ_REQUEST: an applied FLT_QUIZ_REQ OP 1. -/
def Chip.quizRequest (c : Chip) (d : Nat) : Chip :=
  let a := R.FLT_QUIZ_REQ d
  if c.get a F.FLT_QUIZ_REQ_OP ≠ 1 then c
  else
    (c.setBoth a F.FLT_QUIZ_REQ_OP 0).ledgerRequest d
      (.quiz ⟨c.get a F.FLT_QUIZ_REQ_UNIT, d, c.get a F.FLT_QUIZ_REQ_BLOCK, c.get a F.FLT_QUIZ_REQ_TILE⟩ 3)

/-- What one quiz ID gave on a unit: bits [63:0] of the SHAKE256 digests of the known answer and of the output. -/
structure QuizRun where
  id : Nat
  answer : Nat
  output : Nat
  deriving DecidableEq, Repr

/-- A quiz ID passes when its output's digest equals the known one (R388). -/
def QuizRun.ok (r : QuizRun) : Bool := r.answer == r.output

/-- The version of the pack that holds a quiz; 0 for a built-in one. -/
def Chip.quizContext (c : Chip) (id : Nat) : Nat := if id < 0x400 then 0 else (c.integ.pack.map (·.version)).getD 0

/-- Has a pack quiz run on a unit before, so that a further run is a normal one (R390)? -/
def Chip.ranBefore (c : Chip) (id : Nat) (u : QUnit) : Bool := decide (id < 0x400) || decide ((id, u) ∈ c.integ.ran)

/-- The quizzes that count: those not suspended. -/
def Chip.counted (c : Chip) (runs : List QuizRun) : List QuizRun := runs.filter (fun r => !(r.id ∈ c.integ.suspended))

/-- The first failing run that counts as normal. A provisional failure counts as normal when a built-in quiz of the class fails too. -/
def Chip.normalFail (c : Chip) (u : QUnit) (runs : List QuizRun) : Option QuizRun :=
  (c.counted runs).find? (fun r => !r.ok && c.ranBefore r.id u)

/-- Pack quizzes failing on their first run on a unit. -/
def Chip.provisionalFails (c : Chip) (u : QUnit) (runs : List QuizRun) : List QuizRun :=
  (c.counted runs).filter (fun r => !r.ok && !c.ranBefore r.id u)

/-- A failed quiz (R377, R378, R380): the PERMANENT records of the checks that wait for it, with REPEAT_LIMIT once TR_LIMIT has been reached, else a QUIZ_FAIL record; its firebreak; its
notice. -/
def Chip.quizFail (c : Chip) (u : QUnit) (r : QuizRun) (reason us : Nat) : Chip :=
  let hits := c.integ.implicated.filter (fun x => x.unit == u)
  let limit := decide (c.get (R.FLT_QUIZ_POL u.die) F.FLT_QUIZ_POL_TR_LIMIT ≤ c.recentTransients u)
  let c1 := (c.incSat (R.FLT_QUIZ_STAT u.die) F.FLT_QUIZ_STAT_FAILED 1).modInteg
    (fun g => { g with implicated := g.implicated.filter (fun x => !(x.unit == u)) })
  let idx := c1.get (R.FLT_FSIG_PTR c1.primaryDie) F.FLT_FSIG_PTR_HEAD % 4096
  let c2 := if hits.isEmpty then (c1.fsigWrite 1 r.id u r.answer r.output (c1.quizContext r.id) 0).2
    else hits.foldl (fun s x => (s.fsigWrite 3 0xF001 u x.expected x.observed x.obj (x.early.toNat * 2 + limit.toNat)).2) c1
  (c2.quizNotice u r.id 1 (if hits.isEmpty then reason else 2) idx us 0).fbDue u.due

/-- The built-in quizzes a suspended pack quiz replaced run on the units that failed it (R390). -/
def Chip.runReplaced (c : Chip) (id : Nat) : Chip :=
  if (c.integ.pack.map (fun p => p.quizzes.any (fun q => q.id == id && q.replaces))).getD false then
    (((c.integ.provFails.filter (fun e => e.1 == id)).map (·.2)).eraseDups).foldl (fun s u => s.ledgerRequest u.die (.quiz u 5)) c
  else c

/-- The chip-wide suspension of a pack quiz on the third unit of a type (R390). -/
def Chip.suspendCheck (c : Chip) (id : Nat) (u : QUnit) (us : Nat) : Chip :=
  let n := (c.integ.provFails.filter (fun e => e.1 == id && e.2.ty == u.ty)).length
  if n < 3 ∨ id ∈ c.integ.suspended then c
  else
    (((c.modInteg (fun g => { g with suspended := g.suspended ++ [id], reruns := g.reruns.filter (fun e => e.1 != id) })).incSat
      (R.FLT_QPACK_STAT c.primaryDie) F.FLT_QPACK_STAT_SUSPENDED 1).quizNotice u id 3 0 0xFFF us 0).runReplaced id

/-- One provisional failure: its record, its notice, and its rerun. -/
def Chip.provisional (c : Chip) (u : QUnit) (reason us : Nat) (r : QuizRun) : Chip :=
  let w := c.fsigWrite 5 r.id u r.answer r.output (c.quizContext r.id) 0
  let c1 := w.2.modInteg (fun g => { g with provFails := g.provFails ++ [(r.id, u)], reruns := g.reruns ++ [(r.id, u)] })
  (c1.quizNotice u r.id 4 reason w.1 us 0).suspendCheck r.id u us

/-- A passed quiz: counted, the verdicts that wait for it settled (R377), and its notice with the record it led to. -/
def Chip.quizPass (c : Chip) (u : QUnit) (id reason us : Nat) : Chip :=
  let check := c.integ.implicated.any (fun x => x.unit == u)
  let a := R.FLT_FSIG_PTR c.primaryDie
  let hd := c.get a F.FLT_FSIG_PTR_HEAD
  let c1 := ((c.incWrap (R.FLT_QUIZ_STAT u.die) F.FLT_QUIZ_STAT_PASSED 1).modInteg (fun g =>
    { g with implicated := g.implicated.map (fun x => if x.unit = u then { x with quiz := some true } else x) })).settle
  c1.quizNotice u id 0 (if check then 2 else reason) (if c1.get a F.FLT_FSIG_PTR_HEAD = hd then 0xFFF else hd % 4096) us 0

/-- The results of a quiz activity on a unit. -/
def Chip.quizResult (c : Chip) (u : QUnit) (runs : List QuizRun) (reason us : Nat) : Chip :=
  let prov := c.provisionalFails u runs
  let fail := c.normalFail u runs
  let packs := (runs.filter (fun r => decide (0x400 ≤ r.id))).map (fun r => (r.id, u))
  let c1 := c.modInteg (fun g => { g with ran := packs.foldl (fun l e => if e ∈ l then l else l ++ [e]) g.ran })
  match fail with
  | some r => c1.quizFail u r reason us
  | none =>
    let c2 := prov.foldl (fun s r => s.provisional u reason us r) c1
    if prov.isEmpty then c2.quizPass u ((runs.map (·.id)).foldl max 0) reason us
    else (c2.modInteg (fun g =>
      { g with implicated := g.implicated.map (fun x => if x.unit = u then { x with quiz := some true } else x) })).settle

/-- QUIZ_END: the quiz of a unit ends with the results of the quiz IDs run, in ascending order, or without a result (`abort`). Its ledger
entry ends. The boot quizzes of R381 run outside the ledger, before the data plane is released (DEDUCED, log 24). -/
def Chip.quizEnd (c : Chip) (u : QUnit) (abort boot : Bool) (runs : List QuizRun) : Chip :=
  if boot ∧ c.pw.dataHeld ∧ !abort then (if u.exists_ ∧ !runs.isEmpty then c.quizResult u runs 4 0 else c)
  else match (c.entries u.die).find? (fun e => e.2.running && isQuizOf u e.2.act) with
    | none => c
    | some (i, e) =>
      if abort ∨ runs.isEmpty then c.forceEnd u.die i 3
      else
        let us := (c.now - e.since) / tuUs
        let reason := match e.act with
          | .quiz _ r => r
          | _ => 0
        let bad := (c.normalFail u runs).isSome
        (c.entryEnd u.die i (if bad then 1 else 0) 0).quizResult u runs reason us

/-- PROVISIONAL_RERUN: one second after a provisional failure the quiz is given to the ledger again, as a normal run. -/
def Chip.provisionalRerun (c : Chip) (u : QUnit) (id : Nat) : Chip :=
  if (id, u) ∈ c.integ.reruns then
    (c.modInteg (fun g => { g with reruns := g.reruns.filter (fun e => e != (id, u)) })).ledgerRequest u.die (.quiz u 5)
  else c

end Sys2Proof.Machine
end

