-- ==== Sys2Proof/Machine/Links.lean ====
section
/-!
DEFINITION. Die-to-die links (R197, R198). Meanings: D2D_BEAT_UNCORRECTABLE, D2D_REPLAY_LIMIT, D2D_RETRAIN_DONE.
-/

namespace Sys2Proof.Machine

/-- The replay register of a link at its receiving end: the uplink's at the core die, the downlink's at the port die. -/
def replayReg (d k : Nat) (up : Bool) : Nat := if up then R.XBR_D2D_REPLAY (32 + k) d else R.PRT_D2D_REPLAY d k

/-- Links of a port die that are down. -/
def Chip.linksDown (c : Chip) (d : Nat) : Nat := ((List.range 8).filter (fun k => c.d2dDown d k)).length

/-- A link goes down: the port die uses its uplink for nothing; a second link down on the die raises the region trigger 0x0A. -/
def Chip.linkDown (c : Chip) (d k : Nat) : Chip :=
  if c.d2dDown d k then c
  else
    let c1 := (c.modSw (fun w => { w with linkDown := SMap.set (fun _ => false) w.linkDown (d * 8 + k) true })).showSpray d
    if 2 ≤ c1.linksDown d then c1.fbDue ⟨3, d, 0, 0x0A⟩ else c1

/-- D2D_BEAT_UNCORRECTABLE on the uplink or downlink between port die d and core die k: the slot is replayed and counted; `again`
tells that it is the slot replayed last. 8 failed replays of one slot take the link down. -/
def Chip.beatBad (c : Chip) (d k : Nat) (up again : Bool) : Chip :=
  if c.d2dDown d k ∨ c.isolated d ∨ c.isolated (32 + k) then c
  else
    let key := (d * 8 + k) * 2 + up.toNat
    let a := replayReg d k up
    let win := c.now / tuMs + 1
    let c0 := if sget c.sw.d2dWindow key = win then c
      else (c.set a F.PRT_D2D_REPLAY_WINDOW 0).modSw (fun w => { w with d2dWindow := sset w.d2dWindow key win })
    let n := if again then sget c0.sw.slotReplays key + 1 else 1
    let c1 := ((c0.incSat a F.PRT_D2D_REPLAY_TOTAL 1).incSat a F.PRT_D2D_REPLAY_WINDOW 1).modSw
      (fun w => { w with slotReplays := sset w.slotReplays key n })
    if 8 < n then c1.linkDown d k else c1

/-- D2D_REPLAY_LIMIT: a link has counted more than 1,024 replays in one window. -/
def Chip.replayLimit (c : Chip) (d k : Nat) (up : Bool) : Chip :=
  if 1024 < c.get (replayReg d k up) F.PRT_D2D_REPLAY_WINDOW then c.linkDown d k else c

/-- D2D_RETRAIN_DONE: a link that is down has been retrained and is taken back. -/
def Chip.retrainDone (c : Chip) (d k : Nat) : Chip :=
  if !c.d2dDown d k then c
  else
    (((c.modSw (fun w => { w with linkDown := SMap.set (fun _ => false) w.linkDown (d * 8 + k) false,
                                  slotReplays := sset (sset w.slotReplays ((d * 8 + k) * 2) 0) ((d * 8 + k) * 2 + 1) 0 })).set
      (replayReg d k true) F.PRT_D2D_REPLAY_WINDOW 0).set (replayReg d k false) F.PRT_D2D_REPLAY_WINDOW 0).showSpray d

end Sys2Proof.Machine
end

