-- ==== Sys2Proof/Machine/TableRows.lean ====
section
/-!
DEFINITION. Table operations (R270), the table scrub (R277), the staging engine (R284 to R286), leak audits (R239 to R241) and HBM
scrubs (R482). Meanings: TBL_NONE, TBL_WRITE, TBL_INSERT, TBL_DELETE, TBL_READ, TBL_CLEAR, TABLE_SCRUB_DUE, TABLE_SCRUB_DONE,
STG_OPEN, STG_CLOSE, STG_FORCE_CLOSE, STAGE_REPAIR, STAGE_RELEASE, LEAK_AUDIT_DUE, LEAK_AUDIT_DONE, HBM_SCRUB_DUE, HBM_SCRUB_DONE.
-/

namespace Sys2Proof.Machine

/-! ### Table operations (R270) -/

/-- The table of the applied operation, its key and its data as one number. -/
def Chip.tblTable (c : Chip) (d : Nat) : Nat := c.get (R.TBL_OP d) F.TBL_OP_TABLE
def Chip.tblKey (c : Chip) (d : Nat) : Nat :=
  ((c.rd (R.TBL_KEY_LO d)).toNat + (c.rd (R.TBL_KEY_HI d)).toNat * 2 ^ 32) % (if c.tblTable d = 1 then 2 ^ 43 else 2 ^ 20)
def Chip.tblData (c : Chip) (d : Nat) : Nat :=
  (List.range 8).foldl (fun n i => n + (c.rd (R.TBL_DATA d i)).toNat * 2 ^ (32 * i)) 0

/-- Copy an entry into TBL_RES_n. -/
def Chip.tblRes (c : Chip) (d v : Nat) : Chip :=
  (List.range 8).foldl (fun s i => s.wr (R.TBL_RES d i) (BitVec.ofNat 32 (v / 2 ^ (32 * i)))) c

/-- The outcome of an operation: STATUS, and WHERE, WAY and SLOT of the entry it names, if any. -/
def Chip.tblStat (c : Chip) (d status : Nat) (idx : Option Nat) (direct : Bool) : Chip :=
  let place := match idx with
    | none => if direct then 2 * 2 ^ 4 else 0
    | some i => if overflowBase ≤ i then 2 ^ 4 + (i - overflowBase) % 2 ^ 12 * 2 ^ 8 else i % 4 * 2 ^ 6
  c.wr (R.TBL_OP_STAT d) (BitVec.ofNat 32 (status + place))

/-- Perform the applied operation when its code is `op`; OP then reads 0 in both copies. -/
def Chip.tblRun (c : Chip) (d op : Nat) (f : Chip → Chip) : Chip :=
  if c.get (R.TBL_OP d) F.TBL_OP_OP = op then (f c).setBoth (R.TBL_OP d) F.TBL_OP_OP 0 else c

/-- TBL_NONE. -/
def Chip.tblNone (c : Chip) (d : Nat) : Chip := c.tblRun d 0 (fun s => s.set (R.TBL_OP_STAT d) F.TBL_OP_STAT_STATUS 0)

/-- TBL_WRITE: TBL_DATA_0 to leaf entry INDEX; bits the entry does not name are 0 (R271). -/
def Chip.tblWrite (c : Chip) (d : Nat) : Chip :=
  c.tblRun d 1 (fun s =>
    (s.setLeaf d (s.get (R.TBL_OP d) F.TBL_OP_INDEX) (BitVec.ofNat 128 ((s.rd (R.TBL_DATA d 0)).toNat % 2 ^ 13))).tblStat d 0 none true)

/-- TBL_INSERT: the entry of the key with the data of TBL_DATA_n; an evicted entry is left in TBL_RES_n. -/
def Chip.tblInsert (c : Chip) (d : Nat) : Chip :=
  c.tblRun d 2 (fun s =>
    let v := s.tblData d
    if s.tblTable d = 1 then
      let r := s.flowInsert d (BitVec.ofNat 128 (v % 2 ^ 102 / 2 ^ 43 * 2 ^ 43 + s.tblKey d))
      let s1 := if r.1.1.status = 3 then r.2.tblRes d r.1.2.toNat else r.2
      s1.tblStat d r.1.1.status r.1.1.idx false
    else
      let r := s.mcInsert d (BitVec.ofNat 256 (v % 2 ^ 137 / 2 ^ 20 * 2 ^ 20 + s.tblKey d))
      let s1 := if r.1.1.status = 3 then r.2.tblRes d r.1.2.toNat else r.2
      s1.tblStat d r.1.1.status r.1.1.idx false)

/-- TBL_DELETE: invalidate the entry for the key. -/
def Chip.tblDelete (c : Chip) (d : Nat) : Chip :=
  c.tblRun d 3 (fun s =>
    if s.tblTable d = 1 then
      match s.flowLookup d (s.tblKey d) with
      | (some i, s1) => ((s1.setFlow d i 0).countTables d).tblStat d 0 (some i) false
      | (none, s1) => s1.tblStat d 1 none false
    else
      match s.mcFind d (s.tblKey d) with
      | some i => ((s.setMc d i 0).countTables d).tblStat d 0 (some i) false
      | none => s.tblStat d 1 none false)

/-- TBL_READ: the entry at INDEX, or the entry for the key, into TBL_RES_n. -/
def Chip.tblRead (c : Chip) (d : Nat) : Chip :=
  c.tblRun d 4 (fun s =>
    if s.tblTable d = 0 then (s.tblRes d (s.leafEnt d (s.get (R.TBL_OP d) F.TBL_OP_INDEX)).toNat).tblStat d 0 none true
    else if s.tblTable d = 1 then
      match s.flowLookup d (s.tblKey d) with
      | (some i, s1) => (s1.tblRes d (s1.flowEnt d i).toNat).tblStat d 0 (some i) false
      | (none, s1) => s1.tblStat d 1 none false
    else
      match s.mcFind d (s.tblKey d) with
      | some i => (s.tblRes d (s.mcEnt d i).toNat).tblStat d 0 (some i) false
      | none => s.tblStat d 1 none false)

/-- TBL_CLEAR: every flow entry whose STATIC bit is clear is invalidated. -/
def Chip.tblClear (c : Chip) (d : Nat) : Chip :=
  c.tblRun d 5 (fun s =>
    (({ s with tb := { s.tb with flow := s.tb.flow.filter (fun e => !(e.1 / 2 ^ 20 == d && bitsOf e.2 101 1 == 0)) } }).countTables
      d).tblStat d 0 none false)

/-! ### Table scrub (R277) -/

def isTableScrub (a : Activity) : Bool := a.act == 5

/-- TABLE_SCRUB_DUE: SCRUB ms have passed; a scrub that still stands in the ledger is not queued twice. -/
def Chip.tableScrubDue (c : Chip) (d : Nat) : Chip :=
  if (c.hasEntry d isTableScrub).isSome then c else c.ledgerRequest d .tableScrub

/-- An entry (table 0 leaf, 1 flow, 2 multicast) has an uncorrectable error (R272, R277). -/
def Chip.tableEntryBad (c : Chip) (d table i : Nat) : Chip :=
  let valid := if table = 0 then bitsOf (c.leafEnt d i) 0 1 == 1 else if table = 1 then flowValid (c.flowEnt d i) else mcValid (c.mcEnt d i)
  if !valid then c
  else
    let c1 := if table = 0 then c.setLeaf d i 0 else if table = 1 then c.setFlow d i 0 else c.setMc d i 0
    ((c1.countTables d).incSat (R.TBL_SCRUB_STAT d) F.TBL_SCRUB_STAT_UNCORR 1).bulkNotice d 1 5 0 (eccDetail i table)

/-- The scrub of one flow entry: expiry, the end of a bulk episode, and the stamp of an entry that does not expire. -/
def Chip.scrubFlow (c : Chip) (d i : Nat) : Chip :=
  let e := c.flowEnt d i
  if c.expired d e then (c.setFlow d i 0).incSat (R.TBL_AGE_STAT d) F.TBL_AGE_STAT_EXPIRED 1
  else
    let c1 := c.bulkEnd d i
    let e1 := c1.flowEnt d i
    if flowValid e1 ∧ bitsOf e1 101 1 = 1 ∧ 30000 ≤ c1.ageOf (bitsOf e1 52 16) then
      c1.setFlow d i (putField e1 52 16 (c1.ms + 65536 - 30000))
    else c1

/-- The scrub of one multicast entry, which does not expire. -/
def Chip.scrubMc (c : Chip) (d i : Nat) : Chip :=
  let e := c.mcEnt d i
  if mcValid e ∧ 30000 ≤ c.ageOf (bitsOf e 116 16) then c.setMc d i (putField e 116 16 (c.ms + 65536 - 30000)) else c

/-- TABLE_SCRUB_DONE: the scrub of die d has read every entry, with `corr` errors corrected and the entries `bad` (table, index)
uncorrectable. -/
def Chip.tableScrubDone (c : Chip) (d corr : Nat) (bad : List (Nat × Nat)) : Chip :=
  if !c.running d isTableScrub then c
  else
    let c1 := bad.foldl (fun s x => s.tableEntryBad d x.1 x.2) (c.incSat (R.TBL_SCRUB_STAT d) F.TBL_SCRUB_STAT_CORR corr)
    let c2 := (listedIdx c1.tb.flow d).foldl (fun s i => s.scrubFlow d i) c1
    let c3 := (listedIdx c2.tb.mc d).foldl (fun s i => s.scrubMc d i) c2
    (c3.countTables d).activityEnd d isTableScrub 0 corr

/-! ### Staging slots (R284, R286) -/

def Chip.stgOp (c : Chip) (k : Nat) : Nat := c.get (R.TBL_STG_REQ (32 + k)) F.TBL_STG_REQ_OP
def Chip.stgSlot (c : Chip) (k : Nat) : Nat := c.get (R.TBL_STG_REQ (32 + k)) F.TBL_STG_REQ_SLOT

/-- Perform the applied operation when its code is `op`; OP then reads 0 in both copies. -/
def Chip.stgRun (c : Chip) (k op : Nat) (f : Chip → Chip) : Chip :=
  if c.stgOp k = op then (f c).setBoth (R.TBL_STG_REQ (32 + k)) F.TBL_STG_REQ_OP 0 else c

def Chip.setSlotSt (c : Chip) (k s v : Nat) : Chip := c.set (R.TBL_STG_STAT (32 + k) s) F.TBL_STG_STAT_STATE v

/-- A CLOSING slot whose extents are all freed is FREE; parts of messages that were not complete go with it. -/
def Chip.slotCheck (c : Chip) (k s : Nat) : Chip :=
  if c.slotSt k s = 2 ∧ (c.stg k s).extents.all (fun e => !e.complete) then (c.setStg k s {}).setSlotSt k s 0 else c

/-- STG_OPEN. -/
def Chip.stgOpen (c : Chip) (k : Nat) : Chip :=
  c.stgRun k 1 (fun s =>
    let a := R.TBL_STG_REQ (32 + k)
    let n := s.stgSlot k
    if s.slotSt k n ≠ 0 then s
    else
      (s.setStg k n { group := s.get a F.TBL_STG_REQ_GROUP, dieMap := (s.rd (R.TBL_STG_MAP (32 + k))).toNat,
                      reserve := s.get a F.TBL_STG_REQ_RESERVE }).setSlotSt k n 1)

/-- STG_CLOSE. -/
def Chip.stgClose (c : Chip) (k : Nat) : Chip :=
  c.stgRun k 2 (fun s => if s.slotSt k (s.stgSlot k) = 1 then (s.setSlotSt k (s.stgSlot k) 2).slotCheck k (s.stgSlot k) else s)

/-- STG_FORCE_CLOSE: every extent is freed at once. -/
def Chip.stgForceClose (c : Chip) (k : Nat) : Chip :=
  c.stgRun k 3 (fun s => (s.setStg k (s.stgSlot k) {}).setSlotSt k (s.stgSlot k) 0)

/-- The extent of a message (SRC, MSG_TAG) in a slot, complete. -/
def Extent.isFor (e : Extent) (src tag : Nat) : Bool := e.complete && e.src == src && e.tag == some tag

/-- STAGE_REPAIR, received on lane l: cells SEQ_FIRST to SEQ_LAST of the extent go to the port of the lane with RETX; a message not
staged, freed, marked bad or on an isolated die is refused. -/
def Chip.stageRepair (c : Chip) (l k slot src tag first last : Nat) : Chip :=
  if c.laneState l ≠ LS.active ∨ c.isolated (32 + k) ∨ c.slotSt k slot = 0 then c
  else match (c.stg k slot).extents.find? (fun e => e.isFor src tag) with
    | none => c
    | some e =>
      if e.bad then c
      else
        let cells := (e.cells.filter (fun x => decide (first ≤ x.1) && decide (x.1 ≤ last))).filterMap (·.2)
        c.coreSend k (laneDie l) (cells.map (fun v =>
          { cell := { v with retx := true }.seal, port := c.portOf l, mcast := false, saf := false }))

/-- The PORT_MAP of a group on port die d. -/
def Chip.portMap (c : Chip) (d group : Nat) : Nat :=
  match c.mcFind d group with
  | some i => bitsOf (c.mcEnt d i) 52 64
  | none => 0

/-- Note a port's release of an extent; when every port of the die's PORT_MAP has released it, its count falls once. -/
def Extent.releaseBy (e : Extent) (d port map : Nat) : Extent :=
  let old := SMap.get (fun _ => 0) e.released d
  let new := putBit old port true
  let all (m : Nat) : Bool := map != 0 && (List.range 64).all (fun p => !bitOf map p || bitOf m p)
  if !bitOf old 64 ∧ all new then
    { e with released := SMap.set (fun _ => 0) e.released d (putBit new 64 true), refs := e.refs - 1 }
  else { e with released := SMap.set (fun _ => 0) e.released d new }

/-- STAGE_RELEASE, received on lane l. -/
def Chip.stageRelease (c : Chip) (l k slot src tag : Nat) : Chip :=
  let d := laneDie l
  if c.laneState l ≠ LS.active ∨ c.isolated (32 + k) ∨ c.slotSt k slot = 0 ∨ !bitOf (c.stg k slot).dieMap d then c
  else
    let x := c.stg k slot
    let es := x.extents.map (fun e => if e.isFor src tag then e.releaseBy d (c.portOf l) (c.portMap d x.group) else e)
    (c.setStg k slot { x with extents := es.filter (fun e => !(e.isFor src tag && e.refs == 0)) }).slotCheck k slot

/-! ### Leak audits (R239 to R241) -/

def isAudit (p : Nat) (a : Activity) : Bool := a == .audit p

/-- LEAK_AUDIT_DUE: the audit period of pool p of die d (block 0–7, or 8 for a core die's spill pool) has passed. -/
def Chip.leakAuditDue (c : Chip) (d p : Nat) : Chip :=
  if (c.hasEntry d (isAudit p)).isSome then c else c.ledgerRequest d (.audit p)

/-- Buffers of block pool b of die d that some queue, launch register or waiting cell names. -/
def Chip.seenBufs (c : Chip) (d b : Nat) : List Nat :=
  (c.sw.voqs.filter (fun e => e.1 / 320 == d * 8 + b)).flatMap (fun e => e.2.map (·.buf))
    ++ (c.sw.pq.filter (fun e => e.1 / 64 == d * 8 + b)).flatMap (fun e => e.2.map (·.buf))
    ++ (c.sw.stq.filter (fun e => e.1 / 64 == d * 8 + b)).flatMap (fun e => e.2.map (·.buf))
    ++ (blockLanes d b).filterMap (fun l => (c.lane l).launch.map (·.buf))
    ++ ((SMap.get (fun _ => []) c.tb.ingWait (d * 8 + b)).filter (fun x => laneBlock x.lane == b)).map (·.buf)

/-- Free a leaked buffer, whatever its count. -/
def Chip.reclaim (c : Chip) (d b n : Nat) : Chip :=
  let p := c.pool d b
  let one := SMap.modify (fun _ => none) p.bufs n (fun x => x.map (fun v => { v with count := 1 }))
  (c.setPool d b { p with bufs := one }).poolRelease d b n

/-- The audit of a block pool ends its walks: leaked buffers are in use, named by nothing and not allocated since its start. -/
def Chip.leaked (c : Chip) (d b : Nat) : List Nat :=
  let seen := c.seenBufs d b
  (c.pool d b).bufs.filterMap (fun e => match e.2 with
    | some v => if v.young || e.1 ∈ seen then none else some e.1
    | none => none)

/-- LEAK_AUDIT_DONE: an audit finishes, or (`linkBad`) its walk meets a bad link word, which raises the block trigger 0x07. -/
def Chip.leakAuditDone (c : Chip) (d p : Nat) (linkBad : Bool) : Chip :=
  if !c.running d (isAudit p) then c
  else if linkBad ∧ p < 8 then c.fbDue ⟨2, d, p, 0x07⟩
  else
    let hits := if p < 8 then c.leaked d p else []
    let c1 := hits.foldl (fun s n => s.reclaim d p n) c
    let a := if d < 32 then R.BUF_AUDIT_STAT d else R.BUF_AUDIT_STAT_CORE d
    let c2 := ((c1.incSat a F.BUF_AUDIT_STAT_LEAKS hits.length).set a F.BUF_AUDIT_STAT_LAST p).incWrap a F.BUF_AUDIT_STAT_RUNS 1
    let c3 := if p < 8 then c2.setPool d p { c2.pool d p with auditing := false } else c2
    c3.activityEnd d (isAudit p) 0 hits.length

/-! ### HBM scrubs (R482) -/

/-- An uncorrectable HBM3E word by what it holds: a parked cell (die, class and place in its FIFO), an extent (slot and place), a
record of a binding, the quiz area, or anything else. -/
inductive HbmBad where
  | spill (die cls index : Nat)
  | stage (slot index : Nat)
  | opt (binding : Nat)
  | quiz
  | other
  deriving DecidableEq, Repr

def isHbmScrub (stack : Nat) (a : Activity) : Bool := a == .hbmScrub stack

/-- HBM_SCRUB_DUE: HSC_PERIOD hours have passed for a stack of core die k and scrubs are enabled. -/
def Chip.hbmScrubDue (c : Chip) (k stack : Nat) : Chip :=
  let d := 32 + k
  if !c.flag (R.FLT_LDG_CFG d) F.FLT_LDG_CFG_HSC_ENABLE ∨ (c.hasEntry d (isHbmScrub stack)).isSome then c
  else c.ledgerRequest d (.hbmScrub stack)

/-- What an uncorrectable word does. The quiz area is loaded again from flash, which leaves it as it was. -/
def Chip.hbmWord (c : Chip) (k : Nat) (w : HbmBad) : Chip :=
  let c1 := c.incSat (R.FLT_HSC_STAT (32 + k)) F.FLT_HSC_STAT_UNCORR 1
  match w with
  | .spill e cls i =>
    let q := c1.parked k e cls
    if i < q.length then
      ((((c1.setParked (parkKey k e cls) (q.eraseIdx i)).setSpillOcc k (c1.spillOcc k - 1)).incSat (R.BUF_SPILL_EXPIRED (32 + k))
        F.BUF_SPILL_EXPIRED_CELLS 1).pmcDrop (32 + k) 1)
    else c1
  | .stage s i =>
    let x := c1.stg k s
    c1.setStg k s { x with extents := x.extents.zipIdx.map (fun e => if e.2 = i then { e.1 with bad := true } else e.1) }
  | .opt i =>
    match c1.bind k i with
    | some b => c1.setBind k i (some { b with lost := true })
    | none => c1
  | .quiz => c1
  | .other => c1

/-- HBM_SCRUB_DONE: a scrub of a stack has read it whole, with `corr` words corrected and the words `bad` uncorrectable. -/
def Chip.hbmScrubDone (c : Chip) (k stack corr : Nat) (bad : List HbmBad) : Chip :=
  let d := 32 + k
  if !c.running d (isHbmScrub stack) then c
  else
    let c1 := bad.foldl (fun s w => s.hbmWord k w) (c.incSat (R.FLT_HSC_STAT d) F.FLT_HSC_STAT_CORR corr)
    c1.activityEnd d (isHbmScrub stack) 0 corr

end Sys2Proof.Machine
end

