-- ==== Sys2Proof/Machine/Checks.lean ====
section
/-!
DEFINITION. Residue checks and reruns (R371 to R377, R394), and the recipe steps and optimizer records of a chunk (R355,
R362 to R365). Meanings: RESIDUE_CHECK_DONE, RERUN_VERDICT, RECIPE_STEPS_DONE, RECORD_COPY_DONE.
-/

namespace Sys2Proof.Machine

/-! ### Residues (R371 to R373) -/

def primeA : Nat := 2147483647
def primeB : Nat := 536870909

/-- Σ w_j · N_j modulo p over the chunk's e elements, w_j = b^j. -/
def residueOf (p b e : Nat) (x : Chunk) : Nat :=
  ((List.range e).foldl (fun (s : Nat × Nat) j =>
    let n := ((SMap.get (fun _ => ({} : Acc)) x.acc j).sum % (p : Int)).toNat
    ((s.1 + s.2 * n) % p, s.2 * b % p)) (0, 1)).1

/-- What the hardware added to each residue of a check: deviations of the accumulator and check residues for the two
primes, and the lane groups whose partials differ for both. All 0 and none where the hardware has worked rightly. -/
structure CheckErr where
  accA : Nat
  accB : Nat
  chkA : Nat
  chkB : Nat
  groups : List Nat
  deriving DecidableEq, Repr

/-- The residues of a completed pass. -/
def passResidues (e : Nat) (x : Chunk) (r : CheckErr) : Residues :=
  let a := residueOf primeA 7 e x
  let b := residueOf primeB 5 e x
  ⟨(a + r.accA) % primeA, (b + r.accB) % primeB, (a + r.chkA) % primeA, (b + r.chkB) % primeB⟩

/-- A check residue packed as in FSIG records: prime A in [30:0], prime B in [60:32]. -/
def packRes (a b : Nat) : Nat := a + b * 2 ^ 32
def Residues.acc (r : Residues) : Nat := packRes r.raA r.raB
def Residues.chk (r : Residues) : Nat := packRes r.cA r.cB

/-! ### Verdicts (R375, R376, R391, R394) -/

/-- The checker (0 A, 1 B) of cluster b of core die k, and lane group g. -/
def checkerUnit (k b ab : Nat) : QUnit := ⟨6, 32 + k, b, ab⟩
def groupUnit (k g : Nat) : QUnit := ⟨5, 32 + k, g / 12, 64 + g⟩

/-- Show a verdict other than CLEAN in the registers of cluster b. -/
def Chip.showVerdict (c : Chip) (k b n pos verdict : Nat) (r : Residues) (groups : List Nat) : Chip :=
  let d := 32 + k
  let h := R.RED_CHK_HDR d b
  let c1 := ((c.set h F.RED_CHK_HDR_OBJECT n).set h F.RED_CHK_HDR_POSITION pos).set h F.RED_CHK_HDR_VERDICT (verdict - 8)
  let w (i v : Nat) (s : Chip) : Chip := s.wr (R.RED_CHK_RES d b i) (BitVec.ofNat 32 v)
  let c2 := w 3 r.raB (w 2 r.cB (w 1 r.raA (w 0 r.cA c1)))
  let l := R.RED_CHK_LG d b
  (c2.set l F.RED_CHK_LG_FIRST (groups.foldl min (groups.headD 0))).set l F.RED_CHK_LG_COUNT groups.length

/-- The QUIZ notice of a verdict; `u` names the unit (R391). -/
def Chip.verdictNotice (c : Chip) (u : QUnit) (verdict fsig n : Nat) : Chip := c.quizNotice u 0xF001 verdict 2 fsig 0 n

/-- Count a verdict in a field of RED_CHK_FAULT. -/
def Chip.countVerdict (c : Chip) (k : Nat) (f : Fld) : Chip := c.incSat (R.RED_CHK_FAULT (32 + k)) f 1

/-- Implicate the lane groups of a check that found the accumulators wrong. -/
def Chip.implicateGroups (c : Chip) (k n pos : Nat) (r : Residues) (early : Bool) (groups : List Nat) : Chip :=
  groups.foldl (fun s g => s.implicate
    { unit := groupUnit k g, obj := n, expected := r.chk, observed := r.acc, early := early, checker := false, pos := pos }) c

/-- Implicate one checker: its record holds the accumulator's residue as EXPECTED (R384). -/
def Chip.implicateChecker (c : Chip) (k b ab n pos : Nat) (r : Residues) (early : Bool) : Chip :=
  c.implicate { unit := checkerUnit k b ab, obj := n, expected := r.acc, observed := r.chk, early := early, checker := true,
                pos := pos }

/-- The unit a verdict on lane groups names: the lowest of them, or the cluster's checker A when none is known. -/
def verdictUnit (k b : Nat) (groups : List Nat) : QUnit :=
  match groups with
  | [] => checkerUnit k b 0
  | g :: t => groupUnit k (t.foldl min g)

/-- CHECK_VERDICT_FIRST: the decision of R375 on position pos of object n. -/
def Chip.firstVerdict (c : Chip) (n pos : Nat) (err : CheckErr) : Chip :=
  let k := objCore n
  let o := c.obj n
  let x := o.chunk pos
  let r := passResidues (o.geo.2.elemsAt pos) x err
  let a := r.raA == r.cA
  let b := r.raB == r.cB
  let c1 := c.incWrap (R.RED_CHK_CNT (32 + k)) F.RED_CHK_CNT_CHECKS 1
  if a && b then (c1.setChunk n pos { x with checked := true }).trySeal n pos
  else if a || b then
    let ab := if a then 1 else 0
    let v := if a then 9 else 8
    let c2 := ((c1.showVerdict k x.cluster n pos v r []).countVerdict k F.RED_CHK_FAULT_CHECKER).verdictNotice
      (checkerUnit k x.cluster ab) v 0xFFF n
    ((c2.implicateChecker k x.cluster ab n pos r x.sent).setChunk n pos { x with checked := true }).trySeal n pos
  else
    let c2 := ((c1.showVerdict k x.cluster n pos 10 r err.groups).countVerdict k F.RED_CHK_FAULT_ACCUM).verdictNotice
      (verdictUnit k x.cluster err.groups) 10 0xFFF n
    let c3 := (c2.replayNotice n pos 2).setChunk n pos
      { x with wanted := 2, rerun := true, resolving := true, replayed := true, first := some r, firstCluster := x.cluster,
               groups := err.groups }
    (c3.implicateGroups k n pos r x.sent err.groups).collState n

/-- May the check of a position end: it is complete, unchecked, and its operation has residue checks (R374)? -/
def Chip.checkOpen (c : Chip) (n pos : Nat) (rerun : Bool) : Bool :=
  let o := c.obj n
  let x := o.chunk pos
  c.objBusy n && x.complete && !x.checked && x.wanted == 0 && x.rerun == rerun && decide (o.geo.1.op ≤ 1)

/-- RESIDUE_CHECK_DONE. -/
def Chip.residueCheckDone (c : Chip) (n pos : Nat) (err : CheckErr) : Chip :=
  if c.checkOpen n pos false then c.firstVerdict n pos err else c

/-- The rerun's result stands: sealed, unless it differs from a result already sent, which is retracted (R315). -/
def Chip.rerunStands (c : Chip) (n pos : Nat) (x : Chunk) (differs : Bool) : Chip :=
  if x.sent ∧ differs then c.collAbort n 3 none 0 pos
  else (c.setChunk n pos { x with checked := true, resolving := false }).trySeal n pos

/-- RERUN_VERDICT: the decision of R376. `differs`: the rerun's output bits differ from those already sent. -/
def Chip.rerunVerdict (c : Chip) (n pos : Nat) (err : CheckErr) (differs : Bool) : Chip :=
  if !c.checkOpen n pos true then c
  else
    let k := objCore n
    let o := c.obj n
    let x := o.chunk pos
    let r2 := passResidues (o.geo.2.elemsAt pos) x err
    let r1 := x.first.getD ⟨0, 0, 0, 0⟩
    let c1 := c.incWrap (R.RED_CHK_CNT (32 + k)) F.RED_CHK_CNT_CHECKS 1
    if r2.acc = r2.chk ∧ r2.chk = r1.chk then
      let c2 := ((c1.showVerdict k x.cluster n pos 11 r2 x.groups).countVerdict k F.RED_CHK_FAULT_FIRST_PASS).verdictNotice
        (verdictUnit k x.firstCluster x.groups) 11 0xFFF n
      (c2.rerunKnown n (some pos) 1).rerunStands n pos x differs
    else if r2.acc = r2.chk ∧ r2.acc = r1.acc then
      let c2 := (c1.showVerdict k x.cluster n pos 12 r2 []).verdictNotice (checkerUnit k x.firstCluster 0) 12 0xFFF n
      let c3 := ((c2.implicateChecker k x.firstCluster 0 n pos r1 x.sent).implicateChecker k x.firstCluster 1 n pos r1
        x.sent).rerunKnown n (some pos) 2
      c3.rerunStands n pos x differs
    else
      let f := (c1.showVerdict k x.cluster n pos 13 r2 err.groups).fsigWrite 4 0xF001 (checkerUnit k x.cluster 0) r1.chk r2.acc
        n (x.sent.toNat * 2)
      let c2 := ((f.2.countVerdict k F.RED_CHK_FAULT_UNRESOLVED).verdictNotice (checkerUnit k x.cluster 0) 13 f.1 n)
      let both (s : Chip) (b : Nat) (r : Residues) : Chip :=
        (s.implicateChecker k b 0 n pos r x.sent).implicateChecker k b 1 n pos r x.sent
      let c3 := both c2 x.cluster r2
      let c4 := if x.firstCluster = x.cluster then c3 else both c3 x.firstCluster r1
      let more := err.groups.filter (fun g => g ∉ x.groups)
      (c4.implicateGroups k n pos r2 x.sent more).collAbort n 8 none 0 pos

/-! ### Recipe steps (R355, R362 to R365) -/

/-- Update buffer records of a binding in use: those still to be copied and those of the object's open chunks. -/
def Chip.ubufsUsed (c : Chip) (b : Binding) : List Nat :=
  b.commits.map (·.1) ++ (c.obj b.object).chunks.filterMap (fun e => e.2.ubuf)

/-- The update buffer record for a chunk: its own on a rerun, else the lowest free one. -/
def Chip.ubufFor (c : Chip) (b : Binding) (x : Chunk) : Option Nat :=
  match x.ubuf with
  | some u => some u
  | none => (List.range 8).find? (fun u => u ∉ c.ubufsUsed b)

/-- The optimizer's context for a chunk (R362). -/
def Chip.optCtx (c : Chip) (k : Nat) (b : Binding) (p : OptParams) (chunk e : Nat) : OptCtx :=
  let a := b.recAddr chunk
  { rule := b.rule, p := p, c1 := f32Sub f32One (f32Mul b.b1t p.b1), c2 := f32Sub f32One (f32Mul b.b2t p.b2),
    w := c.plane k b a 0 e, m1 := c.plane k b a 1 e, m2 := if b.rule = 1 then c.plane k b a 2 e else [] }

/-- Transform passes of a chunk's steps, per unit of the cluster: the groups of 128 segments go to its two units in turn
(DESIGN CHOICE, log 12). -/
def Chip.countPasses (c : Chip) (k cl : Nat) : List (Step1 × Option (Nat × Nat × List Nat)) → Nat → Chip
  | [], _ => c
  | (s, m) :: t, e =>
    match m with
    | none => c.countPasses k cl t e
    | some mm =>
      let r := matIn mm (bitOf s.flags 0)
      let o := matOut mm (bitOf s.flags 0)
      let tiles := ceilDiv (e / r) 32
      let of_ (u : Nat) : Nat := ((List.range tiles).filter (fun i => i / 4 % 2 == u)).length * (o / 32) * (if bitOf s.flags 1 then 2 else 1)
      ((c.pmcEvent (32 + k) 0x120 (some (2 * cl)) none (of_ 0)).pmcEvent (32 + k) 0x120 (some (2 * cl + 1)) none
        (of_ 1)).countPasses k cl t (e / r * o)

/-- The steps have run: skipped elements are counted, the working values are rounded to the output format, and the chunk is
sealed or sent as its delivery mode says; a value out of range aborts with 0x07. -/
def Chip.stepsEnd (c : Chip) (n pos : Nat) (r : RunRes) (ubuf : Option Nat) : Chip :=
  let d := (c.obj n).geo.1
  let k := objCore n
  let cl := ((c.obj n).chunk pos).cluster
  let c1 := c.incSat (R.OPT_SKIP (32 + k)) F.OPT_SKIP_COUNT r.skipped
  if r.abort then c1.rangeAbort n false
  else
    let c2 := match r.planes with
      | some pl => c1.pmcEvent (32 + k) 0x130 (some cl) none (pl.1.length - r.skipped)
      | none => c1
    let q := c2.putOut n pos (roundCells d.outFmt d.round 149 c2.draws (r.work.map workExact))
    if q.1 then q.2
    else
      ((q.2.setChunk n pos { (q.2.obj n).chunk pos with stepped := true, ubuf := ubuf, work := r.work }).earlySend n pos).trySeal n pos

/-- Run the steps of a chunk whose recipe updates state: the record is read, and the new planes go to an update buffer
record; a record that carries the step's stamp is left unchanged (R364, R365). -/
def Chip.runOpt (c : Chip) (n pos : Nat) (b : Binding) (p : OptParams) : Chip :=
  let k := objCore n
  let o := c.obj n
  let x := o.chunk pos
  let e := o.geo.2.elemsAt pos
  let chunk := o.geo.2.chunk pos
  let a := b.recAddr chunk
  let steps := progSteps o.prog
  if c.stamp k a = b.step + 1 then
    (c.incSat (R.OPT_REPEAT (32 + k)) F.OPT_REPEAT_COUNT 1).stepsEnd n pos (runSteps none (c.plane k b a 0 e) steps x.work) none
  else
    match c.ubufFor b x with
    | none => c
    | some u =>
      let r := runSteps (some (c.optCtx k b p chunk e)) [] steps x.work
      let c1 := (c.countPasses k x.cluster steps e).hbmRead k (b.ep * b.sb)
      let dst := b.recAddr (b.chunks + u)
      let c2 := match r.planes with
        | none => c1
        | some pl =>
          let c3 := (c1.setPlane k b dst 0 pl.1).setPlane k b dst 1 pl.2.1
          if b.rule = 1 then c3.setPlane k b dst 2 pl.2.2 else c3
      c2.stepsEnd n pos r (some u)

/-- RECIPE_STEPS_DONE: the steps of a complete chunk before MCAST finish. `ecc`: OPTIMIZE met an uncorrectable error in the
record it read, which aborts with 0x05 and leaves the binding LOST (R368). -/
def Chip.recipeStepsDone (c : Chip) (n pos : Nat) (ecc : Bool) : Chip :=
  let o := c.obj n
  let x := o.chunk pos
  if !c.objBusy n ∨ !x.complete ∨ x.stepped ∨ x.wanted ≠ 0 ∨ o.isSealed pos then c
  else
    let steps := progSteps o.prog
    if steps.any (fun s => s.1.op == 6) then
      match c.bindOf n, o.params with
      | some (i, b), some p =>
        if ecc then (c.setBind (objCore n) i (some { b with lost := true })).collAbort n 5 none 0 0
        else c.runOpt n pos b p
      | _, _ => c
    else
      let e := o.geo.2.elemsAt pos
      (c.countPasses (objCore n) x.cluster steps e).stepsEnd n pos (runSteps none [] steps x.work) none

/-- RECORD_COPY_DONE: the oldest copy of binding i of core die k completes: the record holds the new planes and the stamp,
and the buffer record is free (R364). -/
def Chip.recordCopyDone (c : Chip) (k i : Nat) : Chip :=
  match c.bind k i with
  | none => c
  | some b =>
    match b.commits with
    | [] => c
    | r :: t => (c.copyRecord k b r).setBind k i (some { b with commits := t })

end Sys2Proof.Machine
end

