-- ==== Sys2Proof/Machine/Transforms.lean ====
section
/-!
DEFINITION. Transform and optimizer operations of group 0x00F (R360, R361, R367 to R370). Meanings: LOAD_MATRIX,
DROP_MATRIX, LOAD_RECIPE, DROP_RECIPE, BIND, BIND_ZERO_DONE, UNBIND, STATE_COPY, STATE_COPY_DONE, TRF_READ. `read h a` is byte
a of the LPDDR5X of hub h; a write to hub memory is answered as (hub, address, byte).
-/

namespace Sys2Proof.Machine

abbrev HubRead := Nat → Nat → Nat
abbrev HubWrite := Nat × Nat × Nat

/-! ### The operation registers -/

def Chip.trfOp (c : Chip) (k : Nat) : Nat := c.get (R.TRF_OP (32 + k)) F.TRF_OP_OP
def Chip.trfId (c : Chip) (k : Nat) : Nat := c.get (R.TRF_OP (32 + k)) F.TRF_OP_ID
def Chip.trfHub (c : Chip) (k : Nat) : Nat := c.get (R.TRF_ADDR (32 + k)) F.TRF_ADDR_HUB
def Chip.trfAddr (c : Chip) (k : Nat) : Nat := c.get (R.TRF_ADDR (32 + k)) F.TRF_ADDR_ADDR * 4096
def Chip.trfArgA (c : Chip) (k : Nat) : Nat := (c.rd (R.TRF_ARG_A (32 + k))).toNat
def Chip.trfArgB (c : Chip) (k : Nat) : Nat := (c.rd (R.TRF_ARG_B (32 + k))).toNat

/-- The little-endian value of n bytes of hub memory. -/
def readLe (read : Nat → Nat) (a n : Nat) : Nat := leVal ((List.range n).map (fun i => read (a + i)))

/-- Report the outcome of the operation applied on core die k; OP becomes 0 in both copies (R369). -/
def Chip.trfEnd (c : Chip) (k status : Nat) : Chip :=
  let a := R.TRF_OP_STAT (32 + k)
  (((c.set a F.TRF_OP_STAT_STATUS status).set a F.TRF_OP_STAT_OP (c.trfOp k)).set a F.TRF_OP_STAT_ID (c.trfId k)).setBoth
    (R.TRF_OP (32 + k)) F.TRF_OP_OP 0

/-! ### Matrices and recipes -/

def Chip.matAt (c : Chip) (k i : Nat) : Option Matrix := SMap.get (fun _ => none) c.coll.mats (k * 128 + i)
def Chip.recAt (c : Chip) (k i : Nat) : Option (List Nat) := SMap.get (fun _ => none) c.coll.recipes (k * 256 + i)

/-- Show how many matrices and recipes core die k holds. -/
def Chip.showTrf (c : Chip) (k : Nat) : Chip :=
  let a := R.TRF_STAT (32 + k)
  (c.set a F.TRF_STAT_MATRICES (c.coll.mats.filter (fun e => e.1 / 128 == k)).length).set a F.TRF_STAT_RECIPES
    (c.coll.recipes.filter (fun e => e.1 / 256 == k)).length

def Chip.setMat (c : Chip) (k i : Nat) (m : Option Matrix) : Chip :=
  ({ c with coll := { c.coll with mats := SMap.set (fun _ => none) c.coll.mats (k * 128 + i) m } }).showTrf k
def Chip.setRec (c : Chip) (k i : Nat) (r : Option (List Nat)) : Chip :=
  ({ c with coll := { c.coll with recipes := SMap.set (fun _ => none) c.coll.recipes (k * 256 + i) r } }).showTrf k

/-- Bytes of a 32 × 32 matrix, and of the wide matrices, in the matrix store. -/
def matBytes (fmt : Nat) : Nat := if fmt = 3 then 2048 else 1024
def wideBytes (w : WideRecipe) : Nat :=
  let fmt (i : Nat) : Nat := ((w.steps.map (fun s => stepOf s.toNat)).find? (fun s => s.op == 5 && s.arg == i)).elim 3 (fun s => s.fmt)
  w.mats.zipIdx.foldl (fun s m => s + m.1.1 * m.1.2.1 * (if fmt m.2 = 3 then 2 else 1)) 0

/-- Does the TRF share of core die k hold one more matrix in place of matrix i (R348)? -/
def Chip.trfFits (c : Chip) (k i fmt : Nat) : Bool :=
  let rest := (c.coll.mats.filter (fun e => e.1 / 128 == k && e.1 % 128 != i)).foldl (fun s e =>
    s + (match e.2 with | some m => matBytes m.fmt | none => 0)) 0
  decide (rest + matBytes fmt + c.coll.wide.foldl (fun s w => s + wideBytes w) 0 ≤ (c.die (32 + k)).trf * 2 ^ 20)

/-- Do the steps in use by some collective of core die k satisfy p? -/
def Chip.inUse (c : Chip) (k : Nat) (p : SyncObj → Bool) : Bool :=
  (c.objsOf k).any (fun e => c.objBusy e.1 && p e.2)

/-- LOAD_MATRIX: 1,024 entries in the format of ARG_A [7:0]. -/
def Chip.loadMatrix (c : Chip) (k : Nat) (read : HubRead) : Chip :=
  if c.trfOp k ≠ 1 then c
  else
    let fmt := c.trfArgA k % 256
    let i := c.trfId k
    if (fmt ≠ 3 ∧ fmt ≠ 5) ∨ 128 ≤ i then c.trfEnd k 3
    else if !c.trfFits k i fmt then c.trfEnd k 2
    else
      let w := if fmt = 3 then 2 else 1
      let es := (List.range 1024).map (fun j => readLe (read (c.trfHub k)) (c.trfAddr k + w * j) w)
      (c.setMat k i (some ⟨fmt, es⟩)).trfEnd k 0

/-- DROP_MATRIX. -/
def Chip.dropMatrix (c : Chip) (k : Nat) : Chip :=
  if c.trfOp k ≠ 2 then c
  else
    let i := c.trfId k
    if (c.matAt k i).isNone ∨ 128 ≤ i then c.trfEnd k 4
    else if c.inUse k (fun o => (progSteps o.prog).any (fun s => s.1.op == 4 && s.1.arg == i)) then c.trfEnd k 1
    else (c.setMat k i none).trfEnd k 0

/-- A collective of the die uses the recipe of a slot. -/
def Chip.recipeInUse (c : Chip) (k i : Nat) : Bool := c.inUse k (fun o => o.geo.1.recipe == i)

/-- LOAD_RECIPE: refused with IN_USE while a collective uses the slot, with INVALID when it breaks R353. -/
def Chip.loadRecipe (c : Chip) (k : Nat) (read : HubRead) : Chip :=
  if c.trfOp k ≠ 3 then c
  else
    let i := c.trfId k
    let ws := recipeWords ((List.range 32).map (fun j => readLe (read (c.trfHub k)) (c.trfAddr k + 8 * j) 8))
    if i = 0 then c.trfEnd k 3
    else if c.recipeInUse k i then c.trfEnd k 1
    else if !recipeValid ws false then c.trfEnd k 3
    else (c.setRec k i (some ws)).trfEnd k 0

/-- DROP_RECIPE. -/
def Chip.dropRecipe (c : Chip) (k : Nat) : Chip :=
  if c.trfOp k ≠ 4 then c
  else
    let i := c.trfId k
    if (c.recAt k i).isNone then c.trfEnd k 4
    else if c.recipeInUse k i then c.trfEnd k 1
    else (c.setRec k i none).trfEnd k 0

/-! ### Bindings (R360) -/

/-- A parameter set from its FP32 values, with OMB1 and OMB2 (R361). -/
def mkParams (lr b1 b2 eps wd gscale : Nat) (nesterov : Bool) : OptParams :=
  { lr := lr, b1 := b1, b2 := b2, eps := eps, wd := wd, gscale := gscale, omb1 := f32Sub f32One b1, omb2 := f32Sub f32One b2,
    nesterov := nesterov }

/-- The set of the staging registers' reset values. -/
def resetParams : OptParams := mkParams 0 0x3F666666 0x3F7FBE77 0x322BCC77 0 0x3F800000 false

/-- The 48-byte binding record at an address. -/
def readBinding (read : Nat → Nat) (a : Nat) : Binding :=
  let f (lo n : Nat) : Nat := readLe read (a + lo) n
  { object := f 0 2, rule := f 2 1, ep := f 4 4, chunks := f 8 4, base := f 12 4, step := f 16 8, b1t := f 24 4, b2t := f 28 4,
    elements := f 32 8, cur := resetParams, next := none }

/-- The bindings of core die k. -/
def Chip.bindsOf (c : Chip) (k : Nat) : List (Nat × Binding) :=
  (List.range 64).filterMap (fun i => (c.bind k i).map (fun b => (i, b)))

/-- Does a binding fit the OPT region, clear of the others? -/
def Chip.bindFits (c : Chip) (k : Nat) (b : Binding) : Bool :=
  let lo := b.base * 2 ^ 20
  let hi := lo + b.bytes
  decide (hi ≤ (c.die (32 + k)).opt * 2 ^ 30)
    && (c.bindsOf k).all (fun e => decide (e.2.base * 2 ^ 20 + e.2.bytes ≤ lo) || decide (hi ≤ e.2.base * 2 ^ 20))

/-- BIND: a binding number or an object already bound is IN_USE, an object not homed here or not allocated or an unknown
rule INVALID. ZERO leaves the binding BUSY until BIND_ZERO_DONE. -/
def Chip.bindOp (c : Chip) (k : Nat) (read : HubRead) : Chip :=
  if c.trfOp k ≠ 5 then c
  else
    let i := c.trfId k
    let a := c.trfAddr k
    let b := readBinding (read (c.trfHub k)) a
    let zero := bitOf (read (c.trfHub k) (a + 3)) 0
    if 64 ≤ i ∨ 4096 ≤ b.object ∨ objCore b.object ≠ k ∨ c.objState b.object = 0 ∨ c.objState b.object = 7 ∨ 2 < b.rule then
      c.trfEnd k 3
    else if (c.bind k i).isSome ∨ (c.bindOf b.object).isSome then c.trfEnd k 1
    else if !c.bindFits k b then c.trfEnd k 2
    else (c.setBind k i (some { b with busy := zero })).trfEnd k 0

/-- Fill a record with 0 and stamp it. -/
def Chip.zeroRecord (c : Chip) (k : Nat) (b : Binding) (r : Nat) : Chip :=
  let a := b.recAddr r
  ((List.range (b.stride / 4)).foldl (fun s i => s.setOptWord k (a + 4 * i) 0) c).setStamp k a b.step

/-- BIND_ZERO_DONE: every record of the binding is filled and stamped with STEP; the binding leaves BUSY. -/
def Chip.bindZeroDone (c : Chip) (k i : Nat) : Chip :=
  match c.bind k i with
  | none => c
  | some b =>
    if !b.busy ∨ b.copy.isSome then c
    else ((List.range b.chunks).foldl (fun s r => s.zeroRecord k b r) c).setBind k i (some { b with busy := false })

/-- UNBIND: BUSY during a collective of the object and while the binding is BUSY. -/
def Chip.unbindOp (c : Chip) (k : Nat) : Chip :=
  if c.trfOp k ≠ 6 then c
  else
    let i := c.trfId k
    match c.bind k i with
    | none => c.trfEnd k 4
    | some b => if c.objBusy b.object ∨ b.busy then c.trfEnd k 5 else (c.unbind k i).trfEnd k 0

/-- STATE_COPY: accepted while the object is ARMED, SEALED or ABORTED; the binding is BUSY while it runs (R367). -/
def Chip.stateCopy (c : Chip) (k : Nat) : Chip :=
  if c.trfOp k ≠ 7 then c
  else
    let i := c.trfId k
    let first := c.trfArgA k / 256
    let count := c.trfArgB k % 2 ^ 24
    match c.bind k i with
    | none => c.trfEnd k 4
    | some b =>
      let st := c.objState b.object
      if b.busy ∨ !(st == 1 || st == 5 || st == 6) then c.trfEnd k 5
      else if b.chunks < first + count then c.trfEnd k 3
      else (c.setBind k i (some { b with busy := true, copy := some (c.trfArgA k % 2, first, count, c.trfHub k, c.trfAddr k) })).trfEnd k 0

/-- Copy one record from hub memory, STRIDE bytes at an address. -/
def Chip.recordIn (c : Chip) (k : Nat) (b : Binding) (r : Nat) (read : Nat → Nat) (a : Nat) : Chip :=
  (List.range (b.stride / 4)).foldl (fun s j => s.setOptWord k (b.recAddr r + 4 * j) (readLe read (a + 4 * j) 4)) c

/-- The bytes a copy out writes for one record. -/
def Chip.recordOut (c : Chip) (k : Nat) (b : Binding) (r hub a : Nat) : List HubWrite :=
  (List.range (b.stride / 4)).flatMap (fun j =>
    (leBytes 4 (c.optWord k (b.recAddr r + 4 * j))).zipIdx.map (fun e => (hub, a + 4 * j + e.2, e.1)))

/-- STATE_COPY_DONE: the records have moved; the binding leaves BUSY, and LOST after a copy into HBM3E. Records lie STRIDE
bytes apart in hub memory (DESIGN CHOICE, log 14). -/
def Chip.stateCopyDone (c : Chip) (k i : Nat) (read : HubRead) : List HubWrite × Chip :=
  match c.bind k i with
  | none => ([], c)
  | some b =>
    match b.copy with
    | none => ([], c)
    | some (dir, first, count, hub, a) =>
      let rs := List.range count
      if dir = 0 then
        ([], (rs.foldl (fun s j => s.recordIn k b (first + j) (read hub) (a + j * b.stride)) c).setBind k i
          (some { b with busy := false, copy := none, lost := false }))
      else
        (rs.flatMap (fun j => c.recordOut k b (first + j) hub (a + j * b.stride)),
          (c.hbmRead k (count * b.stride)).setBind k i (some { b with busy := false, copy := none }))

/-! ### READ and parameters -/

/-- The binding record as it stands. -/
def Binding.bytesOf (b : Binding) : List Nat :=
  leBytes 2 b.object ++ [b.rule, 0] ++ leBytes 4 b.ep ++ leBytes 4 b.chunks ++ leBytes 4 b.base ++ leBytes 8 b.step
    ++ leBytes 4 b.b1t ++ leBytes 4 b.b2t ++ leBytes 8 b.elements ++ leBytes 8 0

/-- Put up to 64 bytes into TRF_RES_n. -/
def Chip.trfRes (c : Chip) (k : Nat) (bs : List Nat) : Chip :=
  (List.range 16).foldl (fun s i => s.wr (R.TRF_RES (32 + k) i) (BitVec.ofNat 32 (leVal ((bs.drop (4 * i)).take 4)))) c

/-- TRF_READ: ARG_A [1:0] names a binding, matrix or recipe. -/
def Chip.trfRead (c : Chip) (k : Nat) : Chip :=
  if c.trfOp k ≠ 8 then c
  else
    let i := c.trfId k
    let what := c.trfArgA k % 4
    let bytes : Option (List Nat) :=
      if what = 0 then (if i < 64 then (c.bind k i).map Binding.bytesOf else none)
      else if what = 1 then
        (if i < 128 then (c.matAt k i).map (fun m => m.entries.flatMap (leBytes (if m.fmt = 3 then 2 else 1))) else none)
      else (c.recAt k i).map (fun ws => ws.flatMap (leBytes 8))
    if what = 3 then c.trfEnd k 3
    else
      match bytes with
      | none => c.trfEnd k 4
      | some bs => (c.trfRes k (bs.take 64)).trfEnd k 0

/-- OPT_PARAM_LOAD: an apply of group 0x023 loads the next set of the binding it names (R361). -/
def Chip.optParamLoad (c : Chip) (k : Nat) : Chip :=
  let d := 32 + k
  let i := c.get (R.OPT_PAR_SEL d) F.OPT_PAR_SEL_BIND
  let v (a : Nat) : Nat := (c.rd a).toNat
  let p := mkParams (v (R.OPT_PAR_LR d)) (v (R.OPT_PAR_B1 d)) (v (R.OPT_PAR_B2 d)) (v (R.OPT_PAR_EPS d)) (v (R.OPT_PAR_WD d))
    (v (R.OPT_PAR_GSCALE d)) (c.flag (R.OPT_PAR_SEL d) F.OPT_PAR_SEL_NESTEROV)
  match c.bind k i with
  | none => c
  | some b => c.setBind k i (some { b with next := some (p, v (R.OPT_PAR_FROM_LO d) + v (R.OPT_PAR_FROM_HI d) * 2 ^ 32) })

end Sys2Proof.Machine
end

