-- ==== Sys2Proof/Machine/CommitChecks.lean ====
section
/-!
DEFINITION. The consistency checks of the commit groups (R65 and the group tables of each chapter), judged on a view of the chip in
which the group's registers hold the values to be applied.
-/

namespace Sys2Proof.Machine

/-- Is a value of a field within bounds? -/
def Chip.within (v : Chip) (a : Nat) (f : Fld) (lo hi : Nat) : Bool := decide (lo ≤ v.get a f) && decide (v.get a f ≤ hi)

/-! ### Groups of port dies -/

/-- 0x003, link parameters. -/
def Chip.chkLink (v : Chip) (d : Nat) : List Bool :=
  [(List.range 8).all (fun k => !v.lossless d k || decide (64 ≤ v.alloc d k)),
   decide ((List.range 8).foldl (fun s k => s + v.alloc d k) 0 ≤ 4096),
   decide (1 ≤ v.get (R.PRT_FEC_LIMIT d) F.PRT_FEC_LIMIT_LIMIT)]

/-- 0x004, optical policy and requests (R162). -/
def Chip.chkOptical (v : Chip) (d : Nat) : List Bool :=
  let op := v.optReqOp d
  let l := v.optReqLane d
  [v.within (R.PRT_OPT_POL d) F.PRT_OPT_POL_HTR_CAP 70 140,
   decide (1 ≤ v.get (R.PRT_OPT_POL d) F.PRT_OPT_POL_CAL_PERIOD),
   op == 0 || (op == 3 && decide (v.get (R.PRT_OPT_REQ d) F.PRT_OPT_REQ_RING < 136))
     || ((op == 1 || op == 2 || op == 4) && (v.role l == 1 || v.role l == 2) && (op != 1 || v.onSpare l)
          && (op != 4 || (v.fadeHold l && decide (0 < (v.laneOpt l).nAbove10))))]

/-- 0x005, clearing requests (R184). -/
def Chip.chkClearing (v : Chip) (d : Nat) : List Bool :=
  let op := v.clrReqOp d
  let r := v.clrReqRoute d
  let k := v.clrReqChan d
  let st := v.clrSt d r k
  [v.within (R.CLR_REQ d) F.CLR_REQ_LEAD 250 50000, op != 1 || v.clrAllowed d r k, op != 2 || (decide (1 ≤ st) && decide (st ≤ 5))]

/-- 0x006, forwarding mode (R217). -/
def Chip.chkForward (v : Chip) (d : Nat) : List Bool :=
  [v.within (R.PRT_SAF_HOLD d) F.PRT_SAF_HOLD_HOLD 1 255,
   (List.range 64).all (fun p => v.startsPort d p || v.get (R.PRT_FWD_MODE d p) F.PRT_FWD_MODE_SAF == 0)]

/-- 0x007, core-die spray set. -/
def Chip.chkCoreSpray (v : Chip) (d : Nat) : List Bool := [decide (4 ≤ popCount 8 (v.get (R.PRT_CSPRAY d) F.PRT_CSPRAY_MASK))]

/-- 0x00A, table operations (R288). -/
def Chip.chkTable (v : Chip) (d : Nat) : List Bool :=
  let op := v.get (R.TBL_OP d) F.TBL_OP_OP
  let t := v.tblTable d
  let e := (v.rd (R.TBL_DATA d 0)).toNat
  let e4 := (v.rd (R.TBL_DATA d 4)).toNat
  [decide (op ≤ 5),
   op == 0 || (op == 1 && t == 0) || ((op == 2 || op == 3) && (t == 1 || t == 2)) || (op == 4 && t != 3) || (op == 5 && t == 1),
   op != 1 || e % 2 == 0 || decide (slice e 1 6 ≤ 31),
   !(op == 2 && t == 2 && slice e4 5 1 == 1) || decide (0 < (v.die (32 + slice e4 6 3)).stage)]

/-- 0x00B, learning and ageing; `c` is the chip before the apply. -/
def Chip.chkLearning (c v : Chip) (d : Nat) : List Bool :=
  [v.within (R.TBL_AGE_CFG d) F.TBL_AGE_CFG_FLOW_MAX 1000 29000, v.within (R.TBL_AGE_CFG d) F.TBL_AGE_CFG_SCRUB 10 1000,
   v.within (R.TBL_BULK_CFG d) F.TBL_BULK_CFG_WINDOW 1 1000, decide (1 ≤ v.get (R.TBL_BULK_CFG d) F.TBL_BULK_CFG_THRESH),
   v.rd (R.TBL_HASH_SEED d) == c.rd (R.TBL_HASH_SEED d)
     || (c.get (R.TBL_FLOW_CNT d) F.TBL_FLOW_CNT_ENTRIES == 0 && c.get (R.TBL_MC_CNT d) F.TBL_MC_CNT_ENTRIES == 0)]

/-- 0x010 to 0x017, lane map and spray set of block b. -/
def Chip.chkSpray (v : Chip) (d b : Nat) : List Bool :=
  let ls := blockLanes d b
  [ls.all (fun l => v.widthCode l != 3)
     && ls.all (fun l => v.role l != 1 || (v.portLanes d (v.portOf l)).all (fun m => v.role m == 1 && v.widthCode m == v.widthCode l)),
   ls.all (fun l => !v.inSpray l || v.role l == 1),
   ls.all (fun l => !(v.startsPort d (laneLocal l) && v.portEnabled l) || (v.portLanes d (laneLocal l)).any v.inSpray)]

/-- 0x018 to 0x01F, pool thresholds of block b. -/
def Chip.chkPool (v : Chip) (d b : Nat) : List Bool :=
  let w := v.get (R.BUF_POOL_WARN d b) F.BUF_POOL_WARN_WARN
  let p := v.get (R.BUF_POOL_PRS d b) F.BUF_POOL_PRS_PRESSURE
  let f := v.get (R.BUF_POOL_FLR d b) F.BUF_POOL_FLR_FLOOR
  [decide (w < p) && decide (p < f), decide (f ≤ v.sharedSize d b), decide (w + 4096 ≤ p), decide (p + 16384 ≤ f)]

/-- 0x020, class map and weights: a class in use is one that is not STRICT (R59's own example). -/
def Chip.chkClassMap (v : Chip) (d : Nat) : List Bool :=
  let m := (v.rd (R.SCH_CLASS_MAP d)).toNat
  [bitOf m 4 && bitOf m 5, (List.range 8).all (fun k => v.strict d k || decide (1 ≤ v.weight d k))]

/-- 0x021, congestion profiles. -/
def Chip.chkProfiles (v : Chip) (d : Nat) : List Bool :=
  let ps := (List.range 8).flatMap (fun k => (List.range 3).map (fun g => v.rd (R.BUF_PROF d k g)))
  [ps.all (fun w => getBits w F.BUF_PROF_ACTION == 0 || decide (getBits w F.BUF_PROF_START ≤ getBits w F.BUF_PROF_END)),
   v.within (R.BUF_VOQ_LIMIT d) F.BUF_VOQ_LIMIT_LIMIT 256 32768, v.within (R.BUF_SAT_CFG d) F.BUF_SAT_CFG_DWELL 1 1000,
   decide (10 ≤ v.get (R.BUF_AUDIT_CFG d) F.BUF_AUDIT_CFG_PERIOD), ps.all (fun w => getBits w F.BUF_PROF_ACTION != 3)]

/-- 0x022, launch hold. -/
def Chip.chkHold (v : Chip) (d : Nat) : List Bool :=
  [(List.range 64).all (fun p => v.startsPort d p || v.get (R.SCH_HOLD d p) F.SCH_HOLD_HOLD == 0),
   (List.range 64).all (fun p => !v.queueHeld d p 7)]

/-- A rate in Mbit/s is at most the rate of the port that starts at p (R248); where none starts there, only 0 is. -/
def Chip.rateOk (v : Chip) (d p rate : Nat) : Bool :=
  if v.startsPort d p then decide (rate * 64 ≤ v.portWidth (d * 64 + p) * 400000 * v.cellLen d p) else rate == 0

/-- 0x040 + 4p, shapers of port p. -/
def Chip.chkShapers (v : Chip) (d p : Nat) : List Bool :=
  let ss := (List.range 9).filter (v.shaped d p)
  let burst (s : Nat) : Nat := v.get (R.SCH_SHP_BURST d p s) F.SCH_SHP_BURST_BURST
  [ss.all (fun s => v.rateOk d p (v.get (R.SCH_SHP_RATE d p s) F.SCH_SHP_RATE_RATE)), ss.all (fun s => decide (v.cellLen d p ≤ burst s)),
   ss.all (fun s => decide (burst s ≤ 2 ^ 24))]

/-- 0x140 + p, policers of port p. -/
def Chip.chkPolicers (v : Chip) (d p : Nat) : List Bool :=
  let ks := (List.range 4).filter (fun k => v.flag (R.SCH_POL_CIR d p k) F.SCH_POL_CIR_ENABLE)
  let cir (k : Nat) : Nat := v.get (R.SCH_POL_CIR d p k) F.SCH_POL_CIR_CIR
  let pir (k : Nat) : Nat := v.get (R.SCH_POL_PIR d p k) F.SCH_POL_PIR_VALUE
  let cbs (k : Nat) : Nat := v.get (R.SCH_POL_CBS d p k) F.SCH_POL_CBS_VALUE
  let pbs (k : Nat) : Nat := v.get (R.SCH_POL_PBS d p k) F.SCH_POL_PBS_VALUE
  [ks.all (fun k => decide (cir k ≤ pir k)), ks.all (fun k => decide (v.cellLen d p ≤ cbs k) && decide (v.cellLen d p ≤ pbs k)),
   ks.all (fun k => v.rateOk d p (pir k)), ks.all (fun k => decide (cbs k ≤ 2 ^ 24) && decide (pbs k ≤ 2 ^ 24))]

/-! ### Groups of core dies -/

/-- 0x008, crossbar arbitration. -/
def Chip.chkXbar (v : Chip) (d : Nat) : List Bool :=
  let n := v.get (R.XBR_ARB_CFG d) F.XBR_ARB_CFG_ENV_CREDITS
  [decide (8 ≤ v.get (R.XBR_ARB_CFG d) F.XBR_ARB_CFG_AGE_LIMIT), decide (n * 786432 ≤ (v.die d).xbr * 2 ^ 20), decide (2 ≤ n)]

/-- 0x009, spill pool. -/
def Chip.chkSpill (v : Chip) (d : Nat) : List Bool :=
  let t (f : Fld) : Nat := v.get (R.BUF_SPILL_THR d) f
  [v.within (R.BUF_SPILL_CFG d) F.BUF_SPILL_CFG_LIFE 10 900,
   decide (t F.BUF_SPILL_THR_WARN < t F.BUF_SPILL_THR_PRESSURE) && decide (t F.BUF_SPILL_THR_PRESSURE < t F.BUF_SPILL_THR_FLOOR),
   decide (1 ≤ v.get (R.BUF_SPILL_CFG d) F.BUF_SPILL_CFG_CREDITS)]

/-- 0x00C, staging slots. -/
def Chip.chkStaging (v : Chip) (d : Nat) : List Bool :=
  let k := d - 32
  let op := v.stgOp k
  let st := v.slotSt k (v.stgSlot k)
  let r := v.get (R.TBL_STG_REQ d) F.TBL_STG_REQ_RESERVE
  let sum := ((List.range 4).filter (fun s => v.slotSt k s != 0)).foldl (fun n s => n + (v.stg k s).reserve) r
  [op != 1 || (st == 0 && decide (1 ≤ r) && decide (sum ≤ (v.die d).stage) && decide (sum ≤ 64)),
   (op != 2 || st == 1) && (op != 3 || st != 0)]

/-- 0x00D, sync-object operations (R317): defaults of the allocation group stand in for a 0. -/
def Chip.chkSync (v : Chip) (d : Nat) : List Bool :=
  let op := v.get (R.SYN_OP d) F.SYN_OP_OP
  let n := v.get (R.SYN_OP d) F.SYN_OP_OBJECT
  let g := (v.die d).groups.getD (n % 512 / 64) {}
  let f (a : Nat) (x : Fld) : Nat := v.get a x
  let orElse (a b : Nat) : Nat := if a = 0 then b else a
  let members := f (R.SYN_ALLOC_A d) F.SYN_ALLOC_A_MEMBERS
  let window := f (R.SYN_ALLOC_B d) F.SYN_ALLOC_B_WINDOW
  let mc := f (R.SYN_ALLOC_B d) F.SYN_ALLOC_B_MAX_CHUNK
  let th := orElse (f (R.SYN_ALLOC_C d) F.SYN_ALLOC_C_THRESH) g.thresh
  let o := SMap.get (fun _ => {}) v.coll.objs n
  [n / 512 == d - 32,
   op != 1 || (decide (1 ≤ members) && decide (members ≤ 131072)
     && decide (f (R.SYN_ALLOC_A d) F.SYN_ALLOC_A_SPINE_INDEX < f (R.SYN_ALLOC_A d) F.SYN_ALLOC_A_SPINES)
     && decide (1 ≤ window) && decide (window ≤ 8) && decide (12 ≤ mc) && decide (mc ≤ 20)
     && decide (1 ≤ orElse (f (R.SYN_ALLOC_B d) F.SYN_ALLOC_B_TIMEOUT) g.timeout) && decide (4 ≤ th) && decide (th ≤ 1024)),
   op != 3 || o.alloc.isNone || decide (v.get (R.SYN_RANK d) F.SYN_RANK_RANK < o.roll.length)]

/-- 0x00E, collective timing. -/
def Chip.chkTiming (v : Chip) (d : Nat) : List Bool :=
  [decide (1000 ≤ v.get (R.SYN_CFG d) F.SYN_CFG_QUAR), decide (10 ≤ v.get (R.SYN_CFG d) F.SYN_CFG_HOLD)]

/-- 0x00F, transform and optimizer operations (R370). -/
def Chip.chkTransform (v : Chip) (d : Nat) : List Bool :=
  let op := v.trfOp (d - 32)
  let id := v.trfId (d - 32)
  let sel := v.trfArgA (d - 32) % 4
  let mat := decide (id < 128)
  let slot := decide (1 ≤ id)
  let bind := decide (id < 64)
  [decide (op ≤ 8),
   op == 0 || decide (8 < op) || ((op == 1 || op == 2) && mat) || ((op == 3 || op == 4) && slot) || ((op == 5 || op == 6 || op == 7) && bind)
     || (op == 8 && ((sel == 0 && bind) || (sel == 1 && mat) || (sel == 2 && slot)))]

/-- An FP32 pattern is finite, at least 0, below 1. -/
def fpFinite (w : Word) : Bool := slice w.toNat 23 8 != 255
def fpNonNeg (w : Word) : Bool := decide (w.toNat < 2 ^ 31) || w.toNat == 2 ^ 31
def fpBelowOne (w : Word) : Bool := decide (2 ^ 31 ≤ w.toNat) || decide (w.toNat < 0x3F800000)

/-- 0x023, optimizer parameters. -/
def Chip.chkOptimizer (v : Chip) (d : Nat) : List Bool :=
  let vals := [R.OPT_PAR_LR d, R.OPT_PAR_B1 d, R.OPT_PAR_B2 d, R.OPT_PAR_EPS d, R.OPT_PAR_WD d, R.OPT_PAR_GSCALE d].map v.rd
  let eps := v.rd (R.OPT_PAR_EPS d)
  let b1 := v.rd (R.OPT_PAR_B1 d)
  let b2 := v.rd (R.OPT_PAR_B2 d)
  [v.get (R.OPT_BIND d (v.get (R.OPT_PAR_SEL d) F.OPT_PAR_SEL_BIND)) F.OPT_BIND_STATE == 1,
   vals.all fpFinite && fpNonNeg (v.rd (R.OPT_PAR_LR d)) && fpNonNeg (v.rd (R.OPT_PAR_WD d))
     && decide (0 < eps.toNat) && decide (eps.toNat < 2 ^ 31),
   fpNonNeg b1 && fpNonNeg b2 && fpBelowOne b1 && fpBelowOne b2]

/-! ### Groups of every die and of the hubs -/

/-- 0x024, quiz policy and requests. -/
def Chip.chkQuiz (v : Chip) (d : Nat) : List Bool :=
  let p := R.FLT_QUIZ_POL d
  let r := R.FLT_QUIZ_REQ d
  let u : QUnit := ⟨v.get r F.FLT_QUIZ_REQ_UNIT, d, v.get r F.FLT_QUIZ_REQ_BLOCK, v.get r F.FLT_QUIZ_REQ_TILE⟩
  [v.within p F.FLT_QUIZ_POL_PERIOD 10 600,
   decide (1 ≤ v.get p F.FLT_QUIZ_POL_TR_LIMIT) && decide (1 ≤ v.get p F.FLT_QUIZ_POL_TR_WINDOW),
   v.get r F.FLT_QUIZ_REQ_OP == 0 || u.exists_]

/-- 0x025, time domains. -/
def Chip.chkTime (v : Chip) (d : Nat) : List Bool :=
  let src (i : Nat) : Nat := v.get (R.TIM_DOM_CFG d i) F.TIM_DOM_CFG_SOURCE
  [v.within (R.TIM_CFG d) F.TIM_CFG_SLEW 10 500, v.within (R.TIM_CFG d) F.TIM_CFG_PPS_WIDTH 1 500,
   [0, 1].all (fun i => src i != 1 || v.role (v.get (R.TIM_DOM_CFG d i) F.TIM_DOM_CFG_LANE) == 1),
   src (v.get (R.TIM_CFG d) F.TIM_CFG_ACTIVE) != 0]

/-- 0x026, power policy (R436). -/
def Chip.chkPower (v : Chip) (d : Nat) : List Bool :=
  let rec_ := v.get (R.PWR_POL_TIME d) F.PWR_POL_TIME_REC_IDLE
  [decide (1 ≤ rec_), decide (10 * rec_ ≤ v.get (R.PWR_POL_TIME d) F.PWR_POL_TIME_DEEP_IDLE),
   !v.flag (R.PWR_POL_MAX d) F.PWR_POL_MAX_DIE_MAX || (List.range (blocksOf d)).all (fun b => v.blkMax d b == 2)]

/-- 0x027, twin: a lane of ROLE 2 somewhere in the image. -/
def Chip.chkTwin (v : Chip) (d : Nat) : List Bool :=
  [!v.flag (R.TWN_CFG d) F.TWN_CFG_ENABLE || (List.range 64).any (fun p => v.role p == 2)]

/-- 0x028, management. -/
def Chip.chkManagement (v : Chip) (d : Nat) : List Bool :=
  [!v.flag (R.MGT_FC_EP d) F.MGT_FC_EP_VALID || v.get (R.MGT_FC_EP d) F.MGT_FC_EP_EP != 0]

/-- 0x029, ledger policy. -/
def Chip.chkLedger (v : Chip) (d : Nat) : List Bool :=
  [decide (10 ≤ v.get (R.FLT_LDG_CFG d) F.FLT_LDG_CFG_WAIT_MAX), decide (1 ≤ v.get (R.FLT_LDG_CFG d) F.FLT_LDG_CFG_HSC_PERIOD)]

/-- The checks of commit group g of die d, in order; groups 0x001 and 0x002 have none. `c` is the chip before the apply, `v` the view
with the values to apply. -/
def Chip.groupChecks (c v : Chip) (d g : Nat) : List Bool :=
  if g = 0x003 then v.chkLink d else if g = 0x004 then v.chkOptical d else if g = 0x005 then v.chkClearing d
  else if g = 0x006 then v.chkForward d else if g = 0x007 then v.chkCoreSpray d else if g = 0x008 then v.chkXbar d
  else if g = 0x009 then v.chkSpill d else if g = 0x00A then v.chkTable d else if g = 0x00B then c.chkLearning v d
  else if g = 0x00C then v.chkStaging d else if g = 0x00D then v.chkSync d else if g = 0x00E then v.chkTiming d
  else if g = 0x00F then v.chkTransform d else if 0x010 ≤ g ∧ g ≤ 0x017 then v.chkSpray d (g - 0x010)
  else if 0x018 ≤ g ∧ g ≤ 0x01F then v.chkPool d (g - 0x018) else if g = 0x020 then v.chkClassMap d
  else if g = 0x021 then v.chkProfiles d else if g = 0x022 then v.chkHold d else if g = 0x023 then v.chkOptimizer d
  else if g = 0x024 then v.chkQuiz d else if g = 0x025 then v.chkTime d else if g = 0x026 then v.chkPower d
  else if g = 0x027 then v.chkTwin d else if g = 0x028 then v.chkManagement d else if g = 0x029 then v.chkLedger d
  else if 0x040 ≤ g ∧ g < 0x140 then v.chkShapers d ((g - 0x040) / 4)
  else if 0x140 ≤ g ∧ g < 0x180 then v.chkPolicers d (g - 0x140) else []

/-- The number, from 1, of the first check that fails; 0 when all pass. -/
def firstFail : Nat → List Bool → Nat
  | _, [] => 0
  | n, b :: t => if b then firstFail (n + 1) t else n

/-- The view of the chip with the values of a snapshot in the registers. -/
def Chip.viewOf (c : Chip) (vals : List (Nat × Word)) : Chip := vals.foldl (fun s x => s.wr x.1 x.2) c

end Sys2Proof.Machine
end

