-- ==== Sys2Proof/Machine/Messages.lean ====
section
/-!
DEFINITION. Messages the M40 sends over the fabric (R83 to R88, R94, R188, R451, R455): their bytes, cells and way out of the chip.
-/

namespace Sys2Proof.Machine

/-- Keys, ciphertexts, tags and signatures whose bytes the spec does not give (DESIGN CHOICE, log 5), by purpose: 2 tags, 3 key exchange, 4 signatures,
5 certificates. -/
def Chip.drawCrypto (c : Chip) (purpose bytes : Nat) : List Nat × Chip :=
  (leBytes bytes (Config.crypto purpose c.draws).toNat, { c with draws := c.draws + 1 })

/-- The byte stream of a message (R451); a message of a session ends in its TAG. -/
def msgBytes (ty session seq : Nat) (body tag : List Nat) : List Nat :=
  leBytes 2 ty ++ leBytes 2 body.length ++ leBytes 2 session ++ [0, 0] ++ leBytes 8 seq ++ body ++ tag

/-- A stream in pieces of 51 bytes. -/
def pieces : Nat → List Nat → List (List Nat)
  | 0, _ => []
  | n + 1, l => if l.isEmpty then [] else l.take 51 :: pieces n (l.drop 51)

/-- The cells of a message: SCOPE in payload byte 0, KIND 5 on TC6 and KIND 6 on TC7 (R79). -/
def msgCells (kind scope dest src : Nat) (bs : List Nat) : List Cell :=
  let ps := pieces (bs.length + 1) bs
  ps.zipIdx.map (fun e =>
    { kind := BitVec.ofNat 3 kind, tc := BitVec.ofNat 3 (kind + 1), first := e.2 == 0, last := e.2 + 1 == ps.length,
      dest := BitVec.ofNat 20 dest, src := BitVec.ofNat 20 src, seq := BitVec.ofNat 22 e.2, payload := payloadOf (scope :: e.1) : Cell }.seal)

/-- Where the M40 sends a cell for an end point: by the leaf entry of the lowest port die in service (DESIGN CHOICE, log 25). -/
def Chip.epRoute (c : Chip) (ep : Nat) : Option (Nat × Nat) :=
  match (List.range 32).find? (fun d => !c.isolated d) with
  | some d => c.leafRoute d (ep / 512)
  | none => none

/-- Send the cells of a message from the primary hub's core die (R206); a destination without a route takes none. Only the cell with
SEQ 0 carries a timestamp request (R404). -/
def Chip.sendStream (c : Chip) (kind dest : Nat) (bs : List Nat) (ts : Option Nat) : Chip :=
  match c.primary, c.epRoute dest with
  | some h, some (e, p) =>
    if c.isolated e then c
    else
      let cells := msgCells kind 2 dest (c.switchId e) bs
      c.coreSend (hubDie h - 32) e (cells.zipIdx.map (fun x =>
        { cell := x.1, port := p, mcast := false, saf := false, ts := if x.2 = 0 then ts else none }))
  | _, _ => c

/-- Send a message outside any session. -/
def Chip.sendPlain (c : Chip) (kind dest ty : Nat) (body : List Nat) : Chip :=
  c.sendStream kind dest (msgBytes ty 0 0 body []) none

/-- Session number n of a hub. -/
def Chip.session (c : Chip) (h n : Nat) : Option Session := SMap.get (fun _ => none) (c.hub h).sessions n

def Chip.setSession (c : Chip) (h n : Nat) (x : Option Session) : Chip :=
  c.modHub h (fun u => { u with sessions := SMap.set (fun _ => none) u.sessions n x })

/-- Send a message of session n of hub h, with the next MSG_SEQ of its direction and a TAG (R454, R455). -/
def Chip.sendSession (c : Chip) (h n kind ty : Nat) (body : List Nat) : Chip :=
  match c.session h n with
  | none => c
  | some x =>
    let t := c.drawCrypto 2 32
    (t.2.setSession h n (some { x with nextOut := x.nextOut + 1 })).sendStream kind x.client (msgBytes ty n x.nextOut body t.1) none

/-- The fabric controller's session: open, with the CONTROL right, to the end point of MGT_FC_EP (R452). -/
def Chip.fcSession (c : Chip) : Option (Nat × Nat) :=
  match c.primary with
  | none => none
  | some h =>
    if !c.flag (R.MGT_FC_EP (hubDie h)) F.MGT_FC_EP_VALID then none
    else ((c.hub h).sessions.find? (fun e => match e.2 with
      | some x => x.open_ && decide (2 ≤ x.rights) && x.client == c.get (R.MGT_FC_EP (hubDie h)) F.MGT_FC_EP_EP
      | none => false)).map (fun e => (h, e.1))

/-- Send a NOTICE_FWD or TWIN_LOST message to the fabric controller; without its session it is held, the oldest of more than 256 being
dropped (R452). -/
def Chip.sendFc (c : Chip) (ty : Nat) (body : List Nat) : Chip :=
  match c.fcSession with
  | some (h, n) => c.sendSession h n 5 ty body
  | none => { c with twin := { c.twin with held := (c.twin.held ++ [(ty, body)]).drop (c.twin.held.length + 1 - 256) } }

/-- The held messages leave once the fabric controller's session is open. -/
def Chip.releaseHeld (c : Chip) : Chip :=
  if c.fcSession.isNone then c
  else c.twin.held.foldl (fun s m => s.sendFc m.1 m.2) { c with twin := { c.twin with held := [] } }

end Sys2Proof.Machine
end

