-- ==== Sys2Proof/Machine/Clocks.lean ====
section
/-!
DEFINITION. Device time and its domains (R395 to R403, R438): the core cycle, offsets, handovers, PPS pins. Meanings: PTP_MESSAGE,
PPS_IN_EDGE, DOMAIN_HOLDOVER, DOMAIN_FAULT_CLEAR, SLEW_DONE, PPS_OUT_EDGE, PPS_OUT_FALL, PTM_REQUEST, PTP_DELAY_REQ_SEND.
-/

namespace Sys2Proof.Machine

/-! ### TIM_STAT, which every die follows (R397, R411) -/

/-- Set a field of TIM_STAT in every die window. -/
def Chip.setTimStat (c : Chip) (f : Fld) (v : Nat) : Chip := (List.range 40).foldl (fun s d => s.set (R.TIM_STAT d) f v) c

def domFld (x : Nat) : Fld := if x = 0 then F.TIM_STAT_STATE_A else F.TIM_STAT_STATE_B

/-- State of a domain (R400): 0 OFF, 1 LISTEN, 2 LOCKED, 3 HOLDOVER, 4 FAULT. -/
def Chip.domState (c : Chip) (x : Nat) : Nat := c.get (R.TIM_STAT c.primaryDie) (domFld x)
def Chip.timValid (c : Chip) : Bool := c.flag (R.TIM_STAT c.primaryDie) F.TIM_STAT_VALID
def Chip.timActive (c : Chip) : Nat := c.get (R.TIM_STAT c.primaryDie) F.TIM_STAT_ACTIVE
def Chip.dom (c : Chip) (x : Nat) : Domain := SMap.get (fun _ => {}) c.clock.doms x
def Chip.setDom (c : Chip) (x : Nat) (v : Domain) : Chip :=
  { c with clock := { c.clock with doms := SMap.set (fun _ => {}) c.clock.doms x v } }
def Chip.domSource (c : Chip) (x : Nat) : Nat := c.get (R.TIM_DOM_CFG c.primaryDie x) F.TIM_DOM_CFG_SOURCE
def Chip.domOffset (c : Chip) (x : Nat) : Int := (c.dom x).hist.headD 0

/-- A notice of event 0x10 or 0x11 (R410). -/
def Chip.timeNotice (c : Chip) (event sev x new old : Nat) : Chip :=
  c.post c.primaryDie 0x0A sev c.primaryDie 4 0 0
    (event + x * 2 ^ 8 + new * 2 ^ 9 + old * 2 ^ 12 + ofSigned 48 (clampSigned 48 (c.domOffset x)) * 2 ^ 16)

/-! ### Handover (R396, R402) -/

/-- Is the offset of a domain within ±50 ns? -/
def nearOffset (o : Int) : Bool := decide (-50 ≤ o) && decide (o ≤ 50)

/-- Make a domain the active one: device time slews toward it while its offset is beyond ±50 ns. -/
def Chip.handover (c : Chip) (x : Nat) : Chip :=
  if c.timActive = x then c
  else ((c.setTimStat F.TIM_STAT_ACTIVE x).setTimStat F.TIM_STAT_SLEWING (!nearOffset (c.domOffset x)).toNat).timeNotice 0x11 0 x
    (c.domState x) (c.domState x)

/-- With AUTO set, the active domain not LOCKED and the other LOCKED, the other is made active. -/
def Chip.autoHandover (c : Chip) : Chip :=
  let other := 1 - c.timActive
  if c.timValid ∧ c.flag (R.TIM_CFG c.primaryDie) F.TIM_CFG_AUTO ∧ c.domState c.timActive ≠ 2 ∧ c.domState other = 2 then
    c.handover other
  else c

/-- A domain enters a state, with its notice (R400). -/
def Chip.domTo (c : Chip) (x new : Nat) : Chip :=
  let old := c.domState x
  if new = old then c
  else ((c.setTimStat (domFld x) new).timeNotice 0x10 (if new = 3 ∨ new = 4 then 1 else 0) x new old)

/-- The first domain to be LOCKED sets device time in a single step (R396); both domains' offsets are against the new time. -/
def Chip.setTime (c : Chip) (x : Nat) : Chip :=
  let o := c.domOffset x
  let shift (v : Domain) : Domain := { v with hist := v.hist.map (fun h => h - o) }
  let c1 := { c with now := ((c.now : Int) + o * (tuNs : Int)).toNat }
  (((c1.setDom 0 (shift (c1.dom 0))).setDom 1 (shift (c1.dom 1))).setTimStat F.TIM_STAT_VALID 1).setTimStat F.TIM_STAT_ACTIVE x

/-- A domain has become LOCKED. -/
def Chip.domLocked (c : Chip) (x : Nat) : Chip :=
  let want := c.get (R.TIM_CFG c.primaryDie) F.TIM_CFG_ACTIVE
  let mark (s : Chip) : Chip := { s with clock := { s.clock with chosen := true } }
  if !c.timValid then (if want = x then mark (c.setTime x) else c.setTime x)
  else if want = x ∧ !c.clock.chosen then mark (c.handover x)
  else c.autoHandover

/-! ### Measurements (R400) -/

/-- The newest 8 offsets agree within ±50 ns of the newest (DEDUCED, log 26). -/
def agree (h : List Int) : Bool := decide (8 ≤ h.length) && h.all (fun o => nearOffset (o - h.headD 0))

/-- A measurement of domain x gives an offset in ns. Two in a row more than 1 ms apart are a fault; the first after HOLDOVER returns the
domain to LISTEN; 8 that agree lock it, with PPS once a time of day has been given. -/
def Chip.measure (c : Chip) (x : Nat) (ofs : Int) : Chip :=
  let v := c.dom x
  let st := c.domState x
  if st = 0 then c
  else
    let h := if st = 3 then [ofs] else (ofs :: v.hist).take 8
    let jump := st ≠ 3 && (v.hist.head?.any (fun p => decide (1000000 < (ofs - p).natAbs)))
    let show_ (s : Chip) (d : Nat) : Chip := s.set (R.TIM_DOM_OFS d x) F.TIM_DOM_OFS_OFFSET (ofSigned 32 (clampSigned 32 ofs))
    let c1 := (show_ (show_ c 32) 39).setDom x { v with hist := h }
    if st = 4 then c1
    else if jump then (c1.domTo x 4).autoHandover
    else if st = 3 then c1.domTo x 1
    else if st = 1 ∧ agree h ∧ (c.domSource x < 2 ∨ v.dated) then (c1.domTo x 2).domLocked x
    else c1

/-- PTP_MESSAGE: a message of a PTP domain received on a lane yields an offset, in 2⁻¹⁶ ns and before ASYM; each domain that takes its
time from that domainNumber and lane is served (R398). -/
def Chip.ptpMessage (c : Chip) (lane number : Nat) (raw : Int) : Chip :=
  [0, 1].foldl (fun s x =>
    let a := R.TIM_DOM_CFG s.primaryDie x
    if s.domSource x = 1 ∧ s.get a F.TIM_DOM_CFG_LANE = lane ∧ s.get a F.TIM_DOM_CFG_DOMAIN = number then
      s.measure x ((raw + toSigned 32 (s.rd (R.TIM_DOM_ASYM s.primaryDie x)).toNat) / 65536)
    else s) c

/-- The whole second nearest to a number of nanoseconds. -/
def nearSecond (ns : Int) : Int := (ns + 500000000) / 1000000000 * 1000000000

/-- A PPS edge as a measurement of domain x: its time of day comes from SET_TOD, then from the seconds themselves; an edge more than 1 ms
from a whole second of the domain is a fault. -/
def Chip.ppsMeasure (c : Chip) (x : Nat) : Chip :=
  let v := c.dom x
  let now : Int := (c.now / tuNs : Nat)
  match v.tod with
  | some s => (c.setDom x { v with hist := [], tod := none, dated := true }).measure x ((s : Int) * 1000000000 - now)
  | none =>
    let own := now + c.domOffset x
    let late := v.dated && decide (1000000 < (own - nearSecond own).natAbs)
    let c1 := c.measure x (nearSecond own - now)
    if late ∧ c1.domState x ≠ 0 then (c1.domTo x 4).autoHandover else c1

/-- PPS_IN_EDGE: a rising edge on pin A (0) or B (1) is stamped, and serves each domain that takes its time from it (R399, R403). -/
def Chip.ppsInEdge (c : Chip) (pin : Nat) : Chip :=
  let stamp (s : Chip) (d : Nat) : Chip := s.set (R.TIM_PPS_NSEC d pin) F.TIM_PPS_NSEC_NSEC (timeNsec s.now)
  [0, 1].foldl (fun s x => if s.domSource x = 2 + pin ∧ s.domState x ≠ 0 then s.ppsMeasure x else s) (stamp (stamp c 32) 39)

/-- DOMAIN_HOLDOVER: no measurement for 4 intervals, or for 2 s with PPS. -/
def Chip.domainHoldover (c : Chip) (x : Nat) : Chip :=
  if c.domState x = 1 ∨ c.domState x = 2 then (c.domTo x 3).autoHandover else c

/-- DOMAIN_FAULT_CLEAR: 10 s of measurements consistent within ±50 ns. -/
def Chip.domainFaultClear (c : Chip) (x : Nat) : Chip :=
  if c.domState x = 4 then (c.domTo x 1).setDom x { c.dom x with hist := [] } else c

/-- SLEW_DONE: the offset has fallen within ±50 ns. -/
def Chip.slewDone (c : Chip) : Chip := c.setTimStat F.TIM_STAT_SLEWING 0

/-- The time domains of the applied group 0x025 take effect (R396, R400, R402): SOURCE 0 turns a domain off, another starts it or clears
its FAULT; a changed ACTIVE is a handover. `oldActive` is ACTIVE before the apply. -/
def Chip.timeApplied (c : Chip) (oldActive : Nat) : Chip :=
  let one (s : Chip) (x : Nat) : Chip :=
    if s.domSource x = 0 then (s.domTo x 0).setDom x {}
    else if s.domState x = 0 ∨ s.domState x = 4 then (s.domTo x 1).setDom x { s.dom x with hist := [] }
    else s
  let c1 := one (one c 0) 1
  let want := c1.get (R.TIM_CFG c1.primaryDie) F.TIM_CFG_ACTIVE
  if c1.timValid ∧ want ≠ oldActive then c1.handover want else c1.autoHandover

/-! ### Pins and PTM (R403, R438) -/

/-- Device time has come to t, when t lies ahead. -/
def Chip.timeTo (c : Chip) (t : Nat) : Chip := { c with now := max c.now t }

/-- PPS_OUT_EDGE: at a whole second of device time PPS_OUT rises, while VALID is set or with PPS_FORCE. -/
def Chip.ppsOutEdge (c : Chip) : Chip :=
  let c1 := c.timeTo (ceilDiv c.now tuSec * tuSec)
  if c.timValid ∨ c.flag (R.TIM_CFG c.primaryDie) F.TIM_CFG_PPS_FORCE then c1.modPw (fun p => { p with ppsOut := true }) else c1

/-- PPS_OUT_FALL: PPS_WIDTH ms after its rising edge. -/
def Chip.ppsOutFall (c : Chip) : Chip := c.modPw (fun p => { p with ppsOut := false })

/-- Device time as SEC × 10⁹ + NSEC, truncated to 64 bits. -/
def Chip.timeNs (c : Chip) : Nat := (timeSec c.now * 1000000000 + timeNsec c.now) % 2 ^ 64

/-- PTM_REQUEST on a hub's PCIe function, answered while its link is up. -/
def Chip.ptmRequest (c : Chip) (h : Nat) : Chip :=
  if (c.hub h).linkUp then c.modHub h (fun x => { x with ptm := x.ptm ++ [c.timeNs] }) else c

/-- PTP_DELAY_REQ_SEND: the management complex of the primary hub sends a Delay_Req for a PTP domain to an end point, with a timestamp
request of SOURCE 1 (R398, R404, R452). -/
def Chip.ptpDelayReq (c : Chip) (x dest id : Nat) (body : List Nat) : Chip :=
  match c.primary with
  | none => c
  | some h =>
    if c.domSource x = 1 ∧ c.domState x ≠ 0 ∧ (c.hub h).mgmtUp then
      c.sendStream 5 dest (msgBytes 0x0020 0 0 body []) (some (65536 + id % 65536))
    else c

/-! ### The core cycle (R395, R401, R402, R417, R487) -/

/-- How far the clock is steered in this cycle (DESIGN CHOICE, log 4): within the slew limit and the tolerance of CLK25, and only once VALID is set. -/
def Chip.steerNow (c : Chip) : Int :=
  if !c.timValid then 0
  else
    let bound : Int := (131072 * (c.get (R.TIM_CFG c.primaryDie) F.TIM_CFG_SLEW + 41) / 1000000 : Nat)
    max (-bound) (min bound (Config.steer c.cycle))

/-- One core cycle: device time moves on by 0.4 ns, or 0.8 ns with the clocks halved by a sag warning, steered; core cycles and slots
are counted. -/
def Chip.tick (c : Chip) : Chip :=
  let n := if c.pw.clkHalf then 2 else 1
  let c1 := { c with cycle := c.cycle + 1, real := c.real + n,
                     now := max c.now ((c.now : Int) + (131072 * n : Nat) + c.steerNow).toNat }
  (List.range 40).foldl (fun s d =>
    if s.dieRuns d then
      let s1 := (s.pmcFixed d 0 1).pmcEvent d 0x001 none none 1
      if c1.cycle % 4 = 0 then s1.pmcFixed d 1 1 else s1
    else s) c1

end Sys2Proof.Machine
end

