-- ==== Sys2Proof/Machine/TwinOps.lean ====
section
/-!
DEFINITION. Shared operations of the twin (R465 to R471): its state and events, what the Wefer link sends, and the mirror records of
the M40's own state.
-/

namespace Sys2Proof.Machine

/-- The twin state: 0 SOLO, 1 PAIRING, 2 PAIRED, 3 DETACHING. -/
def Chip.twinSt (c : Chip) : Nat := c.get (R.TWN_STATE c.primaryDie) F.TWN_STATE_STATE

def Chip.modTwin (c : Chip) (f : Twin → Twin) : Chip := { c with twin := f c.twin }

/-- The ACTIVE lanes of ROLE 2 of one port die. -/
def Chip.weferOf (c : Chip) (d : Nat) : List Nat := c.weferActive.filter (fun l => laneDie l == d)

/-- TWN_STATE.LANES: ACTIVE Wefer lanes, P0's in bits 0 to 7 and P16's in bits 8 to 15, each in lane order of the die's lanes of
ROLE 2. -/
def Chip.weferMask (c : Chip) : Nat :=
  let half (d : Nat) : Nat :=
    (((dieLanes d).filter (fun l => c.role l == 2)).zipIdx.filter (fun e => e.2 < 8 && c.laneState e.1 == LS.active)).foldl
      (fun m e => m + 2 ^ e.2) 0
  half 0 + 256 * half 16

/-- Enter a twin state, with a TWIN event and vector 65 of the primary hub (R450, R466); CAUSE is that of the last change to SOLO. -/
def Chip.twinTo (c : Chip) (new cause : Nat) : Chip :=
  let old := c.twinSt
  if new = old then c
  else
    let put (s : Chip) (d : Nat) : Chip :=
      let s1 := s.set (R.TWN_STATE d) F.TWN_STATE_STATE new
      if new = 0 then s1.set (R.TWN_STATE d) F.TWN_STATE_CAUSE cause else s1
    let c1 := (put (put c 32) 39).modTwin (fun t => { t with steps := 0 })
    match c1.primary with
    | some h => (c1.hostEvent h 0x80 (new + old * 4 + cause * 2 ^ 8)).signal h 65
    | none => c1

/-- Send a message of the Wefer link on the lowest ACTIVE Wefer lane, as a request that waits for TW_ACK. -/
def Chip.twinRequest (c : Chip) (op : Nat) (body : List Nat) : Chip :=
  match c.weferActive with
  | l :: _ => c.lcRequest l op body
  | [] => c

/-- Send a mirror record with a stream sequence: spread over the ACTIVE Wefer lanes by it. The bytes of a record are not given by the
spec (DESIGN CHOICE, log 27). -/
def Chip.mirrorSend (c : Chip) (seq : Nat) : Chip :=
  let ls := c.weferActive
  match ls[seq % max 1 ls.length]? with
  | none => c
  | some l =>
    let r := c.drawCrypto 6 40
    r.2.lcSend l 0x24 0 (leBytes 8 seq ++ r.1)

/-- A record of the M40's own state goes to the partner while PAIRED. -/
def Chip.mirror (c : Chip) (r : MirrorRec) : Chip :=
  if c.twinSt ≠ 2 then c
  else
    let n := c.twin.sentSeq + 1
    (c.modTwin (fun t => { t with sentSeq := n, unacked := t.unacked ++ [(n, r)] })).mirrorSend n

/-- Send every unacknowledged record again, after a lane has retrained (R468). -/
def Chip.mirrorResend (c : Chip) : Chip := if c.twinSt ≠ 2 then c else c.twin.unacked.foldl (fun s e => s.mirrorSend e.1) c

/-- Is object n of an allocation group with MIRROR set (R51)? -/
def Chip.mirrored (c : Chip) (n : Nat) : Bool := ((c.die (objDie n)).groups.getD (n % 512 / 64) {}).mirror

/-- The mirror record of object n. -/
def Chip.mirObj (c : Chip) (n : Nat) : MirObj :=
  let o := c.obj n
  ⟨n, c.objState n, c.objEpoch n, (c.rd (R.CFG_GEN (objDie n))).toNat, o.nextSeq, o.al.spine, o.desc.getD [], o.roll⟩

/-- The objects whose state has changed from one chip to another: those of mirrored groups. -/
def Chip.objsChanged (c v : Chip) : List Nat :=
  ((c.coll.objs.map (·.1) ++ v.coll.objs.map (·.1)).eraseDups).filter (fun n =>
    v.mirrored n && (c.objState n != v.objState n || c.objEpoch n != v.objEpoch n))

/-- Clearings set up or torn down from one chip to another, by die, route and channel. -/
def Chip.clearsChanged (c v : Chip) : List (Nat × Nat × Nat) :=
  (((c.clears.map (·.1) ++ v.clears.map (·.1)).eraseDups).map (fun k => (k / 32, k / 8 % 4, k % 8))).filter (fun x =>
    (c.clrSt x.1 x.2.1 x.2.2 == 5) != (v.clrSt x.1 x.2.1 x.2.2 == 5))

/-- Flow entries of port die d whose BULK bit has changed, as entry and bit. -/
def Chip.bulkChanged (c v : Chip) : List (Nat × BitVec 128 × Bool) :=
  ((v.tb.flow.filter (fun e => bulkOf e.2 && !bulkOf (c.flowEnt (e.1 / 2 ^ 20) (e.1 % 2 ^ 20)))).map (fun e => (e.1 / 2 ^ 20, e.2, true)))
    ++ ((c.tb.flow.filter (fun e => bulkOf e.2 && !bulkOf (v.flowEnt (e.1 / 2 ^ 20) (e.1 % 2 ^ 20)))).map
        (fun e => (e.1 / 2 ^ 20, e.2, false)))
where
  bulkOf (e : BitVec 128) : Bool := flowValid e && bitsOf e 100 1 == 1

/-- Lanes of ROLE 2 that have come out of training. -/
def Chip.weferBack (c v : Chip) : Bool :=
  v.weferActive.any (fun l => c.laneState l == LS.training)

/-- What a command has changed that is mirrored (R468): `c` before, `v` after it. -/
def Chip.mirrorChanges (c v : Chip) : Chip :=
  if v.twinSt ≠ 2 ∨ c.twinSt ≠ 2 then v
  else
    let gen (d : Nat) : Nat := (v.rd (R.CFG_GEN d)).toNat
    let v1 := (c.objsChanged v).foldl (fun s n => s.mirror (.object (v.mirObj n))) v
    let v2 := (c.clearsChanged v).foldl (fun s x => s.mirror (.clearing x.1 x.2.1 x.2.2 (v.clrSt x.1 x.2.1 x.2.2) (gen x.1))) v1
    let v3 := (c.bulkChanged v).foldl (fun s x => s.mirror (.flow x.1 x.2.1 x.2.2 (gen x.1))) v2
    if c.weferBack v then v3.mirrorResend else v3

/-- A detach starts (R466, R471): TW_DETACH goes to the partner, and mirroring stops. -/
def Chip.detachStart (c : Chip) : Chip :=
  if c.twinSt = 2 then (c.twinTo 3 0).twinRequest 0x27 [] else c

end Sys2Proof.Machine
end

