-- ==== Sys2Proof/Machine/Commits.lean ====
section
/-!
DEFINITION. Commit groups (R65 to R70, R510) and what an apply does beside writing the applied copy. Meanings: CS_STAGING_WRITE,
COMMIT_APPLY, COMMIT_DISCARD, COMMIT_CHECKS_DONE, SNAPSHOT_APPLY.
-/

namespace Sys2Proof.Machine

/-! ### Writers (R29, R440, R442) -/

/-- Who writes a register: the control complex, the management complex or the host link of a hub. -/
inductive Via where
  | ctl (hub : Fin 2)
  | mgmt (hub : Fin 2)
  | host (hub : Fin 2)
  deriving DecidableEq, Repr

/-- A BAR0 write that is dropped (R440, R442). -/
def Chip.barDrop (c : Chip) (h : Nat) : Chip := c.incSat (R.MGT_BAR_ERR (hubDie h)) F.MGT_BAR_ERR_DROPPED 1

/-- May the writer's writes reach the dies? A fenced or standby hub's do not, nor do those of a complex that is not running. -/
def Chip.viaLive (c : Chip) : Via → Bool
  | .ctl h => c.primary == some h.val && !(c.hub h).fenced && (c.hub h).ctlUp
  | .mgmt h => c.primary == some h.val && !(c.hub h).fenced && (c.hub h).mgmtUp
  | .host h => c.primary == some h.val && !(c.hub h).fenced && (c.hub h).linkUp

/-- A write that goes ahead, or is dropped: through BAR0 it is counted. -/
def Chip.writeVia (c : Chip) (v : Via) (f : Chip → Chip) : Chip :=
  if c.viaLive v then f c
  else match v with
    | .host h => if (c.hub h).linkUp then c.barDrop h else c
    | _ => c

def Via.isCtl : Via → Bool
  | .ctl _ => true
  | _ => false

/-! ### Staged copies (R66, R67, R74) -/

def snapKey (d g : Nat) : Nat := d * 512 + g
def Chip.snap (c : Chip) (d g : Nat) : Option Snapshot := SMap.get (fun _ => none) c.snaps (snapKey d g)
def Chip.setSnap (c : Chip) (d g : Nat) (s : Option Snapshot) : Chip :=
  { c with snaps := SMap.set (fun _ => none) c.snaps (snapKey d g) s }

def Chip.dirty (c : Chip) (d g : Nat) : Bool := c.flag (R.CFG_CSTAT d g) F.CFG_CSTAT_DIRTY
def Chip.setDirty (c : Chip) (d g : Nat) (b : Bool) : Chip := c.set (R.CFG_CSTAT d g) F.CFG_CSTAT_DIRTY b.toNat
def Chip.setPendingBit (c : Chip) (d g : Nat) (b : Bool) : Chip := c.set (R.CFG_CSTAT d g) F.CFG_CSTAT_PENDING b.toNat

/-- The outcome of an APPLY or DISCARD in CFG_CSTAT_g. -/
def Chip.outcome (c : Chip) (d g status check : Nat) (byBell : Bool) : Chip :=
  let a := R.CFG_CSTAT d g
  ((c.set a F.CFG_CSTAT_STATUS status).set a F.CFG_CSTAT_CHECK check).set a F.CFG_CSTAT_BY_BELL byBell.toNat

/-- Does the group hold fields that act: a shaper or policer group does only where a port starts (R255, R260). -/
def Chip.holdsFields (c : Chip) (d g : Nat) : Bool :=
  if 0x040 ≤ g ∧ g < 0x140 then g % 4 == 0 && c.startsPort d ((g - 0x040) / 4)
  else if 0x140 ≤ g ∧ g < 0x180 then c.startsPort d (g - 0x140)
  else true

/-- CS_STAGING_WRITE: value v to the CS register at address a: its CS fields take v in the staged copy, and the group is DIRTY. -/
def Chip.stagingWrite (c : Chip) (a : Nat) (v : Word) : Chip :=
  match regRow a, groupOf a with
  | some (r, _), some g =>
    let m := accMask r.fields .cs
    (c.wrS a ((c.rdS a &&& ~~~m) ||| (v &&& m))).setDirty (a / 0x04000000) g true
  | _, _ => c

/-- The staged copy of a group, as a snapshot takes it. -/
def Chip.stagedVals (c : Chip) (d g : Nat) : List (Nat × Word) := (groupAddrs d g).map (fun a => (a, c.rdS a))

/-- Take the snapshot: DIRTY clears and PENDING is set. -/
def Chip.takeSnap (c : Chip) (d g : Nat) (byBell ctl : Bool) : Chip :=
  ((c.setSnap d g (some ⟨c.stagedVals d g, byBell, false, ctl, c.slot⟩)).setDirty d g false).setPendingBit d g true

/-- Is the control plane frozen: a PLANE_CONTROL reset or restart of the control complex (R28)? -/
def Chip.frozen (c : Chip) : Bool :=
  match c.primary with
  | some h => !(c.hub h).ctlUp
  | none => true

/-- Bells of die d that are armed to apply group g. -/
def Chip.applyBells (c : Chip) (d g : Nat) : List Bell :=
  (c.bells.filter (fun e => e.1 / 256 == d)).filterMap (fun e => match e.2 with
    | some b => if b.action = 3 ∧ b.arg % 512 = g then some b else none
    | none => none)

/-- Length of a slot in device time. -/
def slotTime : Nat := 4 * 131072

/-- The refusals of an APPLY write in the order of R67: 0 for none. -/
def Chip.applyRefusal (c : Chip) (d g : Nat) : Nat :=
  let bells := c.applyBells d g
  let sameSlot : Bool := (match c.snap d g with
    | some s => s.byBell && s.slot == c.slot
    | none => false) || bells.any (fun b => decide (b.time < c.now + slotTime))
  if c.frozen then 5
  else if c.regionLoading d then 6
  else if sameSlot then 1
  else if (c.snap d g).isSome then 3
  else if !bells.isEmpty then 4
  else if !c.dirty d g ∨ !c.holdsFields d g then 1
  else 0

/-- Does a commit group stand in the window of die d? -/
def groupHere (d g : Nat) : Bool := !(groupAddrs d g).isEmpty

/-- COMMIT_APPLY: APPLY written to the COMMIT register of group g of die d. -/
def Chip.commitApply (c : Chip) (d g : Nat) (ctl : Bool) : Chip :=
  if !groupHere d g then c
  else
    let r := c.applyRefusal d g
    if r = 0 then c.takeSnap d g false ctl else c.outcome d g r 0 false

/-- The staged copy returns to the applied values. -/
def Chip.unstage (c : Chip) (d g : Nat) : Chip :=
  ((groupAddrs d g).foldl (fun s a => s.wrS a (s.rd a)) c).setDirty d g false

/-- COMMIT_DISCARD. -/
def Chip.commitDiscard (c : Chip) (d g : Nat) : Chip :=
  if !groupHere d g then c else (c.unstage d g).outcome d g 7 0 false

/-! ### Bells that apply groups (R68, R409, R410) -/

/-- A BELL notice of events 0x01 to 0x04 (R410). -/
def Chip.bellNotice (c : Chip) (d event i action outcome tag : Nat) : Chip :=
  c.post d 0x0A (if event = 1 then 0 else 1) d 3 0 0
    (event + i % 256 * 2 ^ 8 + action * 2 ^ 16 + outcome % 256 * 2 ^ 20 + tag % 2 ^ 16 * 2 ^ 28)

/-- An APPLY bell's outcome is known: event 0x01 when it asked for it, and event 0x04 for any outcome but success. -/
def Chip.applyReport (c : Chip) (d : Nat) (m : BellMark) (code : Nat) : Chip :=
  let c1 := if m.notify then c.bellNotice d 1 m.index 3 code m.tag else c
  if code = 0 then c1 else c1.bellNotice d 4 m.index 3 code m.tag

/-- The snapshot of an APPLY bell, or NOTHING_STAGED when DIRTY is clear. -/
def Chip.bellSnap (c : Chip) (d g : Nat) (m : BellMark) : Chip :=
  if !c.dirty d g ∨ !c.holdsFields d g ∨ !groupHere d g then (c.outcome d g 1 0 true).applyReport d m 1
  else { c.takeSnap d g true true with bellApply := SMap.set (fun _ => none) c.bellApply (snapKey d g) (some m) }

/-- An APPLY bell acts: in the slot in which another has taken the group's snapshot it records NOTHING_STAGED; a snapshot of a COMMIT
write, or of a bell of an earlier slot, is waited for. -/
def Chip.applyBell (c : Chip) (d g : Nat) (m : BellMark) : Chip :=
  match c.snap d g with
  | none => c.bellSnap d g m
  | some s =>
    if s.byBell ∧ s.slot = c.slot then c.applyReport d m 1
    else { c with bellWaits := SMap.modify (fun _ => []) c.bellWaits (snapKey d g) (· ++ [m]) }

/-- PENDING has cleared with an outcome: a bell whose snapshot it was is reported, and bells that wait take theirs. -/
def Chip.snapDone (c : Chip) (d g code check : Nat) (s : Snapshot) : Chip :=
  let k := snapKey d g
  let c1 := ((c.outcome d g code check s.byBell).setSnap d g none).setPendingBit d g false
  let c2 := match SMap.get (fun _ => none) c1.bellApply k with
    | some m => ({ c1 with bellApply := SMap.set (fun _ => none) c1.bellApply k none }).applyReport d m code
    | none => c1
  let ws := SMap.get (fun _ => []) c2.bellWaits k
  ws.foldl (fun s m => s.applyBell d g m) { c2 with bellWaits := SMap.set (fun _ => []) c2.bellWaits k [] }

/-- COMMIT_CHECKS_DONE: the checks of the snapshot of group g of die d finish. -/
def Chip.checksDone (c : Chip) (d g : Nat) : Chip :=
  match c.snap d g with
  | none => c
  | some s =>
    if s.checked then c
    else
      let n := firstFail 1 (c.groupChecks (c.viewOf s.vals) d g)
      if n = 0 then c.setSnap d g (some { s with checked := true }) else c.snapDone d g 2 n s

/-! ### What an apply does (R70, R112, R194, R251, R254, R258, R263, R267, R411, R473) -/

/-- Is a group generational (R70)? -/
def generational (g : Nat) : Bool :=
  !(g == 0x00A || g == 0x00C || g == 0x00D || g == 0x00F || (decide (0x023 ≤ g) && decide (g ≤ 0x029)))

/-- The generation of die d rises by 1, and every shadow of the region is STALE. -/
def Chip.nextGen (c : Chip) (d : Nat) : Chip :=
  (List.range (blocksOf d)).foldl (fun s b => s.set (R.CFG_BLK_TAG d b) F.CFG_BLK_TAG_STALE 1)
    (c.wr (R.CFG_GEN d) (c.rd (R.CFG_GEN d) + 1))

/-- Group 0x003: a lowered ALLOC_c is absorbed by releases that stay unadvertised (R112). -/
def Chip.appliedLink (c v : Chip) (d : Nat) : Chip :=
  let one (s : Chip) (l : Nat) : Chip := s.modLane l (fun x => { x with
    unadvertised := (List.range 8).foldl (fun m k => SMap.modify (fun _ => 0) m k (fun u => u + (c.alloc d k - v.alloc d k))) x.unadvertised })
  ((dieLanes d).foldl one v).refreshPools d

/-- Group 0x006: cells still queued take the new mode (R194). -/
def Chip.appliedForward (v : Chip) (d : Nat) : Chip :=
  v.modSw (fun w => { w with voqs := SMap.mapVals (fun _ => []) w.voqs (fun key q =>
    if key / 2560 = d then q.map (fun x =>
      if x.eligible.isSome then x
      else if v.safMode d x.inPort (voqClass key) then (if x.saf then x else { x with saf := true, since := v.slot })
      else { x with saf := false, eligible := some v.slot })
    else q) })

/-- Group 0x008: returns are withheld after ENV_CREDITS has been lowered (R200). -/
def Chip.appliedXbar (c v : Chip) (d : Nat) : Chip :=
  let n (s : Chip) : Nat := s.get (R.XBR_ARB_CFG d) F.XBR_ARB_CFG_ENV_CREDITS
  v.modSw (fun w => { w with envLowered := sadd w.envLowered (d - 32) (n c - n v) })

/-- The HOLD bits of ports that no longer start are cleared in both copies (R267). -/
def Chip.holdsEnded (c v : Chip) (d b : Nat) : Chip :=
  (List.range 8).foldl (fun s i =>
    let p := 8 * b + i
    if c.startsPort d p ∧ (!v.startsPort d p ∨ c.portWidth (d * 64 + p) ≠ v.portWidth (d * 64 + p)) then
      s.setBoth (R.SCH_HOLD d p) F.SCH_HOLD_HOLD 0 else s) v

/-- Groups 0x010 to 0x017: ACTIVE lanes that leave their spray set drain, lanes that may now resume do (R119, R511); lanes that join
another port start their round robin at 0 (R211). -/
def Chip.appliedSpray (c v : Chip) (d b : Nat) : Chip :=
  let one (s : Chip) (l : Nat) : Chip :=
    if s.laneState l = LS.active ∧ c.inSpray l ∧ !s.inSpray l then (s.startDrain l 1 3).clrPortCheck l
    else if s.laneState l = LS.drained ∧ s.mayResume l ∧ !c.mayResume l ∧ !(s.lane l).waitsOp 0x09 then s.sendResume l
    else s
  ((blockLanes d b).filter (fun l => c.portOf l != v.portOf l)).foldl Chip.clearCurrent
    ((blockLanes d b).foldl one ((c.holdsEnded v d b).refreshPools d))

/-- Staged cells of a class that has turned strict lose their tags; those of one that has turned non-strict are tagged (R254). -/
def Chip.retagClass (c v : Chip) (l k : Nat) : Chip :=
  let d := laneDie l
  if c.strict d k = v.strict d k then v
  else if v.strict d k then v.setStq l k ((v.stq l k).map (fun e => { e with tag := none }))
  else (v.stq l k).foldl (fun s e => s.stageCell l k e) (v.setStq l k [])

/-- Group 0x020: TC6 and TC7 read lossless; a changed LOSSLESS bit is advertised on every ACTIVE lane (R249, R251). -/
def Chip.appliedClasses (c v : Chip) (d : Nat) : Chip :=
  let a := R.SCH_CLASS_MAP d
  let v1 := v.wr a (v.rd a ||| 0xC0)
  let v2 := (dieLanes d).foldl (fun s l => (List.range 8).foldl (fun s k => c.retagClass s l k) s) v1
  let v3 := if c.losslessMask d = v2.losslessMask d then v2
    else (dieLanes d).foldl (fun s l => if s.laneState l = LS.active then s.sendCredit l else s) v2
  v3.refreshPools d

/-- Groups 0x040 + 4p: a shaper whose setting has changed starts again from BURST, or with RELOAD from 0 (R258). -/
def Chip.appliedShapers (c v : Chip) (d p : Nat) : Chip :=
  (List.range 9).foldl (fun s i =>
    let same := c.rd (R.SCH_SHP_RATE d p i) == v.rd (R.SCH_SHP_RATE d p i) && c.rd (R.SCH_SHP_BURST d p i) == v.rd (R.SCH_SHP_BURST d p i)
      && c.rd (R.SCH_OVH d p) == v.rd (R.SCH_OVH d p)
    if same then s
    else s.setTokens d p i (if v.get (R.SCH_SHP_BURST d p i) F.SCH_SHP_BURST_RELOAD = 0 then v.burst d p i else 0)) v

/-- Groups 0x140 + p: the buckets of a policer any field of which has changed are full (R263). -/
def Chip.appliedPolicers (c v : Chip) (d p : Nat) : Chip :=
  (List.range 4).foldl (fun s k =>
    let regs := [R.SCH_POL_CIR d p k, R.SCH_POL_CBS d p k, R.SCH_POL_PIR d p k, R.SCH_POL_PBS d p k]
    if regs.all (fun a => c.rd a == v.rd a) then s
    else s.setBuckets d p k (s.get (R.SCH_POL_CBS d p k) F.SCH_POL_CBS_VALUE * 2 ^ 24) (s.get (R.SCH_POL_PBS d p k) F.SCH_POL_PBS_VALUE * 2 ^ 24)) v

/-- The group is mirrored to the other hub die's window (R411, R473): its applied copy, and its staged copy where nothing waits there. -/
def Chip.mirrorGroup (c : Chip) (d g : Nat) : Chip :=
  let e := if d = 32 then 39 else 32
  ((groupAddrs d g).zip (groupAddrs e g)).foldl (fun s x =>
    let s1 := s.wr x.2 (s.rd x.1)
    if s1.dirty e g then s1 else s1.wrS x.2 (s1.rd x.2)) c

/-- The twin group has been applied (R466): ENABLE cleared while PAIRED starts a detach. -/
def Chip.twinApplied (c : Chip) : Chip := if c.flag (R.TWN_CFG c.primaryDie) F.TWN_CFG_ENABLE then c else c.detachStart

/-- What an apply of group g does beside the new values: `c` before it, `v` with the values in. -/
def Chip.applied (c v : Chip) (d g : Nat) : Chip :=
  if g = 0x003 then c.appliedLink v d
  else if g = 0x006 then v.appliedForward d
  else if g = 0x007 then v.showSpray d
  else if g = 0x008 then c.appliedXbar v d
  else if 0x010 ≤ g ∧ g ≤ 0x017 then c.appliedSpray v d (g - 0x010)
  else if 0x018 ≤ g ∧ g ≤ 0x01F then v.refreshPools d
  else if g = 0x020 then c.appliedClasses v d
  else if g = 0x023 then v.optParamLoad (d - 32)
  else if g = 0x025 then (v.mirrorGroup d g).timeApplied (c.get (R.TIM_CFG c.primaryDie) F.TIM_CFG_ACTIVE)
  else if g = 0x027 then (v.mirrorGroup d g).twinApplied
  else if g = 0x028 then (v.mirrorGroup d g).releaseHeld
  else if 0x040 ≤ g ∧ g < 0x140 then c.appliedShapers v d ((g - 0x040) / 4)
  else if 0x140 ≤ g ∧ g < 0x180 then c.appliedPolicers v d (g - 0x140)
  else v

/-- Apply values to a group of die d (R69, R70): the applied copy, what follows from it, and the generation. -/
def Chip.applyVals (c : Chip) (d g : Nat) (vals : List (Nat × Word)) : Chip :=
  let c1 := c.applied (c.viewOf vals) d g
  if generational g then c1.nextGen d else c1

/-- SNAPSHOT_APPLY: at the next slot boundary the checked snapshot is applied. -/
def Chip.snapshotApply (c : Chip) (d g : Nat) : Chip :=
  match c.snap d g with
  | none => c
  | some s =>
    if !s.checked then c
    else
      let c1 := (c.applyVals d g s.vals).snapDone d g 0 0 s
      if s.ctl then c1.mirror (.commit d g (c1.rd (R.CFG_GEN d)).toNat) else c1

end Sys2Proof.Machine
end

