-- ==== Sys2Proof/Machine/Bells.lean ====
section
/-!
DEFINITION. Bells (R265, R266, R406 to R410) and the transmit timestamp queue's read side (R405). Meanings: BELL_ARM, BELL_CANCEL,
BELL_FIRE, TSQ_TAIL_WRITE.
-/

namespace Sys2Proof.Machine

/-! ### The bell interfaces (R406): x is 0 for C, 1 for M -/

def Via.face : Via → Nat
  | .ctl _ => 0
  | _ => 1

def bellStatus (d x : Nat) : Nat := if x = 0 then R.TIM_BELL_STATUS_C d else R.TIM_BELL_STATUS_M d
def bellAct (d x : Nat) : Nat := if x = 0 then R.TIM_BELL_ACT_C d else R.TIM_BELL_ACT_M d

def Chip.setBellStatus (c : Chip) (d x v : Nat) : Chip := c.set (bellStatus d x) F.TIM_BELL_STATUS_C_STATUS v

/-- NSEC and SEC of an interface. -/
def Chip.faceNsec (c : Chip) (d x : Nat) : Nat :=
  c.get (if x = 0 then R.TIM_BELL_NSEC_C d else R.TIM_BELL_NSEC_M d) F.TIM_BELL_NSEC_C_NSEC
def Chip.faceSec (c : Chip) (d x : Nat) : Nat :=
  (c.rd (if x = 0 then R.TIM_BELL_SEC_LO_C d else R.TIM_BELL_SEC_LO_M d)).toNat
    + c.get (if x = 0 then R.TIM_BELL_SEC_HI_C d else R.TIM_BELL_SEC_HI_M d) F.TIM_BELL_SEC_HI_C_SEC * 2 ^ 32

/-- The unit a QUIZ bell names. -/
def quizArg (d arg : Nat) : QUnit := ⟨arg % 16, d, arg / 16 % 16, arg / 256 % 256⟩

/-- Is the action one an interface may arm, with its target on the die (R406, R407)? -/
def Chip.bellActionOk (c : Chip) (d action arg : Nat) : Bool :=
  if action = 1 then decide (d < 32) && c.startsPort d (arg % 64)
  else if action = 2 then decide (arg % 256 < 2 ^ blocksOf d)
  else if action = 3 then groupHere d (arg % 512)
  else if action = 5 then (quizArg d arg).exists_
  else false

/-- The first outcome of R406 that applies to an arm of bell i; 0 for ARMED. -/
def Chip.armOutcome (c : Chip) (d x i : Nat) : Nat :=
  let w := bellAct d x
  if 192 ≤ i then 9
  else if (c.bell d i).isSome then 2
  else if !c.timValid then 4
  else if 1000000000 ≤ c.faceNsec d x then 8
  else if !c.bellActionOk d (c.get w F.TIM_BELL_ACT_C_ACTION) (c.get w F.TIM_BELL_ACT_C_ARG) then 5
  else if timeOf (c.faceSec d x) (c.faceNsec d x) < c.now + tuUs then 3
  else 0

/-- BELL_ARM: a command with OP 1 for bell i through interface x. -/
def Chip.bellArm (c : Chip) (d x i : Nat) : Chip :=
  let r := c.armOutcome d x i
  let w := bellAct d x
  if r ≠ 0 then c.setBellStatus d x r
  else
    (c.setBell d i (some ⟨timeOf (c.faceSec d x) (c.faceNsec d x), c.get w F.TIM_BELL_ACT_C_ACTION, c.get w F.TIM_BELL_ACT_C_ARG,
      c.get (if x = 0 then R.TIM_BELL_TAG_C d else R.TIM_BELL_TAG_M d) F.TIM_BELL_TAG_C_TAG, c.flag w F.TIM_BELL_ACT_C_NOTIFY,
      c.flag w F.TIM_BELL_ACT_C_TS, x⟩)).setBellStatus d x 0

/-- A cell in the launch register of a bell that is cancelled returns to the head of its port queue (R266, R409). -/
def Chip.launchCancel (c : Chip) (d i : Nat) : Chip :=
  (dieLanes d).foldl (fun s l => match (s.lane l).launch with
    | some y =>
      if y.bell = i ∧ !y.due then
        (s.setPq d y.port y.cls ({ buf := y.buf, ts := y.own } :: s.pq d y.port y.cls)).modLane l (fun v => { v with launch := none })
      else s
    | none => s) c

/-- BELL_CANCEL: a command with OP 2 for bell i through interface x. -/
def Chip.bellCancel (c : Chip) (d x i : Nat) : Chip :=
  if 192 ≤ i then c.setBellStatus d x 6
  else match c.bell d i with
    | none => c.setBellStatus d x 7
    | some b =>
      if b.owner ≠ x then c.setBellStatus d x 6
      else
        let c1 := c.setBell d i none
        (if b.action = 1 ∧ d < 32 then c1.launchCancel d i else c1).setBellStatus d x 1

/-! ### Actions (R407, R409) -/

/-- RELEASE: HOLD clears in both copies; the cell in a launch register is due, a head whose conditions failed launches late, and a queue
that is empty or not held is counted EMPTY. Answers the outcome of R410. -/
def Chip.bellRelease (c : Chip) (d i : Nat) (b : Bell) : Nat × Chip :=
  let p := b.arg % 64
  let k := b.arg / 64 % 8
  let key := pqKey d p k
  let held := c.queueHeld d p k
  let c1 := c.setBoth (R.SCH_HOLD d p) ⟨k, 1⟩ 0
  match (dieLanes d).find? (fun l => match (c.lane l).launch with
    | some y => y.bell == i && y.port == p && y.cls == k && !y.due
    | none => false) with
  | some l => (0, c1.modLane l (fun v => { v with launch := v.launch.map (fun y => { y with due := true }) }))
  | none =>
    match SMap.get (fun _ => none) c.sw.late key, c.pq d p k with
    | some y, _ => (1, c1.modSw (fun w => { w with late := SMap.set (fun _ => none) w.late key (some { y with due := true, late := true }) }))
    | none, [] => (2, c1.incSat (R.SCH_LAUNCH_STAT d) F.SCH_LAUNCH_STAT_EMPTY 1)
    | none, e :: _ =>
      if held then
        let y : Launch := ⟨e.buf, e.ts, p, k, b.time, if b.ts then some (2 * 65536 + b.tag) else none, i, true, true⟩
        (1, c1.modSw (fun w => { w with late := SMap.set (fun _ => none) w.late key (some y) }))
      else (2, c1.incSat (R.SCH_LAUNCH_STAT d) F.SCH_LAUNCH_STAT_EMPTY 1)

/-- The exit from STANDBY begins (R423, R426): the dies run again once it is done. -/
def Chip.standbyExitStart (c : Chip) : Chip := if c.pw.standby then c.modPw (fun p => { p with standbyExit := true }) else c

/-- What a WAKE bell or a wake command wakes (R407, R423): the blocks of a mask, and the die with `die`. -/
def Chip.wakeMask (c : Chip) (d mask : Nat) (die : Bool) (source : Nat) : Chip :=
  let up := (setBitsOf (blocksOf d) mask).filter (fun b => !c.blockFb d b)
  if c.dieSt d = 2 then (if die then c.standbyExitStart else c)
  else if c.dieSt d = 0 then up.foldl (fun s b => s.wakeBlock d b source) c
  else if die then
    let c1 := c.wakeDie d (maskOf up) source
    if c1.dieSt d = 0 then up.foldl (fun s b => s.wakeBlock d b source) c1 else c1
  else c

/-- The blocks of die d in a WAKE mask that are behind firebreaks. -/
def Chip.maskDown (c : Chip) (d mask : Nat) : List Nat := (setBitsOf (blocksOf d) mask).filter (fun b => c.blockFb d b)

/-- The target of a bell is down: its die isolated, its one block behind a firebreak, or every block of its mask. -/
def Chip.bellDown (c : Chip) (d : Nat) (b : Bell) : Bool :=
  c.isolated d
    || (b.action == 1 && c.blockFb d (b.arg % 64 / 8))
    || (b.action == 2 && decide (0 < b.arg % 256) && (setBitsOf (blocksOf d) b.arg).all (fun x => c.blockFb d x))
    || (b.action == 5 && (match (quizArg d b.arg).home with
        | some x => c.blockFb d x
        | none => false))

/-- The action of bell i: its outcome for the notice, and the chip. -/
def Chip.bellAction (c : Chip) (d i : Nat) (b : Bell) : Nat × Chip :=
  if b.action = 1 then c.bellRelease d i b
  else if b.action = 2 then
    let c1 := c.wakeMask d (b.arg % 256) (bitOf b.arg 8) 1
    (0, if (c.maskDown d (b.arg % 256)).isEmpty then c1 else c1.bellNotice d 2 i 2 0 b.tag)
  else if b.action = 3 then
    let g := b.arg % 512
    let m : BellMark := ⟨i, b.tag, b.notify⟩
    (0, if c.regionLoading d then (c.outcome d g 6 0 true).applyReport d m 6 else c.applyBell d g m)
  else if b.action = 4 then (0, c.clearingBell d (b.arg / 8 % 4) (b.arg % 8))
  else if b.action = 5 then (0, c.ledgerRequest d (.quiz (quizArg d b.arg) 3))
  else if b.action = 6 then (0, c.retuneBell d i)
  else (0, c)

/-- BELL_FIRE: device time has reached the time of armed bell i of die d: it acts and returns to FREE. -/
def Chip.bellFire (c : Chip) (d i : Nat) : Chip :=
  match c.bell d i with
  | none => c
  | some b =>
    let c1 := (c.timeTo b.time).setBell d i none
    if c1.bellDown d b then c1.bellNotice d 2 i b.action 0 b.tag
    else
      let r := ((c1.incWrap (R.TIM_BELL_CNT d) F.TIM_BELL_CNT_FIRED 1).pmcFixed d 6 1).bellAction d i b
      if b.action = 3 then r.2
      else
        let c2 := if b.notify then r.2.bellNotice d 1 i b.action r.1 b.tag else r.2
        if r.1 = 0 then c2 else c2.bellNotice d 4 i b.action r.1 b.tag

/-- TSQ_TAIL_WRITE: the consumer moves TAIL; an empty queue has no loss to report again (R405). -/
def Chip.tsqTail (c : Chip) (d tail : Nat) : Chip :=
  let a := R.TIM_TSQ_PTR d
  let c1 := c.set a F.TIM_TSQ_PTR_TAIL tail
  if c1.get a F.TIM_TSQ_PTR_HEAD = c1.get a F.TIM_TSQ_PTR_TAIL then
    { c1 with tsqLost := SMap.set (fun _ => false) c1.tsqLost d false }
  else c1

end Sys2Proof.Machine
end

