-- ==== Sys2Proof/Machine/ResetOps.lean ====
section
/-!
DEFINITION. What a reset does to the state it reaches (R10 to R12, R433): the registers by their Kept-through columns, and the state
that no register shows by the retention table.
-/

namespace Sys2Proof.Machine

/-! ### Registers (R10, R11) -/

/-- The number of a reset class, widest first (R10). -/
def RClass.code : RClass → Nat
  | .power => 1
  | .sag => 2
  | .chip => 3
  | .planeData => 4
  | .planeControl => 5
  | .planeMgmt => 6
  | .region => 7
  | .block => 8
  | .tile => 9
  | .link => 10

/-- Is a field with this Kept-through entry kept through class n (R11)? -/
def Kept.keeps (k : Kept) (n : Nat) : Bool :=
  match k with
  | .none => false
  | .block => decide (8 ≤ n)
  | .region => decide (7 ≤ n)
  | .planeMgmt => decide (6 ≤ n)
  | .planeData => decide (4 ≤ n)
  | .sag => decide (2 ≤ n)

/-- A register after a reset of class n that reaches it: kept fields stand, the others return to their Reset values. -/
def resetWord (a : Nat) (r : RegRow) (n : Nat) (w : Word) : Word :=
  let m := namedMask (r.fields.filter (fun f => f.kept.keeps n))
  (w &&& m) ||| (regReset a &&& ~~~m)

/-- Which registers a reset reaches: die, table row, indexes. -/
abbrev Reach := Nat → RegRow → List Nat → Bool

def resetEntry (n : Nat) (reach : Reach) (a : Nat) (w : Word) : Word :=
  match regRow a with
  | some (r, is) => if reach (a / 0x04000000) r is then resetWord a r n w else w
  | none => w

/-- The registers, and with them the staged copies (R74), after a reset. -/
def Chip.resetRegs (c : Chip) (n : Nat) (reach : Reach) : Chip :=
  { c with regs := SMap.mapVals regReset c.regs (resetEntry n reach), staged := SMap.mapVals regReset c.staged (resetEntry n reach) }

/-- R12: the retention table keeps the sync objects' state and epochs through a reset of their own plane, whatever the column says. -/
def objRow (r : RegRow) : Bool := decide (0x02310000 ≤ r.base) && decide (r.base < 0x02312000)

/-- Everything (POWER, SAG, CHIP). -/
def reachAll : Reach := fun _ _ _ => true
/-- The data plane of every die. -/
def reachData : Reach := fun _ r _ => decide (r.plane = .data) && !objRow r
def reachControl : Reach := fun _ r _ => decide (r.plane = .control)
/-- The management complex of one hub; the registers of every die window that a management complex serves are the primary hub's. -/
def reachMgmt (h : Nat) (primary : Bool) : Reach := fun e r _ => decide (r.plane = .mgmt) && (e == hubDie h || (primary && r.dies = .all))
/-- The data plane of one die, but for its firebreak state, which ends with re-admission (R25). -/
def reachDie (d : Nat) : Reach := fun e r _ => e == d && decide (r.plane = .data) && !objRow r && r.base != 0x03E00020
/-- One block or cluster, with the lanes of the block. -/
def reachBlock (d b : Nat) : Reach := fun e r is =>
  e == d && decide (r.plane = .data) && ((decide (r.scope = .block) && nth is 0 == b) || (decide (r.scope = .lane) && nth is 0 / 8 == b))
/-- One lane pipeline or crossbar port. -/
def reachTile (d t : Nat) : Reach := fun e r is =>
  e == d && decide (r.plane = .data) && nth is 0 == t && decide (r.scope = (if d < 32 then .lane else .xport))

/-! ### Lanes and rings (R132, R141, R212, R513) -/

/-- A ring in FAULT that a reset reaches is PARKED (R132). -/
def Chip.resetRings (c : Chip) (d f : Nat) (rs : List Nat) : Chip :=
  rs.foldl (fun s r =>
    if s.ringSt d f r = RS.fault then (s.setRingSt d f r RS.parked).modRing d f r (fun x => { record := x.record, dark := x.dark }) else s) c

/-- A lane a reset reaches is DARK for the length of it, unless it is CLEARED; what its pipeline held is gone, and its round-robin
state starts afresh. `cleared` was judged before the registers were reset. -/
def Chip.resetLane (c : Chip) (l : Nat) (cleared : Bool) : Chip :=
  let c1 := (c.modLane l (fun _ => { inReset := !cleared && (c.role l == 1 || c.role l == 2) })).set (lstat l) F.PRT_LSTAT_STATE (if cleared then LS.cleared else LS.dark)
  c1.modSw (fun w => { w with current := SMap.clearWhere w.current (fun k => k / 8 == l), wfqV := SMap.erase w.wfqV l,
                              wfqLast := SMap.clearWhere w.wfqLast (fun k => k / 8 == l) })

/-- The lanes of a list that are CLEARED. -/
def Chip.clearedOf (c : Chip) (ls : List Nat) : List Nat := ls.filter (fun l => c.laneState l == LS.cleared)

def Chip.resetLanes (c : Chip) (ls cleared : List Nat) : Chip := ls.foldl (fun s l => s.resetLane l (decide (l ∈ cleared))) c

/-! ### Bells, the ledger and clearings of a die -/

/-- Armed bells of a die return to FREE without acting; their number is reported once the reset ends (R409). -/
def Chip.resetBells (c : Chip) (d : Nat) : Chip :=
  let n := (c.bells.filter (fun e => e.1 / 256 == d)).length
  { c with bells := SMap.clearWhere c.bells (fun k => k / 256 == d),
           bellWaits := SMap.clearWhere c.bellWaits (fun k => k / 512 == d),
           bellApply := SMap.clearWhere c.bellApply (fun k => k / 512 == d),
           pw := { c.pw with lostBells := SMap.modify (fun _ => 0) c.pw.lostBells d (· + n) } }

/-- Every ledger entry of a die returns to FREE; the number of RUNNING ones is reported once the reset ends (R483). -/
def Chip.resetLedger (c : Chip) (d : Nat) : Chip :=
  let es := c.entries d
  let n := (es.filter (fun e => e.2.running)).length
  let c1 := es.foldl (fun s e => (if e.2.running then s.stopActivity d e.2.act else s).setEntry d e.1 none) c
  c1.modPw (fun p => { p with lostRuns := SMap.modify (fun _ => 0) p.lostRuns d (· + n) })

/-- A clearing of a die that loses its bells: a set-up is cancelled, as its lanes lose block lock (R179); a teardown whose bell is
discarded is over, and its lanes train (R178, R409); CLEARED stays (R181). -/
def Chip.resetClearing (c : Chip) (d r k : Nat) : Chip :=
  if c.clrSt d r k = 6 ∧ (c.clr d r k).index ≠ 0 then
    let c1 := (c.setClr d r k {}).setClrSt d r k 0
    (clrLanes d r k).foldl (fun s l => s.laneMove l LS.dark) c1
  else c.clrCancel d r k 7

def Chip.resetClearings (c : Chip) (d : Nat) : Chip :=
  if 32 ≤ d then c
  else (List.range 4).foldl (fun s r => (List.range 8).foldl (fun s k => s.resetClearing d r k) s) c

/-! ### What a die holds -/

/-- The switching state of a port die. -/
def Switch.wipePort (w : Switch) (d : Nat) : Switch :=
  { w.loseDie d with
    up := SMap.clearWhere w.up (fun k => k / 8 == d), down := SMap.clearWhere w.down (fun k => k % 32 == d),
    envSeq := SMap.clearWhere w.envSeq (fun k => k / 8 == d), envSpent := SMap.clearWhere w.envSpent (fun k => k / 320 == d),
    envWithheld := SMap.clearWhere w.envWithheld (fun k => k / 320 == d),
    envReturn := SMap.clearWhere w.envReturn (fun k => k / 320 == d),
    landSpent := SMap.clearWhere w.landSpent (fun k => k % 32 == d), landReturn := SMap.clearWhere w.landReturn (fun k => k % 32 == d),
    current := SMap.clearWhere w.current (fun k => k / 512 == d), lastClass := SMap.clearWhere w.lastClass (fun k => k / 64 == d),
    lastBlock := SMap.clearWhere w.lastBlock (fun k => k / 40 == d), wfqV := SMap.clearWhere w.wfqV (fun k => k / 64 == d),
    wfqLast := SMap.clearWhere w.wfqLast (fun k => k / 512 == d), linkDown := SMap.clearWhere w.linkDown (fun k => k / 8 == d),
    slotReplays := SMap.clearWhere w.slotReplays (fun k => k / 16 == d), d2dWindow := SMap.clearWhere w.d2dWindow (fun k => k / 16 == d),
    spillSpent := SMap.clearWhere w.spillSpent (fun k => k / 8 == d), satSince := SMap.clearWhere w.satSince (fun k => k / 64 % 64 == d),
    tokens := SMap.clearWhere w.tokens (fun k => k / 1024 == d), committed := SMap.clearWhere w.committed (fun k => k / 256 == d),
    peak := SMap.clearWhere w.peak (fun k => k / 256 == d), tc7Lane := SMap.clearWhere w.tc7Lane (fun k => k / 64 == d) }

/-- The switching state of core die k. -/
def Switch.wipeCore (w : Switch) (k : Nat) : Switch :=
  { w with
    parked := SMap.clearWhere w.parked (fun x => x / 256 == k), xq := SMap.clearWhere w.xq (fun x => x / 1056 == k),
    gptr := SMap.clearWhere w.gptr (fun x => x / 32 == k), aptr := SMap.clearWhere w.aptr (fun x => x / 33 == k),
    landed := SMap.clearWhere w.landed (fun x => x == k), up := SMap.clearWhere w.up (fun x => x % 8 == k),
    down := SMap.clearWhere w.down (fun x => x / 32 == k), envSpent := SMap.clearWhere w.envSpent (fun x => x / 40 % 8 == k),
    envWithheld := SMap.clearWhere w.envWithheld (fun x => x / 40 % 8 == k),
    envReturn := SMap.clearWhere w.envReturn (fun x => x / 40 % 8 == k), envLowered := SMap.erase w.envLowered k,
    landSpent := SMap.clearWhere w.landSpent (fun x => x / 32 == k), landReturn := SMap.clearWhere w.landReturn (fun x => x / 32 == k),
    spillSpent := SMap.clearWhere w.spillSpent (fun x => x % 8 == k), expiredWin := SMap.erase w.expiredWin k,
    expiredFirst := SMap.erase w.expiredFirst k, linkDown := SMap.clearWhere w.linkDown (fun x => x % 8 == k),
    slotReplays := SMap.clearWhere w.slotReplays (fun x => x / 2 % 8 == k), d2dWindow := SMap.clearWhere w.d2dWindow (fun x => x / 2 % 8 == k),
    holdSample := SMap.clearWhere w.holdSample (fun x => x / 32 == k), satSince := SMap.clearWhere w.satSince (fun x => x / 64 % 64 == 32 + k) }

/-- The tables and time queues of a port die (R269). -/
def Chip.wipeTables (c : Chip) (d : Nat) : Chip :=
  { c with
    tb := { c.tb with
      leaf := SMap.clearWhere c.tb.leaf (fun k => k / 2048 == d), flow := SMap.clearWhere c.tb.flow (fun k => k / 2 ^ 20 == d),
      mc := SMap.clearWhere c.tb.mc (fun k => k / 2 ^ 20 == d), lfsrFlow := SMap.erase c.tb.lfsrFlow d, lfsrMc := SMap.erase c.tb.lfsrMc d,
      learnQ := SMap.erase c.tb.learnQ d, ingWait := SMap.clearWhere c.tb.ingWait (fun k => k / 8 == d) },
    stamps := SMap.erase c.stamps d, tsq := SMap.clearWhere c.tsq (fun k => k / 64 == d), tsqLost := SMap.erase c.tsqLost d }

/-- Objects of core die k whose home is reset: each live one waits for SPINE_LOST and QUARANTINE, its binding ends, and its open
chunks and the pending store are lost (R321, R322, R433). -/
def Chip.resetObjects (c : Chip) (k : Nat) : Chip :=
  let c1 := (c.liveObjs k).foldl (fun s n =>
    let s1 := if (SMap.get (fun _ => none) s.coll.orphans n).isSome then s else s.orphan n false
    (s1.unbindObj n).modObj n (fun o => { o with chunks := [], done := [], loading := none })) c
  { c1 with coll := { c1.coll with pending := SMap.erase c1.coll.pending k }, stage := SMap.clearWhere c1.stage (fun x => x / 4 == k) }

/-- Commit groups of a die: no snapshot is in progress (R74). -/
def Chip.resetSnaps (c : Chip) (d : Nat) : Chip := { c with snaps := SMap.clearWhere c.snaps (fun k => k / 512 == d) }

/-- The notice queues of a die are empty (R433). -/
def Chip.resetNotices (c : Chip) (d : Nat) : Chip :=
  { c with nq := { c.nq with staged := SMap.clearWhere c.nq.staged (fun k => k / 2 == d),
                             entries := SMap.clearWhere c.nq.entries (fun k => k / 2048 == d),
                             next := SMap.clearWhere c.nq.next (fun k => k / 2 == d) } }

/-- All that a reset of the data plane of die d does beside its registers. -/
def Chip.wipeDie (c : Chip) (d : Nat) : Chip :=
  let c1 := ((((c.resetClearings d).resetLedger d).resetBells d).resetSnaps d).resetNotices d
  if d < 32 then (c1.modSw (fun w => w.wipePort d)).wipeTables d
  else ((c1.resetObjects (d - 32)).modSw (fun w => w.wipeCore (d - 32)))

/-- Show again what registers of a die derive from state the reset kept or emptied. -/
def Chip.showDie (c : Chip) (d : Nat) : Chip :=
  if d < 32 then (c.refreshPools d).showSpray d else c.showStore (d - 32)

/-- The data plane of every die is reset (R432): what it held is gone, the canopies, structural configuration and generations stand. -/
def Chip.wipeData (c : Chip) : Chip :=
  let c1 := (List.range 40).foldl Chip.wipeDie c
  let ls := List.range 2048
  let cl := c1.clearedOf ls
  let c2 := (c1.resetRegs 4 reachData).resetLanes ls cl
  let c3 := (List.range 32).foldl (fun s d => (List.range 8).foldl (fun s f => s.resetRings d f (List.range 17)) s) c2
  (List.range 40).foldl Chip.showDie c3

/-! ### Hubs -/

/-- A hub through a CHIP, SAG or POWER reset: its flash and identity stand; everything else waits for the restart. -/
def Hub.restarting (x : Hub) : Hub :=
  { idOk := x.idOk, flash := x.flash, fw := x.fw, ctlUp := false, mgmtUp := false, linkUp := false }

/-- A management complex through a PLANE_MGMT reset: commands are lost and every OWNER reads 0, sessions close, the host event ring is
empty; the measurement log stands. -/
def Hub.mgmtReset (x : Hub) : Hub :=
  { x with mgmtUp := false, slots := [], lastSlot := [], sessions := [], events := [], vecPending := [], inbox := [], mctp := [], ptm := [] }

end Sys2Proof.Machine
end

