-- ==== Sys2Proof/Machine/HostCmd.lean ====
section
/-!
DEFINITION. Command windows and commands that run (R442 to R447, R456), and orders (R453). Meanings: COMMAND_PICKUP,
SERIAL_COMMAND_START, NOP, CONTROL_ORDER.
-/

namespace Sys2Proof.Machine

/-! ### Slots and commands (R444 to R448) -/

def slotKey (w s : Nat) : Nat := w * 64 + s
def Chip.cmdSlot (c : Chip) (h k : Nat) : Slot := SMap.get (fun _ => {}) (c.hub h).slots k
def Chip.setCmdSlot (c : Chip) (h k : Nat) (x : Slot) : Chip :=
  c.modHub h (fun u => { u with slots := SMap.set (fun _ => {}) u.slots k x })

/-- The opcodes of R448. -/
def opcodes : List Nat :=
  [0x01, 0x10, 0x11, 0x12, 0x13, 0x14, 0x15, 0x16, 0x20, 0x30, 0x40, 0x41, 0x50, 0x51, 0x60, 0x61, 0x62, 0x70]

/-- The serial commands (R446). -/
def serialOp (op : Nat) : Bool := (decide (0x10 ≤ op) && decide (op ≤ 0x16)) || op == 0x20 || op == 0x40

/-- Is command window w of hub h enabled (MGT_WIN_EN)? -/
def Chip.windowOn (c : Chip) (h w : Nat) : Bool :=
  decide (w < 62) && bitOf (if w < 32 then c.rd (R.MGT_WIN_EN_LO (hubDie h)) else c.rd (R.MGT_WIN_EN_HI (hubDie h))).toNat (w % 32)

/-- The oldest RUNNING slot of a window. -/
def Chip.oldestIn (c : Chip) (h w : Nat) : Option Nat :=
  let l : List (Nat × Slot) := (c.hub h).slots.filter (fun e => e.1 / 64 == w && e.2.owner == 2)
  ((orderBy (fun e : Nat × Slot => e.2.order) l).head?).map (·.1)

/-- Does a serial command run somewhere in the chip? -/
def Chip.serialRuns (c : Chip) : Bool :=
  [0, 1].any (fun h => (c.hub h).slots.any (fun e => e.2.owner == 2 && !e.2.waiting && serialOp e.2.cmd.opcode)
    || (c.hub h).sessions.any (fun e => match e.2 with
      | some x => x.cmds.any (fun y => serialOp y.1.opcode && !y.2)
      | none => false))

/-- A hub in ROM recovery: no firmware runs on it, or both hubs have failed their identity check (R457, R459). -/
def Chip.inRecovery (c : Chip) (h : Nat) : Bool := (c.hub h).fw.isNone || (!(c.hub 0).idOk && !(c.hub 1).idOk)

/-- The STATUS a command gets without running: BAD_OPCODE, or NOT_PRIMARY on a hub that is not primary (R442, R447). -/
def Chip.refusedAt (c : Chip) (h op : Nat) : Option Nat :=
  if op ∉ opcodes then some 1
  else if c.primary = some h ∨ c.inRecovery h ∨ op ∈ [0x01, 0x60, 0x61, 0x62] then none
  else some 5

/-- Complete a slot: bytes 44 to 63 and any inline result, OWNER 3, and the window's vector when IRQ is set. -/
def Chip.finishSlot (c : Chip) (h k status r0 r1 : Nat) (out : List Nat) : Chip :=
  let x := c.cmdSlot h k
  let c1 := c.setCmdSlot h k { x with owner := 3, status := status, result0 := r0, result1 := r1, out := out, waiting := false }
  if x.cmd.irq then c1.signal h (k / 64) else c1

/-- Commands at the head of a window that do not run are completed in their turn. -/
def Chip.flushWindow (c : Chip) (h w : Nat) : Nat → Chip
  | 0 => c
  | n + 1 =>
    match c.oldestIn h w with
    | none => c
    | some k =>
      match c.refusedAt h (c.cmdSlot h k).cmd.opcode with
      | some st => (c.finishSlot h k st 0 0 []).flushWindow h w n
      | none => c

/-- COMMAND_PICKUP: the M40 takes a submitted slot of an enabled window; a serial command waits while another runs. A hub in ROM
recovery takes only NOP, READ_IDENTITY and WRITE_FIRMWARE. -/
def Chip.commandPickup (c : Chip) (h w s : Nat) (cmd : Command) : Chip :=
  let x := c.hub h
  let k := slotKey w s
  let own := (c.cmdSlot h k).owner
  if !x.mgmtUp ∨ !c.windowOn h w ∨ (own ≠ 0 ∧ own ≠ 3) ∨ (c.inRecovery h ∧ cmd.opcode ∉ [0x01, 0x60, 0x16]) then c
  else
    let c1 := c.setCmdSlot h k
      { owner := 2, cmd := cmd, order := x.picked, waiting := serialOp cmd.opcode && c.serialRuns && (c.refusedAt h cmd.opcode).isNone }
    (c1.modHub h (fun u => { u with picked := u.picked + 1, lastSlot := SMap.set (fun _ => 0) u.lastSlot w (s + 1) })).flushWindow h w 64

/-- SERIAL_COMMAND_START: once no serial command runs, the one that has waited longest starts; those of windows go by their pickup, hub
A's first, and those of sessions after them. -/
def Chip.serialStart (c : Chip) : Chip :=
  if c.serialRuns then c
  else
    let waits (h : Nat) : List (Nat × Slot) :=
      orderBy (fun e : Nat × Slot => e.2.order) ((c.hub h).slots.filter (fun e => e.2.owner == 2 && e.2.waiting))
    let sess (h : Nat) : Option Nat := ((c.hub h).sessions.find? (fun e => match e.2 with
      | some x => x.cmds.any (fun y => y.2)
      | none => false)).map (·.1)
    let rec go : List (Command × Bool) → List (Command × Bool)
      | [] => []
      | (y, true) :: t => (y, false) :: t
      | z :: t => z :: go t
    match waits 0, waits 1, sess 0, sess 1 with
    | e :: _, _, _, _ => c.setCmdSlot 0 e.1 { e.2 with waiting := false }
    | [], e :: _, _, _ => c.setCmdSlot 1 e.1 { e.2 with waiting := false }
    | [], [], some n, _ => c.setSession 0 n ((c.session 0 n).map (fun x => { x with cmds := go x.cmds }))
    | [], [], none, some n => c.setSession 1 n ((c.session 1 n).map (fun x => { x with cmds := go x.cmds }))
    | [], [], none, none => c

/-- The hub of a command. -/
def Origin.hub : Origin → Nat
  | .slot h _ _ => h
  | .session h _ => h

/-- The command record of origin o, when it runs there, its turn has come and it has this opcode. -/
def Chip.cmdOf (c : Chip) (o : Origin) (op : Nat) : Option Command :=
  if !(c.hub o.hub).mgmtUp then none
  else match o with
    | .slot h w s =>
      let x := c.cmdSlot h (slotKey w s)
      if c.oldestIn h w = some (slotKey w s) ∧ !x.waiting ∧ x.cmd.opcode = op then some x.cmd else none
    | .session h n =>
      match c.session h n with
      | none => none
      | some x =>
        match x.cmds with
        | (y, false) :: _ => if y.opcode = op then some y else none
        | _ => none

/-- Complete the command of origin o (R445, R456). -/
def Chip.complete (c : Chip) (o : Origin) (status r0 : Nat) (out : List Nat) : Chip :=
  match o with
  | .slot h w s => (c.finishSlot h (slotKey w s) status r0 0 out).flushWindow h w 64
  | .session h n =>
    let c1 := c.setSession h n ((c.session h n).map (fun x => { x with cmds := x.cmds.drop 1 }))
    c1.sendSession h n 6 0x0111 (leBytes 4 status ++ leBytes 8 r0 ++ leBytes 8 0 ++ out)

/-- NOP. -/
def Chip.cmdNop (c : Chip) (o : Origin) : Chip :=
  match c.cmdOf o 0x01 with
  | none => c
  | some _ => c.complete o 0 (timeSec c.now * 1000000000 + timeNsec c.now) []

/-! ### Orders (R453) -/

/-- The items of an ORDER body: its count, at most 1,024, of those the body holds whole. -/
def orderItems (bs : List Nat) : List OrderItem :=
  let n := min (min (leVal (bs.take 2)) 1024) ((bs.length - 2) / 12)
  (List.range n).map (fun i =>
    let b := (bs.drop (2 + 12 * i)).take 12
    ⟨nth b 0, nth b 1, leVal ((b.drop 2).take 4), leVal ((b.drop 6).take 4)⟩)

/-- A bell command through interface x of die d. -/
def Chip.bellCommand (c : Chip) (d x v : Nat) : Chip :=
  let w := BitVec.ofNat 32 v
  let i := getBits w F.TIM_BELL_CMD_C_INDEX
  let op := getBits w F.TIM_BELL_CMD_C_OP
  if op = 1 then c.bellArm d x i else if op = 2 then c.bellCancel d x i else c

/-- Run one item: the chip after it, the STATUS and CODE of ORDER_DONE when the order stops there, and the group it waits for. -/
def Chip.orderItem (c : Chip) (x : OrderItem) : Chip × Option (Nat × Nat) × Option (Nat × Nat) :=
  let a := dieBase x.die + x.offset
  let here := decide (x.die < 40) && decide (x.offset < 0x04000000)
  if 2 < x.op then (c, some (5, x.op), none)
  else if !here then (c, some (1, 0), none)
  else if x.op = 0 then (if isCs a then (c.stagingWrite a (BitVec.ofNat 32 x.value), none, none) else (c, some (1, 0), none))
  else if x.op = 1 then
    match regRow a, groupOf a with
    | some (r, _), some g =>
      if !r.isCommit then (c, some (1, 0), none)
      else
        let no := c.applyRefusal x.die g
        let c1 := c.commitApply x.die g true
        if no ≠ 0 then (c1, some (2, no), none)
        else if (c1.snap x.die g).isSome then (c1, none, some (x.die, g))
        else (c1, some (2, 1), none)
    | _, _ => (c, some (1, 0), none)
  else
    let o := x.offset - 0x03820000
    if x.offset < 0x03820000 ∨ 0x18 < o ∨ o % 4 ≠ 0 then (c, some (1, 0), none)
    else if o = 0x14 then
      let c1 := c.bellCommand x.die 0 x.value
      let st := c1.get (R.TIM_BELL_STATUS_C x.die) F.TIM_BELL_STATUS_C_STATUS
      if st = 0 ∨ st = 1 then (c1, none, none) else (c1, some (3, st), none)
    else if o = 0x18 then (c, none, none)
    else
      match regRow a with
      | some (r, _) => (c.wr a (accessWrite r.fields (c.rd a) (BitVec.ofNat 32 x.value)), none, none)
      | none => (c, some (1, 0), none)

/-- Run items until one stops the order or waits: the chip, items done, items left, and how it stands. -/
def Chip.runItems (c : Chip) : List OrderItem → Nat → Chip × Nat × List OrderItem × Option (Nat × Nat) × Option (Nat × Nat)
  | [], n => (c, n, [], none, none)
  | x :: t, n =>
    match c.orderItem x with
    | (c1, some f, _) => (c1, n, x :: t, some f, none)
    | (c1, none, some w) => (c1, n, t, none, some w)
    | (c1, none, none) => c1.runItems t (n + 1)

/-- Answer an order: ORDER_DONE in its session, or the completion of its CONTROL_ORDER command, RESULT0 being the index of the first
failing item; the twin hears of it (R468). -/
def Chip.orderAnswer (c : Chip) (src : OrderFrom) (done status code : Nat) : Chip :=
  let c1 := match src with
    | .session h n seq => c.sendSession h n 5 0x0002 (leBytes 8 seq ++ leBytes 2 done ++ [status, code])
    | .command o =>
      match c.cmdOf o 0x70 with
      | some _ => c.complete o (if status = 0 then 0 else 6) done []
      | none => c
  if status = 4 then c1 else c1.mirror (.order done status)

/-- Run the orders in arrival order, each to its end before the next begins. -/
def Chip.runOrders (c : Chip) : Nat → Chip
  | 0 => c
  | k + 1 =>
    match c.orders with
    | [] => c
    | x :: t =>
      if x.waiting.isSome then c
      else
        let r := c.runItems x.items x.done
        match r.2.2.2.2, r.2.2.2.1 with
        | some w, _ => { r.1 with orders := { x with items := r.2.2.1, done := r.2.1, waiting := some w } :: t }
        | none, some f => (({ r.1 with orders := t }).orderAnswer x.src r.2.1 f.1 f.2).runOrders k
        | none, none => (({ r.1 with orders := t }).orderAnswer x.src r.2.1 0 0).runOrders k

/-- An order arrives; while no control complex runs it is answered FROZEN. -/
def Chip.orderArrive (c : Chip) (src : OrderFrom) (body : List Nat) : Chip :=
  if c.frozen then c.orderAnswer src 0 4 0
  else
    let c1 := { c with orders := c.orders ++ [({ src := src, items := orderItems body } : OrderRun)] }
    c1.runOrders c1.orders.length

/-- The outcome an order waits for is known: it goes on, or stops with STATUS COMMIT. -/
def Chip.orderAdvance (c : Chip) : Chip :=
  match c.orders with
  | [] => c
  | x :: t =>
    match x.waiting with
    | none => c
    | some (d, g) =>
      if (c.snap d g).isSome then c
      else
        let st := c.get (R.CFG_CSTAT d g) F.CFG_CSTAT_STATUS
        if st ≠ 0 then (({ c with orders := t }).orderAnswer x.src x.done 2 st).runOrders t.length
        else ({ c with orders := { x with done := x.done + 1, waiting := none } :: t }).runOrders (t.length + 1)

/-- A control-complex restart: the orders in hand are answered FROZEN. -/
def Chip.freezeOrders (c : Chip) : Chip :=
  c.orders.foldl (fun s x => s.orderAnswer x.src x.done 4 0) { c with orders := [] }

/-- CONTROL_ORDER: the body runs as an order in its turn; the command completes with it. -/
def Chip.cmdControlOrder (c : Chip) (o : Origin) : Chip :=
  match c.cmdOf o 0x70 with
  | none => c
  | some x => if c.orders.any (fun y => decide (y.src = .command o)) then c else c.orderArrive (.command o) x.inline

end Sys2Proof.Machine
end

