-- ==== Sys2Proof/Machine/Images.lean ====
section
/-!
DEFINITION. Eufen images (R43 to R64): their checks in the order of R59, their application (R60, R432) and partial loads (R61 to R63).
Meanings: BOOT_IMAGE_LOAD, PARTIAL_LOAD_SWITCH, LOAD_IMAGE, WRITE_IMAGE.
-/

namespace Sys2Proof.Machine

/-! ### Sections (R43 to R54) -/

/-- DIE of a section's directory entry; 0xFF for one of the whole chip. -/
def ImageSection.die : ImageSection → Nat
  | .laneMap d _ => d
  | .sramCarve d _ => d
  | .corePart d .. => d
  | .syncHome d _ => d
  | .powerPolicy d _ _ => d
  | .initValues d _ => d
  | _ => 0xFF

/-- Types a full image holds exactly once for each die, or once (R43). -/
def ImageSection.once : ImageSection → Option Nat
  | .laneMap .. => some 1
  | .sramCarve .. => some 2
  | .tableGeom .. => some 3
  | .classMap .. => some 4
  | .corePart .. => some 5
  | .syncHome .. => some 6
  | .wideRecipe _ => some 7
  | _ => none

/-- Is a section well formed (R43, R44, R47, R51, R54)? -/
def ImageSection.formed : ImageSection → Bool
  | .laneMap d es => decide (d < 32) && es.length == 64
  | .sramCarve d us => decide (d < 32) && us.length == 8
  | .tableGeom .. => true
  | .classMap .. => true
  | .corePart d .. => decide (32 ≤ d) && decide (d < 40)
  | .syncHome d gs => decide (32 ≤ d) && decide (d < 40) && gs.length == 8
  | .wideRecipe _ => true
  | .powerPolicy d _ _ => decide (d < 40) || d == 0xFF
  | .initValues d ps => decide (d < 40) && ps.all (fun p => decide (p.1 < 0x04000000) && isCs (dieBase d + p.1))
  | .invalid => false

/-- May a partial image for a region hold the section (R61)? -/
def ImageSection.partialOk (region : Nat) (s : ImageSection) : Bool :=
  s.die == region && (match s with
    | .tableGeom .. => false
    | .classMap .. => false
    | .wideRecipe _ => false
    | .invalid => false
    | _ => true)

/-- The first position of a list at which p holds. -/
def firstAt {α : Type} (p : Nat → α → Bool) : Nat → List α → Option Nat
  | _, [] => none
  | i, x :: t => if p i x then some i else firstAt p (i + 1) t

/-- A section whose type and die an earlier one has, where only one may stand. -/
def Image.repeated (m : Image) (i : Nat) (s : ImageSection) : Bool :=
  s.once.isSome && (m.sections.take i).any (fun t => t.once == s.once && t.die == s.die)

/-- A required section is missing from a full image (R43). -/
def Image.lacks (m : Image) : Bool :=
  let has (t d : Nat) : Bool := m.sections.any (fun s => s.once == some t && s.die == d)
  !((List.range 32).all (fun d => has 1 d && has 2 d) && (List.range 8).all (fun k => has 5 (32 + k) && has 6 (32 + k))
    && has 3 0xFF && has 4 0xFF)

/-! ### Applying sections (R60) -/

/-- Write a CS register of a die past the staging copy. -/
def Chip.loadCs (c : Chip) (a : Nat) (v : Word) : Chip :=
  match regRow a with
  | some (r, _) => c.wr a (v &&& namedMask r.fields)
  | none => c

/-- The wide recipes in force, their number shown in TRF_STAT of every core die. -/
def Chip.setWide (c : Chip) (rs : List WideRecipe) : Chip :=
  (List.range 8).foldl (fun s k => s.set (R.TRF_STAT (32 + k)) F.TRF_STAT_WIDE rs.length) { c with coll := { c.coll with wide := rs } }

/-- A structural section takes effect. -/
def Chip.loadStructure (c : Chip) (s : ImageSection) : Chip :=
  let cfg (d : Nat) (f : DieCfg → DieCfg) : Chip := { c with cfg := SMap.modify (fun _ => {}) c.cfg d f }
  match s with
  | .laneMap d es =>
    (List.range 8).foldl (fun x b => x.set (R.PRT_SPRAY d b) ⟨0, 16⟩
      ((List.range 8).foldl (fun w i => w + nth es (8 * b + i) / 8 % 4 * 4 ^ i) 0)) (cfg d (fun x => { x with lanes := es }))
  | .sramCarve d us => cfg d (fun x => { x with units := us })
  | .tableGeom flow mc fr mr =>
    (List.range 32).foldl (fun x d =>
      let a := R.TBL_GEOM d
      (((x.set a F.TBL_GEOM_FLOW (flow / 131072)).set a F.TBL_GEOM_MC (mc / 8192)).set a F.TBL_GEOM_FLOW_EVICT fr.toNat).set a
        F.TBL_GEOM_MC_EVICT mr.toNat) c
  | .corePart d xbr red trf spill stage opt =>
    cfg d (fun x => { x with xbr := xbr, red := red, trf := trf, spill := spill, stage := stage, opt := opt })
  | .syncHome d gs => cfg d (fun x => { x with groups := gs })
  | .wideRecipe rs => c.setWide rs
  | _ => c

/-- An initial-value section takes effect. -/
def Chip.loadValues (c : Chip) (s : ImageSection) : Chip :=
  match s with
  | .classMap m lo hi =>
    (List.range 32).foldl (fun x d => ((x.loadCs (R.SCH_CLASS_MAP d) (m ||| 0xC0)).loadCs (R.SCH_WEIGHT_LO d) lo).loadCs
      (R.SCH_WEIGHT_HI d) hi) c
  | .powerPolicy d t mx =>
    (if d = 0xFF then List.range 40 else [d]).foldl (fun x e => (x.loadCs (R.PWR_POL_TIME e) t).loadCs (R.PWR_POL_MAX e) mx) c
  | .initValues d ps => ps.foldl (fun x p => x.loadCs (dieBase d + p.1) p.2) c
  | _ => c

/-- The sections of an image over the chip: structure first, then initial values. A full image without WIDE_RECIPE leaves none. -/
def Chip.loadSections (c : Chip) (m : Image) : Chip :=
  m.sections.foldl Chip.loadValues (m.sections.foldl Chip.loadStructure (if m.scope = 0 then c.setWide [] else c))

/-- The groups a section loads initial values of, as (die, group). -/
def ImageSection.groups : ImageSection → List (Nat × Nat)
  | .classMap .. => (List.range 32).map (fun d => (d, 0x020))
  | .powerPolicy d _ _ => (if d = 0xFF then List.range 40 else [d]).map (fun e => (e, 0x026))
  | .initValues d ps => (ps.filterMap (fun p => groupOf (dieBase d + p.1))).eraseDups.map (fun g => (d, g))
  | _ => []

/-! ### Consistency (code 0x07) -/

/-- Local lanes of ROLE 2 of a lane map. -/
def role2 (es : List Nat) : List Nat := (List.range 64).filter (fun i => nth es i % 4 == 2)

/-- R45 for the lane map of die d, given those of every die. -/
def laneMapOk (maps : Nat → List Nat) (d : Nat) : Bool :=
  let es := maps d
  let role (i : Nat) : Nat := nth es i % 4
  let width (i : Nat) : Nat := nth es i / 8 % 4
  let cap (i : Nat) : Bool := bitOf (nth es i) 2
  let port (i : Nat) : List Nat := (List.range (2 ^ width i)).map (fun j => i - i % 2 ^ width i + j)
  let twin : Bool :=
    if d = 0 ∨ d = 16 then
      (role2 (maps 0)).isEmpty && (role2 (maps 16)).isEmpty
        || (List.range 8).any (fun b => role2 (maps 0) == (List.range 8).map (fun i => 8 * b + i) && role2 (maps 16) == role2 (maps 0))
    else (role2 es).isEmpty
  es.all (fun e => decide (e < 32)) && (List.range 64).all (fun i => role i != 3 && width i != 3
    && (role i != 1 || (port i).all (fun j => role j == 1 && width j == width i)) && (role i != 2 || width i == 0)
    && (!cap i || (role i == 1 && role ((i + 32) % 64) == 1 && cap ((i + 32) % 64)
          && (List.range 8).all (fun j => role ((i / 8 + 4) % 8 * 8 + j) != 2)))) && twin

/-- Storage in KiB that a table geometry needs (R48). -/
def tableNeed (flow mc : Nat) : Nat := 32 + 64 + 32 + flow / 64 + mc / 32

/-- Do the wide recipes obey R52, R353 and R357, and does their store fit the smallest TRF share? -/
def wideOk (rs : List WideRecipe) (trf : Nat) : Bool :=
  decide (rs.length ≤ 64)
    && rs.all (fun w => recipeValid (w.steps.map BitVec.toNat) true && decide (w.mats.length ≤ 4)
        && w.mats.all (fun m => m.1 % 32 == 0 && m.2.1 % 32 == 0 && decide (0 < m.1) && decide (0 < m.2.1) && decide (m.1 ≤ 1024)
          && decide (m.2.1 ≤ 1024) && m.2.2.length == m.1 * m.2.1))
    && decide (rs.foldl (fun s w => s + wideBytes w) 0 ≤ trf * 2 ^ 20)

/-- Does a section keep the rules it is under? `v` is the chip with the image in. -/
def Chip.sectionOk (v : Chip) (s : ImageSection) : Bool :=
  let minTrf := (List.range 8).foldl (fun n k => min n (v.die (32 + k)).trf) 128
  let flow (d : Nat) : Nat := 65536 * 2 ^ v.get (R.TBL_GEOM d) F.TBL_GEOM_FLOW
  let mc (d : Nat) : Nat := 4096 * 2 ^ v.get (R.TBL_GEOM d) F.TBL_GEOM_MC
  (match s with
    | .laneMap d _ => laneMapOk (fun e => (v.die e).lanes) d
    | .sramCarve d us => us.all (fun u => decide (u ≤ 16)) && decide (tableNeed (flow d) (mc d) ≤ 64 * us.foldl (· + ·) 0)
    | .tableGeom f m _ _ => [65536, 131072, 262144].contains f && [4096, 8192, 16384].contains m
    | .corePart _ xbr red trf spill stage opt =>
      decide (16 ≤ xbr) && decide (64 ≤ red) && decide (trf ≤ 128) && xbr + red + trf == 256 && decide (1 ≤ spill)
        && decide (spill + stage + opt ≤ 67) && wideOk v.coll.wide minTrf
    | .wideRecipe rs => wideOk rs minTrf
    | _ => true) && s.groups.all (fun g => firstFail 1 (v.groupChecks v g.1 g.2) == 0)

/-! ### The checks of R59, in order -/

/-- The checks 0x01 to 0x08 on hub h for a load that takes `scope`: the code and the failing section's index, 0xFFFF for none. -/
def Chip.imageCheck (c : Chip) (h scope : Nat) (m : Image) : Nat × Nat :=
  let key := (c.hub h).flash.keys.any (fun k => k.use == 1 && k.keyId == m.keyId)
  if !m.magicOk ∨ m.format ≠ 1 ∨ !m.lengthOk ∨ 1 < m.scope ∨ m.scope ≠ scope ∨ (m.scope = 0 ∧ m.region ≠ 0xFF)
      ∨ (m.scope = 1 ∧ 39 < m.region) then (1, 0xFFFF)
  else if m.member ≠ 40 ∨ 0xA1 < m.stepping then (2, 0xFFFF)
  else if 64 * 2 ^ 20 < m.length then (3, 0xFFFF)
  else if !key then (4, 0xFFFF)
  else if !m.sigOk then (5, 0xFFFF)
  else match firstAt (fun i s => !s.formed || m.repeated i s || (m.scope == 1 && !s.partialOk m.region)) 0 m.sections with
    | some i => (6, i)
    | none =>
      if m.scope = 0 ∧ m.lacks then (6, 0xFFFF)
      else
        let v := (if m.scope = 0 then c.wipeData else c).loadSections m
        match firstAt (fun _ s => !v.sectionOk s) 0 m.sections with
        | some i => (7, i)
        | none => if m.version < (c.rd (R.SEC_FLOOR (hubDie h) 1)).toNat then (8, 0xFFFF) else (0, 0xFFFF)

/-- Is a region drained (R62)? -/
def Chip.drained (c : Chip) (d : Nat) : Bool :=
  let quiet := !(c.entries d).any (fun e => e.2.running)
  if d < 32 then
    quiet && (dieLanes d).all (fun l => !c.inSpray l) && (c.sw.pools.filter (fun e => e.1 / 8 == d)).all (fun e => e.2.bufs.isEmpty)
      && (SMap.get (fun _ => []) c.sw.landing d).isEmpty
  else
    let k := d - 32
    quiet && (List.range 32).all (fun e => !bitOf (c.get (R.PRT_CSPRAY e) F.PRT_CSPRAY_MASK) k) && (c.liveObjs k).isEmpty
      && !c.sw.parked.any (fun e => e.1 / 256 == k) && !c.sw.xq.any (fun e => e.1 / 1056 == k) && (c.landedAt k).isEmpty
      && (SMap.get (fun _ => []) c.coll.pending k).isEmpty && (c.objsOf k).all (fun e => e.2.chunks.isEmpty)

/-- R480: is a partial load of die d refused by the ledger? Four entries are kept for the head band (R475). -/
def Chip.loadBarred (c : Chip) (d : Nat) : Bool :=
  (c.entries d).any (fun e => e.2.running || e.2.head) || (d < 32 && c.anyClearing d) || decide (60 ≤ (c.entries d).length)

/-- Every check of a load on hub h. -/
def Chip.loadCheck (c : Chip) (h scope : Nat) (m : Image) : Nat × Nat :=
  let r := c.imageCheck h scope m
  if r.1 ≠ 0 then r
  else if m.scope = 1 ∧ (c.image.map (·.digest)) ≠ some m.baseDigest then (9, 0xFFFF)
  else if !c.pw.repaired then (0x0A, 0xFFFF)
  else if m.scope = 1 ∧ !c.drained m.region then (0x0B, 0xFFFF)
  else if m.scope = 1 ∧ c.loadBarred m.region then (0x0C, 0xFFFF)
  else (0, 0xFFFF)

/-- CFG_LOAD_STATE, in the windows of both hub dies. -/
def Chip.loadState (c : Chip) (st code sec : Nat) : Chip :=
  let put (s : Chip) (d : Nat) : Chip :=
    let a := R.CFG_LOAD_STATE d
    ((s.set a F.CFG_LOAD_STATE_STATE st).set a F.CFG_LOAD_STATE_CODE code).set a F.CFG_LOAD_STATE_SECTION sec
  put (put c 32) 39

/-- An entry of the measurement log of hub h (R460). -/
def Chip.logItem (c : Chip) (h ty version digest : Nat) : Chip :=
  let e : LogEntry := ⟨ty, h, version, digest, timeSec c.now, timeNsec c.now⟩
  c.modHub h (fun x => { x with log := x.log ++ [e] })

/-! ### Putting an image in force (R60, R432) -/

/-- Every staged copy equals its applied copy, and no DIRTY bit is set (R74). -/
def Chip.stagedEqual (c : Chip) : Chip :=
  let c1 := { c with staged := c.regs.filter (fun e => isCs e.1) }
  [32, 39].foldl (fun s d => [0x025, 0x027, 0x028].foldl (fun s g => s.setDirty d g false) s) c1

/-- Rings of lanes that have ROLE 0 are parked, and their lanes are DARK (R46, R132). -/
def Chip.parkUnused (c : Chip) (l : Nat) : Chip :=
  if c.role l ≠ 0 ∨ c.laneState l = LS.cleared then c
  else
    let d := laneDie l
    let f := laneBlock l
    let c1 := [l % 8, 8 + l % 8].foldl (fun s r => if s.ringSt d f r = RS.parked then s else s.parkRing d f r) c
    if c1.laneState l = LS.dark then c1 else c1.laneMove l LS.dark

/-- Lanes of ROLE 1 or 2 that are DARK enter TUNING. -/
def Chip.lightLane (c : Chip) (l : Nat) : Chip :=
  if (c.role l = 1 ∨ c.role l = 2) ∧ c.laneState l = LS.dark then
    (c.modLane l (fun x => { x with inReset := false })).enterTuning l none
  else c

/-- The data plane is released: its registers show their state, lanes leave DARK, and the restart's FAULT_N is released (R420). -/
def Chip.releaseData (c : Chip) : Chip :=
  let c1 := { c.modPw (fun p => { p with dataHeld := false, planeReset := false }) with faultN := c.faultN || c.pw.dataHeld }
  let c2 := (List.range 40).foldl Chip.showDie c1
  let c3 := (List.range 2048).foldl (fun s l => (s.parkUnused l).lightLane l) c2
  (List.range 8).foldl Chip.homeReadmit c3

/-- The running image, with its version and digest in every window. -/
def Chip.runImage (c : Chip) (m : Image) : Chip :=
  let put (s : Chip) (d : Nat) : Chip :=
    ((s.wr (R.CFG_IMAGE_VER d) (BitVec.ofNat 32 m.version)).wr (R.CFG_IMAGE_DIG_LO d) (BitVec.ofNat 32 m.digest)).wr
      (R.CFG_IMAGE_DIG_HI d) (BitVec.ofNat 32 (m.digest / 2 ^ 32))
  { (List.range 40).foldl put c with image := some m }

/-- A full image in force over a data plane that is held in reset: sections, staged copies, and what follows in the hub groups it
loads. -/
def Chip.applyImage (c : Chip) (m : Image) : Chip :=
  let c1 := (c.loadSections m).stagedEqual
  let gs := m.sections.flatMap ImageSection.groups
  gs.foldl (fun s g =>
    if g.2 = 0x025 then (s.mirrorGroup g.1 g.2).timeApplied (c.get (R.TIM_CFG c.primaryDie) F.TIM_CFG_ACTIVE)
    else if g.2 = 0x027 then (s.mirrorGroup g.1 g.2).twinApplied
    else if g.2 = 0x028 then (s.mirrorGroup g.1 g.2).releaseHeld
    else s) c1

/-- R60: a full image that has passed its checks applies: every generation is 1, and the data plane is released. -/
def Chip.loadFull (c : Chip) (h : Nat) (m : Image) : Chip :=
  let c1 := (c.applyImage m).runImage m
  let c2 := (List.range 40).foldl (fun s d => s.wr (R.CFG_GEN d) 1) c1
  ((c2.logItem h 6 m.version m.digest).loadState 3 0 0xFFFF).releaseData

/-- R432: the running image is applied again after a PLANE_DATA reset, each generation rising by 1. Without one the data plane stays
held. -/
def Chip.reapply (c : Chip) : Chip :=
  match c.image with
  | none => c.modPw (fun p => { p with planeReset := false })
  | some m => ((List.range 40).foldl Chip.nextGen (c.applyImage m)).releaseData

/-! ### Boot (R56 to R58) -/

/-- The flash slots in the order the primary hub reads them: its own A and B, then the other hub's. -/
def Chip.bootSlots (c : Chip) (h : Nat) : List (Option Image) :=
  [(h, 0), (h, 1), (1 - h, 0), (1 - h, 1)].map (fun x => SMap.get (fun _ => none) (c.hub x.1).flash.images x.2)

/-- The first image that passes, or the code and section of the last failure; an empty slot fails with code 0x01. -/
def Chip.bootPick (c : Chip) (h : Nat) : List (Option Image) → Nat × Nat → Sum (Nat × Nat) Image
  | [], last => .inl last
  | none :: t, _ => c.bootPick h t (1, 0xFFFF)
  | some m :: t, _ =>
    let r := c.loadCheck h 0 m
    if r.1 = 0 then .inr m else c.bootPick h t r

/-- BOOT_IMAGE_LOAD: the primary hub reads full images from flash, in order, until one passes; without a valid repair record it loads
none. -/
def Chip.bootImageLoad (c : Chip) : Chip :=
  if c.pw.chipReset ≠ 0 ∨ !c.pw.dataHeld then c
  else match c.primary with
    | none => c
    | some h =>
      if !(c.hub h).mgmtUp ∨ c.inRecovery h then c
      else if !c.pw.repaired then c.loadState 4 0x0A 0xFFFF
      else match c.bootPick h (c.bootSlots h) (1, 0xFFFF) with
        | .inl r => c.loadState 4 r.1 r.2
        | .inr m => c.loadFull h m

/-! ### Commands -/

/-- LOAD_IMAGE: a full image is checked, the data plane reset, the image applied and the plane released; a partial one is checked and
admitted, and its region is held until the masters switch. A failed load leaves everything as it is. -/
def Chip.cmdLoadImage (c : Chip) (o : Origin) (m : Image) (reset : Chip → Chip) : Chip :=
  match c.cmdOf o 0x10 with
  | none => c
  | some x =>
    if 1 < x.arg0 then c.complete o 2 0 []
    else if x.arg0 = 1 ∧ (SMap.get (fun _ => none) c.loading m.region).isSome then c
    else
      let r := c.loadCheck o.hub x.arg0 m
      if r.1 ≠ 0 then
        ((if r.1 = 0x0C then c.ledgerRefuse m.region (.partialLoad m.region) else c).loadState 4 r.1 r.2).complete o 6 r.1 []
      else if x.arg0 = 0 then ((reset c).loadFull o.hub m).complete o 0 0 []
      else match c.freeEntry m.region with
        | none => c.complete o 6 0x0C []
        | some i =>
          let c1 := { c with loading := SMap.set (fun _ => none) c.loading m.region (some { image := m, origin := o }),
                             ledgerNext := c.ledgerNext + 1 }
          (c1.setEntry m.region i (some ⟨.partialLoad m.region, false, true, c.ledgerNext, c.now, false⟩)).loadState 2 0 0xFFFF

def isPartialLoad : Activity → Bool
  | .partialLoad _ => true
  | _ => false

/-- The masters of region d switch at one slot boundary: sections and initial values, a staged copy again equal to the applied one, the
generation, the log and the ledger; its lanes leave or enter service. -/
def Chip.switchMasters (c : Chip) (d : Nat) (x : Loading) : Chip :=
  let c1 := c.loadSections x.image
  let addrs := (c1.regs.map (·.1) ++ c1.staged.map (·.1)).filter (fun a => decide (a / 0x04000000 = d) && isCs a)
  let loaded := x.image.sections.flatMap ImageSection.groups
  let c2 := addrs.foldl (fun s a =>
    if (match groupOf a with
        | some g => decide ((d, g) ∈ loaded) || (decide (0x010 ≤ g) && decide (g ≤ 0x017))
        | none => false) then s.wrS a (s.rd a) else s) c1
  let c3 := loaded.foldl (fun s g => s.setDirty g.1 g.2 false) c2
  let joined := (dieLanes d).filter (fun l => decide (d < 32) && (c.portOf l != c3.portOf l || c.role l != c3.role l))
  let c4 := (((joined.foldl Chip.clearCurrent c3).nextGen d).logItem x.origin.hub 7 x.image.version x.image.digest).activityEnd d
    isPartialLoad 0 0
  (dieLanes d).foldl (fun s l => if d < 32 then (s.parkUnused l).lightLane l else s) (c4.showDie d)

/-- The LOAD_IMAGE command of a partial load completes, when it still runs. -/
def Chip.finishLoad (c : Chip) (x : Loading) (status code : Nat) : Chip :=
  match c.cmdOf x.origin 0x10 with
  | some _ => c.complete x.origin status code []
  | none => c

/-- PARTIAL_LOAD_SWITCH: the masters of region d switch and the command completes. A load that a reset or a firebreak has interrupted
completes with the ledger's code, the old master being in force. -/
def Chip.partialLoadSwitch (c : Chip) (d : Nat) : Chip :=
  match SMap.get (fun _ => none) c.loading d with
  | none => c
  | some x =>
    let c0 := { c with loading := SMap.set (fun _ => none) c.loading d none }
    if x.dead then (c0.loadState 4 0x0C 0xFFFF).finishLoad x 6 0x0C
    else ((c0.switchMasters d x).loadState 3 0 0xFFFF).finishLoad x 0 0

/-- WRITE_IMAGE: checks 0x01 to 0x08, then the image is journaled into a flash slot of a hub. -/
def Chip.cmdWriteImage (c : Chip) (o : Origin) (m : Image) : Chip :=
  match c.cmdOf o 0x11 with
  | none => c
  | some x =>
    if 1 < x.arg0 ∨ 1 < x.arg1 then c.complete o 2 0 []
    else
      let r := c.imageCheck o.hub 0 m
      if r.1 ≠ 0 then c.complete o 6 r.1 []
      else (c.modHub x.arg1 (fun u => { u with flash := { u.flash with
        images := SMap.set (fun _ => none) u.flash.images x.arg0 (some m) } })).complete o 0 0 []

end Sys2Proof.Machine
end

