-- ==== Sys2Proof/Machine/Sag.lean ====
section
/-!
DEFINITION. Sag warnings (R416 to R418) and the resets of the whole chip: POWER, SAG and CHIP (R419 to R421, R429, R430, R433).
Meanings: RAIL_WARN_CROSSING, SAG_PIN_ASSERT, SAG_CLEAR, RAIL_RESET_CROSSING, CLK25_LOSS, POWER_RESET, CHIP_RESET.
-/

namespace Sys2Proof.Machine

/-! ### Sag warnings -/

/-- Apply a change to the window of every die. -/
def Chip.eachDie (c : Chip) (f : Chip → Nat → Chip) : Chip := (List.range 40).foldl f c

/-- A POWER notice of the whole chip, by the primary hub's die. -/
def Chip.chipPower (c : Chip) (sev detail : Nat) : Chip := c.powerNotice c.primaryDie sev 4 0 detail

/-- The sag interrupt, vector 63 of the primary hub. -/
def Chip.sagSignal (c : Chip) : Chip :=
  match c.primary with
  | some h => c.signal h 63
  | none => c

/-- A sag warning starts for the whole chip, unless one holds (R417). -/
def Chip.sagStart (c : Chip) (rail : Nat) : Chip :=
  if c.sag then c
  else
    let c1 := c.eachDie (fun s d => s.set (R.PWR_STATE d) F.PWR_STATE_SAG 1)
    let c2 := { c1.modPw (fun p => { p with clkHalf := true }) with sagN := false }
    (c2.sagQuizzes.sagSignal).chipPower 1 (powerDetail 5 0 0 0 rail 0 0 0)

/-- RAIL_WARN_CROSSING: rail `rail` of die d has stayed below its warning threshold for its filter time. -/
def Chip.railWarn (c : Chip) (d rail : Nat) : Chip :=
  if c.pw.chipReset ≠ 0 then c
  else
    let c1 := c.set (R.PWR_SAG_STAT d) ⟨rail, 1⟩ 1
    (if c.sag then c1 else c1.incSat (R.PWR_SAG_STAT d) F.PWR_SAG_STAT_COUNT 1).sagStart rail

/-- SAG_PIN_ASSERT: the board has held SAG_N low for 100 ns. -/
def Chip.sagPin (c : Chip) : Chip :=
  if c.pw.chipReset ≠ 0 then c
  else (c.eachDie (fun s d => s.set (R.PWR_SAG_STAT d) F.PWR_SAG_STAT_PIN 1)).sagStart 15

/-- The warning is over: full clocks, the warning bits clear. -/
def Chip.sagQuiet (c : Chip) : Chip :=
  let c1 := c.eachDie (fun s d => ((s.set (R.PWR_STATE d) F.PWR_STATE_SAG 0).set (R.PWR_SAG_STAT d) F.PWR_SAG_STAT_WARN 0).set
    (R.PWR_SAG_STAT d) F.PWR_SAG_STAT_PIN 0)
  c1.modPw (fun p => { p with clkHalf := false })

/-- The warning is over and SAG_N is released. -/
def Chip.sagEnd (c : Chip) : Chip := { c.sagQuiet with sagN := true }

/-- Put the VDD_CORE setpoint in force (R415); during a sag warning it waits (R434). -/
def Chip.putSetpoint (c : Chip) (mv : Nat) : Chip :=
  if c.sag then c.modPw (fun p => { p with setpoint := some mv })
  else
    let c1 := [32, 39].foldl (fun s d => s.set (R.PWR_VCORE d) F.PWR_VCORE_SETPOINT mv) c
    match c1.primary with
    | some h => c1.modHub h (fun x => { x with mctp := x.mctp ++ [[1, mv]] })
    | none => c1

/-- SAG_CLEAR: every rail and SAG_N have been good for 100 µs. The held cells pass through R307 again, in arrival order. After a
warning that a thermal shutdown has ended, SAG_N is released alone (R507). -/
def Chip.sagClear (c : Chip) : Chip :=
  if !c.sag then (if c.sagN ∨ c.pw.chipReset ≠ 0 then c else { c with sagN := true })
  else
    let c1 := (List.range 8).foldl Chip.pendingRelease c.sagEnd
    let c2 := (c1.sagSignal).chipPower 0 (powerDetail 6 0 0 0 0 0 0 0)
    match c2.pw.setpoint with
    | some mv => (c2.modPw (fun p => { p with setpoint := none })).putSetpoint mv
    | none => c2

/-! ### PWR_RST_STAT (R437) -/

/-- A reset of class n, REGION or wider, is recorded in both hub windows. The trigger code of a reset that no rail crossing caused is not
given by the spec (DESIGN CHOICE, log 6). -/
def Chip.rstBegin (c : Chip) (n : Nat) (cause : Option Nat) : Chip :=
  let r := match cause with
    | some v => (v, c)
    | none => (c.drawFree.1 % 256, c.drawFree.2)
  [32, 39].foldl (fun s d =>
    ((s.set (R.PWR_RST_STAT d) F.PWR_RST_STAT_LAST n).set (R.PWR_RST_STAT d) F.PWR_RST_STAT_CAUSE r.1).incSat (R.PWR_RST_STAT d)
      F.PWR_RST_STAT_COUNT 1) r.2

/-- The RESET notice of class n by die d (R435). -/
def Chip.resetNotice (c : Chip) (d n level : Nat) : Chip :=
  c.powerNotice d (if n ≤ 2 then 2 else 1) level 0
    (powerDetail 7 0 0 0 0 n (c.get (R.PWR_RST_STAT 32) F.PWR_RST_STAT_CAUSE) 0)

/-- What a reset took from die d is reported: one notice for its bells (R409), which TIM_BELL_CNT
counts, and one for its ledger entries (R483). -/
def Chip.reportLost (c : Chip) (d : Nat) : Chip :=
  let b := SMap.get (fun _ => 0) c.pw.lostBells d
  let n := SMap.get (fun _ => 0) c.pw.lostRuns d
  let c1 := c.modPw (fun p => { p with lostBells := SMap.erase p.lostBells d, lostRuns := SMap.erase p.lostRuns d })
  let c2 := if b = 0 then c1 else (c1.incSat (R.TIM_BELL_CNT d) F.TIM_BELL_CNT_DISCARDED b).bellNotice d 3 0 0 0 (min b 65535)
  if n = 0 then c2
  else c2.post d 0x08 1 d 3 0 0 (1 + 4 * 2 ^ 12 + min n 0x3FFFFF * 2 ^ 42)

/-! ### SAG and CHIP resets -/

/-- Every move of a lane is dropped. -/
def Chip.dropMoves (c : Chip) : Chip :=
  ((c.optics.lanes.filter (fun e => e.2.move.isSome || e.2.swapDue)).map (·.1)).foldl Chip.moveDrop c

/-- The state below the canopy of every die is gone; the canopy, the flash and what the retention table keeps stand (R433). n is the class
number, 2 SAG or 3 CHIP. -/
def Chip.chipWipe (c : Chip) (n : Nat) : Chip :=
  let c1 := (c.eachDie (fun s d => ((s.resetClearings d).resetLedger d).resetBells d)).dropMoves
  let cl := c1.clearedOf (List.range 2048)
  let c2 := c1.resetRegs n reachAll
  let c3 := cl.foldl (fun s l => s.set (lstat l) F.PRT_LSTAT_STATE LS.cleared) c2
  let c4 := (List.range 32).foldl (fun s d => (List.range 8).foldl (fun s f => s.resetRings d f (List.range 17)) s) c3
  { cycle := c4.cycle, now := c4.now, real := c4.real, draws := c4.draws, regs := c4.regs, staged := c4.staged,
    lanes := c4.lanes.filterMap (fun e => e.2.lastTx.map (fun x => (e.1, { lastTx := some x }))),
    optics := c4.optics, clears := c4.clears, clock := { chosen := c4.clock.chosen },
    integ := { repeats := c4.integ.repeats, transients := c4.integ.transients, pack := c4.integ.pack, ran := c4.integ.ran,
               provFails := c4.integ.provFails, suspended := c4.integ.suspended },
    hubs := (({ } : Chip).setHub 0 (c4.hub 0).restarting |>.setHub 1 (c4.hub 1).restarting).hubs,
    pw := { chipReset := n, dataHeld := true, hot := c4.pw.hot, lostBells := c4.pw.lostBells, lostRuns := c4.pw.lostRuns },
    faultN := c4.faultN, sagN := c4.sagN, darkChip := false }

/-- A SAG reset (R419): no orderly stop; FAULT_N and SAG_N are low. -/
def Chip.sagReset (c : Chip) (cause : Nat) : Chip := { (c.rstBegin 2 (some cause)).chipWipe 2 with faultN := false, sagN := false }

/-- What waits in the transmitter of a lane leaves it. -/
def Chip.flushLc (c : Chip) (l : Nat) : Chip :=
  let rec go : Chip → List Lc → Chip
    | s, [] => s
    | s, m :: t => go (s.sendLc l m t) t
  go c (c.lane l).lcOut

/-- CHIP_RESET: the chip goes dark, its open flash writes complete, and it resets (R430). -/
def Chip.chipReset (c : Chip) : Chip :=
  if c.pw.chipReset ≠ 0 then c
  else
    let c1 := c.raiseChip 0x12
    let c2 := (c1.lanes.map (·.1)).foldl Chip.flushLc c1
    (c2.rstBegin 3 none).chipWipe 3

/-! ### POWER -/

/-- A POWER reset: everything, the canopy included; the flash stands. `cause` is the rail index + 0x10 for a crossing. -/
def Chip.powerReset (c : Chip) (cause : Nat) (faultN : Bool) : Chip :=
  let c1 : Chip := { draws := c.draws, integ := { pack := c.integ.pack }, faultN := faultN }
  let c2 := (c1.setHub 0 { flash := (c.hub 0).flash }).setHub 1 { flash := (c.hub 1).flash }
  [32, 39].foldl (fun s d => s.set (R.PWR_RST_STAT d) F.PWR_RST_STAT_CAUSE cause) c2

/-- POWER_RESET: POR_N is low; FAULT_N is high-impedance. -/
def Chip.porReset (c : Chip) : Chip := c.powerReset 0 true

/-- CLK25_LOSS: CLK25 has stopped for more than 400 ns. -/
def Chip.clkLoss (c : Chip) : Chip := c.powerReset 0 c.faultN

/-- RAIL_RESET_CROSSING: rail `rail` has stayed below its reset threshold for its filter time. A sag warning ends without event 0x06. -/
def Chip.railReset (c : Chip) (rail : Nat) : Chip :=
  if rail = 0 then c.powerReset 0x10 c.faultN
  else if c.pw.chipReset = 1 then c
  else c.sagReset (rail + 0x10)

end Sys2Proof.Machine
end

