-- ==== Sys2Proof/Machine/Restart.lean ====
section
/-!
DEFINITION. The restart after a CHIP, SAG or POWER reset (R17, R56, R57, R415, R430, R457, R459, R460, R462, R506). Meaning: RESTART.
-/

namespace Sys2Proof.Machine

/-- What the hubs find in their silicon and flash at a restart: whether each hub's derived key matches the device certificate (R457),
whether each floor record keeps its tag (R462), and the VDD_CORE setpoint that the speed bin and the ring oscillators give (R415). -/
structure BootFacts where
  idA : Bool
  idB : Bool
  floorA : Bool
  floorB : Bool
  setpoint : BitVec 10
  deriving DecidableEq, Repr

/-! ### Floors (R462) -/

/-- The device identity digest (R457, DESIGN CHOICE, log 5). -/
def identityDigest : Nat := (Config.crypto 1 0).toNat % 2 ^ 256

/-- The largest of a list of versions. -/
def maxOf (l : List Nat) : Nat := l.foldl max 0

/-- The highest version that a validly signed item of a kind in a hub's flash carries. -/
def Chip.signedMax (c : Chip) (h kind : Nat) : Nat :=
  let f := (c.hub h).flash
  if kind = 0 then maxOf (f.firmware.filterMap (fun e => e.2.bind (fun x => if x.sigOk then some x.version else none)))
  else if kind = 1 then maxOf (f.images.filterMap (fun e => e.2.bind (fun x => if x.sigOk then some x.version else none)))
  else (c.integ.pack.map (fun p => if p.sigOk then p.version else 0)).getD 0

/-- The floor of a kind in a hub's flash record. -/
def Chip.flashFloor (c : Chip) (h kind : Nat) : Nat := SMap.get (fun _ => 0) (c.hub h).flash.floors kind

/-- Both floor records fail their tags. -/
def Chip.floorsBad (c : Chip) : Bool := !(c.hub 0).flash.floorOk && !(c.hub 1).flash.floorOk

/-- The floor of a kind that hub h takes at a restart: the higher of the valid records, or what its signed items show. -/
def Chip.bootFloor (c : Chip) (h kind : Nat) : Nat :=
  if c.floorsBad then c.signedMax h kind
  else maxOf (([0, 1].filter (fun x => (c.hub x).flash.floorOk)).map (fun x => c.flashFloor x kind))

/-- The floors of hub h come into force. -/
def Chip.bootFloors (c : Chip) (h : Nat) : Chip :=
  let c1 := [0, 1, 2].foldl (fun s k => s.wr (R.SEC_FLOOR (hubDie h) k) (BitVec.ofNat 32 (c.bootFloor h k))) c
  if c.floorsBad then (c1.set (R.SEC_STAT (hubDie h)) F.SEC_STAT_FLOOR_BAD 1).hostEvent h 0x84 1
  else c1.set (R.SEC_STAT (hubDie h)) F.SEC_STAT_FLOOR_BAD 0

/-! ### Firmware and keys (R457 to R460) -/

/-- The first firmware slot of hub h whose item passes. -/
def Chip.bootFirmware (c : Chip) (h : Nat) : Option Firmware :=
  let floor := (c.rd (R.SEC_FLOOR (hubDie h) 0)).toNat
  let slot (k : Nat) : Option Firmware := SMap.get (fun _ => none) (c.hub h).flash.firmware k
  ([slot 0, slot 1].filterMap id).find? (fun x => x.sigOk && decide (floor ≤ x.version))

/-- SEC_STAT.KEYS of hub h: key slots in use, less 1 when all 16 are. -/
def Chip.showKeys (c : Chip) (h : Nat) : Chip :=
  c.set (R.SEC_STAT (hubDie h)) F.SEC_STAT_KEYS (min 15 (c.hub h).flash.keys.length)

/-- Hub h boots: its identity, floors, firmware and key certificates, each in the measurement log once it has loaded; without
firmware it stays in ROM recovery. -/
def Chip.bootHub (c : Chip) (h : Nat) (idOk : Bool) : Chip :=
  let c1 := c.modHub h (fun x => { x with idOk := idOk, mgmtUp := true, linkUp := true })
  let c2 := c1.set (R.SEC_STAT (hubDie h)) F.SEC_STAT_ID_FAIL (!idOk).toNat
  let c3 := (if idOk then c2 else c2.hostEvent h 0x84 4).bootFloors h
  let fw := c3.bootFirmware h
  let c4 := (c3.modHub h (fun x => { x with fw := fw, ctlUp := fw.isSome })).set (R.MGT_ROLE (hubDie h)) F.MGT_ROLE_RECOVERY fw.isNone.toNat
  let c5 := match fw with
    | some x => [1, 2, 3].foldl (fun (s : Chip) t => s.logItem h t x.version x.digest) c4
    | none => c4
  ((c5.hub h).flash.keys.foldl (fun (s : Chip) k => s.logItem h 5 0 k.keyId) c5).showKeys h

/-! ### The repair record, the optical record and the quiz pack -/

/-- REPAIR_RECORD_VERIFY: the primary hub checks the record and applies it to every die, whole or not at all; without it no image is
loaded (R56, R57). -/
def Chip.repairVerify (c : Chip) (h : Nat) : Chip :=
  match (c.hub h).flash.repair with
  | some r =>
    if r.sigOk ∧ r.identity = identityDigest then (c.modPw (fun p => { p with repaired := true })).logItem h 4 0 r.digest
    else c.loadState 4 0x0A 0xFFFF
  | none => c.loadState 4 0x0A 0xFFFF

/-- The optical record in flash (R433): the commissioned power of each lane, and the lanes that use their fibre pair's spare. -/
def Chip.loadOptical (c : Chip) (h : Nat) : Chip :=
  (c.hub h).flash.optical.foldl (fun s e =>
    if e.1 < 2048 then s.set (R.PRT_OPT_COMM (laneDie e.1) (laneLocal e.1)) F.PRT_OPT_COMM_POWER (e.2 - 1)
    else
      let l := e.1 - 2048
      let a := R.PRT_OPT_PWR (laneDie l) (laneLocal l)
      let p := R.PRT_FP (laneDie l) (laneBlock l)
      (((s.set a F.PRT_OPT_PWR_CHANNEL 8).set a F.PRT_OPT_PWR_ON_SPARE 1).set p F.PRT_FP_SPARE_STATE 1).set p F.PRT_FP_SPARE_LANE (l % 8)) c

/-- What the primary hub does at a restart before it reads an image. -/
def Chip.bootPrimary (c : Chip) (h n : Nat) (setpoint : Nat) : Chip :=
  let c1 := c.repairVerify h
  let c2 := if n = 1 then c1.loadOptical h else c1
  let c3 := if c2.pw.repaired then c2.putSetpoint setpoint else c2
  match c3.integ.pack with
  | some p => c3.logItem h 8 p.version p.digest
  | none => c3

/-! ### RESTART -/

/-- Hub roles after a CHIP, SAG or POWER reset (R17, R457). -/
def Chip.bootRoles (c : Chip) (idA idB : Bool) : Chip :=
  (c.set (R.MGT_ROLE 32) F.MGT_ROLE_PRIMARY idA.toNat).set (R.MGT_ROLE 39) F.MGT_ROLE_PRIMARY (!idA && idB).toNat

/-- RESTART: the reset ends. It waits until no die reads 95 °C or more. -/
def Chip.restart (c : Chip) (b : BootFacts) : Chip :=
  let n := c.pw.chipReset
  if n = 0 ∨ c.pw.hot.any (fun e => e.2) then c
  else
    let c1 := { c.modPw (fun p => { p with chipReset := 0, dataHeld := true }) with sagN := true }
    let c2 := (c1.bootRoles b.idA b.idB).modHub 0 (fun x => { x with flash := { x.flash with floorOk := b.floorA } })
    let c3 := c2.modHub 1 (fun x => { x with flash := { x.flash with floorOk := b.floorB } })
    let c4 := (c3.bootHub 0 b.idA).bootHub 1 b.idB
    let c5 := match c4.primary with
      | some h => if (c4.hub h).fw.isSome then c4.bootPrimary h n b.setpoint.toNat else c4
      | none => c4
    (List.range 40).foldl Chip.reportLost (c5.resetNotice c5.primaryDie n 4)

end Sys2Proof.Machine
end

