-- ==== Sys2Proof/Machine/Resets.lean ====
section
/-!
DEFINITION. The plane resets and the narrower ones (R25, R429, R431 to R434, R481, R483, R513), and their end. Meanings: PLANE_DATA_RESET,
PLANE_CONTROL_RESET, PLANE_MGMT_RESET, REGION_RESET, BLOCK_RESET, TILE_RESET, LINK_RESET, RESET_END.
-/

namespace Sys2Proof.Machine

/-- What a reset that ends had reached: a reset of class PLANE_DATA to LINK (R10). -/
inductive ResetTarget where
  | planeData
  | planeControl
  | planeMgmt (hub : Fin 2)
  | region (die : Fin 40)
  | block (die : Fin 40) (block : Fin 8)
  | tile (die : Fin 40) (tile : Fin 128)
  | link (hub : Fin 2)
  deriving DecidableEq, Repr

/-- A CHIP, SAG or POWER reset is in progress: no narrower one begins. -/
def Chip.restarting (c : Chip) : Bool := c.pw.chipReset != 0

/-! ### Planes -/

/-- The data plane goes into reset. -/
def Chip.planeDataWipe (c : Chip) : Chip := ((c.rstBegin 4 none).wipeData).modPw (fun p => { p with planeReset := true })

/-- What follows a reset of the data plane: the RESET notice, and what every die lost. -/
def Chip.planeDataReport (c : Chip) : Chip := (List.range 40).foldl Chip.reportLost (c.resetNotice c.primaryDie 4 4)

/-- PLANE_DATA_RESET. Before an image has been loaded the data plane is in reset already. -/
def Chip.planeDataReset (c : Chip) : Chip := if c.restarting ∨ c.pw.planeReset ∨ c.pw.dataHeld then c else c.planeDataWipe

/-- PLANE_CONTROL_RESET: the control complexes of both hubs restart; orders in hand are answered FROZEN (R453). -/
def Chip.planeControlReset (c : Chip) : Chip :=
  if c.restarting then c
  else
    let c1 := (c.freezeOrders.rstBegin 5 none).resetRegs 5 reachControl
    (c1.modHub 0 (fun x => { x with ctlUp := false })).modHub 1 (fun x => { x with ctlUp := false })

/-- PLANE_MGMT_RESET of a hub. -/
def Chip.planeMgmtReset (c : Chip) (h : Nat) : Chip :=
  if c.restarting then c
  else (((c.rstBegin 6 none).resetRegs 6 (reachMgmt h (c.primary == some h))).modHub h Hub.mgmtReset)

/-! ### Regions, blocks and tiles -/

/-- R434: a block that is in DEEP_RECESS, or wakes from it, stays gated and is re-admitted from the region master only; an entry in
progress is void. -/
def Chip.resetSleep (c : Chip) (d b : Nat) : Chip :=
  let st := c.blkSt d b
  let k := d * 8 + b
  if st = 2 ∨ c.wokenFrom d b 2 then c.modPw (fun p => { p with shadow := SMap.erase p.shadow k })
  else if st = 0 then c
  else (c.setBlkSt d b 0).modPw (fun p => { p with entry := SMap.erase p.entry k, wake := SMap.erase p.wake k, reload := SMap.erase p.reload k })

/-- REGION_RESET of die d. -/
def Chip.regionReset (c : Chip) (d : Nat) : Chip :=
  if c.restarting ∨ c.pw.planeReset ∨ c.pw.dataHeld then c
  else
    let ls := if d < 32 then dieLanes d else []
    let c1 := ((c.rstBegin 7 none).wipeDie d)
    let cl := c1.clearedOf ls
    let c2 := (c1.resetRegs 7 (reachDie d)).resetLanes ls cl
    let c3 := if d < 32 then (List.range 8).foldl (fun s f => s.resetRings d f (List.range 17)) c2 else c2
    let c4 := (List.range (blocksOf d)).foldl (fun s b => s.resetSleep d b) c3
    let c5 := if c4.dieSt d = 3 then c4.setDieSt d 0 else c4
    (c5.modPw (fun p => { p with regionReset := SMap.set (fun _ => false) p.regionReset d true })).showSprayAll

/-- The cells a block holds are gone, its pool is threaded afresh. -/
def Switch.wipeBlock (w : Switch) (d b : Nat) : Switch :=
  let n := d * 8 + b
  { w with pools := SMap.erase w.pools n, voqs := SMap.clearWhere w.voqs (fun k => k / 320 == n),
           pq := SMap.clearWhere w.pq (fun k => k / 64 == n), stq := SMap.clearWhere w.stq (fun k => k / 64 == n),
           late := SMap.clearWhere w.late (fun k => k / 64 == n), tc7Lane := SMap.clearWhere w.tc7Lane (fun k => k / 8 == n) }

/-- BLOCK_RESET of a block of a port die, or of a cluster: its open chunks are asked for again (R316). -/
def Chip.blockReset (c : Chip) (d b : Nat) : Chip :=
  if c.restarting ∨ c.pw.planeReset ∨ c.pw.dataHeld ∨ blocksOf d ≤ b then c
  else
    let ls := if d < 32 then blockLanes d b else []
    let c1 := (ls.foldl Chip.clrLockLost (c.resetEnd d (Activity.inBlock b)))
    let cl := c1.clearedOf ls
    let c2 := (c1.resetRegs 8 (reachBlock d b)).resetLanes ls cl
    let c3 := if d < 32 then
        ({ c2.modSw (fun w => w.wipeBlock d b) with tb := { c2.tb with ingWait := SMap.erase c2.tb.ingWait (d * 8 + b) } }.resetRings d b
          (List.range 17)).refreshPools d
      else c2.clusterLost (d - 32) b
    (c3.resetSleep d b).modPw (fun p => { p with blockReset := SMap.set (fun _ => false) p.blockReset (d * 8 + b) true })

/-- TILE_RESET: lane pipeline t of a port die; on a core die crossbar port t below 64, or accumulator lane group t − 64 from 64 on. -/
def Chip.tileReset (c : Chip) (d t : Nat) : Chip :=
  let known : Bool := if d < 32 then decide (t < 64) else decide (t < 33) || (decide (64 ≤ t) && decide (t < 112))
  if c.restarting ∨ c.pw.planeReset ∨ c.pw.dataHeld ∨ !known then c
  else
    let l := d * 64 + t
    let c1 := c.resetEnd d (Activity.inTile t)
    let c2 := if d < 32 then
        let s := (c1.clrLockLost l).requeue l
        let cl := s.clearedOf [l]
        ((s.resetRegs 9 (reachTile d t)).resetLanes [l] cl).resetRings d (t / 8) [t % 8, 8 + t % 8]
      else if t < 64 then (c1.resetRegs 9 (reachTile d t)).xportDrop (d - 32) t
      else c1.groupLost (d - 32) (t - 64)
    c2.modPw (fun p => { p with tileReset := SMap.set (fun _ => false) p.tileReset (d * 128 + t) true })

/-! ### The host link -/

/-- LINK_RESET: PERST of hub h is asserted (R431). -/
def Chip.linkReset (c : Chip) (h : Nat) : Chip :=
  if c.restarting then c
  else
    let c1 := c.modHub h (fun x => { x with linkUp := false })
    if c1.flag (R.PWR_RST_CFG c1.primaryDie) F.PWR_RST_CFG_PERST_MGMT then c1.planeMgmtReset h else c1

/-- The PCIe link of hub h has trained; vectors that waited are signalled (R449). -/
def Chip.linkBack (c : Chip) (h : Nat) : Chip :=
  let vs := (c.hub h).vecPending
  vs.foldl (fun s v => s.signal h v) (c.modHub h (fun x => { x with linkUp := true, vecPending := [] }))

/-! ### The end of a reset -/

/-- A lane leaves DARK for TUNING (R513); one that is still behind a tile firebreak stays dark. -/
def Chip.lightAgain (c : Chip) (l : Nat) : Chip :=
  if !(c.lane l).inReset then c
  else if c.tileFb (laneDie l) (laneLocal l) then c
  else (c.modLane l (fun x => { x with inReset := false })).enterTuning l none

/-- The block or cluster is out of reset: behind a firebreak it waits for re-admission (R25). -/
def Chip.blockBack (c : Chip) (d b : Nat) (waits : Bool) : Chip :=
  if waits then c.modPw (fun p => { p with readmit := SMap.set (fun _ => false) p.readmit (d * 8 + b) true })
  else if d < 32 then (blockLanes d b).foldl Chip.lightAgain c
  else c

/-- The end of a REGION reset. -/
def Chip.regionBack (c : Chip) (d : Nat) : Chip :=
  let c1 := (c.modPw (fun p => { p with regionReset := SMap.erase p.regionReset d })).showDie d
  let c2 := (List.range (blocksOf d)).foldl (fun s b => s.blockBack d b (c1.isolated d || c1.blockFb d b)) c1
  let c3 := if 32 ≤ d then c2.homeReadmit (d - 32) else c2
  ((c3.showSprayAll).resetNotice d 7 3).reportLost d

/-- The end of a TILE reset: the tile's firebreak ends with it. -/
def Chip.tileBack (c : Chip) (d t : Nat) : Chip :=
  let c1 := (c.modPw (fun p => { p with tileReset := SMap.erase p.tileReset (d * 128 + t) })).setTileFb d t false
  if d < 32 then
    if c1.blockFb d (t / 8) ∨ c1.isolated d then c1 else c1.lightAgain (d * 64 + t)
  else if t < 64 then c1.showSprayAll
  else c1

/-- RESET_END. -/
def Chip.resetDone (c : Chip) (t : ResetTarget) : Chip :=
  if c.restarting then c
  else match t with
    | .planeData => if c.pw.planeReset then c.reapply.planeDataReport else c
    | .planeControl =>
      if (c.hub 0).ctlUp || (c.hub 1).ctlUp || ((c.hub 0).fw.isNone && (c.hub 1).fw.isNone) then c
      else ((c.modHub 0 (fun x => { x with ctlUp := x.fw.isSome })).modHub 1 (fun x => { x with ctlUp := x.fw.isSome })).resetNotice
        c.primaryDie 5 4
    | .planeMgmt h => if (c.hub h).mgmtUp then c else (c.modHub h (fun x => { x with mgmtUp := true })).resetNotice c.primaryDie 6 4
    | .region d => if SMap.get (fun _ => false) c.pw.regionReset d then c.regionBack d else c
    | .block d b =>
      if SMap.get (fun _ => false) c.pw.blockReset (d.val * 8 + b.val) then
        (c.modPw (fun p => { p with blockReset := SMap.erase p.blockReset (d.val * 8 + b.val) })).blockBack d b (c.blockFb d b || c.isolated d)
      else c
    | .tile d t => if SMap.get (fun _ => false) c.pw.tileReset (d.val * 128 + t.val) then c.tileBack d t else c
    | .link h => if (c.hub h).linkUp then c else c.linkBack h

end Sys2Proof.Machine
end

