-- ==== Sys2Proof/Machine/Standby.lean ====
section
/-!
DEFINITION. STANDBY (R141, R422, R423, R426, R433): its conditions, entry and exit. Meanings: STANDBY, STANDBY_EXIT_DONE, WAKE,
WAKE_BURST_DETECT.
-/

namespace Sys2Proof.Machine

/-- A wake of a block or die, or the exit from STANDBY, runs. -/
def Chip.wakeRuns (c : Chip) : Bool :=
  c.pw.standbyExit || (List.range 40).any (fun d => c.dieSt d == 4 || (List.range (blocksOf d)).any (fun b => c.blkSt d b == 4))

/-- A lane that does not hold up STANDBY; lanes without a role do not (DEDUCED, log 22). -/
def Chip.laneStands (c : Chip) (l : Nat) : Bool :=
  let st := c.laneState l
  (st == LS.drowsy && c.get (lstat l) F.PRT_LSTAT_DEPTH == 3) || st == LS.drained || st == LS.cleared || st == LS.failed
    || (c.role l != 1 && c.role l != 2)

/-- The first condition of R426 that fails, 1 to 4; 0 when all hold. -/
def Chip.standbyFails (c : Chip) : Nat :=
  if !((List.range 2048).all c.laneStands) then 1
  else if c.sw.pools.any (fun e => !e.2.bufs.isEmpty) ∨ !c.sw.parked.isEmpty then 2
  else if c.coll.objs.any (fun e => !([0, 1, 5, 7].contains (c.objState e.1))) then 3
  else if (List.range 40).any (fun d => (c.entries d).any (fun e => e.2.running)) then 4
  else 0

/-- STANDBY is entered: every LOCKED ring is HELD at its last drive, every die stands by; event 0x01. -/
def Chip.standbyEnter (c : Chip) : Chip :=
  let c1 := (List.range 32).foldl (fun s d => (List.range 8).foldl (fun s f => (List.range 17).foldl (fun s r => s.holdRing d f r) s) s) c
  let c2 := (c1.eachDie (fun s d => s.setDieSt d 2)).modPw (fun p => { p with standby := true })
  (c2.setAsleep 640).chipPower 0 (powerDetail 1 4 0 0 0 0 0 0)

/-- ACTIVE lanes of ROLE 2 whose DROWSY the standby command waits for, or sends. -/
def Chip.weferRest (c : Chip) : Chip :=
  c.weferActive.foldl (fun s l => if (s.lane l).waitsOp 0x0A then s else s.sendDrowsy l 3) c

/-- Begin the exit from STANDBY for a wake source. -/
def Chip.standbyLeave (c : Chip) (source : Nat) : Chip :=
  if !c.pw.standby ∨ c.pw.standbyExit then c
  else (c.modPw (fun p => { p with dieWake := SMap.set (fun _ => none) p.dieWake 40 (some ⟨2, source, 0⟩) })).standbyExitStart

/-- The command STANDBY. It runs on while lanes of ROLE 2 go DROWSY. -/
def Chip.cmdStandby (c : Chip) (o : Origin) : Chip :=
  match c.cmdOf o 0x40 with
  | none => c
  | some x =>
    if 1 < x.arg0 then c.complete o 2 0 []
    else if c.wakeRuns then c.complete o 3 0 []
    else if x.arg0 = 1 then (c.standbyLeave 6).complete o 0 0 []
    else if c.twinSt ≠ 0 then c.complete o 4 5 []
    else if c.pw.standby then c.complete o 0 0 []
    else if !c.weferActive.isEmpty then c.weferRest
    else if c.standbyFails ≠ 0 then c.complete o 4 c.standbyFails []
    else (c.standbyEnter).complete o 0 0 []

/-- A lane of a die that has left STANDBY: TUNING, then a fast retrain (R141). -/
def Chip.laneStandsUp (c : Chip) (l : Nat) : Chip :=
  if c.laneState l = LS.drowsy ∨ (c.laneState l = LS.drained ∧ c.role l ≠ 0) then
    ((c.modLaneOpt l (fun x => { x with fastNext := true })).modLane l (fun x => { x with mine := false, wakeSeq := none })).enterTuning l none
  else c

/-- STANDBY_EXIT_DONE: the dies run again; free lists are threaded afresh, the held rings start to recapture; event 0x02. -/
def Chip.standbyExitDone (c : Chip) : Chip :=
  if !c.pw.standby ∨ !c.pw.standbyExit then c
  else
    let src := ((SMap.get (fun _ => none) c.pw.dieWake 40).map (·.source)).getD 1
    let us := c.asleepUs 640
    let c1 := c.modPw (fun p => { p with standby := false, standbyExit := false, dieWake := SMap.erase p.dieWake 40 })
    let c2 := (c1.eachDie (fun s d => s.setDieSt d 0)).modSw (fun w => { w with pools := [] })
    let c3 := (List.range 32).foldl (fun s d =>
      (List.range 8).foldl (fun s f => (List.range 17).foldl (fun s r => if (s.ring d f r).dark then s else s.unholdRing d f r) s)
        (s.refreshPools d)) c2
    let c4 := (List.range 2048).foldl Chip.laneStandsUp c3
    c4.chipPower 0 (powerDetail 2 0 4 src 0 0 0 us)

/-- The command WAKE: it acts at once, as a WAKE bell does. -/
def Chip.cmdWake (c : Chip) (o : Origin) : Chip :=
  match c.cmdOf o 0x41 with
  | none => c
  | some x =>
    if 39 < x.arg0 ∨ 0x1FF < x.arg1 then c.complete o 2 0 []
    else
      let die := bitOf x.arg1 8
      let c1 := if die ∧ c.pw.standby then c.standbyLeave 6 else c.wakeMask x.arg0 (x.arg1 % 256) die 6
      c1.complete o 0 0 []

/-- WAKE_BURST_DETECT: the canopy detects a wake burst on a lane at depth 3; in STANDBY one on a lane of an enabled port ends it. -/
def Chip.wakeBurstDetect (c : Chip) (l : Nat) : Chip :=
  if c.pw.standby then (if c.portEnabled l then c.standbyLeave 4 else c) else c.wakeBurst l

end Sys2Proof.Machine
end

