-- ==== Sys2Proof/Machine/Registers.lean ====
section
/-!
DEFINITION. Reads and writes of registers (R7 to R9, R29, R38 to R40, R73, R437, R440, R442, R488, R489, R492, R509), notice queues
(R35 to R37) and the hubs' heartbeats (R17). Meanings: REGISTER_WRITE, LATCHED_READ, BAD_SIZE_ACCESS, NOTICE_ENTRY, NQ_TAIL_WRITE,
PMC_LO_READ, PMC_HI_WRITE, PMC_LO_WRITE, PMC_OVERFLOW, HUB_HEARTBEAT_SEND, HEARTBEAT_PATH_LOST.
-/

namespace Sys2Proof.Machine

/-! ### Reads (R7, R9, R39, R40, R440) -/

/-- Who reads: bit 0 of the reading complex, 0 control and 1 management; host reads use the management complex's copies (R488). -/
def Via.complex : Via → Nat
  | .ctl _ => 0
  | _ => 1

/-- Word i of a 16-byte entry (R509). -/
def entryWord (e : BitVec 128) (i : Nat) : Word := BitVec.ofNat 32 (e.toNat / 2 ^ (32 * i))

/-- The whole 48-bit count of counter n of die d: programmable 0 to 31, fixed 32 to 39. -/
def Chip.pmcCount (c : Chip) (d n : Nat) : Nat :=
  if n < 32 then (SMap.get (fun _ => {}) c.pmc.prog (d * 32 + n)).count else SMap.get (fun _ => 0) c.pmc.fixed (d * 8 + (n - 32))

/-- The performance-counter registers of die d at offset o from 0x03D0_0000. -/
def Chip.pmcRead (c : Chip) (v : Via) (d o : Nat) : Word :=
  if o < 0x200 then
    let x := SMap.get (fun _ => {}) c.pmc.prog (d * 32 + o / 16)
    if o % 16 = 0 then x.sel
    else if o % 16 = 4 then BitVec.ofNat 32 x.count
    else if o % 16 = 8 then BitVec.ofNat 32 (x.count / 2 ^ 32)
    else BitVec.ofNat 32 x.period
  else if o < 0x240 then
    BitVec.ofNat 32 (c.pmcCount d (32 + (o - 0x200) / 8) / (if o % 8 = 0 then 1 else 2 ^ 32))
  else if o = 0x300 then BitVec.ofNat 32 (SMap.get (fun _ => 0) c.pmc.tag (d * 2 + v.complex))
  else if o = 0x304 then BitVec.ofNat 32 (SMap.get (fun _ => 0) c.pmc.ovf d)
  else 0

/-- TIM_NOW_n. -/
def Chip.timNow (c : Chip) (n : Nat) : Word :=
  BitVec.ofNat 32 (if n = 0 then timeFrac c.now else if n = 1 then timeNsec c.now
    else if n = 2 then timeSec c.now else timeSec c.now / 2 ^ 32)

/-- The applied value at the offset in a port's ADDR register (R73). -/
def Chip.appliedAt (c : Chip) (d addr : Nat) : Word :=
  let a := dieBase d + (c.rd addr).toNat % 0x04000000 / 4 * 4
  if isCs a then c.rd a else 0

/-- The entry windows of a die: the notice queues and the transmit timestamp queue. -/
def Chip.entryAt (c : Chip) (d o : Nat) : Option Word :=
  if 0x03E10000 ≤ o ∧ o < 0x03E18000 then
    let i := (o - 0x03E10000) / 16
    some (entryWord (SMap.get (fun _ => 0) c.nq.entries (d * 2048 + i)) (o / 4 % 4))
  else if 0x03810000 ≤ o ∧ o < 0x03810400 ∧ d < 32 then
    some (entryWord (SMap.get (fun _ => 0) c.tsq (d * 64 + (o - 0x03810000) / 16)) (o / 4 % 4))
  else none

/-- A register that holds what other state shows, at offset o of die d. -/
def Chip.shownAt (c : Chip) (v : Via) (d o : Nat) : Option Word :=
  if 0x03800000 ≤ o ∧ o ≤ 0x0380000C then some (c.timNow ((o - 0x03800000) / 4))
  else if o = 0x01600214 then some (BitVec.ofNat 32 c.ms)
  else if o = 0x03F00018 then some (c.appliedAt d (R.CFG_APV_ADDR_C d))
  else if o = 0x03F00020 then some (c.appliedAt d (R.CFG_APV_ADDR_M d))
  else if o / 0x1000 = 0x03D00 then some (c.pmcRead v d (o % 0x1000))
  else if 0x01501080 ≤ o ∧ o < 0x01505080 ∧ (o - 0x01501080) % 0x100 < 0x24 then
    some (BitVec.ofInt 32 (c.tokens d ((o - 0x01501080) / 0x100) ((o - 0x01501080) % 0x100 / 4) / 2 ^ 24))
  else if 0x03E30100 ≤ o ∧ o < 0x03E30500 ∧ o % 16 = 12 then
    some (match c.entry d ((o - 0x03E30100) / 16) with
      | some e => BitVec.ofNat 32 (min (2 ^ 32 - 1) ((c.now - e.since) / tuUs))
      | none => 0)
  else if o = 0x03C00000 then some (setBits (c.rd (R.TWN_STATE d)) F.TWN_STATE_LANES c.weferMask)
  else none

/-- A telemetry read of BAR0 address a, without side effect (R40). -/
def Chip.readReg (c : Chip) (v : Via) (a : Nat) : Word :=
  let d := a / 0x04000000
  let o := a % 0x04000000
  if 40 ≤ d then 0
  else if c.isolated d ∧ o ≠ 0x03E00020 then 0xFFFFFFFF
  else match c.entryAt d o with
    | some w => w
    | none =>
      if !regExists a then 0
      else match c.shownAt v d o with
        | some w => w
        | none => if isCs a then c.rdS a else c.rd a

/-- The registers whose low part at offset o of a die window latches high parts (R7): the offsets of those. -/
def highParts (o : Nat) : List Nat :=
  if o = 0x03800000 then [0x03800004, 0x03800008, 0x0380000C]
  else if o ∈ [0x03E00024, 0x03F0000C, 0x01600004, 0x02300014, 0x02400020, 0x02600004, 0x03820004, 0x03820024, 0x03A00004] then [o + 4]
  else if 0x03E30100 ≤ o ∧ o < 0x03E30500 ∧ o % 16 = 4 then [o + 4]
  else []

/-- Latch the high part at address a for the next read of it. -/
def Chip.latchAt (c : Chip) (a : Nat) (w : Word) : Chip := { c with latch := SMap.set (fun _ => none) c.latch a (some w) }

/-- PMC_LO_READ: the count of a counter is sampled whole: its high part and the canopy tick are latched for the reading complex. -/
def Chip.pmcLoRead (c : Chip) (v : Via) (d n : Nat) : Chip :=
  if c.isolated d then { c with lastRead := 0xFFFFFFFF }
  else
    let x := c.pmcCount d n
    let hi := if n < 32 then R.PMC_CNT_HI d n else R.PMC_FIX_HI d (n - 32)
    let tick := c.real / 100 % 2 ^ 20
    let c1 := c.latchAt hi (BitVec.ofNat 32 (x / 2 ^ 32))
    { c1 with lastRead := BitVec.ofNat 32 x,
              pmc := { c1.pmc with tag := SMap.set (fun _ => 0) c1.pmc.tag (d * 2 + v.complex) tick } }

/-- The counter whose low part stands at offset o, if any. -/
def pmcLoAt (o : Nat) : Option Nat :=
  if 0x03D00000 ≤ o ∧ o < 0x03D00200 ∧ o % 16 = 4 then some ((o - 0x03D00000) / 16)
  else if 0x03D00200 ≤ o ∧ o < 0x03D00240 ∧ o % 8 = 0 then some (32 + (o - 0x03D00200) / 8)
  else none

/-- LATCHED_READ: a read of BAR0 address a. A low part latches its high parts; a latched high part answers its next read. -/
def Chip.latchedRead (c : Chip) (v : Via) (a : Nat) : Chip :=
  let d := a / 0x04000000
  let o := a % 0x04000000
  match SMap.get (fun _ => none) c.latch a with
  | some w => { c with latch := SMap.erase c.latch a, lastRead := w }
  | none =>
    match pmcLoAt o with
    | some n => if d < 40 then c.pmcLoRead v d n else { c with lastRead := 0 }
    | none =>
      let base := dieBase d
      let his := if d < 40 ∧ regExists a then highParts o else []
      let c1 := his.foldl (fun s h => s.latchAt (base + h) (c.readReg v (base + h))) c
      { c1 with lastRead := c.readReg v a }

/-! ### Performance counters written (R489, R492) -/

def Chip.modCounter (c : Chip) (d n : Nat) (f : Counter → Counter) : Chip :=
  { c with pmc := { c.pmc with prog := SMap.modify (fun _ => {}) c.pmc.prog (d * 32 + n) f } }

/-- PMC_HI_WRITE: bits [47:32] wait for the low part. -/
def Chip.pmcHiWrite (c : Chip) (d n : Nat) (v : Word) : Chip := c.modCounter d n (fun x => { x with staged := v.toNat % 2 ^ 16 })

/-- PMC_LO_WRITE: all 48 bits are loaded at once. -/
def Chip.pmcLoWrite (c : Chip) (d n : Nat) (v : Word) : Chip :=
  c.modCounter d n (fun x => { x with count := x.staged * 2 ^ 32 + v.toNat })

/-- PMC_OVERFLOW: an enabled counter whose count passes 2⁴⁸ − 1 by these events. -/
def Chip.pmcOverflow (c : Chip) (d n events : Nat) : Chip :=
  let x := SMap.get (fun _ => {}) c.pmc.prog (d * 32 + n)
  if getBits x.sel F.PMC_SEL_ENABLE = 1 ∧ 2 ^ 48 ≤ x.count + events then { c with pmc := c.pmc.bump (d * 32 + n) events } else c

/-- A write to a performance-counter register at offset o from 0x03D0_0000. -/
def Chip.pmcWrite (c : Chip) (d o : Nat) (v : Word) : Chip :=
  if o < 0x200 then
    if o % 16 = 0 then c.modCounter d (o / 16) (fun x => { x with sel := v &&& 0x70FFFFFF })
    else if o % 16 = 4 then c.pmcLoWrite d (o / 16) v
    else if o % 16 = 8 then c.pmcHiWrite d (o / 16) v
    else c.modCounter d (o / 16) (fun x => { x with period := v.toNat })
  else if o = 0x304 then
    { c with pmc := { c.pmc with ovf := SMap.modify (fun _ => 0) c.pmc.ovf d (fun m => (BitVec.ofNat 32 m &&& ~~~v).toNat) } }
  else c

/-! ### Notice queues (R35 to R38) -/

/-- Entries in queue q of die d. -/
def Chip.nqCount (c : Chip) (d q : Nat) : Nat := (c.get (nqPtr d q) nqHead + 2048 - c.get (nqPtr d q) nqTail) % 2048

/-- FLT_NQ_STATUS shows whether the queue is in reserve. -/
def Chip.showReserve (c : Chip) (d q : Nat) : Chip :=
  c.set (R.FLT_NQ_STATUS d) (nqReserve q) (decide (1024 - 64 < c.nqCount d q)).toNat

/-- NOTICE_QUEUE_SIGNAL: the consumer complex of queue q of die d is signalled. -/
def Chip.nqSignal (c : Chip) (d q : Nat) : Chip :=
  { c with nq := { c.nq with signals := SMap.modify (fun _ => 0) c.nq.signals (d * 2 + q) (· + 1) } }

/-- The order of entry: by core cycle, FAULT first, then by unit. -/
def stagedRank (x : Staged) : Nat := (x.cycle * 2 + (if entrySev x.entry = 2 then 0 else 1)) * 2 ^ 22 + entryUnit x.entry

/-- Take a notice into queue q of die d, or turn it away. -/
def Chip.nqTake (c : Chip) (d q : Nat) (e : BitVec 128) : Chip :=
  let n := c.nqCount d q
  if 1024 ≤ n then c.nqTurnAway d q true
  else if 1024 - 64 < n ∧ entrySev e ≠ 2 then c.nqTurnAway d q false
  else
    let hd := c.get (nqPtr d q) nqHead
    let c1 := { c with nq := { c.nq with entries := SMap.set (fun _ => 0) c.nq.entries ((d * 2 + q) * 1024 + hd % 1024) e } }
    let c2 := (c1.set (nqPtr d q) nqHead (hd + 1)).showReserve d q
    let c3 := if n = 0 then c2.nqSignal d q else c2
    if q = 1 then
      match c3.primary with
      | some h => if (c3.hub h).mgmtUp then c3.copyToHost e else c3
      | none => c3
    else c3

/-- NOTICE_ENTRY: a staged notice enters queue q of die d, at most one every 2 core cycles. -/
def Chip.noticeEntry (c : Chip) (d q : Nat) : Chip :=
  let k := d * 2 + q
  match orderBy stagedRank (SMap.get (fun _ => []) c.nq.staged k) with
  | [] => c
  | x :: t =>
    if c.cycle < SMap.get (fun _ => 0) c.nq.next k then c
    else
      let c1 := { c with nq := { c.nq with staged := SMap.set (fun _ => []) c.nq.staged k t,
                                           next := SMap.set (fun _ => 0) c.nq.next k (c.cycle + 2) } }
      c1.nqTake d q x.entry

/-- NQ_TAIL_WRITE: the consumer gives TAIL of queue q of die d. -/
def Chip.nqTailWrite (c : Chip) (d q tail : Nat) : Chip :=
  let n := c.nqCount d q
  let c1 := (c.set (nqPtr d q) nqTail tail).showReserve d q
  if n = 0 ∧ c1.nqCount d q ≠ 0 then c1.nqSignal d q else c1

/-! ### Writes (R9, R29, R440) -/

/-- A write that reaches no register, or one that R29 forbids: through BAR0 it is counted. -/
def Chip.noWrite (c : Chip) (v : Via) : Chip :=
  match v with
  | .host h => c.barDrop h
  | _ => c

/-- Is the register one that control and management may write directly, or not of the data plane (R29, R492)? -/
def writable (r : RegRow) : Bool :=
  !decide (r.plane = .data) || accMask r.fields .rw != 0 || accMask r.fields .w1c != 0 || accMask r.fields .wo != 0

/-- PWR_RST_CMD (R437): the code it shows, and what the command does. -/
def Chip.resetCommand (c : Chip) (w : Word) : Nat × Chip :=
  let cls := getBits w F.PWR_RST_CMD_CLASS
  let d := getBits w F.PWR_RST_CMD_DIE
  let b := getBits w F.PWR_RST_CMD_UNIT
  let t := getBits w F.PWR_RST_CMD_TILE
  let h := getBits w F.PWR_RST_CMD_HUB
  let tileOk : Bool := if d < 32 then decide (t < 64) else decide (t < 33) || (decide (64 ≤ t) && decide (t < 112))
  let bad : Bool := (7 ≤ cls && cls ≤ 9 && 40 ≤ d) || (cls == 8 && decide (blocksOf d ≤ b)) || (cls == 9 && !tileOk)
    || ((cls == 6 || cls == 10) && decide (2 ≤ h))
  let busy : Bool := c.restarting || (cls != 3 && cls != 6 && cls != 10 && (c.pw.planeReset || (7 ≤ cls && c.pw.dataHeld)))
  if getBits w F.PWR_RST_CMD_CONFIRM ≠ 0x5A then (1, c)
  else if cls < 3 ∨ 10 < cls then (2, c)
  else if bad then (3, c)
  else if busy then (4, c)
  else if cls = 3 then (0, c.chipReset)
  else if cls = 4 then (0, c.planeDataReset)
  else if cls = 5 then (0, c.planeControlReset)
  else if cls = 6 then (0, c.planeMgmtReset h)
  else if cls = 7 then (0, c.regionReset d)
  else if cls = 8 then (0, c.blockReset d b)
  else if cls = 9 then (0, c.tileReset d t)
  else (0, c.linkReset h)

/-- The command of PWR_RST_CMD, with its code in PWR_RST_STAT.CMD of the window it was written in. -/
def Chip.rstCmdWrite (c : Chip) (d : Nat) (w : Word) : Chip :=
  let r := c.resetCommand w
  r.2.set (R.PWR_RST_STAT d) F.PWR_RST_STAT_CMD r.1

/-- TAIL of the host event ring of hub h. -/
def Chip.evqTail (c : Chip) (h : Nat) (a : Nat) (w : Word) : Chip :=
  let was := c.get a F.MGT_EVQ_PTR_HEAD == c.get a F.MGT_EVQ_PTR_TAIL
  let c1 := c.set a F.MGT_EVQ_PTR_TAIL (getBits w F.MGT_EVQ_PTR_TAIL)
  if was ∧ c1.get a F.MGT_EVQ_PTR_HEAD ≠ c1.get a F.MGT_EVQ_PTR_TAIL then c1.signal h 62 else c1

/-- A write that has reached the register at address a of die d, offset o. -/
def Chip.writeAt (c : Chip) (v : Via) (r : RegRow) (d o : Nat) (w : Word) : Chip :=
  let a := dieBase d + o
  if r.isCommit then
    match groupOf a with
    | some g =>
      if bitOf w.toNat 1 then c.commitDiscard d g
      else if bitOf w.toNat 0 then c.commitApply d g v.isCtl
      else c
    | none => c
  else if isCs a then c.stagingWrite a w
  else if o = 0x03E00000 then c.nqTailWrite d 0 (getBits w nqTail)
  else if o = 0x03E00004 then c.nqTailWrite d 1 (getBits w nqTail)
  else if o = 0x03800100 then c.tsqTail d (getBits w F.TIM_TSQ_PTR_TAIL)
  else if o = 0x03820014 then c.bellCommand d 0 w.toNat
  else if o = 0x03820034 then c.bellCommand d 1 w.toNat
  else if o = 0x03A00010 then c.evqTail (if d = 32 then 0 else 1) a w
  else if o = 0x03900030 then c.rstCmdWrite d w
  else if o / 0x1000 = 0x03D00 then c.pmcWrite d (o % 0x1000) w
  else c.wr a (accessWrite r.fields (c.rd a) w)

/-- REGISTER_WRITE: value w to BAR0 address a. -/
def Chip.registerWrite (c : Chip) (v : Via) (a : Nat) (w : Word) : Chip :=
  c.writeVia v (fun s =>
    if 40 ≤ a / 0x04000000 then s
    else match regRow a with
      | some (r, _) => if writable r || isCs a then s.writeAt v r (a / 0x04000000) (a % 0x04000000) w else s.noWrite v
      | none => s.noWrite v)

/-- BAD_SIZE_ACCESS: an access to the BAR0 of hub h that is not an aligned 32-bit one. -/
def Chip.badSize (c : Chip) (h : Nat) : Chip :=
  if (c.hub h).linkUp then c.incSat (R.MGT_BAR_ERR (hubDie h)) F.MGT_BAR_ERR_BAD_SIZE 1 else c

/-! ### Heartbeats (R17) -/

/-- HUB_HEARTBEAT_SEND. -/
def Chip.heartbeat (c : Chip) (h : Nat) : Chip :=
  if (c.hub h).mgmtUp then c.modHub h (fun x => { x with beatsSent := x.beatsSent + 1 }) else c

/-- HEARTBEAT_PATH_LOST: heartbeats are missed on one path only, 0 the hub bridge, which moves to its route through P16, 1 the hub
sideband. Neither hub changes role; each function enters a HUB_ROLE event, each time. -/
def Chip.pathLost (c : Chip) (path : Nat) : Chip :=
  match c.primary with
  | none => c
  | some p =>
    [0, 1].foldl (fun s h => (s.modHub h (fun x => { x with pathLost := 2 ^ path })).hubRole h (p + 2)) c

end Sys2Proof.Machine
end

