-- ==== Sys2Proof/Machine/HostOps.lean ====
section
/-!
DEFINITION. The commands of R448 that keep identity, boot and evidence (R56, R386, R389, R457 to R462) and telemetry by command (R40).
Meanings: WRITE_REPAIR, LOAD_PACK, ENROLL_KEY, RAISE_FLOOR, WRITE_FIRMWARE, COMMISSION, SET_TOD, READ_FSIG, READ_REGS, READ_IDENTITY,
QUOTE, READ_LOG.
-/

namespace Sys2Proof.Machine

/-! ### Bulk data -/

/-- The part of a hub's LPDDR5X that BAR4 maps (R439). -/
def bar4Size : Nat := 64 * 2 ^ 30

/-- Bytes written from address a of hub h's LPDDR5X on. -/
def bytesAt (h a : Nat) (bs : List Nat) : List HubWrite := bs.zipIdx.map (fun e => (h, a + e.2, e.1 % 256))

/-- Complete a command that leaves bytes at its DATA_ADDR: RESULT0 is `r0`; bytes that would pass the end of BAR4 make it BAD_ARG. -/
def Chip.completeData (c : Chip) (o : Origin) (x : Command) (r0 : Nat) (bs : List Nat) : List HubWrite × Chip :=
  if bar4Size < x.dataAddr + bs.length then ([], c.complete o 2 0 [])
  else (bytesAt o.hub x.dataAddr bs, c.complete o 0 r0 [])

/-! ### Floors (R462) -/

/-- The floor of a kind in force at hub h. -/
def Chip.floor (c : Chip) (h k : Nat) : Nat := (c.rd (R.SEC_FLOOR (hubDie h) k)).toNat

/-- Raise a floor on both hubs, in flash and in force; it never falls. A hub whose floor changes logs it (R460). -/
def Chip.raiseFloor (c : Chip) (k v : Nat) : Chip :=
  [0, 1].foldl (fun s h =>
    let n := max v (s.floor h k)
    let s1 := (s.modHub h (fun x => { x with flash := { x.flash with floors := SMap.set (fun _ => 0) x.flash.floors k n, floorOk := true } })).wr
      (R.SEC_FLOOR (hubDie h) k) (BitVec.ofNat 32 n)
    if s.floor h k < v then s1.logItem h 9 n 0 else s1) c

/-- The version of the running item of a kind at hub h: firmware, image or quiz pack; 0 when there is none. -/
def Chip.runningVersion (c : Chip) (h k : Nat) : Nat :=
  if k = 0 then ((c.hub h).fw.map (·.version)).getD 0
  else if k = 1 then (c.image.map (·.version)).getD 0
  else (c.integ.pack.map (·.version)).getD 0

/-- RAISE_FLOOR. -/
def Chip.cmdRaiseFloor (c : Chip) (o : Origin) : Chip :=
  match c.cmdOf o 0x15 with
  | none => c
  | some x =>
    if 2 < x.arg0 ∨ 2 ^ 32 ≤ x.arg1 then c.complete o 2 0 []
    else if c.runningVersion o.hub x.arg0 < x.arg1 then c.complete o 4 0 []
    else
      let c1 := c.raiseFloor x.arg0 x.arg1
      c1.complete o 0 (c1.floor o.hub x.arg0) []

/-! ### Flash items -/

/-- WRITE_REPAIR: the record goes to the flash of both hubs; it acts at the next CHIP reset. -/
def Chip.cmdWriteRepair (c : Chip) (o : Origin) (r : Repair) : Chip :=
  match c.cmdOf o 0x12 with
  | none => c
  | some _ =>
    if !r.sigOk ∨ r.identity ≠ identityDigest then c.complete o 6 0x0A []
    else
      let put (x : Hub) : Hub := { x with flash := { x.flash with repair := some r } }
      ((c.modHub 0 put).modHub 1 put).complete o 0 0 []

/-- WRITE_FIRMWARE: RESULT0 names a failing check by its code of R59. -/
def Chip.cmdWriteFirmware (c : Chip) (o : Origin) (f : Firmware) : Chip :=
  match c.cmdOf o 0x16 with
  | none => c
  | some x =>
    if 1 < x.arg0 then c.complete o 2 0 []
    else if !f.sigOk then c.complete o 6 5 []
    else if f.version < c.floor o.hub 0 then c.complete o 6 8 []
    else (c.modHub o.hub (fun u => { u with flash := { u.flash with
      firmware := SMap.set (fun _ => none) u.flash.firmware x.arg0 (some f) } })).complete o 0 0 []

/-- Is a key certificate issued by the root or by an enrolled issuer key of hub h (R458)? -/
def Chip.chainOk (c : Chip) (h : Nat) (k : KeyCert) : Bool :=
  k.sigOk && (k.rootIssued || (c.hub h).flash.keys.any (fun y => y.use == 4 && y.keyId == k.issuer))

/-- ENROLL_KEY: the certificate takes the lowest free of 16 slots on both hubs. -/
def Chip.cmdEnrollKey (c : Chip) (o : Origin) (k : KeyCert) : Chip :=
  match c.cmdOf o 0x14 with
  | none => c
  | some _ =>
    let n := (c.hub o.hub).flash.keys.length
    if 16 ≤ n ∨ !c.chainOk o.hub k ∨ k.use = 0 ∨ 4 < k.use then c.complete o 4 0 []
    else
      let put (x : Hub) : Hub := { x with flash := { x.flash with keys := x.flash.keys ++ [k] } }
      let c1 := ((c.modHub 0 put).modHub 1 put).logItem o.hub 5 0 k.keyId
      (((c1.showKeys 0).showKeys 1).hostEvent o.hub 0x84 2).complete o 0 n []

/-! ### Quiz packs (R389) -/

/-- Bytes of the quiz area of core die k: its 72 GB of HBM3E less the SPILL, STAGE and OPT regions. -/
def Chip.quizArea (c : Chip) (k : Nat) : Nat :=
  let x := c.die (32 + k)
  72 * 10 ^ 9 - (x.spill + x.stage + x.opt) * 2 ^ 30

/-- The entries of a pack are well formed. -/
def Pack.entriesOk (p : Pack) : Bool :=
  p.bodiesOk && p.quizzes.all (fun q => decide (0x400 ≤ q.id) && decide (q.id ≤ 0xFFFF) && !(q.replaces && q.cls == 6))
    && (p.quizzes.map (·.id)).eraseDups.length == p.quizzes.length

/-- The code of R389. -/
def Chip.packCheck (c : Chip) (h : Nat) (p : Pack) : Nat :=
  if !p.magicOk ∨ !p.formatOk ∨ !p.lengthOk then 1
  else if p.member ≠ 40 ∨ 0xA1 < p.stepping then 2
  else if 64 * 2 ^ 20 < p.length ∨ 1024 < p.quizzes.length then 3
  else if !(c.hub h).flash.keys.any (fun k => k.use == 2 && k.keyId == p.keyId) then 4
  else if !p.sigOk then 5
  else if !p.entriesOk ∨ p.version = 0 ∨ 65535 < p.version then 6
  else if p.version < c.floor h 2 then 7
  else if (List.range 8).any (fun k => decide (c.quizArea k < p.size)) then 8
  else 0

/-- FLT_QPACK_STAT in every die window. -/
def Chip.packStat (c : Chip) (code : Nat) (fresh : Option Nat) : Chip :=
  c.eachDie (fun s d =>
    let a := R.FLT_QPACK_STAT d
    let s1 := s.set a F.FLT_QPACK_STAT_CODE code
    match fresh with
    | some v => (s1.set a F.FLT_QPACK_STAT_VERSION v).set a F.FLT_QPACK_STAT_SUSPENDED 0
    | none => s1)

/-- LOAD_PACK. -/
def Chip.cmdLoadPack (c : Chip) (o : Origin) (p : Pack) : Chip :=
  match c.cmdOf o 0x13 with
  | none => c
  | some _ =>
    let code := c.packCheck o.hub p
    if code ≠ 0 then (c.packStat code none).complete o 6 code []
    else
      let c1 := c.modInteg (fun g => { g with pack := some p, ran := [], provFails := [], suspended := [], reruns := [] })
      (((c1.packStat 0 (some p.version)).logItem o.hub 8 p.version p.digest).raiseFloor 2 p.version).complete o 0 0 []

/-! ### Optics and time -/

/-- COMMISSION: for each named lane whose rings are LOCKED, the power its monitor reads at 10 ms integration goes to the optical record and
to PRT_OPT_COMM_L; `power` gives the readings by global lane. -/
def Chip.cmdCommission (c : Chip) (o : Origin) (power : List (Nat × BitVec 16)) : Chip :=
  match c.cmdOf o 0x20 with
  | none => c
  | some x =>
    let named := (List.range 2048).filter (fun l => bitOf x.arg0 (laneDie l) && bitOf x.arg1 (laneLocal l) && c.ringsLocked l)
    let read (l : Nat) : Option (BitVec 16) := (power.find? (fun e => e.1 == l)).map (·.2)
    let hits := named.filterMap (fun l => (read l).map (fun v => (l, v)))
    let c1 := hits.foldl (fun (s : Chip) e =>
      let keep (u : Hub) : Hub := { u with flash := { u.flash with optical := SMap.set (fun _ => 0) u.flash.optical e.1 (e.2.toNat + 1) } }
      ((s.modHub 0 keep).modHub 1 keep).set (R.PRT_OPT_COMM (laneDie e.1) (laneLocal e.1)) F.PRT_OPT_COMM_POWER e.2.toNat) c
    c1.complete o 0 hits.length []

/-- SET_TOD: the seconds of the domain's next PPS edge. -/
def Chip.cmdSetTod (c : Chip) (o : Origin) : Chip :=
  match c.cmdOf o 0x30 with
  | none => c
  | some x =>
    if 1 < x.arg0 ∨ 2 ^ 48 ≤ x.arg1 then c.complete o 2 0 []
    else (c.setDom x.arg0 { c.dom x.arg0 with tod := some x.arg1 }).complete o 0 0 []

/-! ### Failure signatures and registers -/

/-- READ_FSIG: records of the ring from TAIL on, or of the hub's flash log. -/
def Chip.cmdReadFsig (c : Chip) (o : Origin) : List HubWrite × Chip :=
  match c.cmdOf o 0x50 with
  | none => ([], c)
  | some x =>
    if 1 < x.arg1 then ([], c.complete o 2 0 [])
    else if x.arg1 = 1 then
      let rs := (c.hub o.hub).flash.fsig.take x.arg0
      c.completeData o x rs.length rs.flatten
    else
      let a := R.FLT_FSIG_PTR c.primaryDie
      let hd := c.get a F.FLT_FSIG_PTR_HEAD
      let tl := c.get a F.FLT_FSIG_PTR_TAIL
      let n := min x.arg0 ((hd + 8192 - tl) % 8192)
      let rs := (List.range n).map (fun i => SMap.get (fun _ => []) c.integ.ring ((tl + i) % 4096))
      let r := c.completeData o x n rs.flatten
      if r.1.isEmpty then r else (r.1, r.2.set a F.FLT_FSIG_PTR_TAIL (tl + n))

/-- READ_REGS: telemetry reads of a die's registers into inline bytes. -/
def Chip.cmdReadRegs (c : Chip) (o : Origin) : Chip :=
  match c.cmdOf o 0x51 with
  | none => c
  | some x =>
    if 39 < x.arg0 ∨ x.arg1 % 4 ≠ 0 ∨ 0x04000000 < x.arg1 + 4 * x.arg2 ∨ 1008 < x.arg2 then c.complete o 2 0 []
    else
      let ws := (List.range x.arg2).map (fun i => c.readReg (.mgmt (if o.hub = 0 then 0 else 1)) (dieBase x.arg0 + x.arg1 + 4 * i))
      c.complete o 0 x.arg2 (ws.flatMap (fun w => leBytes 4 w.toNat))

/-! ### Identity and evidence (R457, R460, R461) -/

/-- The device certificate with its chain: a constant of the device whose bytes the spec does not give (DESIGN CHOICE, log 5). -/
def certificate : List Nat :=
  (List.range ((Config.crypto 5 0).toNat % 65536)).map (fun i => (Config.crypto 5 (1 + i / 64)).toNat / 2 ^ (8 * (i % 64)) % 256)

/-- READ_IDENTITY. -/
def Chip.cmdReadIdentity (c : Chip) (o : Origin) : List HubWrite × Chip :=
  match c.cmdOf o 0x60 with
  | none => ([], c)
  | some x => c.completeData o x certificate.length certificate

/-- SHAKE256 of a byte string, 256 bits; the function is left open (DESIGN CHOICE, log 5). -/
def shake (bs : List Nat) : List Nat := leBytes 32 (Config.crypto 8 (leVal (bs ++ [1]))).toNat

/-- The 64 bytes of a measurement log entry (R460). -/
def LogEntry.bytes (e : LogEntry) : List Nat :=
  [e.type % 256, e.hub % 256, 0, 0] ++ leBytes 4 e.version ++ leBytes 32 e.digest ++ leBytes 6 e.sec ++ leBytes 4 e.nsec
    ++ List.replicate 14 0

/-- The log digest after a list of entries. -/
def logDigest (es : List LogEntry) : List Nat := es.foldl (fun d e => shake (d ++ e.bytes)) (List.replicate 32 0)

/-- The index of the first kept entry: the last 4,096 are kept. -/
def firstKept (es : List LogEntry) : Nat := es.length - 4096

/-- Bytes 0 to 149 of a quote of hub h over a nonce (R461). -/
def Chip.quoteHead (c : Chip) (h : Nat) (nonce : List Nat) : List Nat :=
  let es := (c.hub h).log
  let k := firstKept es
  let role := c.get (R.MGT_ROLE (hubDie h)) F.MGT_ROLE_PRIMARY
  [1, h, role, c.twinSt] ++ leBytes 4 es.length ++ leBytes 4 k ++ logDigest (es.take k) ++ logDigest es
    ++ leBytes 32 (leVal nonce) ++ leBytes 32 identityDigest ++ leBytes 6 (timeSec c.now) ++ leBytes 4 (timeNsec c.now)

/-- n bytes the spec leaves open (DESIGN CHOICE, log 5). -/
def Chip.drawBytes (c : Chip) (purpose n : Nat) : List Nat × Chip :=
  ((List.range n).map (fun i => (Config.crypto purpose (c.draws + i / 64)).toNat / 2 ^ (8 * (i % 64)) % 256),
    { c with draws := c.draws + (n / 64 + 1) })

/-- The 1,432 bytes of a quote. Signature length and signature are left open. -/
def Chip.quote (c : Chip) (h : Nat) (nonce : List Nat) : List Nat × Chip :=
  let s := c.drawBytes 4 1282
  (c.quoteHead h nonce ++ s.1, s.2)

/-- QUOTE: the nonce stands in the first 32 inline bytes. -/
def Chip.cmdQuote (c : Chip) (o : Origin) : List HubWrite × Chip :=
  match c.cmdOf o 0x61 with
  | none => ([], c)
  | some x =>
    let q := c.quote o.hub (x.inline.take 32)
    q.2.completeData o x 1432 q.1

/-- READ_LOG: the kept entries from index ARG0 on. -/
def Chip.cmdReadLog (c : Chip) (o : Origin) : List HubWrite × Chip :=
  match c.cmdOf o 0x62 with
  | none => ([], c)
  | some x =>
    let es := (c.hub o.hub).log
    let out := es.drop (max x.arg0 (firstKept es))
    c.completeData o x out.length (out.flatMap LogEntry.bytes)

end Sys2Proof.Machine
end

