-- ==== Sys2Proof/Machine/Monitors.lean ====
section
/-!
DEFINITION. Temperatures (R506 to R508), watchdogs (R463) and the board controller's requests (R464, R498). Meanings: TEMP_READING,
THERMAL_SHUTDOWN, WATCHDOG_HALF, WATCHDOG_EXPIRY, GET_SETPOINT, GET_TEMP, GET_STATUS, GET_IDENTITY.
-/

namespace Sys2Proof.Machine

/-! ### Temperatures -/

/-- The latest reading of die d, signed, in 0.125 °C. -/
def Chip.tempNow (c : Chip) (d : Nat) : Int := toSigned 16 (c.get (R.PWR_TEMP d) F.PWR_TEMP_NOW)

/-- The die with the highest reading, the lowest die ID among equals. -/
def Chip.hotDie (c : Chip) : Nat :=
  (List.range 40).foldl (fun b d => if c.tempNow b < c.tempNow d then d else b) 0

/-- PWR_TEMP_CHIP, in the windows of both hub dies. -/
def Chip.showTemp (c : Chip) : Chip :=
  let d := c.hotDie
  let t := c.get (R.PWR_TEMP d) F.PWR_TEMP_NOW
  [32, 39].foldl (fun (s : Chip) h =>
    let a := R.PWR_TEMP_CHIP h
    ((s.set a F.PWR_TEMP_CHIP_HOT t).set a F.PWR_TEMP_CHIP_DIE d).set a F.PWR_TEMP_CHIP_WARN (decide (840 ≤ toSigned 16 t)).toNat) c

/-- TEMP_READING of die d: NOW, PEAK, whether a restart waits for the die, and the chip's highest. -/
def Chip.tempReading (c : Chip) (d : Nat) (v : BitVec 16) : Chip :=
  let a := R.PWR_TEMP d
  let c1 := c.set a F.PWR_TEMP_NOW v.toNat
  let c2 := if toSigned 16 (c.get a F.PWR_TEMP_PEAK) < v.toInt then c1.set a F.PWR_TEMP_PEAK v.toNat else c1
  (c2.modPw (fun p => { p with hot := SMap.set (fun _ => false) p.hot d (decide (760 ≤ v.toInt)) })).showTemp

/-- THERMAL_SHUTDOWN: die d has read 115 °C or more for 1 ms. A sag warning ends without event 0x06. -/
def Chip.thermalShutdown (c : Chip) (d : Nat) : Chip :=
  if c.pw.chipReset ≠ 0 ∨ c.tempNow d < 920 then c
  else
    let c1 := [32, 39].foldl (fun (s : Chip) h => s.set (R.PWR_TEMP_CHIP h) F.PWR_TEMP_CHIP_OVER 1) c
    (if c1.sag then c1.sagQuiet else c1).fbDue ⟨4, 32, 0, 0x11⟩

/-! ### Watchdogs -/

/-- Does a watchdog run: 1 management, 2 control, 3 chip, of hub h? -/
def Chip.dogRuns (c : Chip) (h which : Nat) : Bool :=
  c.pw.chipReset == 0 &&
    (if which = 1 then (c.hub h).mgmtUp else if which = 2 then (c.hub h).ctlUp
     else which == 3 && c.flag (R.MGT_WDOG (hubDie h)) F.MGT_WDOG_CHIP_EN)

/-- WATCHDOG_HALF. -/
def Chip.watchdogHalf (c : Chip) (h which : Nat) : Chip := if c.dogRuns h which then c.signal h 67 else c

/-- WATCHDOG_EXPIRY: the reset of its class, its count, and a WATCHDOG event. -/
def Chip.watchdogExpiry (c : Chip) (h which : Nat) : Chip :=
  if !c.dogRuns h which then c
  else
    let c1 := if which = 1 then c.planeMgmtReset h else if which = 2 then c.planeControlReset else c.chipReset
    (c1.incSat (R.MGT_WDOG (hubDie h)) F.MGT_WDOG_EXPIRED 1).hostEvent h 0x83 which

/-! ### Requests of the board controller -/

/-- Answer a request over MCTP: the primary hub alone does, while its management complex runs. The first item is the request: 1
GET_SETPOINT, 2 GET_TEMP, 3 GET_STATUS, 4 GET_IDENTITY. -/
def Chip.mctpAnswer (c : Chip) (f : Nat → List Nat) : Chip :=
  match c.primary with
  | none => c
  | some h => if (c.hub h).mgmtUp then c.modHub h (fun x => { x with mctp := x.mctp ++ [f (hubDie h)] }) else c

/-- GET_SETPOINT. -/
def Chip.getSetpoint (c : Chip) : Chip := c.mctpAnswer (fun d => [1, c.get (R.PWR_VCORE d) F.PWR_VCORE_SETPOINT])

/-- GET_TEMP: the hottest die's temperature and its ID. -/
def Chip.getTemp (c : Chip) : Chip :=
  c.mctpAnswer (fun d => [2, c.get (R.PWR_TEMP_CHIP d) F.PWR_TEMP_CHIP_HOT, c.get (R.PWR_TEMP_CHIP d) F.PWR_TEMP_CHIP_DIE])

/-- GET_STATUS: SAG_N, FAULT_N, the roles of hubs A and B (1 primary), and the class of the last reset. -/
def Chip.getStatus (c : Chip) : Chip :=
  c.mctpAnswer (fun d => [3, c.sagN.toNat, c.faultN.toNat, c.get (R.MGT_ROLE 32) F.MGT_ROLE_PRIMARY,
    c.get (R.MGT_ROLE 39) F.MGT_ROLE_PRIMARY, c.get (R.PWR_RST_STAT d) F.PWR_RST_STAT_LAST])

/-- GET_IDENTITY: the device identity digest. -/
def Chip.getIdentity (c : Chip) : Chip := c.mctpAnswer (fun _ => 4 :: leBytes 32 identityDigest)

end Sys2Proof.Machine
end

