-- ==== Sys2Proof/Machine/Sessions.lean ====
section
/-!
DEFINITION. Messages to the M40 (R451, R452) and sessions (R454 to R456). Meanings: SWITCH_MESSAGE_COMPLETE, ORDER, S_INIT, S_CONFIRM,
S_CLOSE, SESSION_IDLE_TIMEOUT, COMMAND_MESSAGE, DATA_MESSAGE.
-/

namespace Sys2Proof.Machine

/-! ### Sessions -/

/-- A message dropped for a tag or a session. -/
def Chip.dropTag (c : Chip) (h : Nat) : Chip := c.incSat (R.SEC_SESS_ERR (hubDie h)) F.SEC_SESS_ERR_BAD_TAG 1

/-- Close session n, with a SESSION event: 2 closed, 3 on bad tags, 4 idle. -/
def Chip.closeSession (c : Chip) (h n event : Nat) : Chip :=
  match c.session h n with
  | none => c
  | some _ => (c.setSession h n none).hostEvent h 0x82 (event + n % 256 * 2 ^ 8)

/-- The checks of R454 and R455 on a message of session n; a message that passes them is noted, and answers true. -/
def Chip.takeMsg (c : Chip) (h n seq : Nat) (tagOk : Bool) : Bool × Chip :=
  match c.session h n with
  | none => (false, c.dropTag h)
  | some x =>
    if !x.open_ then (false, c.dropTag h)
    else if !tagOk then
      let c1 := c.dropTag h
      (false, if 15 ≤ x.badTags then c1.closeSession h n 3 else c1.setSession h n (some { x with badTags := x.badTags + 1 }))
    else if seq ≤ x.lastIn then
      (false, (c.incSat (R.SEC_SESS_ERR (hubDie h)) F.SEC_SESS_ERR_REPLAY 1).setSession h n (some { x with badTags := 0 }))
    else (true, c.setSession h n (some { x with badTags := 0, lastIn := seq }))

/-- The rights of a session: 0 none, 1 READ, 2 CONTROL, 3 ADMIN. -/
def Chip.rightsOf (c : Chip) (h n : Nat) : Nat :=
  match c.session h n with
  | some x => x.rights
  | none => 0

/-- The primary hub, while its management complex runs. -/
def Chip.messageHub (c : Chip) : Option Nat :=
  match c.primary with
  | some h => if (c.hub h).mgmtUp then some h else none
  | none => none

/-- Does the M40 answer messages to this switch ID: its own, or that of a lost twin (R470)? -/
def Chip.answersFor (c : Chip) (alias_ : Bool) : Bool := !alias_ || c.alias_.isSome

/-- S_INIT: the lowest free session number is given. `cert` is the client's key certificate. -/
def Chip.sInit (c : Chip) (client : Nat) (cert : KeyCert) (alias_ : Bool) : Chip :=
  match c.messageHub with
  | none => c
  | some h =>
    if c.inRecovery h ∨ !c.answersFor alias_ ∨ cert.use ≠ 3 ∨ !c.chainOk h cert ∨ 32 ≤ (c.hub h).sessions.length then c
    else
      let n := ((List.range 33).find? (fun i => i != 0 && (c.session h i).isNone)).getD 33
      let c1 := { c.setSession h n (some { rights := cert.rights, client := client, alias_ := alias_ }) with draws := c.draws + 1 }
      let kem := c1.drawBytes 3 1568
      let sig := kem.2.drawBytes 4 1280
      sig.2.sendPlain 6 client 0x0101
        (leBytes 2 n ++ leBytes 32 (Config.random c.draws).toNat ++ kem.1 ++ certificate ++ sig.1)

/-- S_CONFIRM: the client's signature and its tag under the new keys. -/
def Chip.sConfirm (c : Chip) (n seq : Nat) (sigOk tagOk : Bool) : Chip :=
  match c.messageHub with
  | none => c
  | some h =>
    match c.session h n with
    | none => c.dropTag h
    | some x =>
      if x.open_ ∨ !sigOk ∨ !tagOk then c.dropTag h
      else ((c.setSession h n (some { x with open_ := true, lastIn := seq })).hostEvent h 0x82 (1 + n % 256 * 2 ^ 8)).releaseHeld

/-- S_CLOSE. -/
def Chip.sClose (c : Chip) (n seq : Nat) (tagOk : Bool) : Chip :=
  match c.messageHub with
  | none => c
  | some h =>
    match c.takeMsg h n seq tagOk with
    | (true, c1) => c1.closeSession h n 2
    | (false, c1) => c1

/-- SESSION_IDLE_TIMEOUT: 60 s without a message. -/
def Chip.sessionIdle (c : Chip) (h n : Nat) : Chip := if (c.hub h).mgmtUp then c.closeSession h n 4 else c

/-! ### KIND 5 messages (R452) -/

/-- Does a message of this type need a session? None: not a type the M40 receives. -/
def typeNeeds (ty : Nat) : Option Bool :=
  if ty = 0x0001 then some true else if ty = 0x0010 ∨ ty = 0x0011 ∨ ty = 0x0020 then some false else none

/-- SWITCH_MESSAGE_COMPLETE: the message waits for its complex; PTP for the management complex, every other type for the control
complex. -/
def Chip.switchMessage (c : Chip) (m : HubMsg) (alias_ tagOk : Bool) : Chip :=
  match c.messageHub with
  | none => c
  | some h =>
    if !c.answersFor alias_ then c
    else
      let put (s : Chip) : Chip := s.modHub h (fun x => { x with inbox := x.inbox ++ [m] })
      match typeNeeds m.ty with
      | none => c.dropTag h
      | some need =>
        if m.session = 0 then (if need then c.dropTag h else put c)
        else match c.takeMsg h m.session m.seq tagOk with
          | (true, c1) => if need && decide (c1.rightsOf h m.session < 2) then c1.dropTag h else put c1
          | (false, c1) => c1

/-- Take the first waiting message of a type from the inbox of a hub. -/
def Chip.popMsg (c : Chip) (h ty : Nat) : Chip :=
  c.modHub h (fun x => match x.inbox.find? (fun m => m.ty == ty) with
    | some m => { x with inbox := x.inbox.erase m }
    | none => x)

/-- The same at the primary hub. -/
def Chip.popSwitchMsg (c : Chip) (ty : Nat) : Chip :=
  match c.primary with
  | some h => c.popMsg h ty
  | none => c

/-- ORDER: the first waiting ORDER message runs (R453). One sent to the lost twin needs the twin's hardware (R470). -/
def Chip.order (c : Chip) : Chip :=
  match c.messageHub with
  | none => c
  | some h =>
    match (c.hub h).inbox.find? (fun m => m.ty == 0x0001) with
    | none => c
    | some m =>
      let c1 := c.popMsg h 0x0001
      match c1.session h m.session with
      | none => c1
      | some x =>
        if x.alias_ then c1.orderAnswer (.session h m.session m.seq) 0 1 0
        else c1.orderArrive (.session h m.session m.seq) m.body

/-! ### Commands and data in a session (R456) -/

/-- The right an opcode needs: 1 READ, 2 CONTROL, 3 ADMIN. -/
def rightFor (op : Nat) : Nat :=
  if op ∈ [0x01, 0x50, 0x51, 0x60, 0x61, 0x62] then 1 else if op = 0x70 then 2 else 3

/-- A COMPLETION message with a status and nothing else. -/
def Chip.sessionStatus (c : Chip) (h n status : Nat) : Chip :=
  c.sendSession h n 6 0x0111 (leBytes 4 status ++ leBytes 16 0)

/-- COMMAND_MESSAGE: the command is refused at once, or runs in its turn. -/
def Chip.commandMessage (c : Chip) (n seq : Nat) (tagOk : Bool) (cmd : Command) : Chip :=
  match c.messageHub with
  | none => c
  | some h =>
    match c.takeMsg h n seq tagOk with
    | (false, c1) => c1
    | (true, c1) =>
      match c1.session h n with
      | none => c1
      | some x =>
        match c1.refusedAt h cmd.opcode with
        | some st => c1.sessionStatus h n st
        | none =>
          if x.rights < rightFor cmd.opcode then c1.sessionStatus h n 7
          else if x.alias_ ∧ cmd.opcode ≠ 0x01 then c1.sessionStatus h n 6
          else c1.setSession h n (some { x with cmds := x.cmds ++ [(cmd, serialOp cmd.opcode && c1.serialRuns)] })

/-- What a DATA message asks: bytes to write, or how many to read. -/
inductive DataOp where
  | write (bytes : List Byte)
  | read (count : Nat)
  deriving DecidableEq, Repr

/-- Bytes a DATA message moves at most. -/
def dataMax : Nat := 64992

/-- DATA_MESSAGE at a BAR4 offset; one that lacks its right or leaves BAR4 is dropped. -/
def Chip.dataMessage (c : Chip) (mem : HubRead) (n seq : Nat) (tagOk : Bool) (offset : Nat) (x : DataOp) : List HubWrite × Chip :=
  match c.messageHub with
  | none => ([], c)
  | some h =>
    match c.takeMsg h n seq tagOk with
    | (false, c1) => ([], c1)
    | (true, c1) =>
      match x with
      | .write bs =>
        if c1.rightsOf h n < 3 ∨ dataMax < bs.length ∨ bar4Size < offset + bs.length then ([], c1)
        else (bytesAt h offset (bs.map (·.toNat)), c1)
      | .read k =>
        if c1.rightsOf h n < 1 ∨ dataMax < k ∨ bar4Size < offset + k then ([], c1)
        else ([], c1.sendSession h n 6 0x0112 (leBytes 8 offset ++ (List.range k).map (fun i => mem h (offset + i))))

end Sys2Proof.Machine
end

