-- ==== Sys2Proof/Machine/Twins.lean ====
section
/-!
DEFINITION. The twin link (R465 to R471). Meanings: TW_BEAT_SEND, TW_BEAT, TWIN_LOSS, TW_LOSS, PAIRING_TRY, TW_HELLO, TW_ATTEST, TW_KEM,
TW_INDEX, TW_MIRROR, TW_DETACH, TW_ACK, PAIRING_TIMEOUT, DETACH_TIMEOUT.
-/

namespace Sys2Proof.Machine

/-! ### Shared -/

/-- Change the twin registers of both hub windows. -/
def Chip.eachHubDie (c : Chip) (f : Chip → Nat → Chip) : Chip := [32, 39].foldl f c

/-- Do Wefer cells reach a hub from lane l? -/
def Chip.weferIn (c : Chip) (l : Nat) : Bool := c.lcOpen l && c.role l == 2 && !c.darkChip

/-- A request of the partner on lane l: answered with TW_ACK, and true when it has not been acted on before (R105). -/
def Chip.twinAck (c : Chip) (l op seq : Nat) : Bool × Chip :=
  (!(c.lane l).acted? op seq, (c.lcActed l op seq).lcSend l 0x28 seq [seq % 256])

/-- One fragment of 44 bytes stands for what a request of the pairing carries (DESIGN CHOICE, log 27). -/
def Chip.pairSend (c : Chip) (op : Nat) : Chip :=
  let r := c.drawBytes 7 44
  r.2.twinRequest op r.1

/-- Has step i of R467 been completed: 0 TW_HELLO, 1 TW_ATTEST, 2 TW_KEM, 3 TW_INDEX? -/
def Chip.stepDone (c : Chip) (i : Nat) : Bool := bitOf c.twin.steps i

def Chip.stepSet (c : Chip) (i : Nat) : Chip :=
  c.modTwin (fun t => { t with steps := if bitOf t.steps i then t.steps else t.steps + 2 ^ i })

/-- Pairing fails, with a cause. -/
def Chip.pairFail (c : Chip) (cause : Nat) : Chip := c.twinTo 0 cause

/-- The partner's mirror is discarded, and mirroring stops (R471). -/
def Chip.dropMirror (c : Chip) : Chip := c.modTwin (fun t => { beats := t.beats, held := t.held })

/-- The end of a detach. -/
def Chip.detachDone (c : Chip) : Chip := if c.twinSt = 3 then (c.twinTo 0 4).dropMirror else c

/-! ### Pairing (R466, R467) -/

/-- PAIRING_TRY. A TW_HELLO that has come before it counts, a bad one too (bit 4 of the steps). -/
def Chip.pairingTry (c : Chip) : Chip :=
  match c.messageHub with
  | none => c
  | some _ =>
    if c.darkChip ∨ c.twinSt ≠ 0 ∨ !c.flag (R.TWN_CFG c.primaryDie) F.TWN_CFG_ENABLE ∨ c.weferActive.length < 8 then c
    else
      let early := c.stepDone 0
      let c1 := (c.twinTo 1 0).pairSend 0x21
      if c.stepDone 4 then c1.pairFail 6 else if early then (c1.stepSet 0).pairSend 0x22 else c1

/-- The first 16 bytes of the peer digest, TWN_PEER_0 to TWN_PEER_3. -/
def Chip.peerDigest (c : Chip) : Nat :=
  (List.range 4).foldl (fun s i => s + (c.rd (R.TWN_PEER c.primaryDie i)).toNat * 2 ^ (32 * i)) 0

/-- TW_HELLO: `digest` is the first 16 bytes of the partner's identity digest, `chainOk` whether its certificate chains to the root. -/
def Chip.twHello (c : Chip) (l seq : Nat) (digest : BitVec 128) (chainOk : Bool) : Chip :=
  if !c.weferIn l then c
  else
    let r := c.twinAck l 0x21 seq
    let c1 := r.2
    let good := chainOk && (!c1.flag (R.TWN_CFG c1.primaryDie) F.TWN_CFG_MATCH || c1.peerDigest == digest.toNat)
    let sid := c1.get (R.PRT_LPARTNER (laneDie l) (laneLocal l)) F.PRT_LPARTNER_SWITCH_ID
    if !r.1 then c1
    else if c1.twinSt = 0 then
      let c2 := (c1.modTwin (fun t => { t with steps := 0 })).stepSet (if good then 0 else 4)
      if good then c2.eachHubDie (fun s d => s.set (R.TWN_PEER_ID d) F.TWN_PEER_ID_SWITCH_ID sid) else c2
    else if c1.twinSt ≠ 1 then c1
    else if !good then c1.pairFail 6
    else ((c1.eachHubDie (fun s d => s.set (R.TWN_PEER_ID d) F.TWN_PEER_ID_SWITCH_ID sid)).stepSet 0).pairSend 0x22

/-- TW_ATTEST: the partner's quote, whether it verifies, its firmware release and image version, and its floors by kind. -/
def Chip.twAttest (c : Chip) (l seq : Nat) (verifies : Bool) (fw img : Nat) (floors : List Nat) : Chip :=
  if !c.weferIn l then c
  else
    let r := c.twinAck l 0x22 seq
    let c1 := r.2
    let h := c1.primary.getD 0
    if !r.1 ∨ c1.twinSt ≠ 1 ∨ !c1.stepDone 0 then c1
    else if !verifies then c1.pairFail 5
    else if fw ≠ c1.runningVersion h 0 ∨ img ≠ c1.runningVersion h 1 then c1.pairFail 8
    else
      let c2 := [0, 1, 2].foldl (fun (s : Chip) k => s.raiseFloor k (nth floors k)) c1
      if c2.runningVersion h 0 < c2.floor h 0 ∨ c2.runningVersion h 1 < c2.floor h 1 then (c2.hostEvent h 0x84 3).pairFail 7
      else (c2.stepSet 1).pairSend 0x23

/-- TW_KEM: both ends derive the twin keys; the resync index goes out. -/
def Chip.twKem (c : Chip) (l seq : Nat) : Chip :=
  if !c.weferIn l then c
  else
    let r := c.twinAck l 0x23 seq
    if !r.1 ∨ r.2.twinSt ≠ 1 ∨ !r.2.stepDone 1 then r.2 else (r.2.stepSet 2).pairSend 0x25

/-- The objects this M40 has its twin mirror. -/
def Chip.ownMirrored (c : Chip) : List Nat := (c.coll.objs.map (·.1)).filter (fun n => c.mirrored n && c.objState n != 0)

/-- TW_INDEX: entries of object, epoch and generation. Pairing is complete; every object the partner does not keep is sent in full, and
an object that is FREE here is sent as FREE. -/
def Chip.twIndex (c : Chip) (l seq : Nat) (entries : List (Nat × Nat × Nat)) : Chip :=
  if !c.weferIn l then c
  else
    let r := c.twinAck l 0x25 seq
    if !r.1 ∨ r.2.twinSt ≠ 1 ∨ !r.2.stepDone 2 then r.2
    else
      let c1 := r.2.twinTo 2 0
      let c2 := { c1.modTwin (fun t => { t with sentSeq := 0, recvSeq := 0, unacked := [], early := [] }) with alias_ := none }
      let c3 := c2.eachHubDie (fun s d => s.set (R.TWN_PEER_ID d) F.TWN_PEER_ID_VALID 1)
      let kept (n : Nat) : Bool := entries.any (fun e => decide (e = (n, c3.objEpoch n, (c3.mirObj n).gen)))
      let send := c3.ownMirrored.filter (fun n => !kept n) ++ (entries.map (·.1)).filter (fun n => c3.objState n == 0)
      send.foldl (fun s n => s.mirror (.object (s.mirObj n))) c3

/-- PAIRING_TIMEOUT: 500 ms. -/
def Chip.pairingTimeout (c : Chip) : Chip := if c.twinSt = 1 then c.pairFail 9 else c

/-! ### Mirroring (R468) -/

/-- A record in its turn updates the mirror; an object that is FREE leaves it. -/
def Twin.take (t : Twin) (r : MirrorRec) : Twin :=
  match r with
  | .object o => { t with objs := SMap.set (fun _ => none) t.objs o.obj (if o.state = 0 then none else some o) }
  | x => { t with others := t.others ++ [x] }

/-- Records that have waited for their turn follow. -/
def Twin.catchUp (t : Twin) : Nat → Twin
  | 0 => t
  | k + 1 =>
    match t.early.find? (fun e => e.1 == t.recvSeq + 1) with
    | none => t
    | some e => Twin.catchUp { (t.take e.2) with recvSeq := e.1, early := t.early.erase e } k

/-- TW_MIRROR: a record with its stream sequence; streams are reordered by it. -/
def Chip.twMirror (c : Chip) (l stream : Nat) (tagOk : Bool) (r : MirrorRec) : Chip :=
  if !c.weferIn l ∨ c.twinSt ≠ 2 then c
  else if !tagOk then c.dropTag (c.primary.getD 0)
  else c.modTwin (fun t =>
    if stream ≤ t.recvSeq ∨ t.early.any (fun e => e.1 == stream) then t
    else (fun u : Twin => u.catchUp u.early.length) { t with early := t.early ++ [(stream, r)] })

/-! ### Beats (R469) -/

/-- TW_BEAT_SEND: on one ACTIVE Wefer lane of P0 and of P16. -/
def Chip.twBeatSend (c : Chip) : Chip :=
  if c.darkChip then c
  else
    let n := c.twin.beats + 1
    let role := match c.primary with
      | some h => h
      | none => 2
    let body := leBytes 4 n ++ [c.twinSt, role] ++ leBytes 6 (timeSec c.now) ++ leBytes 4 (timeNsec c.now) ++ leBytes 8 c.twin.recvSeq
    let send (s : Chip) (d : Nat) : Chip :=
      match s.weferOf d with
      | l :: _ => s.lcSend l 0x20 0 body
      | [] => s
    send (send (c.modTwin (fun t => { t with beats := n })) 0) 16

/-- A signed value saturated to 32 bits. -/
def sat32 (x : Int) : Nat := (max (-2147483648) (min 2147483647 x) % 4294967296).toNat

/-- TW_BEAT: the partner's device time, and the last mirror sequence it has received. -/
def Chip.twBeat (c : Chip) (l sec nsec last : Nat) : Chip :=
  if !c.weferIn l ∨ c.twinSt ≠ 2 then c
  else
    let ofs : Int := (sec * 1000000000 + nsec : Nat) - (timeSec c.now * 1000000000 + timeNsec c.now : Nat)
    (c.modTwin (fun t => { t with unacked := t.unacked.filter (fun e => decide (last < e.1)) })).eachHubDie
      (fun s d => s.set (R.TWN_TIME_OFS d) F.TWN_TIME_OFS_OFFSET (sat32 ofs))

/-! ### Loss (R469, R470) -/

/-- The objects of the mirror to abort: neither FREE nor QUARANTINE. -/
def Twin.lostObjs (t : Twin) : List MirObj := (t.objs.filterMap (·.2)).filter (fun o => o.state != 0 && o.state != 7)

/-- Abort one mirrored object: the notices leave the management core die's local port. -/
def Chip.twinAbort (c : Chip) (o : MirObj) : Chip :=
  let k := c.mgmtCore
  let hold := c.get (R.SYN_CFG (32 + k)) F.SYN_CFG_HOLD * 100
  c.noticeAll k o.roll (fun _ => collPayload 1 5 o.obj o.epoch o.nextSeq 0xFFFFFFFF 0 o.spine 0 0 hold)

/-- The twin is lost. While PAIRED the actions of R470 follow; in PAIRING and DETACHING nothing is aborted (R472). -/
def Chip.twinLost (c : Chip) (cause : Nat) : Chip :=
  if c.twinSt = 0 then c
  else if c.twinSt ≠ 2 then (if c.twinSt = 3 then (c.twinTo 0 cause).dropMirror else c.twinTo 0 cause)
  else
    let d := c.primaryDie
    let os := c.twin.lostObjs
    let sid := c.get (R.TWN_PEER_ID d) F.TWN_PEER_ID_SWITCH_ID
    let c1 := os.foldl Chip.twinAbort c
    let c2 := if c1.flag (R.TWN_CFG d) F.TWN_CFG_ALIAS then { c1 with alias_ := some sid } else c1
    let c3 := (c2.twinTo 0 cause).modTwin (fun t => { t with unacked := [], early := [] })
    let c4 := c3.eachHubDie (fun s e => (s.incSat (R.TWN_LOST_CNT e) F.TWN_LOST_CNT_LOSSES 1).incSat (R.TWN_LOST_CNT e)
      F.TWN_LOST_CNT_ABORTED os.length)
    c4.sendFc 0x0004 (leBytes 4 sid ++ [cause] ++ leBytes 2 os.length)

/-- TWIN_LOSS: no beat for 300 µs, or no Wefer lane ACTIVE for 50 µs. -/
def Chip.twinLoss (c : Chip) (beat : Bool) : Chip :=
  if beat then c.twinLost 1 else if c.weferActive.isEmpty then c.twinLost 2 else c

/-- TW_LOSS. -/
def Chip.twLoss (c : Chip) (l : Nat) : Chip := if c.weferIn l then c.twinLost 3 else c

/-! ### Detach (R466, R471) -/

/-- TW_DETACH: the M40 enters DETACHING, answers, and so reaches SOLO. -/
def Chip.twDetach (c : Chip) (l seq : Nat) : Chip :=
  if !c.weferIn l then c
  else
    let r := c.twinAck l 0x27 seq
    if r.2.twinSt = 2 then (r.2.twinTo 3 0).detachDone else r.2

/-- TW_ACK: the answer to a request of the Wefer link. -/
def Chip.twAck (c : Chip) (l seq : Nat) : Chip :=
  if !c.weferIn l then c
  else match (c.lane l).reqs.find? (fun q => decide (0x20 ≤ q.op) && q.seq == seq) with
    | none => c
    | some q =>
      let c1 := c.lcAnswered l q.op seq
      if q.op = 0x27 then c1.detachDone else c1

/-- DETACH_TIMEOUT: 1 ms. -/
def Chip.detachTimeout (c : Chip) : Chip := c.detachDone

end Sys2Proof.Machine
end

