-- ==== Sys2Proof/Syntax.lean ====
section
/-!
DEFINITION. The commands of the M40: one constructor for every row of spec/opcode_table.json, in its order. A command is what the spec
names an event, a message, a timer or a host command; its operands are what the spec leaves to the outside (a lane, a die, a measured
value). Operand names: d die, k core die index (die 32 + k), l global lane (die·64 + local lane), b block or cluster, h hub (0 A, 1 B),
n sync object, f fibre pair, r ring or route, p port, cls class, v the writer of a register, o the sender of a host command.
-/

namespace Sys2Proof

open Machine

/-- A command. -/
inductive Instr where
  /-- REGISTER_WRITE (R9). -/
  | registerWrite (v : Via) (a : BitVec 32) (w : Word)
  /-- LATCHED_READ (R7). -/
  | latchedRead (v : Via) (a : BitVec 32)
  /-- HUB_HEARTBEAT_SEND (R17). -/
  | hubHeartbeatSend (h : Fin 2)
  /-- HUB_TAKEOVER (R17). -/
  | hubTakeover
  /-- HEARTBEAT_PATH_LOST (R17). -/
  | heartbeatPathLost (path : Fin 2)
  /-- BLOCK_FIREBREAK_DRAIN_TIMEOUT (R19). -/
  | blockFirebreakDrainTimeout (d : Fin 32) (b : Fin 8)
  /-- NOTICE_ENTRY (R36). -/
  | noticeEntry (d : Fin 40) (q : Fin 2)
  /-- NQ_TAIL_WRITE (R37). -/
  | nqTailWrite (d : Fin 40) (q : Fin 2) (tail : Fin 2048)
  /-- CS_STAGING_WRITE (R66). -/
  | csStagingWrite (v : Via) (a : BitVec 32) (w : Word)
  /-- COMMIT_APPLY (R66). -/
  | commitApply (v : Via) (d : Fin 40) (g : Fin 384)
  /-- COMMIT_DISCARD (R67). -/
  | commitDiscard (v : Via) (d : Fin 40) (g : Fin 384)
  /-- COMMIT_CHECKS_DONE (R66). -/
  | commitChecksDone (d : Fin 40) (g : Fin 384)
  /-- SNAPSHOT_APPLY (R69). -/
  | snapshotApply (d : Fin 40) (g : Fin 384)
  /-- BOOT_IMAGE_LOAD (R58). -/
  | bootImageLoad
  /-- PARTIAL_LOAD_SWITCH (R63). -/
  | partialLoadSwitch (d : Fin 40)
  /-- BLOCK_READMIT (R71). -/
  | blockReadmit (d : Fin 40) (b : Fin 8)
  /-- STALE_RELOAD_DONE (R71). -/
  | staleReloadDone (d : Fin 40) (b : Fin 8)
  /-- FEC_BLOCK_RECEIVE (R96). -/
  | fecBlockReceive (l : Fin 2048) (no : Fin 65536) (ok : Bool) (corrected : Nat) (tag : Fin 256) (slots : List (Option Cell))
  /-- CELL_INGRESS (R186). -/
  | cellIngress (l : Fin 2048) (x : Cell) (ecc : Bool)
  /-- FEC_WINDOW_END (R99). -/
  | fecWindowEnd (d : Fin 32)
  /-- BLOCK_LOCK_ACQUIRE (R100). -/
  | blockLockAcquire (l : Fin 2048)
  /-- BLOCK_LOCK_LOSS (R100). -/
  | blockLockLoss (l : Fin 2048)
  /-- HELLO (R117). -/
  | hello (l : Fin 2048) (seq : Fin 256) (sid : BitVec 20) (lane : Fin 64) (role : Fin 4)
  /-- CREDIT_INIT (R111). -/
  | creditInit (l : Fin 2048) (seq : Fin 256) (limits : List (BitVec 24))
  /-- CREDIT_INIT_ACK (R111). -/
  | creditInitAck (l : Fin 2048) (seq : Fin 256)
  /-- CREDIT (R108). -/
  | credit (l : Fin 2048) (mask : BitVec 8) (limits : List (BitVec 24))
  /-- CREDIT_SYNC (R110). -/
  | creditSync (l : Fin 2048) (seq : Fin 256) (mask : BitVec 8) (sents : List (BitVec 24))
  /-- SYNC_REQ (R110). -/
  | syncReq (l : Fin 2048) (seq : Fin 256)
  /-- DRAIN (R119). -/
  | drain (l : Fin 2048) (seq : Fin 256)
  /-- DRAIN_ACK (R119). -/
  | drainAck (l : Fin 2048) (seq : Fin 256)
  /-- RESUME (R511). -/
  | resume (l : Fin 2048) (seq : Fin 256)
  /-- DROWSY (R120). -/
  | drowsy (l : Fin 2048) (seq : Fin 256) (depth : Fin 256)
  /-- DROWSY_ACK (R120). -/
  | drowsyAck (l : Fin 2048) (seq : Fin 256)
  /-- WAKE_REQ (R121). -/
  | wakeReq (l : Fin 2048) (seq : Fin 256)
  /-- AWAKE (R121). -/
  | awake (l : Fin 2048) (seq : Fin 256)
  /-- RETUNE (R106). -/
  | retune (l : Fin 2048) (seq : Fin 256)
  /-- RETUNE_ACK (R122). -/
  | retuneAck (l : Fin 2048) (seq : Fin 256) (status : Fin 256)
  /-- RESERVED_LC_OP (R103). -/
  | reservedLcOp (l : Fin 2048) (op : Fin 256)
  /-- LC_REPEAT_TIMEOUT (R105). -/
  | lcRepeatTimeout (l : Fin 2048) (op : Fin 256) (seq : Fin 256)
  /-- CREDIT_ADVERTISE_TIMER (R109). -/
  | creditAdvertiseTimer (l : Fin 2048)
  /-- CREDIT_SYNC_TIMER (R110). -/
  | creditSyncTimer (l : Fin 2048)
  /-- TRAINING_PHASE_DONE (R116). -/
  | trainingPhaseDone (l : Fin 2048)
  /-- TRAINING_PHASE_TIMEOUT (R116). -/
  | trainingPhaseTimeout (l : Fin 2048)
  /-- HELLO_RETRY (R117). -/
  | helloRetry (l : Fin 2048)
  /-- TRAIN_RETRY (R118). -/
  | trainRetry (l : Fin 2048)
  /-- DRAIN_TIMEOUT (R119). -/
  | drainTimeout (l : Fin 2048)
  /-- WAKE_BURST_DETECT (R121). -/
  | wakeBurstDetect (l : Fin 2048)
  /-- SEARCH_START (R136). -/
  | searchStart (d : Fin 32)
  /-- RING_SWEEP_DONE (R134). -/
  | ringSweepDone (d : Fin 32) (f : Fin 8) (r : Fin 17) (light : Bool) (dips : List (BitVec 12))
  /-- RING_LOCK_CAPTURE (R132). -/
  | ringLockCapture (d : Fin 32) (f : Fin 8) (r : Fin 17)
  /-- RING_CAPTURE_TIMEOUT (R132). -/
  | ringCaptureTimeout (d : Fin 32) (f : Fin 8) (r : Fin 17)
  /-- TONE_CHECK_WINDOW (R137). -/
  | toneCheckWindow (d : Fin 32) (f : Fin 8) (r : Fin 17) (amp : Nat) (below : Nat) (above : Nat) (ref : Nat)
  /-- RING_RECOVERY_DONE (R139). -/
  | ringRecoveryDone (d : Fin 32) (f : Fin 8) (r : Fin 17) (captured : Option (BitVec 12))
  /-- LOCK_SLIP (R132). -/
  | lockSlip (d : Fin 32) (f : Fin 8) (r : Fin 17)
  /-- RING_LIGHT_LOSS (R132). -/
  | ringLightLoss (d : Fin 32) (f : Fin 8) (r : Fin 17)
  /-- RING_LIGHT_RESTORED (R132). -/
  | ringLightRestored (d : Fin 32) (f : Fin 8) (r : Fin 17)
  /-- LOCK_LOOP_UPDATE (R140). -/
  | lockLoopUpdate (d : Fin 32) (f : Fin 8) (r : Fin 17) (code : BitVec 12)
  /-- CALIBRATION_DUE (R143). -/
  | calibrationDue (l : Fin 2048)
  /-- CALIBRATION_DONE (R145). -/
  | calibrationDone (l : Fin 2048) (us : Nat)
  /-- FADE_READING (R148). -/
  | fadeReading (d : Fin 32) (powers : List Int) (spares : List Int)
  /-- SWAP_TRAIN_TIMEOUT (R154). -/
  | swapTrainTimeout (l : Fin 2048)
  /-- OPT_RETURN_FROM_SPARE (R155). -/
  | optReturnFromSpare (d : Fin 32)
  /-- OPT_CALIBRATE_NOW (R143). -/
  | optCalibrateNow (d : Fin 32)
  /-- OPT_SEARCH_AGAIN (R162). -/
  | optSearchAgain (d : Fin 32)
  /-- OPT_CLEAR_FADE_HOLD (R151). -/
  | optClearFadeHold (d : Fin 32)
  /-- CLEARING_SETUP (R174). -/
  | clearingSetup (d : Fin 32)
  /-- CLEARING_TEARDOWN (R176). -/
  | clearingTeardown (d : Fin 32)
  /-- CLEAR_SET_SEND (R174). -/
  | clearSetSend (d : Fin 32) (r : Fin 4) (k : Fin 8)
  /-- CLEAR_ACK (R173). -/
  | clearAck (l : Fin 2048) (seq : Fin 256) (handle : BitVec 16) (status : Fin 256)
  /-- CLEAR_DRAINED (R176). -/
  | clearDrained (l : Fin 2048) (seq : Fin 256) (handle : BitVec 16) (lane : Fin 64)
  /-- CLEAR_DRAINED_TIMEOUT (R179). -/
  | clearDrainedTimeout (d : Fin 32) (r : Fin 4) (k : Fin 8)
  /-- CLEARING_IMAGE_TEARDOWN (R181). -/
  | clearingImageTeardown (d : Fin 32) (r : Fin 4) (k : Fin 8)
  /-- UPLINK_SCHEDULE (R202). -/
  | uplinkSchedule (d : Fin 32)
  /-- SAF_HOLD_EXPIRY (R195). -/
  | safHoldExpiry (d : Fin 32) (e : Fin 40) (cls : Fin 8)
  /-- ENVELOPE_LAND_CORE (R206). -/
  | envelopeLandCore (d : Fin 32) (k : Fin 8)
  /-- CROSSBAR_ARBITRATE (R207). -/
  | crossbarArbitrate (k : Fin 8)
  /-- ENVELOPE_LAND_EGRESS (R209). -/
  | envelopeLandEgress (d : Fin 32) (k : Fin 8)
  /-- STALLED_CELL_PLACE (R229). -/
  | stalledCellPlace (d : Fin 32)
  /-- LANE_ASSIGN (R211). -/
  | laneAssign (d : Fin 32)
  /-- LANE_CELL_SLOT (R252). -/
  | laneCellSlot (l : Fin 2048)
  /-- D2D_BEAT_UNCORRECTABLE (R197). -/
  | d2dBeatUncorrectable (d : Fin 32) (k : Fin 8) (up : Bool) (again : Bool)
  /-- D2D_REPLAY_LIMIT (R197). -/
  | d2dReplayLimit (d : Fin 32) (k : Fin 8) (up : Bool)
  /-- D2D_RETRAIN_DONE (R197). -/
  | d2dRetrainDone (d : Fin 32) (k : Fin 8)
  /-- ENV_CREDIT_RETURN (R200). -/
  | envCreditReturn (d : Fin 32) (k : Fin 8) (e : Fin 40)
  /-- LANDING_CREDIT_RETURN (R201). -/
  | landingCreditReturn (d : Fin 32) (k : Fin 8)
  /-- HOLD_MASK_SAMPLE (R227). -/
  | holdMaskSample (d : Fin 32)
  /-- HOLD_MASK_RELAY (R227). -/
  | holdMaskRelay (k : Fin 8)
  /-- HOLD_MASK_APPLY (R227). -/
  | holdMaskApply (d : Fin 32)
  /-- SPILL_UNPARK (R236). -/
  | spillUnpark (k : Fin 8) (e : Fin 32)
  /-- SPILL_LIFETIME_EXPIRY (R237). -/
  | spillLifetimeExpiry (k : Fin 8) (e : Fin 32) (cls : Fin 8)
  /-- SPILL_EXPIRY_WINDOW_END (R237). -/
  | spillExpiryWindowEnd (k : Fin 8)
  /-- LEAK_AUDIT_DUE (R239). -/
  | leakAuditDue (d : Fin 40) (pool : Fin 9)
  /-- LEAK_AUDIT_DONE (R240). -/
  | leakAuditDone (d : Fin 40) (pool : Fin 9) (linkBad : Bool)
  /-- LEVEL_SAT_DWELL (R243). -/
  | levelSatDwell (what : Fin 5) (d : Fin 40) (u : Fin 64) (enter : Bool) (us : Nat)
  /-- SHAPER_REFILL (R256). -/
  | shaperRefill (d : Fin 32) (p : Fin 64) (sh : Fin 9)
  /-- POLICER_REFILL (R261). -/
  | policerRefill (d : Fin 32) (p : Fin 64) (cls : Fin 4)
  /-- LAUNCH_PREPARE (R266). -/
  | launchPrepare (d : Fin 32) (i : Fin 256)
  /-- LATE_LAUNCH (R266). -/
  | lateLaunch (d : Fin 32) (p : Fin 64) (cls : Fin 8)
  /-- TBL_NONE (R270). -/
  | tblNone (d : Fin 32)
  /-- TBL_WRITE (R270). -/
  | tblWrite (d : Fin 32)
  /-- TBL_INSERT (R276). -/
  | tblInsert (d : Fin 32)
  /-- TBL_DELETE (R270). -/
  | tblDelete (d : Fin 32)
  /-- TBL_READ (R270). -/
  | tblRead (d : Fin 32)
  /-- TBL_CLEAR (R270). -/
  | tblClear (d : Fin 32)
  /-- FLOW_LEARN_INSERT (R279). -/
  | flowLearnInsert (d : Fin 32)
  /-- TABLE_SCRUB_DUE (R277). -/
  | tableScrubDue (d : Fin 32)
  /-- TABLE_SCRUB_DONE (R277). -/
  | tableScrubDone (d : Fin 32) (corr : Nat) (bad : List (Nat × Nat))
  /-- STG_OPEN (R284). -/
  | stgOpen (k : Fin 8)
  /-- STG_CLOSE (R286). -/
  | stgClose (k : Fin 8)
  /-- STG_FORCE_CLOSE (R286). -/
  | stgForceClose (k : Fin 8)
  /-- STAGE_REPAIR (R285). -/
  | stageRepair (l : Fin 2048) (k : Fin 8) (slot : Fin 4) (src : BitVec 20) (tag : BitVec 32) (first : BitVec 22) (last : BitVec 22)
  /-- STAGE_RELEASE (R285). -/
  | stageRelease (l : Fin 2048) (k : Fin 8) (slot : Fin 4) (src : BitVec 20) (tag : BitVec 32)
  /-- SYN_ALLOC (R317). -/
  | synAlloc (k : Fin 8)
  /-- ROLL_LOAD_DONE (R318). -/
  | rollLoadDone (n : Fin 4096)
  /-- SYN_FREE (R317). -/
  | synFree (k : Fin 8)
  /-- DROP_MEMBER (R317). -/
  | dropMember (k : Fin 8)
  /-- SYN_READ (R317). -/
  | synRead (k : Fin 8)
  /-- CONTRIBUTION_CELL (R307). -/
  | contributionCell (k : Fin 8) (x : Cell)
  /-- PENDING_RELEASE (R308). -/
  | pendingRelease (k : Fin 8)
  /-- PROGRESS_TIMEOUT (R312). -/
  | progressTimeout (n : Fin 4096)
  /-- COLLECTIVE_TIMEOUT (R311). -/
  | collectiveTimeout (n : Fin 4096)
  /-- RESIDUE_CHECK_DONE (R375). -/
  | residueCheckDone (n : Fin 4096) (pos : Nat) (err : CheckErr)
  /-- RERUN_VERDICT (R376). -/
  | rerunVerdict (n : Fin 4096) (pos : Nat) (err : CheckErr) (differs : Bool)
  /-- SEAL_NOTICE_GAP (R314). -/
  | sealNoticeGap (n : Fin 4096)
  /-- ABORT_HOLD_EXPIRY (R303). -/
  | abortHoldExpiry (n : Fin 4096)
  /-- QUARANTINE_EXPIRY (R320). -/
  | quarantineExpiry (n : Fin 4096)
  /-- HOME_DIE_READMIT (R321). -/
  | homeDieReadmit (k : Fin 8)
  /-- LOAD_MATRIX (R370). -/
  | loadMatrix (k : Fin 8)
  /-- DROP_MATRIX (R370). -/
  | dropMatrix (k : Fin 8)
  /-- LOAD_RECIPE (R353). -/
  | loadRecipe (k : Fin 8)
  /-- DROP_RECIPE (R370). -/
  | dropRecipe (k : Fin 8)
  /-- BIND (R360). -/
  | bind (k : Fin 8)
  /-- BIND_ZERO_DONE (R360). -/
  | bindZeroDone (k : Fin 8) (i : Fin 64)
  /-- UNBIND (R370). -/
  | unbind (k : Fin 8)
  /-- STATE_COPY (R367). -/
  | stateCopy (k : Fin 8)
  /-- STATE_COPY_DONE (R367). -/
  | stateCopyDone (k : Fin 8) (i : Fin 64)
  /-- TRF_READ (R370). -/
  | trfRead (k : Fin 8)
  /-- QUIZ_DUE (R381). -/
  | quizDue (u : QUnit)
  /-- QUIZ_REQUEST (R393). -/
  | quizRequest (d : Fin 40)
  /-- QUIZ_END (R380). -/
  | quizEnd (u : QUnit) (abort : Bool) (boot : Bool) (runs : List QuizRun)
  /-- PROVISIONAL_RERUN (R390). -/
  | provisionalRerun (u : QUnit) (id : BitVec 16)
  /-- PTP_MESSAGE (R398). -/
  | ptpMessage (l : Fin 2048) (number : Fin 256) (raw : Int)
  /-- PPS_IN_EDGE (R399). -/
  | ppsInEdge (pin : Fin 2)
  /-- DOMAIN_HOLDOVER (R400). -/
  | domainHoldover (x : Fin 2)
  /-- DOMAIN_FAULT_CLEAR (R400). -/
  | domainFaultClear (x : Fin 2)
  /-- SLEW_DONE (R402). -/
  | slewDone
  /-- PPS_OUT_EDGE (R403). -/
  | ppsOutEdge
  /-- TSQ_ENTRY (R404). -/
  | tsqEntry (d : Fin 32)
  /-- TSQ_TAIL_WRITE (R405). -/
  | tsqTailWrite (d : Fin 32) (tail : Fin 128)
  /-- BELL_ARM (R406). -/
  | bellArm (d : Fin 40) (x : Fin 2) (i : Fin 256)
  /-- BELL_CANCEL (R406). -/
  | bellCancel (d : Fin 40) (x : Fin 2) (i : Fin 256)
  /-- BELL_FIRE (R407). -/
  | bellFire (d : Fin 40) (i : Fin 256)
  /-- RAIL_WARN_CROSSING (R417). -/
  | railWarnCrossing (d : Fin 40) (rail : Fin 10)
  /-- SAG_PIN_ASSERT (R418). -/
  | sagPinAssert
  /-- SAG_CLEAR (R418). -/
  | sagClear
  /-- RAIL_RESET_CROSSING (R419). -/
  | railResetCrossing (rail : Fin 10)
  /-- CLK25_LOSS (R421). -/
  | clk25Loss
  /-- PLL_LOCK_FAIL (R421). -/
  | pllLockFail (d : Fin 40) (b : Option (Fin 8))
  /-- TILE_IDLE (R423). -/
  | tileIdle (d : Fin 40) (t : Fin 128) (idle : Bool)
  /-- RECESS_ENTRY (R422). -/
  | recessEntry (d : Fin 40) (b : Fin 8)
  /-- DEEP_RECESS_ENTRY (R424). -/
  | deepRecessEntry (d : Fin 40) (b : Fin 8)
  /-- SLEEP_ENTRY (R425). -/
  | sleepEntry (d : Fin 40)
  /-- RECESS_WAKE (R423). -/
  | recessWake (d : Fin 40) (b : Fin 8)
  /-- BLOCK_WAKE (R428). -/
  | blockWake (d : Fin 40) (b : Fin 8)
  /-- DIE_WAKE (R427). -/
  | dieWake (d : Fin 40)
  /-- RESTART (R430). -/
  | restart (b : BootFacts)
  /-- POWER_RESET (R429). -/
  | powerReset
  /-- CHIP_RESET (R430). -/
  | chipReset
  /-- PLANE_DATA_RESET (R432). -/
  | planeDataReset
  /-- PLANE_CONTROL_RESET (R429). -/
  | planeControlReset
  /-- PLANE_MGMT_RESET (R429). -/
  | planeMgmtReset (h : Fin 2)
  /-- REGION_RESET (R429). -/
  | regionReset (d : Fin 40)
  /-- BLOCK_RESET (R429). -/
  | blockReset (d : Fin 40) (b : Fin 8)
  /-- TILE_RESET (R429). -/
  | tileReset (d : Fin 40) (t : Fin 128)
  /-- LINK_RESET (R431). -/
  | linkReset (h : Fin 2)
  /-- TEMP_READING (R506). -/
  | tempReading (d : Fin 40) (t : BitVec 16)
  /-- THERMAL_SHUTDOWN (R506). -/
  | thermalShutdown (d : Fin 40)
  /-- WATCHDOG_HALF (R463). -/
  | watchdogHalf (h : Fin 2) (which : Fin 3)
  /-- WATCHDOG_EXPIRY (R463). -/
  | watchdogExpiry (h : Fin 2) (which : Fin 3)
  /-- COMMAND_PICKUP (R445). -/
  | commandPickup (h : Fin 2) (win : Fin 62) (slot : Fin 64) (cmd : Command)
  /-- SERIAL_COMMAND_START (R446). -/
  | serialCommandStart
  /-- NOP (R448). -/
  | nop (o : Origin)
  /-- LOAD_IMAGE (R448). -/
  | loadImage (o : Origin) (img : Image)
  /-- WRITE_IMAGE (R448). -/
  | writeImage (o : Origin) (img : Image)
  /-- WRITE_REPAIR (R448). -/
  | writeRepair (o : Origin) (r : Repair)
  /-- LOAD_PACK (R389). -/
  | loadPack (o : Origin) (p : Pack)
  /-- ENROLL_KEY (R458). -/
  | enrollKey (o : Origin) (key : KeyCert)
  /-- RAISE_FLOOR (R462). -/
  | raiseFloor (o : Origin)
  /-- WRITE_FIRMWARE (R459). -/
  | writeFirmware (o : Origin) (f : Firmware)
  /-- COMMISSION (R448). -/
  | commission (o : Origin) (powers : List (Nat × BitVec 16))
  /-- SET_TOD (R398). -/
  | setTod (o : Origin)
  /-- STANDBY (R426). -/
  | standby (o : Origin)
  /-- WAKE (R448). -/
  | wake (o : Origin)
  /-- READ_FSIG (R448). -/
  | readFsig (o : Origin)
  /-- READ_REGS (R448). -/
  | readRegs (o : Origin)
  /-- READ_IDENTITY (R448). -/
  | readIdentity (o : Origin)
  /-- QUOTE (R461). -/
  | quote (o : Origin)
  /-- READ_LOG (R460). -/
  | readLog (o : Origin)
  /-- CONTROL_ORDER (R453). -/
  | controlOrder (o : Origin)
  /-- SWITCH_MESSAGE_COMPLETE (R452). -/
  | switchMessageComplete (msg : HubMsg) (forTwin : Bool) (tagOk : Bool)
  /-- ORDER (R453). -/
  | order
  /-- S_INIT (R454). -/
  | sInit (client : BitVec 20) (cert : KeyCert) (forTwin : Bool)
  /-- S_CONFIRM (R454). -/
  | sConfirm (n : BitVec 16) (seq : BitVec 64) (sigOk : Bool) (tagOk : Bool)
  /-- S_CLOSE (R454). -/
  | sClose (n : BitVec 16) (seq : BitVec 64) (tagOk : Bool)
  /-- SESSION_IDLE_TIMEOUT (R454). -/
  | sessionIdleTimeout (h : Fin 2) (n : BitVec 16)
  /-- COMMAND_MESSAGE (R456). -/
  | commandMessage (n : BitVec 16) (seq : BitVec 64) (tagOk : Bool) (cmd : Command)
  /-- DATA_MESSAGE (R456). -/
  | dataMessage (n : BitVec 16) (seq : BitVec 64) (tagOk : Bool) (offset : BitVec 64) (op : DataOp)
  /-- GET_SETPOINT (R464). -/
  | getSetpoint
  /-- GET_TEMP (R498). -/
  | getTemp
  /-- GET_STATUS (R464). -/
  | getStatus
  /-- GET_IDENTITY (R464). -/
  | getIdentity
  /-- TW_BEAT_SEND (R469). -/
  | twBeatSend
  /-- TW_BEAT (R468). -/
  | twBeat (l : Fin 2048) (sec : BitVec 48) (nsec : BitVec 32) (last : BitVec 64)
  /-- TWIN_LOSS (R469). -/
  | twinLoss (beat : Bool)
  /-- TW_LOSS (R469). -/
  | twLoss (l : Fin 2048)
  /-- PAIRING_TRY (R466). -/
  | pairingTry
  /-- TW_HELLO (R467). -/
  | twHello (l : Fin 2048) (seq : Fin 256) (digest : BitVec 128) (chainOk : Bool)
  /-- TW_ATTEST (R467). -/
  | twAttest (l : Fin 2048) (seq : Fin 256) (verifies : Bool) (fw : BitVec 32) (img : BitVec 32) (floors : List (BitVec 32))
  /-- TW_KEM (R467). -/
  | twKem (l : Fin 2048) (seq : Fin 256)
  /-- TW_INDEX (R467). -/
  | twIndex (l : Fin 2048) (seq : Fin 256) (entries : List (Nat × Nat × Nat))
  /-- TW_MIRROR (R468). -/
  | twMirror (l : Fin 2048) (stream : BitVec 64) (tagOk : Bool) (r : MirrorRec)
  /-- TW_DETACH (R471). -/
  | twDetach (l : Fin 2048) (seq : Fin 256)
  /-- TW_ACK (R465). -/
  | twAck (l : Fin 2048) (seq : Fin 256)
  /-- PAIRING_TIMEOUT (R466). -/
  | pairingTimeout
  /-- DETACH_TIMEOUT (R466). -/
  | detachTimeout
  /-- LEDGER_REQUEST (R475). -/
  | ledgerRequest (d : Fin 40) (act : Activity)
  /-- LEDGER_TICK (R479). -/
  | ledgerTick (d : Fin 40)
  /-- LEDGER_WAIT_NOTICE (R490). -/
  | ledgerWaitNotice (d : Fin 40) (i : Fin 64)
  /-- HBM_SCRUB_DUE (R482). -/
  | hbmScrubDue (k : Fin 8) (stack : Fin 2)
  /-- HBM_SCRUB_DONE (R482). -/
  | hbmScrubDone (k : Fin 8) (stack : Fin 2) (corr : Nat) (bad : List HbmBad)
  /-- PMC_LO_READ (R488). -/
  | pmcLoRead (v : Via) (d : Fin 40) (n : Fin 40)
  /-- PMC_HI_WRITE (R489). -/
  | pmcHiWrite (d : Fin 40) (n : Fin 32) (w : Word)
  /-- PMC_LO_WRITE (R489). -/
  | pmcLoWrite (d : Fin 40) (n : Fin 32) (w : Word)
  /-- PMC_OVERFLOW (R489). -/
  | pmcOverflow (d : Fin 40) (n : Fin 32) (events : Nat)
  /-- RING_LIGHT_APPEARS (R132). -/
  | ringLightAppears (d : Fin 32) (f : Fin 8) (ring : Option (Fin 17))
  /-- PLL_LOSS_OF_LOCK (R19). -/
  | pllLossOfLock (d : Fin 40) (b : Option (Fin 8))
  /-- UPLINK_SCHEDULER_FAULT (R19). -/
  | uplinkSchedulerFault (d : Fin 32)
  /-- SLOT_CROSSBAR_FAULT (R19). -/
  | slotCrossbarFault (k : Fin 8)
  /-- FIRMWARE_GO_DARK (R19). -/
  | firmwareGoDark
  /-- RESET_END (R429). -/
  | resetEnd (t : ResetTarget)
  /-- STANDBY_EXIT_DONE (R422). -/
  | standbyExitDone
  /-- RECIPE_STEPS_DONE (R355). -/
  | recipeStepsDone (n : Fin 4096) (pos : Nat) (ecc : Bool)
  /-- RECORD_COPY_DONE (R364). -/
  | recordCopyDone (k : Fin 8) (i : Fin 64)
  /-- PTM_REQUEST (R438). -/
  | ptmRequest (h : Fin 2)
  /-- PTP_DELAY_REQ_SEND (R398). -/
  | ptpDelayReqSend (x : Fin 2) (dest : BitVec 20) (id : BitVec 16) (body : List Byte)
  /-- PPS_OUT_FALL (R403). -/
  | ppsOutFall
  /-- BAD_SIZE_ACCESS (R440). -/
  | badSizeAccess (h : Fin 2)
  deriving DecidableEq, Repr

end Sys2Proof
end

