-- ==== Sys2Proof/Machine/Formed.lean ====
section
/-!
DEFINITION. Which operands of a command exist: units, pools, activities (R476), and the fields of a command record (R444).
-/

namespace Sys2Proof.Machine

/-- Pool p of die d: a port die has block pools 0 to 7, a core die its spill pool, 8. -/
def poolOf (d p : Nat) : Bool := if d < 32 then decide (p < 8) else p == 8

/-- A unit of R243: WHAT 0x01 a port and 0x02 a block of a port die, 0x03 a port die, 0x04 the spill pool of a core die. -/
def satUnit (what d u : Nat) : Bool :=
  if what = 1 then decide (d < 32) && decide (u < 64) else if what = 2 then decide (d < 32) && decide (u < 8)
  else if what = 3 then decide (d < 32) && u == 0 else what == 4 && decide (32 ≤ d) && u == 0

/-- An activity that die d can be asked for. -/
def Activity.wfOn (d : Nat) : Activity → Bool
  | .cal l => decide (l < 2048) && laneDie l == d
  | .swap _ f ls => decide (f / 2 = d) && ls.all (fun l => decide (l < 2048) && laneDie l == d)
  | .quiz u r => u.exists_ && u.die == d && decide (r < 16)
  | .audit p => poolOf d p
  | .tableScrub => decide (d < 32)
  | .hbmScrub s => decide (32 ≤ d) && decide (s < 2)
  | .clearing r k => decide (d < 32) && decide (r < 4) && decide (k < 8)
  | .partialLoad e => e == d

/-- A word of HBM3E that exists: a cell of a spill FIFO, an extent of a staging slot, a binding. -/
def HbmBad.wf : HbmBad → Bool
  | .spill e k _ => decide (e < 32) && decide (k < 8)
  | .stage s _ => decide (s < 4)
  | .opt i => decide (i < 64)
  | .quiz => true
  | .other => true

/-- The fields of a command record within their widths (R444). -/
def Command.wf (x : Command) : Bool :=
  decide (x.opcode < 2 ^ 16) && decide (x.tag < 2 ^ 32) && decide (x.arg0 < 2 ^ 64) && decide (x.arg1 < 2 ^ 64)
    && decide (x.arg2 < 2 ^ 64) && decide (x.dataAddr < 2 ^ 64) && decide (x.dataLen < 2 ^ 32)
    && decide (x.inline.length ≤ 4032) && x.inline.all (fun b => decide (b < 256))

end Sys2Proof.Machine
end

