-- ==== Sys2Proof/Machine/State.lean ====
section
/-!
DEFINITION. The state of the M40 as a block: the chip, the LPDDR5X of its two hubs, and the commands that wait.
-/

namespace Sys2Proof.Machine

/-- Why a command stops the block. -/
inductive Fault where
  /-- Raised by a meaning for a command that is not well formed (a list of the wrong length, a unit that does not exist): no such event
  can reach the block. Safe. -/
  | illFormed
  deriving DecidableEq, Repr

/-- Why a command has no meaning. -/
inductive Refusal where
  /-- Raised by `exec` for a command that the model does not give a meaning yet; no command is one now. Safe. -/
  | notModelled (mnemonic : String)
  deriving DecidableEq, Repr

/-- The state. `lpddrA` and `lpddrB` hold the LPDDR5X of hubs A and B in canonical form, an unlisted byte reading 0; `pending` holds the
commands that wait, first in, first out. -/
structure State where
  chip : Chip := {}
  lpddrA : List Host.Cell := []
  lpddrB : List Host.Cell := []
  pending : List Instr := []
  deriving DecidableEq, Repr

/-- The M40 in a POWER reset (R10, R429): every register at its Reset value, memories empty, nothing waiting. The next event of the spec
is RESTART. -/
def State.reset : State := {}

end Sys2Proof.Machine
end

