-- ==== Sys2Proof/Machine/Run.lean ====
section
/-!
DEFINITION. How a command acts on the state: hub memory is read and written by (hub, address); firebreak triggers that it has raised act
at its end (R21), what it has changed of the mirrored state goes to the twin (R468), and the hubs' LPDDR5X holds nothing while a reset
of the whole chip lasts.
-/

namespace Sys2Proof.Machine

/-- What a byte of hub memory that nothing has written reads as (DESIGN CHOICE, log 2). -/
def memReset (_ : Nat) : Byte := 0

/-- The LPDDR5X of a hub. -/
def State.mem (s : State) (h : Nat) : List Host.Cell := if h = 0 then s.lpddrA else s.lpddrB

/-- Byte a of the LPDDR5X of hub h. -/
def State.read (s : State) (h a : Nat) : Nat := (SMap.get memReset (s.mem h) a).toNat

/-- Write one byte of hub memory. -/
def State.storeByte (s : State) (w : HubWrite) : State :=
  let v := BitVec.ofNat 8 w.2.2
  if w.1 = 0 then { s with lpddrA := SMap.set memReset s.lpddrA w.2.1 v }
  else { s with lpddrB := SMap.set memReset s.lpddrB w.2.1 v }

/-- Write bytes of hub memory, in order. -/
def State.store (s : State) (ws : List HubWrite) : State := ws.foldl State.storeByte s

/-- The chip after a command: its firebreaks have acted, and the twin hears of what has changed. -/
def State.settled (s : State) (c : Chip) : Chip := s.chip.mirrorChanges c.raiseDue

/-- The state with the chip a command leaves. -/
def State.withChip (s : State) (c : Chip) : State :=
  if c.pw.chipReset = 0 then { s with chip := c } else { s with chip := c, lpddrA := [], lpddrB := [] }

/-- A command that changes the chip. -/
def State.run (s : State) (f : Chip → Chip) : Host.Outcome State Fault Refusal := .next (s.withChip (s.settled (f s.chip)))

/-- A command that also writes hub memory. -/
def State.runMem (s : State) (f : Chip → List HubWrite × Chip) : Host.Outcome State Fault Refusal :=
  let r := f s.chip
  .next ((s.store r.1).withChip (s.settled r.2))

end Sys2Proof.Machine
end

