-- ==== Sys2Proof/Machine/ExecColl.lean ====
section
/-!
DEFINITION. The meanings of the commands of collectives, transforms and the optimizer, one for each constructor, over the operations the
chapters give: SYN_ALLOC, ROLL_LOAD_DONE, SYN_FREE, DROP_MEMBER, SYN_READ, CONTRIBUTION_CELL, PENDING_RELEASE, PROGRESS_TIMEOUT,
COLLECTIVE_TIMEOUT, RESIDUE_CHECK_DONE, RERUN_VERDICT, SEAL_NOTICE_GAP, ABORT_HOLD_EXPIRY, QUARANTINE_EXPIRY, HOME_DIE_READMIT,
LOAD_MATRIX, DROP_MATRIX, LOAD_RECIPE, DROP_RECIPE, BIND, BIND_ZERO_DONE, UNBIND, STATE_COPY, STATE_COPY_DONE, TRF_READ,
RECIPE_STEPS_DONE, RECORD_COPY_DONE.
-/

namespace Sys2Proof.Machine

/-- SYN_ALLOC (R317). -/
def execSynAlloc (k : Fin 8) (s : State) : Host.Outcome State Fault Refusal :=
  s.run (fun c => c.synAlloc k)

/-- ROLL_LOAD_DONE (R318). -/
def execRollLoadDone (n : Fin 4096) (s : State) : Host.Outcome State Fault Refusal :=
  s.run (fun c => c.rollLoadDone n s.read)

/-- SYN_FREE (R317). -/
def execSynFree (k : Fin 8) (s : State) : Host.Outcome State Fault Refusal :=
  s.run (fun c => c.synFree k)

/-- DROP_MEMBER (R317). -/
def execDropMember (k : Fin 8) (s : State) : Host.Outcome State Fault Refusal :=
  s.run (fun c => c.dropMember k)

/-- SYN_READ (R317). -/
def execSynRead (k : Fin 8) (s : State) : Host.Outcome State Fault Refusal :=
  s.run (fun c => c.synRead k)

/-- CONTRIBUTION_CELL (R307). -/
def execContributionCell (k : Fin 8) (x : Cell) (s : State) : Host.Outcome State Fault Refusal :=
  s.run (fun c => c.contributionCell k x)

/-- PENDING_RELEASE (R308). -/
def execPendingRelease (k : Fin 8) (s : State) : Host.Outcome State Fault Refusal :=
  s.run (fun c => c.pendingRelease k)

/-- PROGRESS_TIMEOUT (R312). -/
def execProgressTimeout (n : Fin 4096) (s : State) : Host.Outcome State Fault Refusal :=
  s.run (fun c => c.progressTimeout n)

/-- COLLECTIVE_TIMEOUT (R311). -/
def execCollectiveTimeout (n : Fin 4096) (s : State) : Host.Outcome State Fault Refusal :=
  s.run (fun c => c.collectiveTimeout n)

/-- RESIDUE_CHECK_DONE (R375). -/
def execResidueCheckDone (n : Fin 4096) (pos : Nat) (err : CheckErr) (s : State) : Host.Outcome State Fault Refusal :=
  s.run (fun c => c.residueCheckDone n pos err)

/-- RERUN_VERDICT (R376). -/
def execRerunVerdict (n : Fin 4096) (pos : Nat) (err : CheckErr) (differs : Bool) (s : State) : Host.Outcome State Fault Refusal :=
  s.run (fun c => c.rerunVerdict n pos err differs)

/-- SEAL_NOTICE_GAP (R314). -/
def execSealNoticeGap (n : Fin 4096) (s : State) : Host.Outcome State Fault Refusal :=
  s.run (fun c => c.sealGap n)

/-- ABORT_HOLD_EXPIRY (R303). -/
def execAbortHoldExpiry (n : Fin 4096) (s : State) : Host.Outcome State Fault Refusal :=
  s.run (fun c => c.abortHoldExpiry n)

/-- QUARANTINE_EXPIRY (R320). -/
def execQuarantineExpiry (n : Fin 4096) (s : State) : Host.Outcome State Fault Refusal :=
  s.run (fun c => c.quarantineExpiry n)

/-- HOME_DIE_READMIT (R321). -/
def execHomeDieReadmit (k : Fin 8) (s : State) : Host.Outcome State Fault Refusal :=
  s.run (fun c => c.homeReadmit k)

/-- LOAD_MATRIX (R370). -/
def execLoadMatrix (k : Fin 8) (s : State) : Host.Outcome State Fault Refusal :=
  s.run (fun c => c.loadMatrix k s.read)

/-- DROP_MATRIX (R370). -/
def execDropMatrix (k : Fin 8) (s : State) : Host.Outcome State Fault Refusal :=
  s.run (fun c => c.dropMatrix k)

/-- LOAD_RECIPE (R353). -/
def execLoadRecipe (k : Fin 8) (s : State) : Host.Outcome State Fault Refusal :=
  s.run (fun c => c.loadRecipe k s.read)

/-- DROP_RECIPE (R370). -/
def execDropRecipe (k : Fin 8) (s : State) : Host.Outcome State Fault Refusal :=
  s.run (fun c => c.dropRecipe k)

/-- BIND (R360). -/
def execBind (k : Fin 8) (s : State) : Host.Outcome State Fault Refusal :=
  s.run (fun c => c.bindOp k s.read)

/-- BIND_ZERO_DONE (R360). -/
def execBindZeroDone (k : Fin 8) (i : Fin 64) (s : State) : Host.Outcome State Fault Refusal :=
  s.run (fun c => c.bindZeroDone k i)

/-- UNBIND (R370). -/
def execUnbind (k : Fin 8) (s : State) : Host.Outcome State Fault Refusal :=
  s.run (fun c => c.unbindOp k)

/-- STATE_COPY (R367). -/
def execStateCopy (k : Fin 8) (s : State) : Host.Outcome State Fault Refusal :=
  s.run (fun c => c.stateCopy k)

/-- STATE_COPY_DONE (R367). -/
def execStateCopyDone (k : Fin 8) (i : Fin 64) (s : State) : Host.Outcome State Fault Refusal :=
  s.runMem (fun c => c.stateCopyDone k i s.read)

/-- TRF_READ (R370). -/
def execTrfRead (k : Fin 8) (s : State) : Host.Outcome State Fault Refusal :=
  s.run (fun c => c.trfRead k)

/-- RECIPE_STEPS_DONE (R355). -/
def execRecipeStepsDone (n : Fin 4096) (pos : Nat) (ecc : Bool) (s : State) : Host.Outcome State Fault Refusal :=
  s.run (fun c => c.recipeStepsDone n pos ecc)

/-- RECORD_COPY_DONE (R364). -/
def execRecordCopyDone (k : Fin 8) (i : Fin 64) (s : State) : Host.Outcome State Fault Refusal :=
  s.run (fun c => c.recordCopyDone k i)

end Sys2Proof.Machine
end

