-- ==== Sys2Proof/Machine/ExecFaults.lean ====
section
/-!
DEFINITION. The meanings of the commands of firebreak triggers that hardware and firmware report, one for each constructor, over the
operations the chapters give: BLOCK_FIREBREAK_DRAIN_TIMEOUT, PLL_LOCK_FAIL, PLL_LOSS_OF_LOCK, UPLINK_SCHEDULER_FAULT, SLOT_CROSSBAR_FAULT,
FIRMWARE_GO_DARK.
-/

namespace Sys2Proof.Machine

/-- BLOCK_FIREBREAK_DRAIN_TIMEOUT (R19). -/
def execBlockFirebreakDrainTimeout (d : Fin 32) (b : Fin 8) (s : State) : Host.Outcome State Fault Refusal :=
  s.run (fun c => c.fbDrainTimeout d b)

/-- PLL_LOCK_FAIL (R421). -/
def execPllLockFail (d : Fin 40) (b : Option (Fin 8)) (s : State) : Host.Outcome State Fault Refusal :=
  s.run (fun c => c.pllLockFail d (b.map (·.val)))

/-- PLL_LOSS_OF_LOCK (R19). -/
def execPllLossOfLock (d : Fin 40) (b : Option (Fin 8)) (s : State) : Host.Outcome State Fault Refusal :=
  s.run (fun c => c.pllLossOfLock d (b.map (·.val)))

/-- UPLINK_SCHEDULER_FAULT (R19). -/
def execUplinkSchedulerFault (d : Fin 32) (s : State) : Host.Outcome State Fault Refusal :=
  s.run (fun c => c.uplinkSchedulerFault d)

/-- SLOT_CROSSBAR_FAULT (R19). -/
def execSlotCrossbarFault (k : Fin 8) (s : State) : Host.Outcome State Fault Refusal :=
  s.run (fun c => c.slotCrossbarFault k)

/-- FIRMWARE_GO_DARK (R19). -/
def execFirmwareGoDark (s : State) : Host.Outcome State Fault Refusal :=
  s.run (fun c => c.goDark)

end Sys2Proof.Machine
end

