-- ==== Sys2Proof/Machine/ExecHost.lean ====
section
/-!
DEFINITION. The meanings of the commands of host commands, one for each constructor, over the operations the chapters give:
COMMAND_PICKUP, SERIAL_COMMAND_START, NOP, WRITE_REPAIR, LOAD_PACK, ENROLL_KEY, RAISE_FLOOR, WRITE_FIRMWARE, COMMISSION, SET_TOD,
READ_FSIG, READ_REGS, READ_IDENTITY, QUOTE, READ_LOG, CONTROL_ORDER.
-/

namespace Sys2Proof.Machine

/-- COMMAND_PICKUP (R445). -/
def execCommandPickup (h : Fin 2) (win : Fin 62) (slot : Fin 64) (cmd : Command) (s : State) : Host.Outcome State Fault Refusal :=
  if cmd.wf then s.run (fun c => c.commandPickup h win slot cmd) else .fault .illFormed

/-- SERIAL_COMMAND_START (R446). -/
def execSerialCommandStart (s : State) : Host.Outcome State Fault Refusal :=
  s.run (fun c => c.serialStart)

/-- NOP (R448). -/
def execNop (o : Origin) (s : State) : Host.Outcome State Fault Refusal :=
  s.run (fun c => c.cmdNop o)

/-- WRITE_REPAIR (R448). -/
def execWriteRepair (o : Origin) (r : Repair) (s : State) : Host.Outcome State Fault Refusal :=
  s.run (fun c => c.cmdWriteRepair o r)

/-- LOAD_PACK (R389). -/
def execLoadPack (o : Origin) (p : Pack) (s : State) : Host.Outcome State Fault Refusal :=
  s.run (fun c => c.cmdLoadPack o p)

/-- ENROLL_KEY (R458). -/
def execEnrollKey (o : Origin) (key : KeyCert) (s : State) : Host.Outcome State Fault Refusal :=
  s.run (fun c => c.cmdEnrollKey o key)

/-- RAISE_FLOOR (R462). -/
def execRaiseFloor (o : Origin) (s : State) : Host.Outcome State Fault Refusal :=
  s.run (fun c => c.cmdRaiseFloor o)

/-- WRITE_FIRMWARE (R459). -/
def execWriteFirmware (o : Origin) (f : Firmware) (s : State) : Host.Outcome State Fault Refusal :=
  s.run (fun c => c.cmdWriteFirmware o f)

/-- COMMISSION (R448). -/
def execCommission (o : Origin) (powers : List (Nat × BitVec 16)) (s : State) : Host.Outcome State Fault Refusal :=
  if powers.all (fun e => decide (e.1 < 2048)) then s.run (fun c => c.cmdCommission o powers) else .fault .illFormed

/-- SET_TOD (R398). -/
def execSetTod (o : Origin) (s : State) : Host.Outcome State Fault Refusal :=
  s.run (fun c => c.cmdSetTod o)

/-- READ_FSIG (R448). -/
def execReadFsig (o : Origin) (s : State) : Host.Outcome State Fault Refusal :=
  s.runMem (fun c => c.cmdReadFsig o)

/-- READ_REGS (R448). -/
def execReadRegs (o : Origin) (s : State) : Host.Outcome State Fault Refusal :=
  s.run (fun c => c.cmdReadRegs o)

/-- READ_IDENTITY (R448). -/
def execReadIdentity (o : Origin) (s : State) : Host.Outcome State Fault Refusal :=
  s.runMem (fun c => c.cmdReadIdentity o)

/-- QUOTE (R461). -/
def execQuote (o : Origin) (s : State) : Host.Outcome State Fault Refusal :=
  s.runMem (fun c => c.cmdQuote o)

/-- READ_LOG (R460). -/
def execReadLog (o : Origin) (s : State) : Host.Outcome State Fault Refusal :=
  s.runMem (fun c => c.cmdReadLog o)

/-- CONTROL_ORDER (R453). -/
def execControlOrder (o : Origin) (s : State) : Host.Outcome State Fault Refusal :=
  s.run (fun c => c.cmdControlOrder o)

end Sys2Proof.Machine
end

