-- ==== Sys2Proof/Machine/ExecHubs.lean ====
section
/-!
DEFINITION. The meanings of the commands of hub roles, watchdogs and the board controller, one for each constructor, over the operations
the chapters give: HUB_HEARTBEAT_SEND, HUB_TAKEOVER, HEARTBEAT_PATH_LOST, WATCHDOG_HALF, WATCHDOG_EXPIRY, GET_SETPOINT, GET_TEMP,
GET_STATUS, GET_IDENTITY.
-/

namespace Sys2Proof.Machine

/-- HUB_HEARTBEAT_SEND (R17). -/
def execHubHeartbeatSend (h : Fin 2) (s : State) : Host.Outcome State Fault Refusal :=
  s.run (fun c => c.heartbeat h)

/-- HUB_TAKEOVER (R17). -/
def execHubTakeover (s : State) : Host.Outcome State Fault Refusal :=
  s.run (fun c => c.hubTakeover)

/-- HEARTBEAT_PATH_LOST (R17). -/
def execHeartbeatPathLost (path : Fin 2) (s : State) : Host.Outcome State Fault Refusal :=
  s.run (fun c => c.pathLost path)

/-- WATCHDOG_HALF (R463). -/
def execWatchdogHalf (h : Fin 2) (which : Fin 3) (s : State) : Host.Outcome State Fault Refusal :=
  s.run (fun c => c.watchdogHalf h (which + 1))

/-- WATCHDOG_EXPIRY (R463). -/
def execWatchdogExpiry (h : Fin 2) (which : Fin 3) (s : State) : Host.Outcome State Fault Refusal :=
  s.run (fun c => c.watchdogExpiry h (which + 1))

/-- GET_SETPOINT (R464). -/
def execGetSetpoint (s : State) : Host.Outcome State Fault Refusal :=
  s.run (fun c => c.getSetpoint)

/-- GET_TEMP (R498). -/
def execGetTemp (s : State) : Host.Outcome State Fault Refusal :=
  s.run (fun c => c.getTemp)

/-- GET_STATUS (R464). -/
def execGetStatus (s : State) : Host.Outcome State Fault Refusal :=
  s.run (fun c => c.getStatus)

/-- GET_IDENTITY (R464). -/
def execGetIdentity (s : State) : Host.Outcome State Fault Refusal :=
  s.run (fun c => c.getIdentity)

end Sys2Proof.Machine
end

