-- ==== Sys2Proof/Machine/ExecImages.lean ====
section
/-!
DEFINITION. The meanings of the commands of images, one for each constructor, over the operations the chapters give: BOOT_IMAGE_LOAD,
PARTIAL_LOAD_SWITCH, LOAD_IMAGE, WRITE_IMAGE.
-/

namespace Sys2Proof.Machine

/-- BOOT_IMAGE_LOAD (R58). -/
def execBootImageLoad (s : State) : Host.Outcome State Fault Refusal :=
  s.run (fun c => c.bootImageLoad)

/-- PARTIAL_LOAD_SWITCH (R63). -/
def execPartialLoadSwitch (d : Fin 40) (s : State) : Host.Outcome State Fault Refusal :=
  s.run (fun c => c.partialLoadSwitch d)

/-- LOAD_IMAGE (R448). -/
def execLoadImage (o : Origin) (img : Image) (s : State) : Host.Outcome State Fault Refusal :=
  s.run (fun c => c.cmdLoadImage o img (fun x => x.planeDataWipe.planeDataReport))

/-- WRITE_IMAGE (R448). -/
def execWriteImage (o : Origin) (img : Image) (s : State) : Host.Outcome State Fault Refusal :=
  s.run (fun c => c.cmdWriteImage o img)

end Sys2Proof.Machine
end

