-- ==== Sys2Proof/Machine/ExecLanes.lean ====
section
/-!
DEFINITION. The meanings of the commands of the receive side of a lane, link control and training, one for each constructor, over the
operations the chapters give: FEC_BLOCK_RECEIVE, FEC_WINDOW_END, BLOCK_LOCK_ACQUIRE, BLOCK_LOCK_LOSS, HELLO, CREDIT_INIT, CREDIT_INIT_ACK,
CREDIT, CREDIT_SYNC, SYNC_REQ, DRAIN, DRAIN_ACK, RESUME, DROWSY, DROWSY_ACK, WAKE_REQ, AWAKE, RETUNE, RETUNE_ACK, RESERVED_LC_OP,
LC_REPEAT_TIMEOUT, CREDIT_ADVERTISE_TIMER, CREDIT_SYNC_TIMER, TRAINING_PHASE_DONE, TRAINING_PHASE_TIMEOUT, HELLO_RETRY, TRAIN_RETRY,
DRAIN_TIMEOUT.
-/

namespace Sys2Proof.Machine

/-- FEC_BLOCK_RECEIVE (R96). -/
def execFecBlockReceive (l : Fin 2048) (no : Fin 65536) (ok : Bool) (corrected : Nat) (tag : Fin 256) (slots : List (Option Cell))
    (s : State) : Host.Outcome State Fault Refusal :=
  if slots.length == 32 then s.run (fun c => c.fecBlock l no ok corrected tag slots) else .fault .illFormed

/-- FEC_WINDOW_END (R99). -/
def execFecWindowEnd (d : Fin 32) (s : State) : Host.Outcome State Fault Refusal :=
  s.run (fun c => c.fecWindowEnd d)

/-- BLOCK_LOCK_ACQUIRE (R100). -/
def execBlockLockAcquire (l : Fin 2048) (s : State) : Host.Outcome State Fault Refusal :=
  s.run (fun c => c.lockAcquire l)

/-- BLOCK_LOCK_LOSS (R100). -/
def execBlockLockLoss (l : Fin 2048) (s : State) : Host.Outcome State Fault Refusal :=
  s.run (fun c => c.blockLockLoss l)

/-- HELLO (R117). -/
def execHello (l : Fin 2048) (seq : Fin 256) (sid : BitVec 20) (lane : Fin 64) (role : Fin 4)
    (s : State) : Host.Outcome State Fault Refusal :=
  s.run (fun c => c.hello l seq sid.toNat lane role)

/-- CREDIT_INIT (R111). -/
def execCreditInit (l : Fin 2048) (seq : Fin 256) (limits : List (BitVec 24)) (s : State) : Host.Outcome State Fault Refusal :=
  if limits.length == 8 then s.run (fun c => c.creditInitRx l seq (limits.map (·.toNat))) else .fault .illFormed

/-- CREDIT_INIT_ACK (R111). -/
def execCreditInitAck (l : Fin 2048) (seq : Fin 256) (s : State) : Host.Outcome State Fault Refusal :=
  s.run (fun c => c.creditInitAck l seq)

/-- CREDIT (R108). -/
def execCredit (l : Fin 2048) (mask : BitVec 8) (limits : List (BitVec 24)) (s : State) : Host.Outcome State Fault Refusal :=
  if limits.length == 8 then s.run (fun c => c.creditRx l mask.toNat (limits.map (·.toNat))) else .fault .illFormed

/-- CREDIT_SYNC (R110). -/
def execCreditSync (l : Fin 2048) (seq : Fin 256) (mask : BitVec 8) (sents : List (BitVec 24))
    (s : State) : Host.Outcome State Fault Refusal :=
  if sents.length == 8 then s.run (fun c => c.creditSync l seq mask.toNat (sents.map (·.toNat))) else .fault .illFormed

/-- SYNC_REQ (R110). -/
def execSyncReq (l : Fin 2048) (seq : Fin 256) (s : State) : Host.Outcome State Fault Refusal :=
  s.run (fun c => c.syncReq l seq)

/-- DRAIN (R119). -/
def execDrain (l : Fin 2048) (seq : Fin 256) (s : State) : Host.Outcome State Fault Refusal :=
  s.run (fun c => c.drainRx l seq)

/-- DRAIN_ACK (R119). -/
def execDrainAck (l : Fin 2048) (seq : Fin 256) (s : State) : Host.Outcome State Fault Refusal :=
  s.run (fun c => c.drainAck l seq)

/-- RESUME (R511). -/
def execResume (l : Fin 2048) (seq : Fin 256) (s : State) : Host.Outcome State Fault Refusal :=
  s.run (fun c => c.resumeRx l seq)

/-- DROWSY (R120). -/
def execDrowsy (l : Fin 2048) (seq : Fin 256) (depth : Fin 256) (s : State) : Host.Outcome State Fault Refusal :=
  s.run (fun c => c.drowsyRx l seq depth)

/-- DROWSY_ACK (R120). -/
def execDrowsyAck (l : Fin 2048) (seq : Fin 256) (s : State) : Host.Outcome State Fault Refusal :=
  s.run (fun c => c.drowsyAck l seq)

/-- WAKE_REQ (R121). -/
def execWakeReq (l : Fin 2048) (seq : Fin 256) (s : State) : Host.Outcome State Fault Refusal :=
  s.run (fun c => c.wakeReq l seq)

/-- AWAKE (R121). -/
def execAwake (l : Fin 2048) (seq : Fin 256) (s : State) : Host.Outcome State Fault Refusal :=
  s.run (fun c => c.awakeRx l seq)

/-- RETUNE (R106). -/
def execRetune (l : Fin 2048) (seq : Fin 256) (s : State) : Host.Outcome State Fault Refusal :=
  s.run (fun c => c.retuneRx l seq)

/-- RETUNE_ACK (R122). -/
def execRetuneAck (l : Fin 2048) (seq : Fin 256) (status : Fin 256) (s : State) : Host.Outcome State Fault Refusal :=
  s.run (fun c => c.retuneAck l seq status)

/-- RESERVED_LC_OP (R103). -/
def execReservedLcOp (l : Fin 2048) (op : Fin 256) (s : State) : Host.Outcome State Fault Refusal :=
  s.run (fun c => c.reservedOp l op)

/-- LC_REPEAT_TIMEOUT (R105). -/
def execLcRepeatTimeout (l : Fin 2048) (op : Fin 256) (seq : Fin 256) (s : State) : Host.Outcome State Fault Refusal :=
  s.run (fun c => c.lcRepeat l op seq)

/-- CREDIT_ADVERTISE_TIMER (R109). -/
def execCreditAdvertiseTimer (l : Fin 2048) (s : State) : Host.Outcome State Fault Refusal :=
  s.run (fun c => c.creditTimer l)

/-- CREDIT_SYNC_TIMER (R110). -/
def execCreditSyncTimer (l : Fin 2048) (s : State) : Host.Outcome State Fault Refusal :=
  s.run (fun c => c.syncTimer l)

/-- TRAINING_PHASE_DONE (R116). -/
def execTrainingPhaseDone (l : Fin 2048) (s : State) : Host.Outcome State Fault Refusal :=
  s.run (fun c => c.phaseDone l)

/-- TRAINING_PHASE_TIMEOUT (R116). -/
def execTrainingPhaseTimeout (l : Fin 2048) (s : State) : Host.Outcome State Fault Refusal :=
  s.run (fun c => c.phaseTimeout l)

/-- HELLO_RETRY (R117). -/
def execHelloRetry (l : Fin 2048) (s : State) : Host.Outcome State Fault Refusal :=
  s.run (fun c => c.helloRetry l)

/-- TRAIN_RETRY (R118). -/
def execTrainRetry (l : Fin 2048) (s : State) : Host.Outcome State Fault Refusal :=
  s.run (fun c => c.trainRetry l)

/-- DRAIN_TIMEOUT (R119). -/
def execDrainTimeout (l : Fin 2048) (s : State) : Host.Outcome State Fault Refusal :=
  s.run (fun c => c.drainTimeout l)

end Sys2Proof.Machine
end

