-- ==== Sys2Proof/Machine/ExecMessages.lean ====
section
/-!
DEFINITION. The meanings of the commands of messages and sessions, one for each constructor, over the operations the chapters give:
SWITCH_MESSAGE_COMPLETE, ORDER, S_INIT, S_CONFIRM, S_CLOSE, SESSION_IDLE_TIMEOUT, COMMAND_MESSAGE, DATA_MESSAGE.
-/

namespace Sys2Proof.Machine

/-- SWITCH_MESSAGE_COMPLETE (R452). -/
def execSwitchMessageComplete (msg : HubMsg) (forTwin : Bool) (tagOk : Bool) (s : State) : Host.Outcome State Fault Refusal :=
  if msg.kind == 5 && decide (msg.body.length ≤ 65000) then s.run (fun c => c.switchMessage msg forTwin tagOk) else .fault .illFormed

/-- ORDER (R453). -/
def execOrder (s : State) : Host.Outcome State Fault Refusal :=
  s.run (fun c => c.order)

/-- S_INIT (R454). -/
def execSInit (client : BitVec 20) (cert : KeyCert) (forTwin : Bool) (s : State) : Host.Outcome State Fault Refusal :=
  s.run (fun c => c.sInit client.toNat cert forTwin)

/-- S_CONFIRM (R454). -/
def execSConfirm (n : BitVec 16) (seq : BitVec 64) (sigOk : Bool) (tagOk : Bool) (s : State) : Host.Outcome State Fault Refusal :=
  s.run (fun c => c.sConfirm n.toNat seq.toNat sigOk tagOk)

/-- S_CLOSE (R454). -/
def execSClose (n : BitVec 16) (seq : BitVec 64) (tagOk : Bool) (s : State) : Host.Outcome State Fault Refusal :=
  s.run (fun c => c.sClose n.toNat seq.toNat tagOk)

/-- SESSION_IDLE_TIMEOUT (R454). -/
def execSessionIdleTimeout (h : Fin 2) (n : BitVec 16) (s : State) : Host.Outcome State Fault Refusal :=
  s.run (fun c => c.sessionIdle h n.toNat)

/-- COMMAND_MESSAGE (R456). -/
def execCommandMessage (n : BitVec 16) (seq : BitVec 64) (tagOk : Bool) (cmd : Command) (s : State) : Host.Outcome State Fault Refusal :=
  if cmd.wf then s.run (fun c => c.commandMessage n.toNat seq.toNat tagOk cmd) else .fault .illFormed

/-- DATA_MESSAGE (R456). -/
def execDataMessage (n : BitVec 16) (seq : BitVec 64) (tagOk : Bool) (offset : BitVec 64) (op : DataOp)
    (s : State) : Host.Outcome State Fault Refusal :=
  s.runMem (fun c => c.dataMessage s.read n.toNat seq.toNat tagOk offset.toNat op)

end Sys2Proof.Machine
end

