-- ==== Sys2Proof/Machine/ExecOptics.lean ====
section
/-!
DEFINITION. The meanings of the commands of rings, wavelength moves and clearings, one for each constructor, over the operations the
chapters give: SEARCH_START, RING_SWEEP_DONE, RING_LOCK_CAPTURE, RING_CAPTURE_TIMEOUT, TONE_CHECK_WINDOW, RING_RECOVERY_DONE, LOCK_SLIP,
RING_LIGHT_LOSS, RING_LIGHT_RESTORED, LOCK_LOOP_UPDATE, CALIBRATION_DUE, CALIBRATION_DONE, FADE_READING, SWAP_TRAIN_TIMEOUT,
OPT_RETURN_FROM_SPARE, OPT_CALIBRATE_NOW, OPT_SEARCH_AGAIN, OPT_CLEAR_FADE_HOLD, CLEARING_SETUP, CLEARING_TEARDOWN, CLEAR_SET_SEND,
CLEAR_ACK, CLEAR_DRAINED, CLEAR_DRAINED_TIMEOUT, CLEARING_IMAGE_TEARDOWN, RING_LIGHT_APPEARS.
-/

namespace Sys2Proof.Machine

/-- SEARCH_START (R136). -/
def execSearchStart (d : Fin 32) (s : State) : Host.Outcome State Fault Refusal :=
  s.run (fun c => c.searchStart d)

/-- RING_SWEEP_DONE (R134). -/
def execRingSweepDone (d : Fin 32) (f : Fin 8) (r : Fin 17) (light : Bool) (dips : List (BitVec 12))
    (s : State) : Host.Outcome State Fault Refusal :=
  s.run (fun c => c.ringSweepDone d f r light (dips.map (·.toNat)))

/-- RING_LOCK_CAPTURE (R132). -/
def execRingLockCapture (d : Fin 32) (f : Fin 8) (r : Fin 17) (s : State) : Host.Outcome State Fault Refusal :=
  s.run (fun c => c.ringLockCapture d f r)

/-- RING_CAPTURE_TIMEOUT (R132). -/
def execRingCaptureTimeout (d : Fin 32) (f : Fin 8) (r : Fin 17) (s : State) : Host.Outcome State Fault Refusal :=
  s.run (fun c => c.ringCaptureTimeout d f r)

/-- TONE_CHECK_WINDOW (R137). -/
def execToneCheckWindow (d : Fin 32) (f : Fin 8) (r : Fin 17) (amp : Nat) (below : Nat) (above : Nat) (ref : Nat)
    (s : State) : Host.Outcome State Fault Refusal :=
  s.run (fun c => c.toneCheck d f r amp below above ref)

/-- RING_RECOVERY_DONE (R139). -/
def execRingRecoveryDone (d : Fin 32) (f : Fin 8) (r : Fin 17) (captured : Option (BitVec 12))
    (s : State) : Host.Outcome State Fault Refusal :=
  s.run (fun c => c.ringRecoveryDone d f r (captured.map (·.toNat)))

/-- LOCK_SLIP (R132). -/
def execLockSlip (d : Fin 32) (f : Fin 8) (r : Fin 17) (s : State) : Host.Outcome State Fault Refusal :=
  s.run (fun c => c.lockSlip d f r)

/-- RING_LIGHT_LOSS (R132). -/
def execRingLightLoss (d : Fin 32) (f : Fin 8) (r : Fin 17) (s : State) : Host.Outcome State Fault Refusal :=
  s.run (fun c => c.ringLightLoss d f r)

/-- RING_LIGHT_RESTORED (R132). -/
def execRingLightRestored (d : Fin 32) (f : Fin 8) (r : Fin 17) (s : State) : Host.Outcome State Fault Refusal :=
  s.run (fun c => c.ringLightRestored d f r)

/-- LOCK_LOOP_UPDATE (R140). -/
def execLockLoopUpdate (d : Fin 32) (f : Fin 8) (r : Fin 17) (code : BitVec 12) (s : State) : Host.Outcome State Fault Refusal :=
  s.run (fun c => c.lockLoopUpdate d f r code.toNat)

/-- CALIBRATION_DUE (R143). -/
def execCalibrationDue (l : Fin 2048) (s : State) : Host.Outcome State Fault Refusal :=
  s.run (fun c => c.calibrationDue l)

/-- CALIBRATION_DONE (R145). -/
def execCalibrationDone (l : Fin 2048) (us : Nat) (s : State) : Host.Outcome State Fault Refusal :=
  s.run (fun c => c.calibrationDone l us)

/-- FADE_READING (R148). -/
def execFadeReading (d : Fin 32) (powers : List Int) (spares : List Int) (s : State) : Host.Outcome State Fault Refusal :=
  if powers.length == 64 && spares.length == 8 then s.run (fun c => c.fadeReading d powers spares) else .fault .illFormed

/-- SWAP_TRAIN_TIMEOUT (R154). -/
def execSwapTrainTimeout (l : Fin 2048) (s : State) : Host.Outcome State Fault Refusal :=
  s.run (fun c => c.swapTrainTimeout l)

/-- OPT_RETURN_FROM_SPARE (R155). -/
def execOptReturnFromSpare (d : Fin 32) (s : State) : Host.Outcome State Fault Refusal :=
  s.run (fun c => c.returnFromSpare d)

/-- OPT_CALIBRATE_NOW (R143). -/
def execOptCalibrateNow (d : Fin 32) (s : State) : Host.Outcome State Fault Refusal :=
  s.run (fun c => c.calibrateNow d)

/-- OPT_SEARCH_AGAIN (R162). -/
def execOptSearchAgain (d : Fin 32) (s : State) : Host.Outcome State Fault Refusal :=
  s.run (fun c => c.searchAgain d)

/-- OPT_CLEAR_FADE_HOLD (R151). -/
def execOptClearFadeHold (d : Fin 32) (s : State) : Host.Outcome State Fault Refusal :=
  s.run (fun c => c.clearFadeHold d)

/-- CLEARING_SETUP (R174). -/
def execClearingSetup (d : Fin 32) (s : State) : Host.Outcome State Fault Refusal :=
  s.run (fun c => c.clearingSetup d)

/-- CLEARING_TEARDOWN (R176). -/
def execClearingTeardown (d : Fin 32) (s : State) : Host.Outcome State Fault Refusal :=
  s.run (fun c => c.clearingTeardown d)

/-- CLEAR_SET_SEND (R174). -/
def execClearSetSend (d : Fin 32) (r : Fin 4) (k : Fin 8) (s : State) : Host.Outcome State Fault Refusal :=
  s.run (fun c => c.clearSetSend d r k)

/-- CLEAR_ACK (R173). -/
def execClearAck (l : Fin 2048) (seq : Fin 256) (handle : BitVec 16) (status : Fin 256) (s : State) : Host.Outcome State Fault Refusal :=
  s.run (fun c => if c.lcOpen l then c.clearAck l seq handle.toNat status else c)

/-- CLEAR_DRAINED (R176). -/
def execClearDrained (l : Fin 2048) (seq : Fin 256) (handle : BitVec 16) (lane : Fin 64) (s : State) : Host.Outcome State Fault Refusal :=
  s.run (fun c => if c.lcOpen l then c.clearDrained l seq handle.toNat lane else c)

/-- CLEAR_DRAINED_TIMEOUT (R179). -/
def execClearDrainedTimeout (d : Fin 32) (r : Fin 4) (k : Fin 8) (s : State) : Host.Outcome State Fault Refusal :=
  s.run (fun c => c.clearDrainedTimeout d r k)

/-- CLEARING_IMAGE_TEARDOWN (R181). -/
def execClearingImageTeardown (d : Fin 32) (r : Fin 4) (k : Fin 8) (s : State) : Host.Outcome State Fault Refusal :=
  s.run (fun c => c.clearingImageTeardown d r k)

/-- RING_LIGHT_APPEARS (R132). -/
def execRingLightAppears (d : Fin 32) (f : Fin 8) (ring : Option (Fin 17)) (s : State) : Host.Outcome State Fault Refusal :=
  s.run (fun c => c.ringLightAppears d f (ring.map (·.val)))

end Sys2Proof.Machine
end

