-- ==== Sys2Proof/Machine/ExecPower.lean ====
section
/-!
DEFINITION. The meanings of the commands of sag warnings and temperatures, one for each constructor, over the operations the chapters
give: RAIL_WARN_CROSSING, SAG_PIN_ASSERT, SAG_CLEAR, RAIL_RESET_CROSSING, CLK25_LOSS, TEMP_READING, THERMAL_SHUTDOWN.
-/

namespace Sys2Proof.Machine

/-- RAIL_WARN_CROSSING (R417). -/
def execRailWarnCrossing (d : Fin 40) (rail : Fin 10) (s : State) : Host.Outcome State Fault Refusal :=
  s.run (fun c => c.railWarn d rail)

/-- SAG_PIN_ASSERT (R418). -/
def execSagPinAssert (s : State) : Host.Outcome State Fault Refusal :=
  s.run (fun c => c.sagPin)

/-- SAG_CLEAR (R418). -/
def execSagClear (s : State) : Host.Outcome State Fault Refusal :=
  s.run (fun c => c.sagClear)

/-- RAIL_RESET_CROSSING (R419). -/
def execRailResetCrossing (rail : Fin 10) (s : State) : Host.Outcome State Fault Refusal :=
  s.run (fun c => c.railReset rail)

/-- CLK25_LOSS (R421). -/
def execClk25Loss (s : State) : Host.Outcome State Fault Refusal :=
  s.run (fun c => c.clkLoss)

/-- TEMP_READING (R506). -/
def execTempReading (d : Fin 40) (t : BitVec 16) (s : State) : Host.Outcome State Fault Refusal :=
  s.run (fun c => c.tempReading d t)

/-- THERMAL_SHUTDOWN (R506). -/
def execThermalShutdown (d : Fin 40) (s : State) : Host.Outcome State Fault Refusal :=
  s.run (fun c => c.thermalShutdown d)

end Sys2Proof.Machine
end

