-- ==== Sys2Proof/Machine/ExecRegisters.lean ====
section
/-!
DEFINITION. The meanings of the commands of registers, commit groups, notice queues and counters, one for each constructor, over the
operations the chapters give: REGISTER_WRITE, LATCHED_READ, NOTICE_ENTRY, NQ_TAIL_WRITE, CS_STAGING_WRITE, COMMIT_APPLY, COMMIT_DISCARD,
COMMIT_CHECKS_DONE, SNAPSHOT_APPLY, PMC_LO_READ, PMC_HI_WRITE, PMC_LO_WRITE, PMC_OVERFLOW, BAD_SIZE_ACCESS.
-/

namespace Sys2Proof.Machine

/-- REGISTER_WRITE (R9). -/
def execRegisterWrite (v : Via) (a : BitVec 32) (w : Word) (s : State) : Host.Outcome State Fault Refusal :=
  s.run (fun c => c.registerWrite v a.toNat w)

/-- LATCHED_READ (R7). -/
def execLatchedRead (v : Via) (a : BitVec 32) (s : State) : Host.Outcome State Fault Refusal :=
  s.run (fun c => c.latchedRead v a.toNat)

/-- NOTICE_ENTRY (R36). -/
def execNoticeEntry (d : Fin 40) (q : Fin 2) (s : State) : Host.Outcome State Fault Refusal :=
  s.run (fun c => c.noticeEntry d q)

/-- NQ_TAIL_WRITE (R37). -/
def execNqTailWrite (d : Fin 40) (q : Fin 2) (tail : Fin 2048) (s : State) : Host.Outcome State Fault Refusal :=
  s.run (fun c => c.nqTailWrite d q tail)

/-- CS_STAGING_WRITE (R66). -/
def execCsStagingWrite (v : Via) (a : BitVec 32) (w : Word) (s : State) : Host.Outcome State Fault Refusal :=
  s.run (fun c => c.writeVia v (fun s => if isCs a.toNat then s.stagingWrite a.toNat w else s))

/-- COMMIT_APPLY (R66). -/
def execCommitApply (v : Via) (d : Fin 40) (g : Fin 384) (s : State) : Host.Outcome State Fault Refusal :=
  s.run (fun c => c.writeVia v (fun s => s.commitApply d g v.isCtl))

/-- COMMIT_DISCARD (R67). -/
def execCommitDiscard (v : Via) (d : Fin 40) (g : Fin 384) (s : State) : Host.Outcome State Fault Refusal :=
  s.run (fun c => c.writeVia v (fun s => s.commitDiscard d g))

/-- COMMIT_CHECKS_DONE (R66). -/
def execCommitChecksDone (d : Fin 40) (g : Fin 384) (s : State) : Host.Outcome State Fault Refusal :=
  s.run (fun c => (c.checksDone d g).orderAdvance)

/-- SNAPSHOT_APPLY (R69). -/
def execSnapshotApply (d : Fin 40) (g : Fin 384) (s : State) : Host.Outcome State Fault Refusal :=
  s.run (fun c => (c.snapshotApply d g).orderAdvance)

/-- PMC_LO_READ (R488). -/
def execPmcLoRead (v : Via) (d : Fin 40) (n : Fin 40) (s : State) : Host.Outcome State Fault Refusal :=
  s.run (fun c => c.pmcLoRead v d n)

/-- PMC_HI_WRITE (R489). -/
def execPmcHiWrite (d : Fin 40) (n : Fin 32) (w : Word) (s : State) : Host.Outcome State Fault Refusal :=
  s.run (fun c => c.pmcHiWrite d n w)

/-- PMC_LO_WRITE (R489). -/
def execPmcLoWrite (d : Fin 40) (n : Fin 32) (w : Word) (s : State) : Host.Outcome State Fault Refusal :=
  s.run (fun c => c.pmcLoWrite d n w)

/-- PMC_OVERFLOW (R489). -/
def execPmcOverflow (d : Fin 40) (n : Fin 32) (events : Nat) (s : State) : Host.Outcome State Fault Refusal :=
  s.run (fun c => c.pmcOverflow d n events)

/-- BAD_SIZE_ACCESS (R440). -/
def execBadSizeAccess (h : Fin 2) (s : State) : Host.Outcome State Fault Refusal :=
  s.run (fun c => c.badSize h)

end Sys2Proof.Machine
end

