-- ==== Sys2Proof/Machine/ExecResets.lean ====
section
/-!
DEFINITION. The meanings of the commands of resets and the restart, one for each constructor, over the operations the chapters give:
RESTART, POWER_RESET, CHIP_RESET, PLANE_DATA_RESET, PLANE_CONTROL_RESET, PLANE_MGMT_RESET, REGION_RESET, BLOCK_RESET, TILE_RESET,
LINK_RESET, RESET_END.
-/

namespace Sys2Proof.Machine

/-- RESTART (R430). -/
def execRestart (b : BootFacts) (s : State) : Host.Outcome State Fault Refusal :=
  s.run (fun c => c.restart b)

/-- POWER_RESET (R429). -/
def execPowerReset (s : State) : Host.Outcome State Fault Refusal :=
  s.run (fun c => c.porReset)

/-- CHIP_RESET (R430). -/
def execChipReset (s : State) : Host.Outcome State Fault Refusal :=
  s.run (fun c => c.chipReset)

/-- PLANE_DATA_RESET (R432). -/
def execPlaneDataReset (s : State) : Host.Outcome State Fault Refusal :=
  s.run (fun c => c.planeDataReset)

/-- PLANE_CONTROL_RESET (R429). -/
def execPlaneControlReset (s : State) : Host.Outcome State Fault Refusal :=
  s.run (fun c => c.planeControlReset)

/-- PLANE_MGMT_RESET (R429). -/
def execPlaneMgmtReset (h : Fin 2) (s : State) : Host.Outcome State Fault Refusal :=
  s.run (fun c => c.planeMgmtReset h)

/-- REGION_RESET (R429). -/
def execRegionReset (d : Fin 40) (s : State) : Host.Outcome State Fault Refusal :=
  s.run (fun c => c.regionReset d)

/-- BLOCK_RESET (R429). -/
def execBlockReset (d : Fin 40) (b : Fin 8) (s : State) : Host.Outcome State Fault Refusal :=
  s.run (fun c => c.blockReset d b)

/-- TILE_RESET (R429). -/
def execTileReset (d : Fin 40) (t : Fin 128) (s : State) : Host.Outcome State Fault Refusal :=
  s.run (fun c => c.tileReset d t)

/-- LINK_RESET (R431). -/
def execLinkReset (h : Fin 2) (s : State) : Host.Outcome State Fault Refusal :=
  s.run (fun c => c.linkReset h)

/-- RESET_END (R429). -/
def execResetEnd (t : ResetTarget) (s : State) : Host.Outcome State Fault Refusal :=
  s.run (fun c => c.resetDone t)

end Sys2Proof.Machine
end

