-- ==== Sys2Proof/Machine/ExecSleep.lean ====
section
/-!
DEFINITION. The meanings of the commands of low-power states and wakes, one for each constructor, over the operations the chapters give:
BLOCK_READMIT, STALE_RELOAD_DONE, WAKE_BURST_DETECT, TILE_IDLE, RECESS_ENTRY, DEEP_RECESS_ENTRY, SLEEP_ENTRY, RECESS_WAKE, BLOCK_WAKE,
DIE_WAKE, STANDBY, WAKE, STANDBY_EXIT_DONE.
-/

namespace Sys2Proof.Machine

/-- BLOCK_READMIT (R71). -/
def execBlockReadmit (d : Fin 40) (b : Fin 8) (s : State) : Host.Outcome State Fault Refusal :=
  s.run (fun c => c.blockReadmit d b)

/-- STALE_RELOAD_DONE (R71). -/
def execStaleReloadDone (d : Fin 40) (b : Fin 8) (s : State) : Host.Outcome State Fault Refusal :=
  s.run (fun c => c.staleReloadDone d b)

/-- WAKE_BURST_DETECT (R121). -/
def execWakeBurstDetect (l : Fin 2048) (s : State) : Host.Outcome State Fault Refusal :=
  s.run (fun c => c.wakeBurstDetect l)

/-- TILE_IDLE (R423). -/
def execTileIdle (d : Fin 40) (t : Fin 128) (idle : Bool) (s : State) : Host.Outcome State Fault Refusal :=
  s.run (fun c => c.tileIdle d t idle)

/-- RECESS_ENTRY (R422). -/
def execRecessEntry (d : Fin 40) (b : Fin 8) (s : State) : Host.Outcome State Fault Refusal :=
  s.run (fun c => c.recessEntry d b)

/-- DEEP_RECESS_ENTRY (R424). -/
def execDeepRecessEntry (d : Fin 40) (b : Fin 8) (s : State) : Host.Outcome State Fault Refusal :=
  s.run (fun c => c.deepRecessEntry d b)

/-- SLEEP_ENTRY (R425). -/
def execSleepEntry (d : Fin 40) (s : State) : Host.Outcome State Fault Refusal :=
  s.run (fun c => c.sleepEntry d)

/-- RECESS_WAKE (R423). -/
def execRecessWake (d : Fin 40) (b : Fin 8) (s : State) : Host.Outcome State Fault Refusal :=
  s.run (fun c => c.recessWake d b)

/-- BLOCK_WAKE (R428). -/
def execBlockWake (d : Fin 40) (b : Fin 8) (s : State) : Host.Outcome State Fault Refusal :=
  s.run (fun c => c.blockWake d b)

/-- DIE_WAKE (R427). -/
def execDieWake (d : Fin 40) (s : State) : Host.Outcome State Fault Refusal :=
  s.run (fun c => c.dieWake d)

/-- STANDBY (R426). -/
def execStandby (o : Origin) (s : State) : Host.Outcome State Fault Refusal :=
  s.run (fun c => c.cmdStandby o)

/-- WAKE (R448). -/
def execWake (o : Origin) (s : State) : Host.Outcome State Fault Refusal :=
  s.run (fun c => c.cmdWake o)

/-- STANDBY_EXIT_DONE (R422). -/
def execStandbyExitDone (s : State) : Host.Outcome State Fault Refusal :=
  s.run (fun c => c.standbyExitDone)

end Sys2Proof.Machine
end

