-- ==== Sys2Proof/Machine/ExecSwitching.lean ====
section
/-!
DEFINITION. The meanings of the commands of the switching path, one for each constructor, over the operations the chapters give:
CELL_INGRESS, UPLINK_SCHEDULE, SAF_HOLD_EXPIRY, ENVELOPE_LAND_CORE, CROSSBAR_ARBITRATE, ENVELOPE_LAND_EGRESS, STALLED_CELL_PLACE,
LANE_ASSIGN, LANE_CELL_SLOT, D2D_BEAT_UNCORRECTABLE, D2D_REPLAY_LIMIT, D2D_RETRAIN_DONE, ENV_CREDIT_RETURN, LANDING_CREDIT_RETURN,
HOLD_MASK_SAMPLE, HOLD_MASK_RELAY, HOLD_MASK_APPLY, SPILL_UNPARK, SPILL_LIFETIME_EXPIRY, SPILL_EXPIRY_WINDOW_END, LEVEL_SAT_DWELL,
SHAPER_REFILL, POLICER_REFILL, LAUNCH_PREPARE, LATE_LAUNCH.
-/

namespace Sys2Proof.Machine

/-- CELL_INGRESS (R186). -/
def execCellIngress (l : Fin 2048) (x : Cell) (ecc : Bool) (s : State) : Host.Outcome State Fault Refusal :=
  s.run (fun c => c.cellIngress l x ecc)

/-- UPLINK_SCHEDULE (R202). -/
def execUplinkSchedule (d : Fin 32) (s : State) : Host.Outcome State Fault Refusal :=
  s.run (fun c => c.uplinkSchedule d)

/-- SAF_HOLD_EXPIRY (R195). -/
def execSafHoldExpiry (d : Fin 32) (e : Fin 40) (cls : Fin 8) (s : State) : Host.Outcome State Fault Refusal :=
  s.run (fun c => c.safHoldExpiry d e cls)

/-- ENVELOPE_LAND_CORE (R206). -/
def execEnvelopeLandCore (d : Fin 32) (k : Fin 8) (s : State) : Host.Outcome State Fault Refusal :=
  s.run (fun c => c.landCore d k)

/-- CROSSBAR_ARBITRATE (R207). -/
def execCrossbarArbitrate (k : Fin 8) (s : State) : Host.Outcome State Fault Refusal :=
  s.run (fun c => c.arbitrate k)

/-- ENVELOPE_LAND_EGRESS (R209). -/
def execEnvelopeLandEgress (d : Fin 32) (k : Fin 8) (s : State) : Host.Outcome State Fault Refusal :=
  s.run (fun c => c.landEgress d k)

/-- STALLED_CELL_PLACE (R229). -/
def execStalledCellPlace (d : Fin 32) (s : State) : Host.Outcome State Fault Refusal :=
  s.run (fun c => c.placeStalled d)

/-- LANE_ASSIGN (R211). -/
def execLaneAssign (d : Fin 32) (s : State) : Host.Outcome State Fault Refusal :=
  s.run (fun c => c.laneAssign d)

/-- LANE_CELL_SLOT (R252). -/
def execLaneCellSlot (l : Fin 2048) (s : State) : Host.Outcome State Fault Refusal :=
  s.run (fun c => c.laneCellSlot l)

/-- D2D_BEAT_UNCORRECTABLE (R197). -/
def execD2dBeatUncorrectable (d : Fin 32) (k : Fin 8) (up : Bool) (again : Bool) (s : State) : Host.Outcome State Fault Refusal :=
  s.run (fun c => c.beatBad d k up again)

/-- D2D_REPLAY_LIMIT (R197). -/
def execD2dReplayLimit (d : Fin 32) (k : Fin 8) (up : Bool) (s : State) : Host.Outcome State Fault Refusal :=
  s.run (fun c => c.replayLimit d k up)

/-- D2D_RETRAIN_DONE (R197). -/
def execD2dRetrainDone (d : Fin 32) (k : Fin 8) (s : State) : Host.Outcome State Fault Refusal :=
  s.run (fun c => c.retrainDone d k)

/-- ENV_CREDIT_RETURN (R200). -/
def execEnvCreditReturn (d : Fin 32) (k : Fin 8) (e : Fin 40) (s : State) : Host.Outcome State Fault Refusal :=
  s.run (fun c => c.envCreditReturn d k e)

/-- LANDING_CREDIT_RETURN (R201). -/
def execLandingCreditReturn (d : Fin 32) (k : Fin 8) (s : State) : Host.Outcome State Fault Refusal :=
  s.run (fun c => c.landCreditReturn d k)

/-- HOLD_MASK_SAMPLE (R227). -/
def execHoldMaskSample (d : Fin 32) (s : State) : Host.Outcome State Fault Refusal :=
  s.run (fun c => c.holdSample d)

/-- HOLD_MASK_RELAY (R227). -/
def execHoldMaskRelay (k : Fin 8) (s : State) : Host.Outcome State Fault Refusal :=
  s.run (fun c => c.holdRelay k)

/-- HOLD_MASK_APPLY (R227). -/
def execHoldMaskApply (d : Fin 32) (s : State) : Host.Outcome State Fault Refusal :=
  s.run (fun c => c.holdApply d)

/-- SPILL_UNPARK (R236). -/
def execSpillUnpark (k : Fin 8) (e : Fin 32) (s : State) : Host.Outcome State Fault Refusal :=
  s.run (fun c => c.spillUnpark k e)

/-- SPILL_LIFETIME_EXPIRY (R237). -/
def execSpillLifetimeExpiry (k : Fin 8) (e : Fin 32) (cls : Fin 8) (s : State) : Host.Outcome State Fault Refusal :=
  s.run (fun c => c.spillExpire k e cls)

/-- SPILL_EXPIRY_WINDOW_END (R237). -/
def execSpillExpiryWindowEnd (k : Fin 8) (s : State) : Host.Outcome State Fault Refusal :=
  s.run (fun c => c.spillWindowEnd k)

/-- LEVEL_SAT_DWELL (R243). -/
def execLevelSatDwell (what : Fin 5) (d : Fin 40) (u : Fin 64) (enter : Bool) (us : Nat) (s : State) : Host.Outcome State Fault Refusal :=
  if satUnit what d u then s.run (fun c => c.levelSat what d u enter us) else .fault .illFormed

/-- SHAPER_REFILL (R256). -/
def execShaperRefill (d : Fin 32) (p : Fin 64) (sh : Fin 9) (s : State) : Host.Outcome State Fault Refusal :=
  s.run (fun c => c.shaperRefill d p sh)

/-- POLICER_REFILL (R261). -/
def execPolicerRefill (d : Fin 32) (p : Fin 64) (cls : Fin 4) (s : State) : Host.Outcome State Fault Refusal :=
  s.run (fun c => c.policerRefill d p cls)

/-- LAUNCH_PREPARE (R266). -/
def execLaunchPrepare (d : Fin 32) (i : Fin 256) (s : State) : Host.Outcome State Fault Refusal :=
  s.run (fun c => c.launchPrepare d i)

/-- LATE_LAUNCH (R266). -/
def execLateLaunch (d : Fin 32) (p : Fin 64) (cls : Fin 8) (s : State) : Host.Outcome State Fault Refusal :=
  s.run (fun c => c.lateLaunch d p cls)

end Sys2Proof.Machine
end

