-- ==== Sys2Proof/Machine/ExecTables.lean ====
section
/-!
DEFINITION. The meanings of the commands of tables, staging, audits and scrubs, one for each constructor, over the operations the chapters
give: LEAK_AUDIT_DUE, LEAK_AUDIT_DONE, TBL_NONE, TBL_WRITE, TBL_INSERT, TBL_DELETE, TBL_READ, TBL_CLEAR, FLOW_LEARN_INSERT,
TABLE_SCRUB_DUE, TABLE_SCRUB_DONE, STG_OPEN, STG_CLOSE, STG_FORCE_CLOSE, STAGE_REPAIR, STAGE_RELEASE, HBM_SCRUB_DUE, HBM_SCRUB_DONE.
-/

namespace Sys2Proof.Machine

/-- LEAK_AUDIT_DUE (R239). -/
def execLeakAuditDue (d : Fin 40) (pool : Fin 9) (s : State) : Host.Outcome State Fault Refusal :=
  if poolOf d pool then s.run (fun c => c.leakAuditDue d pool) else .fault .illFormed

/-- LEAK_AUDIT_DONE (R240). -/
def execLeakAuditDone (d : Fin 40) (pool : Fin 9) (linkBad : Bool) (s : State) : Host.Outcome State Fault Refusal :=
  if poolOf d pool then s.run (fun c => c.leakAuditDone d pool linkBad) else .fault .illFormed

/-- TBL_NONE (R270). -/
def execTblNone (d : Fin 32) (s : State) : Host.Outcome State Fault Refusal :=
  s.run (fun c => c.tblNone d)

/-- TBL_WRITE (R270). -/
def execTblWrite (d : Fin 32) (s : State) : Host.Outcome State Fault Refusal :=
  s.run (fun c => c.tblWrite d)

/-- TBL_INSERT (R276). -/
def execTblInsert (d : Fin 32) (s : State) : Host.Outcome State Fault Refusal :=
  s.run (fun c => c.tblInsert d)

/-- TBL_DELETE (R270). -/
def execTblDelete (d : Fin 32) (s : State) : Host.Outcome State Fault Refusal :=
  s.run (fun c => c.tblDelete d)

/-- TBL_READ (R270). -/
def execTblRead (d : Fin 32) (s : State) : Host.Outcome State Fault Refusal :=
  s.run (fun c => c.tblRead d)

/-- TBL_CLEAR (R270). -/
def execTblClear (d : Fin 32) (s : State) : Host.Outcome State Fault Refusal :=
  s.run (fun c => c.tblClear d)

/-- FLOW_LEARN_INSERT (R279). -/
def execFlowLearnInsert (d : Fin 32) (s : State) : Host.Outcome State Fault Refusal :=
  s.run (fun c => c.learnInsert d)

/-- TABLE_SCRUB_DUE (R277). -/
def execTableScrubDue (d : Fin 32) (s : State) : Host.Outcome State Fault Refusal :=
  s.run (fun c => c.tableScrubDue d)

/-- TABLE_SCRUB_DONE (R277). -/
def execTableScrubDone (d : Fin 32) (corr : Nat) (bad : List (Nat × Nat)) (s : State) : Host.Outcome State Fault Refusal :=
  if bad.all (fun e => decide (e.1 < 3) && decide (e.2 < 2 ^ 20)) then s.run (fun c => c.tableScrubDone d corr bad) else .fault .illFormed

/-- STG_OPEN (R284). -/
def execStgOpen (k : Fin 8) (s : State) : Host.Outcome State Fault Refusal :=
  s.run (fun c => c.stgOpen k)

/-- STG_CLOSE (R286). -/
def execStgClose (k : Fin 8) (s : State) : Host.Outcome State Fault Refusal :=
  s.run (fun c => c.stgClose k)

/-- STG_FORCE_CLOSE (R286). -/
def execStgForceClose (k : Fin 8) (s : State) : Host.Outcome State Fault Refusal :=
  s.run (fun c => c.stgForceClose k)

/-- STAGE_REPAIR (R285). -/
def execStageRepair (l : Fin 2048) (k : Fin 8) (slot : Fin 4) (src : BitVec 20) (tag : BitVec 32) (first : BitVec 22) (last : BitVec 22)
    (s : State) : Host.Outcome State Fault Refusal :=
  s.run (fun c => (c.popSwitchMsg 0x0010).stageRepair l k slot src.toNat tag.toNat first.toNat last.toNat)

/-- STAGE_RELEASE (R285). -/
def execStageRelease (l : Fin 2048) (k : Fin 8) (slot : Fin 4) (src : BitVec 20) (tag : BitVec 32)
    (s : State) : Host.Outcome State Fault Refusal :=
  s.run (fun c => (c.popSwitchMsg 0x0011).stageRelease l k slot src.toNat tag.toNat)

/-- HBM_SCRUB_DUE (R482). -/
def execHbmScrubDue (k : Fin 8) (stack : Fin 2) (s : State) : Host.Outcome State Fault Refusal :=
  s.run (fun c => c.hbmScrubDue k stack)

/-- HBM_SCRUB_DONE (R482). -/
def execHbmScrubDone (k : Fin 8) (stack : Fin 2) (corr : Nat) (bad : List HbmBad) (s : State) : Host.Outcome State Fault Refusal :=
  if bad.all (·.wf) then s.run (fun c => c.hbmScrubDone k stack corr bad) else .fault .illFormed

end Sys2Proof.Machine
end

