-- ==== Sys2Proof/Machine/ExecTests.lean ====
section
/-!
DEFINITION. The meanings of the commands of quizzes and the maintenance ledger, one for each constructor, over the operations the chapters
give: QUIZ_DUE, QUIZ_REQUEST, QUIZ_END, PROVISIONAL_RERUN, LEDGER_REQUEST, LEDGER_TICK, LEDGER_WAIT_NOTICE.
-/

namespace Sys2Proof.Machine

/-- QUIZ_DUE (R381). -/
def execQuizDue (u : QUnit) (s : State) : Host.Outcome State Fault Refusal :=
  if u.exists_ then s.run (fun c => c.quizDue u) else .fault .illFormed

/-- QUIZ_REQUEST (R393). -/
def execQuizRequest (d : Fin 40) (s : State) : Host.Outcome State Fault Refusal :=
  s.run (fun c => c.quizRequest d)

/-- QUIZ_END (R380). -/
def execQuizEnd (u : QUnit) (abort : Bool) (boot : Bool) (runs : List QuizRun) (s : State) : Host.Outcome State Fault Refusal :=
  if u.exists_ then s.run (fun c => c.quizEnd u abort boot runs) else .fault .illFormed

/-- PROVISIONAL_RERUN (R390). -/
def execProvisionalRerun (u : QUnit) (id : BitVec 16) (s : State) : Host.Outcome State Fault Refusal :=
  if u.exists_ then s.run (fun c => c.provisionalRerun u id.toNat) else .fault .illFormed

/-- LEDGER_REQUEST (R475). -/
def execLedgerRequest (d : Fin 40) (act : Activity) (s : State) : Host.Outcome State Fault Refusal :=
  if act.wfOn d then s.run (fun c => c.ledgerRequest d act) else .fault .illFormed

/-- LEDGER_TICK (R479). -/
def execLedgerTick (d : Fin 40) (s : State) : Host.Outcome State Fault Refusal :=
  s.run (fun c => c.ledgerTick d)

/-- LEDGER_WAIT_NOTICE (R490). -/
def execLedgerWaitNotice (d : Fin 40) (i : Fin 64) (s : State) : Host.Outcome State Fault Refusal :=
  s.run (fun c => c.waitNotice d i)

end Sys2Proof.Machine
end

