-- ==== Sys2Proof/Machine/ExecTime.lean ====
section
/-!
DEFINITION. The meanings of the commands of time and bells, one for each constructor, over the operations the chapters give: PTP_MESSAGE,
PPS_IN_EDGE, DOMAIN_HOLDOVER, DOMAIN_FAULT_CLEAR, SLEW_DONE, PPS_OUT_EDGE, TSQ_ENTRY, TSQ_TAIL_WRITE, BELL_ARM, BELL_CANCEL, BELL_FIRE,
PTM_REQUEST, PTP_DELAY_REQ_SEND, PPS_OUT_FALL.
-/

namespace Sys2Proof.Machine

/-- PTP_MESSAGE (R398). -/
def execPtpMessage (l : Fin 2048) (number : Fin 256) (raw : Int) (s : State) : Host.Outcome State Fault Refusal :=
  s.run (fun c => (c.popSwitchMsg 0x0020).ptpMessage l number raw)

/-- PPS_IN_EDGE (R399). -/
def execPpsInEdge (pin : Fin 2) (s : State) : Host.Outcome State Fault Refusal :=
  s.run (fun c => c.ppsInEdge pin)

/-- DOMAIN_HOLDOVER (R400). -/
def execDomainHoldover (x : Fin 2) (s : State) : Host.Outcome State Fault Refusal :=
  s.run (fun c => c.domainHoldover x)

/-- DOMAIN_FAULT_CLEAR (R400). -/
def execDomainFaultClear (x : Fin 2) (s : State) : Host.Outcome State Fault Refusal :=
  s.run (fun c => c.domainFaultClear x)

/-- SLEW_DONE (R402). -/
def execSlewDone (s : State) : Host.Outcome State Fault Refusal :=
  s.run (fun c => c.slewDone)

/-- PPS_OUT_EDGE (R403). -/
def execPpsOutEdge (s : State) : Host.Outcome State Fault Refusal :=
  s.run (fun c => c.ppsOutEdge)

/-- TSQ_ENTRY (R404). -/
def execTsqEntry (d : Fin 32) (s : State) : Host.Outcome State Fault Refusal :=
  s.run (fun c => c.tsqEntry d)

/-- TSQ_TAIL_WRITE (R405). -/
def execTsqTailWrite (d : Fin 32) (tail : Fin 128) (s : State) : Host.Outcome State Fault Refusal :=
  s.run (fun c => c.tsqTail d tail)

/-- BELL_ARM (R406). -/
def execBellArm (d : Fin 40) (x : Fin 2) (i : Fin 256) (s : State) : Host.Outcome State Fault Refusal :=
  s.run (fun c => c.bellArm d x i)

/-- BELL_CANCEL (R406). -/
def execBellCancel (d : Fin 40) (x : Fin 2) (i : Fin 256) (s : State) : Host.Outcome State Fault Refusal :=
  s.run (fun c => c.bellCancel d x i)

/-- BELL_FIRE (R407). -/
def execBellFire (d : Fin 40) (i : Fin 256) (s : State) : Host.Outcome State Fault Refusal :=
  s.run (fun c => c.bellFire d i)

/-- PTM_REQUEST (R438). -/
def execPtmRequest (h : Fin 2) (s : State) : Host.Outcome State Fault Refusal :=
  s.run (fun c => c.ptmRequest h)

/-- PTP_DELAY_REQ_SEND (R398). -/
def execPtpDelayReqSend (x : Fin 2) (dest : BitVec 20) (id : BitVec 16) (body : List Byte) (s : State) : Host.Outcome State Fault Refusal :=
  if decide (body.length ≤ 65000) then s.run (fun c => c.ptpDelayReq x dest.toNat id.toNat (body.map (·.toNat))) else .fault .illFormed

/-- PPS_OUT_FALL (R403). -/
def execPpsOutFall (s : State) : Host.Outcome State Fault Refusal :=
  s.run (fun c => c.ppsOutFall)

end Sys2Proof.Machine
end

