-- ==== Sys2Proof/Machine/ExecTwin.lean ====
section
/-!
DEFINITION. The meanings of the commands of the twin, one for each constructor, over the operations the chapters give: TW_BEAT_SEND,
TW_BEAT, TWIN_LOSS, TW_LOSS, PAIRING_TRY, TW_HELLO, TW_ATTEST, TW_KEM, TW_INDEX, TW_MIRROR, TW_DETACH, TW_ACK, PAIRING_TIMEOUT,
DETACH_TIMEOUT.
-/

namespace Sys2Proof.Machine

/-- TW_BEAT_SEND (R469). -/
def execTwBeatSend (s : State) : Host.Outcome State Fault Refusal :=
  s.run (fun c => c.twBeatSend)

/-- TW_BEAT (R468). -/
def execTwBeat (l : Fin 2048) (sec : BitVec 48) (nsec : BitVec 32) (last : BitVec 64) (s : State) : Host.Outcome State Fault Refusal :=
  s.run (fun c => c.twBeat l sec.toNat nsec.toNat last.toNat)

/-- TWIN_LOSS (R469). -/
def execTwinLoss (beat : Bool) (s : State) : Host.Outcome State Fault Refusal :=
  s.run (fun c => c.twinLoss beat)

/-- TW_LOSS (R469). -/
def execTwLoss (l : Fin 2048) (s : State) : Host.Outcome State Fault Refusal :=
  s.run (fun c => c.twLoss l)

/-- PAIRING_TRY (R466). -/
def execPairingTry (s : State) : Host.Outcome State Fault Refusal :=
  s.run (fun c => c.pairingTry)

/-- TW_HELLO (R467). -/
def execTwHello (l : Fin 2048) (seq : Fin 256) (digest : BitVec 128) (chainOk : Bool) (s : State) : Host.Outcome State Fault Refusal :=
  s.run (fun c => c.twHello l seq digest chainOk)

/-- TW_ATTEST (R467). -/
def execTwAttest (l : Fin 2048) (seq : Fin 256) (verifies : Bool) (fw : BitVec 32) (img : BitVec 32) (floors : List (BitVec 32))
    (s : State) : Host.Outcome State Fault Refusal :=
  if floors.length == 3 then s.run (fun c => c.twAttest l seq verifies fw.toNat img.toNat (floors.map (·.toNat))) else .fault .illFormed

/-- TW_KEM (R467). -/
def execTwKem (l : Fin 2048) (seq : Fin 256) (s : State) : Host.Outcome State Fault Refusal :=
  s.run (fun c => c.twKem l seq)

/-- TW_INDEX (R467). -/
def execTwIndex (l : Fin 2048) (seq : Fin 256) (entries : List (Nat × Nat × Nat)) (s : State) : Host.Outcome State Fault Refusal :=
  if entries.all (fun e => decide (e.1 < 4096)) then s.run (fun c => c.twIndex l seq entries) else .fault .illFormed

/-- TW_MIRROR (R468). -/
def execTwMirror (l : Fin 2048) (stream : BitVec 64) (tagOk : Bool) (r : MirrorRec) (s : State) : Host.Outcome State Fault Refusal :=
  s.run (fun c => c.twMirror l stream.toNat tagOk r)

/-- TW_DETACH (R471). -/
def execTwDetach (l : Fin 2048) (seq : Fin 256) (s : State) : Host.Outcome State Fault Refusal :=
  s.run (fun c => c.twDetach l seq)

/-- TW_ACK (R465). -/
def execTwAck (l : Fin 2048) (seq : Fin 256) (s : State) : Host.Outcome State Fault Refusal :=
  s.run (fun c => c.twAck l seq)

/-- PAIRING_TIMEOUT (R466). -/
def execPairingTimeout (s : State) : Host.Outcome State Fault Refusal :=
  s.run (fun c => c.pairingTimeout)

/-- DETACH_TIMEOUT (R466). -/
def execDetachTimeout (s : State) : Host.Outcome State Fault Refusal :=
  s.run (fun c => c.detachTimeout)

end Sys2Proof.Machine
end

