-- ==== Sys2Proof/Machine/Dispatch.lean ====
section
/-!
DEFINITION. What a command does: one arm per constructor, each a direct call of its meaning.
-/

namespace Sys2Proof.Machine

def exec (i : Instr) (s : State) : Host.Outcome State Fault Refusal :=
  match i with
  | .registerWrite v a w => Sys2Proof.Machine.execRegisterWrite v a w s
  | .latchedRead v a => Sys2Proof.Machine.execLatchedRead v a s
  | .hubHeartbeatSend h => Sys2Proof.Machine.execHubHeartbeatSend h s
  | .hubTakeover => Sys2Proof.Machine.execHubTakeover s
  | .heartbeatPathLost path => Sys2Proof.Machine.execHeartbeatPathLost path s
  | .blockFirebreakDrainTimeout d b => Sys2Proof.Machine.execBlockFirebreakDrainTimeout d b s
  | .noticeEntry d q => Sys2Proof.Machine.execNoticeEntry d q s
  | .nqTailWrite d q tail => Sys2Proof.Machine.execNqTailWrite d q tail s
  | .csStagingWrite v a w => Sys2Proof.Machine.execCsStagingWrite v a w s
  | .commitApply v d g => Sys2Proof.Machine.execCommitApply v d g s
  | .commitDiscard v d g => Sys2Proof.Machine.execCommitDiscard v d g s
  | .commitChecksDone d g => Sys2Proof.Machine.execCommitChecksDone d g s
  | .snapshotApply d g => Sys2Proof.Machine.execSnapshotApply d g s
  | .bootImageLoad => Sys2Proof.Machine.execBootImageLoad s
  | .partialLoadSwitch d => Sys2Proof.Machine.execPartialLoadSwitch d s
  | .blockReadmit d b => Sys2Proof.Machine.execBlockReadmit d b s
  | .staleReloadDone d b => Sys2Proof.Machine.execStaleReloadDone d b s
  | .fecBlockReceive l no ok corrected tag slots => Sys2Proof.Machine.execFecBlockReceive l no ok corrected tag slots s
  | .cellIngress l x ecc => Sys2Proof.Machine.execCellIngress l x ecc s
  | .fecWindowEnd d => Sys2Proof.Machine.execFecWindowEnd d s
  | .blockLockAcquire l => Sys2Proof.Machine.execBlockLockAcquire l s
  | .blockLockLoss l => Sys2Proof.Machine.execBlockLockLoss l s
  | .hello l seq sid lane role => Sys2Proof.Machine.execHello l seq sid lane role s
  | .creditInit l seq limits => Sys2Proof.Machine.execCreditInit l seq limits s
  | .creditInitAck l seq => Sys2Proof.Machine.execCreditInitAck l seq s
  | .credit l mask limits => Sys2Proof.Machine.execCredit l mask limits s
  | .creditSync l seq mask sents => Sys2Proof.Machine.execCreditSync l seq mask sents s
  | .syncReq l seq => Sys2Proof.Machine.execSyncReq l seq s
  | .drain l seq => Sys2Proof.Machine.execDrain l seq s
  | .drainAck l seq => Sys2Proof.Machine.execDrainAck l seq s
  | .resume l seq => Sys2Proof.Machine.execResume l seq s
  | .drowsy l seq depth => Sys2Proof.Machine.execDrowsy l seq depth s
  | .drowsyAck l seq => Sys2Proof.Machine.execDrowsyAck l seq s
  | .wakeReq l seq => Sys2Proof.Machine.execWakeReq l seq s
  | .awake l seq => Sys2Proof.Machine.execAwake l seq s
  | .retune l seq => Sys2Proof.Machine.execRetune l seq s
  | .retuneAck l seq status => Sys2Proof.Machine.execRetuneAck l seq status s
  | .reservedLcOp l op => Sys2Proof.Machine.execReservedLcOp l op s
  | .lcRepeatTimeout l op seq => Sys2Proof.Machine.execLcRepeatTimeout l op seq s
  | .creditAdvertiseTimer l => Sys2Proof.Machine.execCreditAdvertiseTimer l s
  | .creditSyncTimer l => Sys2Proof.Machine.execCreditSyncTimer l s
  | .trainingPhaseDone l => Sys2Proof.Machine.execTrainingPhaseDone l s
  | .trainingPhaseTimeout l => Sys2Proof.Machine.execTrainingPhaseTimeout l s
  | .helloRetry l => Sys2Proof.Machine.execHelloRetry l s
  | .trainRetry l => Sys2Proof.Machine.execTrainRetry l s
  | .drainTimeout l => Sys2Proof.Machine.execDrainTimeout l s
  | .wakeBurstDetect l => Sys2Proof.Machine.execWakeBurstDetect l s
  | .searchStart d => Sys2Proof.Machine.execSearchStart d s
  | .ringSweepDone d f r light dips => Sys2Proof.Machine.execRingSweepDone d f r light dips s
  | .ringLockCapture d f r => Sys2Proof.Machine.execRingLockCapture d f r s
  | .ringCaptureTimeout d f r => Sys2Proof.Machine.execRingCaptureTimeout d f r s
  | .toneCheckWindow d f r amp below above ref => Sys2Proof.Machine.execToneCheckWindow d f r amp below above ref s
  | .ringRecoveryDone d f r captured => Sys2Proof.Machine.execRingRecoveryDone d f r captured s
  | .lockSlip d f r => Sys2Proof.Machine.execLockSlip d f r s
  | .ringLightLoss d f r => Sys2Proof.Machine.execRingLightLoss d f r s
  | .ringLightRestored d f r => Sys2Proof.Machine.execRingLightRestored d f r s
  | .lockLoopUpdate d f r code => Sys2Proof.Machine.execLockLoopUpdate d f r code s
  | .calibrationDue l => Sys2Proof.Machine.execCalibrationDue l s
  | .calibrationDone l us => Sys2Proof.Machine.execCalibrationDone l us s
  | .fadeReading d powers spares => Sys2Proof.Machine.execFadeReading d powers spares s
  | .swapTrainTimeout l => Sys2Proof.Machine.execSwapTrainTimeout l s
  | .optReturnFromSpare d => Sys2Proof.Machine.execOptReturnFromSpare d s
  | .optCalibrateNow d => Sys2Proof.Machine.execOptCalibrateNow d s
  | .optSearchAgain d => Sys2Proof.Machine.execOptSearchAgain d s
  | .optClearFadeHold d => Sys2Proof.Machine.execOptClearFadeHold d s
  | .clearingSetup d => Sys2Proof.Machine.execClearingSetup d s
  | .clearingTeardown d => Sys2Proof.Machine.execClearingTeardown d s
  | .clearSetSend d r k => Sys2Proof.Machine.execClearSetSend d r k s
  | .clearAck l seq handle status => Sys2Proof.Machine.execClearAck l seq handle status s
  | .clearDrained l seq handle lane => Sys2Proof.Machine.execClearDrained l seq handle lane s
  | .clearDrainedTimeout d r k => Sys2Proof.Machine.execClearDrainedTimeout d r k s
  | .clearingImageTeardown d r k => Sys2Proof.Machine.execClearingImageTeardown d r k s
  | .uplinkSchedule d => Sys2Proof.Machine.execUplinkSchedule d s
  | .safHoldExpiry d e cls => Sys2Proof.Machine.execSafHoldExpiry d e cls s
  | .envelopeLandCore d k => Sys2Proof.Machine.execEnvelopeLandCore d k s
  | .crossbarArbitrate k => Sys2Proof.Machine.execCrossbarArbitrate k s
  | .envelopeLandEgress d k => Sys2Proof.Machine.execEnvelopeLandEgress d k s
  | .stalledCellPlace d => Sys2Proof.Machine.execStalledCellPlace d s
  | .laneAssign d => Sys2Proof.Machine.execLaneAssign d s
  | .laneCellSlot l => Sys2Proof.Machine.execLaneCellSlot l s
  | .d2dBeatUncorrectable d k up again => Sys2Proof.Machine.execD2dBeatUncorrectable d k up again s
  | .d2dReplayLimit d k up => Sys2Proof.Machine.execD2dReplayLimit d k up s
  | .d2dRetrainDone d k => Sys2Proof.Machine.execD2dRetrainDone d k s
  | .envCreditReturn d k e => Sys2Proof.Machine.execEnvCreditReturn d k e s
  | .landingCreditReturn d k => Sys2Proof.Machine.execLandingCreditReturn d k s
  | .holdMaskSample d => Sys2Proof.Machine.execHoldMaskSample d s
  | .holdMaskRelay k => Sys2Proof.Machine.execHoldMaskRelay k s
  | .holdMaskApply d => Sys2Proof.Machine.execHoldMaskApply d s
  | .spillUnpark k e => Sys2Proof.Machine.execSpillUnpark k e s
  | .spillLifetimeExpiry k e cls => Sys2Proof.Machine.execSpillLifetimeExpiry k e cls s
  | .spillExpiryWindowEnd k => Sys2Proof.Machine.execSpillExpiryWindowEnd k s
  | .leakAuditDue d pool => Sys2Proof.Machine.execLeakAuditDue d pool s
  | .leakAuditDone d pool linkBad => Sys2Proof.Machine.execLeakAuditDone d pool linkBad s
  | .levelSatDwell what d u enter us => Sys2Proof.Machine.execLevelSatDwell what d u enter us s
  | .shaperRefill d p sh => Sys2Proof.Machine.execShaperRefill d p sh s
  | .policerRefill d p cls => Sys2Proof.Machine.execPolicerRefill d p cls s
  | .launchPrepare d j => Sys2Proof.Machine.execLaunchPrepare d j s
  | .lateLaunch d p cls => Sys2Proof.Machine.execLateLaunch d p cls s
  | .tblNone d => Sys2Proof.Machine.execTblNone d s
  | .tblWrite d => Sys2Proof.Machine.execTblWrite d s
  | .tblInsert d => Sys2Proof.Machine.execTblInsert d s
  | .tblDelete d => Sys2Proof.Machine.execTblDelete d s
  | .tblRead d => Sys2Proof.Machine.execTblRead d s
  | .tblClear d => Sys2Proof.Machine.execTblClear d s
  | .flowLearnInsert d => Sys2Proof.Machine.execFlowLearnInsert d s
  | .tableScrubDue d => Sys2Proof.Machine.execTableScrubDue d s
  | .tableScrubDone d corr bad => Sys2Proof.Machine.execTableScrubDone d corr bad s
  | .stgOpen k => Sys2Proof.Machine.execStgOpen k s
  | .stgClose k => Sys2Proof.Machine.execStgClose k s
  | .stgForceClose k => Sys2Proof.Machine.execStgForceClose k s
  | .stageRepair l k slot src tag first last => Sys2Proof.Machine.execStageRepair l k slot src tag first last s
  | .stageRelease l k slot src tag => Sys2Proof.Machine.execStageRelease l k slot src tag s
  | .synAlloc k => Sys2Proof.Machine.execSynAlloc k s
  | .rollLoadDone n => Sys2Proof.Machine.execRollLoadDone n s
  | .synFree k => Sys2Proof.Machine.execSynFree k s
  | .dropMember k => Sys2Proof.Machine.execDropMember k s
  | .synRead k => Sys2Proof.Machine.execSynRead k s
  | .contributionCell k x => Sys2Proof.Machine.execContributionCell k x s
  | .pendingRelease k => Sys2Proof.Machine.execPendingRelease k s
  | .progressTimeout n => Sys2Proof.Machine.execProgressTimeout n s
  | .collectiveTimeout n => Sys2Proof.Machine.execCollectiveTimeout n s
  | .residueCheckDone n pos err => Sys2Proof.Machine.execResidueCheckDone n pos err s
  | .rerunVerdict n pos err differs => Sys2Proof.Machine.execRerunVerdict n pos err differs s
  | .sealNoticeGap n => Sys2Proof.Machine.execSealNoticeGap n s
  | .abortHoldExpiry n => Sys2Proof.Machine.execAbortHoldExpiry n s
  | .quarantineExpiry n => Sys2Proof.Machine.execQuarantineExpiry n s
  | .homeDieReadmit k => Sys2Proof.Machine.execHomeDieReadmit k s
  | .loadMatrix k => Sys2Proof.Machine.execLoadMatrix k s
  | .dropMatrix k => Sys2Proof.Machine.execDropMatrix k s
  | .loadRecipe k => Sys2Proof.Machine.execLoadRecipe k s
  | .dropRecipe k => Sys2Proof.Machine.execDropRecipe k s
  | .bind k => Sys2Proof.Machine.execBind k s
  | .bindZeroDone k j => Sys2Proof.Machine.execBindZeroDone k j s
  | .unbind k => Sys2Proof.Machine.execUnbind k s
  | .stateCopy k => Sys2Proof.Machine.execStateCopy k s
  | .stateCopyDone k j => Sys2Proof.Machine.execStateCopyDone k j s
  | .trfRead k => Sys2Proof.Machine.execTrfRead k s
  | .quizDue u => Sys2Proof.Machine.execQuizDue u s
  | .quizRequest d => Sys2Proof.Machine.execQuizRequest d s
  | .quizEnd u abort boot runs => Sys2Proof.Machine.execQuizEnd u abort boot runs s
  | .provisionalRerun u id => Sys2Proof.Machine.execProvisionalRerun u id s
  | .ptpMessage l number raw => Sys2Proof.Machine.execPtpMessage l number raw s
  | .ppsInEdge pin => Sys2Proof.Machine.execPpsInEdge pin s
  | .domainHoldover x => Sys2Proof.Machine.execDomainHoldover x s
  | .domainFaultClear x => Sys2Proof.Machine.execDomainFaultClear x s
  | .slewDone => Sys2Proof.Machine.execSlewDone s
  | .ppsOutEdge => Sys2Proof.Machine.execPpsOutEdge s
  | .tsqEntry d => Sys2Proof.Machine.execTsqEntry d s
  | .tsqTailWrite d tail => Sys2Proof.Machine.execTsqTailWrite d tail s
  | .bellArm d x j => Sys2Proof.Machine.execBellArm d x j s
  | .bellCancel d x j => Sys2Proof.Machine.execBellCancel d x j s
  | .bellFire d j => Sys2Proof.Machine.execBellFire d j s
  | .railWarnCrossing d rail => Sys2Proof.Machine.execRailWarnCrossing d rail s
  | .sagPinAssert => Sys2Proof.Machine.execSagPinAssert s
  | .sagClear => Sys2Proof.Machine.execSagClear s
  | .railResetCrossing rail => Sys2Proof.Machine.execRailResetCrossing rail s
  | .clk25Loss => Sys2Proof.Machine.execClk25Loss s
  | .pllLockFail d b => Sys2Proof.Machine.execPllLockFail d b s
  | .tileIdle d t idle => Sys2Proof.Machine.execTileIdle d t idle s
  | .recessEntry d b => Sys2Proof.Machine.execRecessEntry d b s
  | .deepRecessEntry d b => Sys2Proof.Machine.execDeepRecessEntry d b s
  | .sleepEntry d => Sys2Proof.Machine.execSleepEntry d s
  | .recessWake d b => Sys2Proof.Machine.execRecessWake d b s
  | .blockWake d b => Sys2Proof.Machine.execBlockWake d b s
  | .dieWake d => Sys2Proof.Machine.execDieWake d s
  | .restart b => Sys2Proof.Machine.execRestart b s
  | .powerReset => Sys2Proof.Machine.execPowerReset s
  | .chipReset => Sys2Proof.Machine.execChipReset s
  | .planeDataReset => Sys2Proof.Machine.execPlaneDataReset s
  | .planeControlReset => Sys2Proof.Machine.execPlaneControlReset s
  | .planeMgmtReset h => Sys2Proof.Machine.execPlaneMgmtReset h s
  | .regionReset d => Sys2Proof.Machine.execRegionReset d s
  | .blockReset d b => Sys2Proof.Machine.execBlockReset d b s
  | .tileReset d t => Sys2Proof.Machine.execTileReset d t s
  | .linkReset h => Sys2Proof.Machine.execLinkReset h s
  | .tempReading d t => Sys2Proof.Machine.execTempReading d t s
  | .thermalShutdown d => Sys2Proof.Machine.execThermalShutdown d s
  | .watchdogHalf h which => Sys2Proof.Machine.execWatchdogHalf h which s
  | .watchdogExpiry h which => Sys2Proof.Machine.execWatchdogExpiry h which s
  | .commandPickup h win slot cmd => Sys2Proof.Machine.execCommandPickup h win slot cmd s
  | .serialCommandStart => Sys2Proof.Machine.execSerialCommandStart s
  | .nop o => Sys2Proof.Machine.execNop o s
  | .loadImage o img => Sys2Proof.Machine.execLoadImage o img s
  | .writeImage o img => Sys2Proof.Machine.execWriteImage o img s
  | .writeRepair o r => Sys2Proof.Machine.execWriteRepair o r s
  | .loadPack o p => Sys2Proof.Machine.execLoadPack o p s
  | .enrollKey o key => Sys2Proof.Machine.execEnrollKey o key s
  | .raiseFloor o => Sys2Proof.Machine.execRaiseFloor o s
  | .writeFirmware o f => Sys2Proof.Machine.execWriteFirmware o f s
  | .commission o powers => Sys2Proof.Machine.execCommission o powers s
  | .setTod o => Sys2Proof.Machine.execSetTod o s
  | .standby o => Sys2Proof.Machine.execStandby o s
  | .wake o => Sys2Proof.Machine.execWake o s
  | .readFsig o => Sys2Proof.Machine.execReadFsig o s
  | .readRegs o => Sys2Proof.Machine.execReadRegs o s
  | .readIdentity o => Sys2Proof.Machine.execReadIdentity o s
  | .quote o => Sys2Proof.Machine.execQuote o s
  | .readLog o => Sys2Proof.Machine.execReadLog o s
  | .controlOrder o => Sys2Proof.Machine.execControlOrder o s
  | .switchMessageComplete msg forTwin tagOk => Sys2Proof.Machine.execSwitchMessageComplete msg forTwin tagOk s
  | .order => Sys2Proof.Machine.execOrder s
  | .sInit client cert forTwin => Sys2Proof.Machine.execSInit client cert forTwin s
  | .sConfirm n seq sigOk tagOk => Sys2Proof.Machine.execSConfirm n seq sigOk tagOk s
  | .sClose n seq tagOk => Sys2Proof.Machine.execSClose n seq tagOk s
  | .sessionIdleTimeout h n => Sys2Proof.Machine.execSessionIdleTimeout h n s
  | .commandMessage n seq tagOk cmd => Sys2Proof.Machine.execCommandMessage n seq tagOk cmd s
  | .dataMessage n seq tagOk offset op => Sys2Proof.Machine.execDataMessage n seq tagOk offset op s
  | .getSetpoint => Sys2Proof.Machine.execGetSetpoint s
  | .getTemp => Sys2Proof.Machine.execGetTemp s
  | .getStatus => Sys2Proof.Machine.execGetStatus s
  | .getIdentity => Sys2Proof.Machine.execGetIdentity s
  | .twBeatSend => Sys2Proof.Machine.execTwBeatSend s
  | .twBeat l sec nsec last => Sys2Proof.Machine.execTwBeat l sec nsec last s
  | .twinLoss beat => Sys2Proof.Machine.execTwinLoss beat s
  | .twLoss l => Sys2Proof.Machine.execTwLoss l s
  | .pairingTry => Sys2Proof.Machine.execPairingTry s
  | .twHello l seq digest chainOk => Sys2Proof.Machine.execTwHello l seq digest chainOk s
  | .twAttest l seq verifies fw img floors => Sys2Proof.Machine.execTwAttest l seq verifies fw img floors s
  | .twKem l seq => Sys2Proof.Machine.execTwKem l seq s
  | .twIndex l seq entries => Sys2Proof.Machine.execTwIndex l seq entries s
  | .twMirror l stream tagOk r => Sys2Proof.Machine.execTwMirror l stream tagOk r s
  | .twDetach l seq => Sys2Proof.Machine.execTwDetach l seq s
  | .twAck l seq => Sys2Proof.Machine.execTwAck l seq s
  | .pairingTimeout => Sys2Proof.Machine.execPairingTimeout s
  | .detachTimeout => Sys2Proof.Machine.execDetachTimeout s
  | .ledgerRequest d act => Sys2Proof.Machine.execLedgerRequest d act s
  | .ledgerTick d => Sys2Proof.Machine.execLedgerTick d s
  | .ledgerWaitNotice d j => Sys2Proof.Machine.execLedgerWaitNotice d j s
  | .hbmScrubDue k stack => Sys2Proof.Machine.execHbmScrubDue k stack s
  | .hbmScrubDone k stack corr bad => Sys2Proof.Machine.execHbmScrubDone k stack corr bad s
  | .pmcLoRead v d n => Sys2Proof.Machine.execPmcLoRead v d n s
  | .pmcHiWrite d n w => Sys2Proof.Machine.execPmcHiWrite d n w s
  | .pmcLoWrite d n w => Sys2Proof.Machine.execPmcLoWrite d n w s
  | .pmcOverflow d n events => Sys2Proof.Machine.execPmcOverflow d n events s
  | .ringLightAppears d f ring => Sys2Proof.Machine.execRingLightAppears d f ring s
  | .pllLossOfLock d b => Sys2Proof.Machine.execPllLossOfLock d b s
  | .uplinkSchedulerFault d => Sys2Proof.Machine.execUplinkSchedulerFault d s
  | .slotCrossbarFault k => Sys2Proof.Machine.execSlotCrossbarFault k s
  | .firmwareGoDark => Sys2Proof.Machine.execFirmwareGoDark s
  | .resetEnd t => Sys2Proof.Machine.execResetEnd t s
  | .standbyExitDone => Sys2Proof.Machine.execStandbyExitDone s
  | .recipeStepsDone n pos ecc => Sys2Proof.Machine.execRecipeStepsDone n pos ecc s
  | .recordCopyDone k j => Sys2Proof.Machine.execRecordCopyDone k j s
  | .ptmRequest h => Sys2Proof.Machine.execPtmRequest h s
  | .ptpDelayReqSend x dest id body => Sys2Proof.Machine.execPtpDelayReqSend x dest id body s
  | .ppsOutFall => Sys2Proof.Machine.execPpsOutFall s
  | .badSizeAccess h => Sys2Proof.Machine.execBadSizeAccess h s

end Sys2Proof.Machine
end

