-- ==== Sys2Proof/WellFormed.lean ====
section
/-!
DEFINITION. Which commands are well formed: the operand types already bound most operands; what remains are the lengths of lists, units
that do not exist, and fields of a host command beyond their width. A meaning answers the fault `illFormed` for any other command.
-/

namespace Sys2Proof

open Machine

/-- Is a command well formed? -/
def Instr.wf : Instr → Bool
  | .registerWrite _ _ _ => true
  | .latchedRead _ _ => true
  | .hubHeartbeatSend _ => true
  | .hubTakeover => true
  | .heartbeatPathLost _ => true
  | .blockFirebreakDrainTimeout _ _ => true
  | .noticeEntry _ _ => true
  | .nqTailWrite _ _ _ => true
  | .csStagingWrite _ _ _ => true
  | .commitApply _ _ _ => true
  | .commitDiscard _ _ _ => true
  | .commitChecksDone _ _ => true
  | .snapshotApply _ _ => true
  | .bootImageLoad => true
  | .partialLoadSwitch _ => true
  | .blockReadmit _ _ => true
  | .staleReloadDone _ _ => true
  | .fecBlockReceive _ _ _ _ _ slots => slots.length == 32
  | .cellIngress _ _ _ => true
  | .fecWindowEnd _ => true
  | .blockLockAcquire _ => true
  | .blockLockLoss _ => true
  | .hello _ _ _ _ _ => true
  | .creditInit _ _ limits => limits.length == 8
  | .creditInitAck _ _ => true
  | .credit _ _ limits => limits.length == 8
  | .creditSync _ _ _ sents => sents.length == 8
  | .syncReq _ _ => true
  | .drain _ _ => true
  | .drainAck _ _ => true
  | .resume _ _ => true
  | .drowsy _ _ _ => true
  | .drowsyAck _ _ => true
  | .wakeReq _ _ => true
  | .awake _ _ => true
  | .retune _ _ => true
  | .retuneAck _ _ _ => true
  | .reservedLcOp _ _ => true
  | .lcRepeatTimeout _ _ _ => true
  | .creditAdvertiseTimer _ => true
  | .creditSyncTimer _ => true
  | .trainingPhaseDone _ => true
  | .trainingPhaseTimeout _ => true
  | .helloRetry _ => true
  | .trainRetry _ => true
  | .drainTimeout _ => true
  | .wakeBurstDetect _ => true
  | .searchStart _ => true
  | .ringSweepDone _ _ _ _ _ => true
  | .ringLockCapture _ _ _ => true
  | .ringCaptureTimeout _ _ _ => true
  | .toneCheckWindow _ _ _ _ _ _ _ => true
  | .ringRecoveryDone _ _ _ _ => true
  | .lockSlip _ _ _ => true
  | .ringLightLoss _ _ _ => true
  | .ringLightRestored _ _ _ => true
  | .lockLoopUpdate _ _ _ _ => true
  | .calibrationDue _ => true
  | .calibrationDone _ _ => true
  | .fadeReading _ powers spares => powers.length == 64 && spares.length == 8
  | .swapTrainTimeout _ => true
  | .optReturnFromSpare _ => true
  | .optCalibrateNow _ => true
  | .optSearchAgain _ => true
  | .optClearFadeHold _ => true
  | .clearingSetup _ => true
  | .clearingTeardown _ => true
  | .clearSetSend _ _ _ => true
  | .clearAck _ _ _ _ => true
  | .clearDrained _ _ _ _ => true
  | .clearDrainedTimeout _ _ _ => true
  | .clearingImageTeardown _ _ _ => true
  | .uplinkSchedule _ => true
  | .safHoldExpiry _ _ _ => true
  | .envelopeLandCore _ _ => true
  | .crossbarArbitrate _ => true
  | .envelopeLandEgress _ _ => true
  | .stalledCellPlace _ => true
  | .laneAssign _ => true
  | .laneCellSlot _ => true
  | .d2dBeatUncorrectable _ _ _ _ => true
  | .d2dReplayLimit _ _ _ => true
  | .d2dRetrainDone _ _ => true
  | .envCreditReturn _ _ _ => true
  | .landingCreditReturn _ _ => true
  | .holdMaskSample _ => true
  | .holdMaskRelay _ => true
  | .holdMaskApply _ => true
  | .spillUnpark _ _ => true
  | .spillLifetimeExpiry _ _ _ => true
  | .spillExpiryWindowEnd _ => true
  | .leakAuditDue d pool => poolOf d pool
  | .leakAuditDone d pool _ => poolOf d pool
  | .levelSatDwell what d u _ _ => satUnit what d u
  | .shaperRefill _ _ _ => true
  | .policerRefill _ _ _ => true
  | .launchPrepare _ _ => true
  | .lateLaunch _ _ _ => true
  | .tblNone _ => true
  | .tblWrite _ => true
  | .tblInsert _ => true
  | .tblDelete _ => true
  | .tblRead _ => true
  | .tblClear _ => true
  | .flowLearnInsert _ => true
  | .tableScrubDue _ => true
  | .tableScrubDone _ _ bad => bad.all (fun e => decide (e.1 < 3) && decide (e.2 < 2 ^ 20))
  | .stgOpen _ => true
  | .stgClose _ => true
  | .stgForceClose _ => true
  | .stageRepair _ _ _ _ _ _ _ => true
  | .stageRelease _ _ _ _ _ => true
  | .synAlloc _ => true
  | .rollLoadDone _ => true
  | .synFree _ => true
  | .dropMember _ => true
  | .synRead _ => true
  | .contributionCell _ _ => true
  | .pendingRelease _ => true
  | .progressTimeout _ => true
  | .collectiveTimeout _ => true
  | .residueCheckDone _ _ _ => true
  | .rerunVerdict _ _ _ _ => true
  | .sealNoticeGap _ => true
  | .abortHoldExpiry _ => true
  | .quarantineExpiry _ => true
  | .homeDieReadmit _ => true
  | .loadMatrix _ => true
  | .dropMatrix _ => true
  | .loadRecipe _ => true
  | .dropRecipe _ => true
  | .bind _ => true
  | .bindZeroDone _ _ => true
  | .unbind _ => true
  | .stateCopy _ => true
  | .stateCopyDone _ _ => true
  | .trfRead _ => true
  | .quizDue u => u.exists_
  | .quizRequest _ => true
  | .quizEnd u _ _ _ => u.exists_
  | .provisionalRerun u _ => u.exists_
  | .ptpMessage _ _ _ => true
  | .ppsInEdge _ => true
  | .domainHoldover _ => true
  | .domainFaultClear _ => true
  | .slewDone => true
  | .ppsOutEdge => true
  | .tsqEntry _ => true
  | .tsqTailWrite _ _ => true
  | .bellArm _ _ _ => true
  | .bellCancel _ _ _ => true
  | .bellFire _ _ => true
  | .railWarnCrossing _ _ => true
  | .sagPinAssert => true
  | .sagClear => true
  | .railResetCrossing _ => true
  | .clk25Loss => true
  | .pllLockFail _ _ => true
  | .tileIdle _ _ _ => true
  | .recessEntry _ _ => true
  | .deepRecessEntry _ _ => true
  | .sleepEntry _ => true
  | .recessWake _ _ => true
  | .blockWake _ _ => true
  | .dieWake _ => true
  | .restart _ => true
  | .powerReset => true
  | .chipReset => true
  | .planeDataReset => true
  | .planeControlReset => true
  | .planeMgmtReset _ => true
  | .regionReset _ => true
  | .blockReset _ _ => true
  | .tileReset _ _ => true
  | .linkReset _ => true
  | .tempReading _ _ => true
  | .thermalShutdown _ => true
  | .watchdogHalf _ _ => true
  | .watchdogExpiry _ _ => true
  | .commandPickup _ _ _ cmd => cmd.wf
  | .serialCommandStart => true
  | .nop _ => true
  | .loadImage _ _ => true
  | .writeImage _ _ => true
  | .writeRepair _ _ => true
  | .loadPack _ _ => true
  | .enrollKey _ _ => true
  | .raiseFloor _ => true
  | .writeFirmware _ _ => true
  | .commission _ powers => powers.all (fun e => decide (e.1 < 2048))
  | .setTod _ => true
  | .standby _ => true
  | .wake _ => true
  | .readFsig _ => true
  | .readRegs _ => true
  | .readIdentity _ => true
  | .quote _ => true
  | .readLog _ => true
  | .controlOrder _ => true
  | .switchMessageComplete msg _ _ => msg.kind == 5 && decide (msg.body.length ≤ 65000)
  | .order => true
  | .sInit _ _ _ => true
  | .sConfirm _ _ _ _ => true
  | .sClose _ _ _ => true
  | .sessionIdleTimeout _ _ => true
  | .commandMessage _ _ _ cmd => cmd.wf
  | .dataMessage _ _ _ _ _ => true
  | .getSetpoint => true
  | .getTemp => true
  | .getStatus => true
  | .getIdentity => true
  | .twBeatSend => true
  | .twBeat _ _ _ _ => true
  | .twinLoss _ => true
  | .twLoss _ => true
  | .pairingTry => true
  | .twHello _ _ _ _ => true
  | .twAttest _ _ _ _ _ floors => floors.length == 3
  | .twKem _ _ => true
  | .twIndex _ _ entries => entries.all (fun e => decide (e.1 < 4096))
  | .twMirror _ _ _ _ => true
  | .twDetach _ _ => true
  | .twAck _ _ => true
  | .pairingTimeout => true
  | .detachTimeout => true
  | .ledgerRequest d act => act.wfOn d
  | .ledgerTick _ => true
  | .ledgerWaitNotice _ _ => true
  | .hbmScrubDue _ _ => true
  | .hbmScrubDone _ _ _ bad => bad.all (·.wf)
  | .pmcLoRead _ _ _ => true
  | .pmcHiWrite _ _ _ => true
  | .pmcLoWrite _ _ _ => true
  | .pmcOverflow _ _ _ => true
  | .ringLightAppears _ _ _ => true
  | .pllLossOfLock _ _ => true
  | .uplinkSchedulerFault _ => true
  | .slotCrossbarFault _ => true
  | .firmwareGoDark => true
  | .resetEnd _ => true
  | .standbyExitDone => true
  | .recipeStepsDone _ _ _ => true
  | .recordCopyDone _ _ => true
  | .ptmRequest _ => true
  | .ptpDelayReqSend _ _ _ body => decide (body.length ≤ 65000)
  | .ppsOutFall => true
  | .badSizeAccess _ => true

end Sys2Proof
end

