-- ==== Sys2Proof/Safety.lean ====
section
/-!
DEFINITION. What a sound state is: the hubs' memories in canonical form, and nothing in them while a reset of the whole chip lasts; and
what a safe run is: no step of it stops.
-/

namespace Sys2Proof.Machine

/-- Hub memory is in canonical form: addresses strictly rising, no byte equal to what an unlisted one reads as. -/
def Memory.wf (m : List Host.Cell) : Bool := SMap.wf memReset m

/-- The memories of a state are sound. -/
def State.memOk (s : State) : Bool :=
  Memory.wf s.lpddrA && Memory.wf s.lpddrB && (s.chip.pw.chipReset == 0 || (s.lpddrA.isEmpty && s.lpddrB.isEmpty))

/-- Every command that waits is well formed. -/
def State.queueOk (s : State) : Bool := s.pending.all (fun i => i.wf)

/-- The state a command leaves when it makes the chip c: the firebreaks it has triggered have acted (R21) and the twin has heard (R468). -/
def State.after (s : State) (c : Chip) : State := s.withChip (s.settled c)

/-- Between commands no firebreak trigger waits. -/
def State.calm (s : State) : Bool := s.chip.integ.due.isEmpty

/-- A step does not stop. -/
def State.safe (s : State) : Prop := ∃ t, step s = .next t

end Sys2Proof.Machine
end

