-- ==== Sys2Proof/Certificates/Slice0/Obligations.lean ====
section
/-!
DEFINITION. What the model claims: statements for the provers, family by family, from the spec's numbered rules. `s.after c` is the
state a command leaves when it makes the chip c; `s.calm` says that no firebreak trigger waits, as between commands.
-/

open Sys2Proof Sys2Proof.Machine

/-- A step runs the command at the front of the queue, and a word is never a command. (00_scope.md, Terms and nicknames, log 3) -/
def Obligations.StepRunsTheFrontCommand : Prop :=
  (∀ (i : Instr) (t : List Instr) (s : State), s.pending = i :: t → step s = exec i { s with pending := t }) ∧
  (∀ (s : State) (n w : Nat), s.withFetchWord n w = s)

/-- With no command waiting one core cycle passes (the model's choice, log 3). (14_time_and_bells.md R395, log 3) -/
def Obligations.EmptyQueueIsOneCoreCycle : Prop :=
  ∀ s : State, s.calm = true → s.pending = [] → ∃ t, step s = .next t ∧ t.pending = [] ∧ t.chip.cycle = s.chip.cycle + 1 ∧
    s.chip.now ≤ t.chip.now ∧ (∀ a, t.chip.rd a = s.chip.rd a)

/-- Every step keeps the hubs' memories in canonical form, and empty while a reset of the whole chip lasts. (16_management_security_twin.md
R439, 15_power_clocks_reset.md R430, log 2) -/
def Obligations.EveryStepKeepsHubMemoryCanonical : Prop :=
  ∀ s t : State, s.memOk = true → step s = .next t → t.memOk = true

/-- Right after reset the hubs' memories are sound and empty. (15_power_clocks_reset.md R429, log 2) -/
def Obligations.ResetMemoryIsCanonical : Prop :=
  State.reset.memOk = true ∧ State.reset.pending = [] ∧ ∀ h a, State.reset.read h a = (memReset a).toNat

/-- A step on a queue of well-formed commands never stops and leaves a queue of well-formed commands. (00_scope.md, Terms and nicknames,
log 3) -/
def Obligations.WellFormedQueueNeverStops : Prop :=
  ∀ s : State, s.queueOk = true → ∃ t, step s = .next t ∧ t.pending = s.pending.tail ∧ t.queueOk = true

/-- A command that is not well formed faults and nothing else does. (03_cells_and_links.md R96, 98_reader.md) -/
def Obligations.IllFormedCommandFaults : Prop :=
  ∀ (i : Instr) (s : State), (i.wf = false → exec i s = .fault .illFormed) ∧
    (i.wf = true → ∃ t, exec i s = .next t ∧ t.pending = s.pending)

/-- Only the commands that store in hub memory change it. (16_management_security_twin.md R439, 12_transforms_and_optimizer.md R366) -/
def Obligations.OnlySixCommandsWriteHubMemory : Prop :=
  ∀ (i : Instr) (s t : State),
    (match i with | .stateCopyDone .. | .readFsig .. | .readIdentity .. | .quote .. | .readLog .. | .dataMessage .. => False | _ => True) →
    exec i s = .next t →
      (t.chip.pw.chipReset = 0 → t.lpddrA = s.lpddrA ∧ t.lpddrB = s.lpddrB ∧ ∀ h a, t.read h a = s.read h a) ∧
      (t.chip.pw.chipReset ≠ 0 → t.lpddrA = [] ∧ t.lpddrB = [])

/-- A register write sets RW bits, clears W1C bits written 1 and leaves every other bit and register alone. (00_scope.md R9, 00_scope.md
R8, 01_architecture.md R29) -/
def Obligations.RegisterWriteFollowsAccessCodes : Prop :=
  ∀ (v : Via) (a : BitVec 32) (w : Word) (s : State) (r : RegRow) (is : List Nat), s.calm = true → s.chip.viaLive v = true →
    a.toNat / 0x04000000 < 40 → regRow a.toNat = some (r, is) → writable r = true → r.isCommit = false → isCs a.toNat = false → s.chip.pw.chipReset = 0 →
    a.toNat % 0x04000000 ∉ [0x03E00000, 0x03E00004, 0x03800100, 0x03820014, 0x03820034, 0x03A00010, 0x03900030] →
    a.toNat % 0x04000000 / 0x1000 ≠ 0x03D00 →
    ∃ t, exec (.registerWrite v a w) s = .next t ∧
      (∀ i, i < 32 →
        let rw := r.fields.any (fun f => f.acc = .rw && decide (f.lo ≤ i) && decide (i < f.lo + f.width))
        let wc := r.fields.any (fun f => f.acc = .w1c && decide (f.lo ≤ i) && decide (i < f.lo + f.width))
        (rw = true → wc = false → (t.chip.rd a.toNat).getLsbD i = w.getLsbD i) ∧
        (wc = true → rw = false → (t.chip.rd a.toNat).getLsbD i = ((s.chip.rd a.toNat).getLsbD i && !w.getLsbD i)) ∧
        (rw = false → wc = false → (t.chip.rd a.toNat).getLsbD i = (s.chip.rd a.toNat).getLsbD i)) ∧
      (∀ b, b ≠ a.toNat → t.chip.rd b = s.chip.rd b) ∧ (∀ b, t.chip.rdS b = s.chip.rdS b) ∧
      t.lpddrA = s.lpddrA ∧ t.lpddrB = s.lpddrB

/-- A write to a CS, COMMIT or queue-pointer register is the command it stands for; a write that reaches no register is dropped.
(00_scope.md R9, 01_architecture.md R29, 01_architecture.md R37, 02_eufen_image.md R66, 02_eufen_image.md R67,
16_management_security_twin.md R440, 16_management_security_twin.md R442) -/
def Obligations.RegisterWriteSpecialForms : Prop :=
  (∀ (v : Via) (a : BitVec 32) (w : Word) (s : State) (r : RegRow) (is : List Nat), s.chip.viaLive v = true →
    a.toNat / 0x04000000 < 40 → regRow a.toNat = some (r, is) → r.isCommit = false → isCs a.toNat = true →
    exec (.registerWrite v a w) s = exec (.csStagingWrite v a w) s) ∧
  (∀ (v : Via) (a : BitVec 32) (w : Word) (s : State) (r : RegRow) (is : List Nat) (d : Fin 40) (g : Fin 384), s.chip.viaLive v = true →
    a.toNat / 0x04000000 = d.val → regRow a.toNat = some (r, is) → r.isCommit = true → writable r = true → groupOf a.toNat = some g.val →
    (bitOf w.toNat 1 = true → exec (.registerWrite v a w) s = exec (.commitDiscard v d g) s) ∧
    (bitOf w.toNat 1 = false → bitOf w.toNat 0 = true → exec (.registerWrite v a w) s = exec (.commitApply v d g) s)) ∧
  (∀ (v : Via) (a : BitVec 32) (w : Word) (s : State) (r : RegRow) (is : List Nat) (d : Fin 40) (q : Fin 2) (tail : Fin 2048), s.chip.viaLive v = true →
    a.toNat = nqPtr d q → regRow a.toNat = some (r, is) → r.isCommit = false → writable r = true → isCs a.toNat = false →
    tail.val = getBits w nqTail → exec (.registerWrite v a w) s = exec (.nqTailWrite d q tail) s) ∧
  (∀ (h : Fin 2) (a : BitVec 32) (w : Word) (s : State), s.calm = true → s.chip.viaLive (.host h) = true →
    a.toNat / 0x04000000 < 40 → regRow a.toNat = none →
    ∃ t, exec (.registerWrite (.host h) a w) s = .next t ∧
      t.chip.get (R.MGT_BAR_ERR (hubDie h)) F.MGT_BAR_ERR_DROPPED = min 65535 (s.chip.get (R.MGT_BAR_ERR (hubDie h)) F.MGT_BAR_ERR_DROPPED + 1) ∧
      ∀ b, b ≠ R.MGT_BAR_ERR (hubDie h) → t.chip.rd b = s.chip.rd b) ∧
  (∀ (h : Fin 2) (a : BitVec 32) (w : Word) (s : State), regRow a.toNat = none →
    exec (.registerWrite (.ctl h) a w) s = .next (s.after s.chip) ∧ exec (.registerWrite (.mgmt h) a w) s = .next (s.after s.chip))

/-- Staging, APPLY, DISCARD, the checks and the apply of a commit group. (02_eufen_image.md R66, 02_eufen_image.md R67, 02_eufen_image.md
R69, 02_eufen_image.md R70, 02_eufen_image.md R74) -/
def Obligations.CommitGroupsStageCheckAndApply : Prop :=
  (∀ (v : Via) (a : BitVec 32) (w : Word) (s : State) (r : RegRow) (is : List Nat) (g : Nat), s.calm = true → s.chip.viaLive v = true →
    isCs a.toNat = true → regRow a.toNat = some (r, is) → groupOf a.toNat = some g →
    ∃ t, exec (.csStagingWrite v a w) s = .next t ∧
      (∀ i, i < 32 → (t.chip.rdS a.toNat).getLsbD i = if (accMask r.fields .cs).getLsbD i then w.getLsbD i else (s.chip.rdS a.toNat).getLsbD i) ∧
      (∀ b, b ≠ a.toNat → t.chip.rdS b = s.chip.rdS b) ∧ t.chip.dirty (a.toNat / 0x04000000) g = true ∧
      ∀ b, b ≠ R.CFG_CSTAT (a.toNat / 0x04000000) g → t.chip.rd b = s.chip.rd b) ∧
  (∀ (v : Via) (d : Fin 40) (g : Fin 384) (s : State), s.calm = true → s.chip.viaLive v = true → groupHere d g = true →
    s.chip.frozen = false → s.chip.regionLoading d = false → s.chip.snap d g = none → s.chip.applyBells d g = [] →
    s.chip.dirty d g = true → s.chip.holdsFields d g = true →
    ∃ t, exec (.commitApply v d g) s = .next t ∧
      t.chip.snap d g = some ⟨s.chip.stagedVals d g, false, false, v.isCtl, s.chip.slot⟩ ∧
      t.chip.dirty d g = false ∧ t.chip.flag (R.CFG_CSTAT d g) F.CFG_CSTAT_PENDING = true ∧
      ∀ b, b ≠ R.CFG_CSTAT d g → t.chip.rd b = s.chip.rd b) ∧
  (∀ (v : Via) (d : Fin 40) (g : Fin 384) (s : State), s.calm = true → s.chip.viaLive v = true → groupHere d g = true →
    ∃ t, exec (.commitDiscard v d g) s = .next t ∧ (∀ a ∈ groupAddrs d g, t.chip.rdS a = s.chip.rd a) ∧
      t.chip.dirty d g = false ∧ t.chip.get (R.CFG_CSTAT d g) F.CFG_CSTAT_STATUS = 7 ∧
      ∀ b, b ≠ R.CFG_CSTAT d g → t.chip.rd b = s.chip.rd b) ∧
  (∀ (d : Fin 40) (g : Fin 384) (s : State) (x : Snapshot), s.calm = true → s.chip.orders = [] → s.chip.snap d g = some x →
    x.checked = false → (s.chip.groupChecks (s.chip.viewOf x.vals) d g).all (fun b => b) = true →
    ∃ t, exec (.commitChecksDone d g) s = .next t ∧ t.chip.snap d g = some { x with checked := true } ∧ ∀ b, t.chip.rd b = s.chip.rd b) ∧
  (∀ (d : Fin 40) (g : Fin 384) (s : State) (x : Snapshot), s.calm = true → s.chip.orders = [] → s.chip.snap d g = some x →
    x.checked = true → x.ctl = false → g.val ∈ [0x001, 0x002, 0x004, 0x005, 0x009] →
    SMap.get (fun _ => none) s.chip.bellApply (snapKey d g) = none → SMap.get (fun _ => []) s.chip.bellWaits (snapKey d g) = [] →
    (∀ a ∈ x.vals, a.1 ≠ R.CFG_GEN d) →
    ∃ t, exec (.snapshotApply d g) s = .next t ∧
      (∀ b, b ≠ R.CFG_CSTAT d g → b ≠ R.CFG_GEN d → (∀ k, k < 8 → b ≠ R.CFG_BLK_TAG d k) → t.chip.rd b = (s.chip.viewOf x.vals).rd b) ∧
      t.chip.rd (R.CFG_GEN d) = s.chip.rd (R.CFG_GEN d) + 1 ∧ t.chip.snap d g = none ∧
      t.chip.get (R.CFG_CSTAT d g) F.CFG_CSTAT_STATUS = 0 ∧ t.chip.flag (R.CFG_CSTAT d g) F.CFG_CSTAT_PENDING = false)

/-- A staged notice enters its queue; in reserve only a FAULT does; a full queue turns it away, counts it and sets its overflow bit.
(01_architecture.md R36) -/
def Obligations.NoticesEnterTheirQueue : Prop :=
  (∀ (d : Fin 40) (q : Fin 2) (s : State) (x : Staged) (l : List Staged), s.calm = true →
    orderBy stagedRank (SMap.get (fun _ => []) s.chip.nq.staged (d * 2 + q)) = x :: l →
    SMap.get (fun _ => 0) s.chip.nq.next (d * 2 + q) ≤ s.chip.cycle →
    (s.chip.nqCount d q ≤ 960 ∨ (s.chip.nqCount d q < 1024 ∧ entrySev x.entry = 2)) →
    ∃ t, exec (.noticeEntry d q) s = .next t ∧
      SMap.get (fun _ => 0) t.chip.nq.entries ((d * 2 + q) * 1024 + s.chip.get (nqPtr d q) nqHead % 1024) = x.entry ∧
      (∀ k, k ≠ (d.val * 2 + q.val) * 1024 + s.chip.get (nqPtr d q) nqHead % 1024 → SMap.get (fun _ => 0) t.chip.nq.entries k = SMap.get (fun _ => 0) s.chip.nq.entries k) ∧
      t.chip.get (nqPtr d q) nqHead = (s.chip.get (nqPtr d q) nqHead + 1) % 2048 ∧
      SMap.get (fun _ => []) t.chip.nq.staged (d * 2 + q) = l ∧ SMap.get (fun _ => 0) t.chip.nq.next (d * 2 + q) = s.chip.cycle + 2) ∧
  (∀ (d : Fin 40) (q : Fin 2) (s : State) (x : Staged) (l : List Staged), s.calm = true →
    orderBy stagedRank (SMap.get (fun _ => []) s.chip.nq.staged (d * 2 + q)) = x :: l →
    SMap.get (fun _ => 0) s.chip.nq.next (d * 2 + q) ≤ s.chip.cycle → 960 < s.chip.nqCount d q → (s.chip.nqCount d q < 1024 → entrySev x.entry ≠ 2) →
    ∃ t, exec (.noticeEntry d q) s = .next t ∧ SMap.get (fun _ => []) t.chip.nq.staged (d * 2 + q) = l ∧
      t.chip.nq.entries = s.chip.nq.entries ∧ t.chip.rd (nqPtr d q) = s.chip.rd (nqPtr d q) ∧
      t.chip.get (R.FLT_NQ_LOST d) (nqLost q) = min 65535 (s.chip.get (R.FLT_NQ_LOST d) (nqLost q) + 1) ∧
      t.chip.flag (R.FLT_NQ_STATUS d) (nqOvf q) = (decide (1024 ≤ s.chip.nqCount d q) || s.chip.flag (R.FLT_NQ_STATUS d) (nqOvf q))) ∧
  (∀ (d : Fin 40) (q : Fin 2) (tail : Fin 2048) (s : State), s.calm = true →
    ∃ t, exec (.nqTailWrite d q tail) s = .next t ∧ t.chip.get (nqPtr d q) nqTail = tail ∧
      t.chip.get (nqPtr d q) nqHead = s.chip.get (nqPtr d q) nqHead ∧ t.chip.nq.entries = s.chip.nq.entries ∧
      ∀ a, a ≠ nqPtr d q → a ≠ R.FLT_NQ_STATUS d → t.chip.rd a = s.chip.rd a)

/-- A 48-bit counter is loaded, read and overflows whole. (17_maintenance_and_counters.md R488, 17_maintenance_and_counters.md R489,
00_scope.md R7) -/
def Obligations.CountersAreReadAndWrittenWhole : Prop :=
  (∀ (d : Fin 40) (n : Fin 32) (w : Word) (s : State), s.calm = true → ∃ t, exec (.pmcHiWrite d n w) s = .next t ∧
      SMap.get (fun _ => {}) t.chip.pmc.prog (d * 32 + n) = { SMap.get (fun _ => {}) s.chip.pmc.prog (d * 32 + n) with staged := w.toNat % 65536 } ∧
      (∀ k, k ≠ d.val * 32 + n.val → SMap.get (fun _ => {}) t.chip.pmc.prog k = SMap.get (fun _ => {}) s.chip.pmc.prog k) ∧
      ∀ a, t.chip.rd a = s.chip.rd a) ∧
  (∀ (d : Fin 40) (n : Fin 32) (w : Word) (s : State), s.calm = true → ∃ t, exec (.pmcLoWrite d n w) s = .next t ∧
      (SMap.get (fun _ => {}) t.chip.pmc.prog (d * 32 + n)).count = (SMap.get (fun _ => {}) s.chip.pmc.prog (d * 32 + n)).staged * 2 ^ 32 + w.toNat ∧
      (∀ k, k ≠ d.val * 32 + n.val → SMap.get (fun _ => {}) t.chip.pmc.prog k = SMap.get (fun _ => {}) s.chip.pmc.prog k) ∧
      ∀ a, t.chip.rd a = s.chip.rd a) ∧
  (∀ (v : Via) (d : Fin 40) (n : Fin 40) (s : State), s.calm = true → s.chip.isolated d = false → ∃ t, exec (.pmcLoRead v d n) s = .next t ∧
      t.chip.lastRead = BitVec.ofNat 32 (s.chip.pmcCount d n) ∧
      SMap.get (fun _ => none) t.chip.latch (if n.val < 32 then R.PMC_CNT_HI d n else R.PMC_FIX_HI d (n - 32)) =
        some (BitVec.ofNat 32 (s.chip.pmcCount d n / 2 ^ 32)) ∧
      (∀ k, t.chip.pmcCount d k = s.chip.pmcCount d k) ∧ ∀ a, t.chip.rd a = s.chip.rd a) ∧
  (∀ (d : Fin 40) (n : Fin 32) (events : Nat) (s : State) (x : Counter), s.calm = true →
    SMap.get (fun _ => {}) s.chip.pmc.prog (d * 32 + n) = x → getBits x.sel F.PMC_SEL_ENABLE = 1 →
    2 ^ 48 ≤ x.count + events →
    ∃ t, exec (.pmcOverflow d n events) s = .next t ∧
      (SMap.get (fun _ => {}) t.chip.pmc.prog (d * 32 + n)).count =
        ((if x.period = 0 then 0 else 2 ^ 48 - x.period) + (x.count + events - 2 ^ 48)) % 2 ^ 48 ∧
      bitOf (SMap.get (fun _ => 0) t.chip.pmc.ovf d) n = true ∧ ∀ a, t.chip.rd a = s.chip.rd a)

/-- A read of a low part latches the high part, which answers the next read; an access of a wrong size is counted. (00_scope.md R7,
16_management_security_twin.md R440) -/
def Obligations.LatchedReadsAndBadSizes : Prop :=
  (∀ (v : Via) (a : BitVec 32) (s : State) (w : Word), s.calm = true → SMap.get (fun _ => none) s.chip.latch a.toNat = some w →
    ∃ t, exec (.latchedRead v a) s = .next t ∧ t.chip.lastRead = w ∧ SMap.get (fun _ => none) t.chip.latch a.toNat = none ∧
      ∀ b, t.chip.rd b = s.chip.rd b) ∧
  (∀ (v : Via) (a : BitVec 32) (s : State) (h : Nat), s.calm = true → SMap.get (fun _ => none) s.chip.latch a.toNat = none →
    pmcLoAt (a.toNat % 0x04000000) = none → a.toNat / 0x04000000 < 40 → regExists a.toNat = true → highParts (a.toNat % 0x04000000) = [h] →
    ∃ t, exec (.latchedRead v a) s = .next t ∧ t.chip.lastRead = s.chip.readReg v a.toNat ∧
      SMap.get (fun _ => none) t.chip.latch (dieBase (a.toNat / 0x04000000) + h) = some (s.chip.readReg v (dieBase (a.toNat / 0x04000000) + h)) ∧
      ∀ b, t.chip.rd b = s.chip.rd b) ∧
  (∀ (v : Via) (a : BitVec 32) (s : State), s.calm = true → SMap.get (fun _ => none) s.chip.latch a.toNat = none →
    pmcLoAt (a.toNat % 0x04000000) = none → highParts (a.toNat % 0x04000000) = [] →
    ∃ t, exec (.latchedRead v a) s = .next t ∧ t.chip.lastRead = s.chip.readReg v a.toNat ∧ ∀ b, t.chip.rd b = s.chip.rd b) ∧
  (∀ (h : Fin 2) (s : State), s.calm = true → (s.chip.hub h).linkUp = true →
    ∃ t, exec (.badSizeAccess h) s = .next t ∧
      t.chip.get (R.MGT_BAR_ERR (hubDie h)) F.MGT_BAR_ERR_BAD_SIZE = min 65535 (s.chip.get (R.MGT_BAR_ERR (hubDie h)) F.MGT_BAR_ERR_BAD_SIZE + 1) ∧
      ∀ b, b ≠ R.MGT_BAR_ERR (hubDie h) → t.chip.rd b = s.chip.rd b)

/-- Heartbeats, watchdog half-time and the board controller's requests. (01_architecture.md R17, 16_management_security_twin.md R472,
15_power_clocks_reset.md R438) -/
def Obligations.HubsBeatAndAnswerTheBoard : Prop :=
  (∀ (h : Fin 2) (s : State), (s.chip.hub h).mgmtUp = true →
    exec (.hubHeartbeatSend h) s = .next (s.after (s.chip.modHub h (fun x => { x with beatsSent := x.beatsSent + 1 })))) ∧
  (∀ (h : Fin 2) (w : Fin 3) (s : State), s.chip.dogRuns h (w + 1) = true →
    exec (.watchdogHalf h w) s = .next (s.after (s.chip.signal h 67))) ∧
  (∀ (s : State) (h : Nat), s.chip.primary = some h → (s.chip.hub h).mgmtUp = true →
    exec .getSetpoint s = .next (s.after (s.chip.modHub h (fun x => { x with mctp := x.mctp ++
      [[1, s.chip.get (R.PWR_VCORE (hubDie h)) F.PWR_VCORE_SETPOINT]] }))) ∧
    exec .getTemp s = .next (s.after (s.chip.modHub h (fun x => { x with mctp := x.mctp ++
      [[2, s.chip.get (R.PWR_TEMP_CHIP (hubDie h)) F.PWR_TEMP_CHIP_HOT, s.chip.get (R.PWR_TEMP_CHIP (hubDie h)) F.PWR_TEMP_CHIP_DIE]] }))) ∧
    exec .getStatus s = .next (s.after (s.chip.modHub h (fun x => { x with mctp := x.mctp ++
      [[3, s.chip.sagN.toNat, s.chip.faultN.toNat, s.chip.get (R.MGT_ROLE 32) F.MGT_ROLE_PRIMARY, s.chip.get (R.MGT_ROLE 39) F.MGT_ROLE_PRIMARY,
        s.chip.get (R.PWR_RST_STAT (hubDie h)) F.PWR_RST_STAT_LAST]] }))) ∧
    exec .getIdentity s = .next (s.after (s.chip.modHub h (fun x => { x with mctp := x.mctp ++ [4 :: leBytes 32 identityDigest] }))))

/-- A takeover moves the primary role and fences the old hub; a lost heartbeat path moves no role; a watchdog that expires resets.
(01_architecture.md R17, 16_management_security_twin.md R454, 16_management_security_twin.md R457) -/
def Obligations.TheStandbyHubTakesOver : Prop :=
  (∀ (s : State) (h : Nat), s.calm = true → s.chip.primary = some h → s.chip.isolated (hubDie (1 - h)) = false →
    (s.chip.hub (1 - h)).fenced = false → (s.chip.hub (1 - h)).idOk = true →
    ∃ t, exec .hubTakeover s = .next t ∧ t.chip.primary = some (1 - h) ∧ (t.chip.hub h).fenced = true ∧ (t.chip.hub h).sessions = [] ∧
      (t.chip.hub (1 - h)).fenced = false) ∧
  (∀ (s : State) (h : Nat) (path : Fin 2), s.calm = true → s.chip.primary = some h →
    ∃ t, exec (.heartbeatPathLost path) s = .next t ∧ (t.chip.hub 0).pathLost = 2 ^ path.val ∧ (t.chip.hub 1).pathLost = 2 ^ path.val ∧
      t.chip.primary = some h ∧ (t.chip.hub h).fenced = (s.chip.hub h).fenced) ∧
  (∀ (s : State) (h : Fin 2) (w : Fin 3), s.chip.dogRuns h (w + 1) = true →
    exec (.watchdogExpiry h w) s = .next (s.after
      (((if w = 0 then s.chip.planeMgmtReset h else if w = 1 then s.chip.planeControlReset else s.chip.chipReset).incSat
        (R.MGT_WDOG (hubDie h)) F.MGT_WDOG_EXPIRED 1).hostEvent h 0x83 (w + 1))))

/-- Each hardware fault raises the firebreak trigger R19 names, and a chip trigger makes the chip dark. (01_architecture.md R19,
01_architecture.md R21, 01_architecture.md R26, 15_power_clocks_reset.md R416) -/
def Obligations.FaultsRaiseTheirFirebreakTriggers : Prop :=
  (∀ (d : Fin 40) (s : State),
    exec (.pllLossOfLock d none) s = .next (s.after (s.chip.fbDue ⟨3, d, 0, 0x0B⟩)) ∧
    exec (.pllLockFail d none) s = .next (s.after (s.chip.fbDue ⟨3, d, 0, 0x0B⟩))) ∧
  (∀ (d : Fin 40) (b : Fin 8) (s : State),
    exec (.pllLossOfLock d (some b)) s = .next (s.after (s.chip.fbDue ⟨2, d, b, 0x08⟩)) ∧
    exec (.pllLockFail d (some b)) s = .next (s.after (s.chip.fbDue ⟨2, d, b, 0x08⟩))) ∧
  (∀ (d : Fin 32) (s : State), exec (.uplinkSchedulerFault d) s = .next (s.after (s.chip.fbDue ⟨3, d, 0, 0x0C⟩))) ∧
  (∀ (k : Fin 8) (s : State), exec (.slotCrossbarFault k) s = .next (s.after (s.chip.fbDue ⟨3, 32 + k, 0, 0x0D⟩))) ∧
  (∀ (d : Fin 32) (b : Fin 8) (l : Nat) (s : State), s.chip.blockFb d b = true → l ∈ blockLanes d b →
    (s.chip.laneState l = LS.active ∨ s.chip.laneState l = LS.draining) →
    exec (.blockFirebreakDrainTimeout d b) s = .next (s.after (s.chip.fbDue ⟨3, d, 0, 0x0E⟩))) ∧
  (∀ (s : State), s.calm = true → s.chip.darkChip = false →
    ∃ t, exec .firmwareGoDark s = .next t ∧ t.chip.darkChip = true ∧ t.chip.faultN = false)

/-- What a FEC block, a FEC window's end and block lock do. (03_cells_and_links.md R96, 03_cells_and_links.md R98, 03_cells_and_links.md
R99, 03_cells_and_links.md R100) -/
def Obligations.FecBlocksAndBlockLock : Prop :=
  (∀ (l : Fin 2048) (no : Fin 65536) (corrected : Nat) (tag : Fin 256) (slots : List (Option Cell)) (s : State), slots.length = 32 →
    s.chip.lcOpen l = true → (s.chip.lane l).lock = true →
    ((s.chip.lane l).blockNo = none ∨ ∃ p, (s.chip.lane l).blockNo = some p ∧ no.val = (p + 1) % 65536) →
    (s.chip.flag (R.PRT_LPARTNER (laneDie l) (laneLocal l)) F.PRT_LPARTNER_VALID = false ∨
      tag.val % 64 = s.chip.get (R.PRT_LPARTNER (laneDie l) (laneLocal l)) F.PRT_LPARTNER_LANE) →
    exec (.fecBlockReceive l no true corrected tag slots) s = .next (s.after
      ((((((s.chip.modLane l (fun y => { y with blockNo := some no })).incSat (R.PRT_FEC_CORR (laneDie l) (laneLocal l))
        F.PRT_FEC_CORR_COUNT corrected).pmcEvent (laneDie l) 0x012 (some (laneLocal l)) none corrected).modLane l
        (fun y => { y with rx := y.rx ++ (slots.filterMap id).filter (fun v => !v.isLc) })).modLane l (fun y => { y with tagMiss := 0 }))))) ∧
  (∀ (l : Fin 2048) (no : Fin 65536) (corrected : Nat) (tag : Fin 256) (slots : List (Option Cell)) (p : Nat) (s : State), slots.length = 32 →
    s.chip.lcOpen l = true → (s.chip.lane l).lock = true → (s.chip.lane l).blockNo = some p →
    exec (.fecBlockReceive l no false corrected tag slots) s = .next (s.after
      (((((s.chip.modLane l (fun y => { y with blockNo := some ((p + 1) % 65536) })).incSat (R.PRT_FEC_UNCORR (laneDie l) (laneLocal l))
        F.PRT_FEC_UNCORR_TOTAL 1).incSat (R.PRT_FEC_UNCORR (laneDie l) (laneLocal l)) F.PRT_FEC_UNCORR_WINDOW 1).pmcEvent (laneDie l) 0x013
        (some (laneLocal l)) none 1).lcRequest l 0x06 []))) ∧
  (∀ (d : Fin 32) (s : State), s.calm = true →
    (∀ i, i < 64 → s.chip.get (R.PRT_FEC_UNCORR d i) F.PRT_FEC_UNCORR_WINDOW ≤ s.chip.get (R.PRT_FEC_LIMIT d) F.PRT_FEC_LIMIT_LIMIT) →
    ∃ t, exec (.fecWindowEnd d) s = .next t ∧ ∀ i, i < 64 → t.chip.get (R.PRT_FEC_UNCORR d i) F.PRT_FEC_UNCORR_WINDOW = 0 ∧
      t.chip.get (R.PRT_FEC_UNCORR d i) F.PRT_FEC_UNCORR_TOTAL = s.chip.get (R.PRT_FEC_UNCORR d i) F.PRT_FEC_UNCORR_TOTAL) ∧
  (∀ (l : Fin 2048) (s : State), s.chip.lcOpen l = true →
    exec (.blockLockAcquire l) s = .next (s.after (s.chip.modLane l (fun x => { x with lock := true, blockNo := none })))) ∧
  (∀ (l : Fin 2048) (s : State), s.chip.lcOpen l = true → (s.chip.lane l).lock = true →
    (s.chip.laneState l = LS.training → exec (.blockLockLoss l) s = .next (s.after
      (s.chip.modLane l (fun x => { x with lock := false, blockNo := none, reqs := [] })))) ∧
    (receives (s.chip.laneState l) = true → exec (.blockLockLoss l) s = .next (s.after
      (((s.chip.laneTo l LS.training 2).trainAt l 3 (s.chip.flag (lstat l) F.PRT_LSTAT_FAST)).linkLost l))))

/-- HELLO and the credit messages on an open lane. (03_cells_and_links.md R101, 03_cells_and_links.md R103, 03_cells_and_links.md R105,
03_cells_and_links.md R107, 03_cells_and_links.md R109, 03_cells_and_links.md R110, 03_cells_and_links.md R111, 03_cells_and_links.md
R117) -/
def Obligations.LinkControlExchangesIdentityAndCredits : Prop :=
  ∀ (l : Fin 2048) (seq : Fin 256) (s : State), s.chip.lcOpen l = true →
    (∀ (sid : BitVec 20) (lane : Fin 64) (role : Fin 4), s.chip.laneState l ≠ LS.training →
      let a := R.PRT_LPARTNER (laneDie l) (laneLocal l)
      let c1 := (((s.chip.set a F.PRT_LPARTNER_SWITCH_ID sid.toNat).set a F.PRT_LPARTNER_LANE lane).set a F.PRT_LPARTNER_ROLE role).set a F.PRT_LPARTNER_VALID 1
      ((s.chip.lane l).waits 0x01 seq = true → exec (.hello l seq sid lane role) s = .next (s.after (c1.lcAnswered l 0x01 seq))) ∧
      ((s.chip.lane l).waits 0x01 seq = false → exec (.hello l seq sid lane role) s = .next (s.after (c1.lcSend l 0x01 seq (c1.helloBody l))))) ∧
    (∀ limits : List (BitVec 24), limits.length = 8 →
      ((s.chip.lane l).acted? 0x02 seq = false → exec (.creditInit l seq limits) s = .next (s.after
        (((s.chip.lcActed l 0x02 seq).modLane l (fun x => { x with sent := [], txInit := true, txLimit := (List.range 8).foldl (fun m k => cntSet m k (nth (limits.map (·.toNat)) k)) [] })).lcSend l 0x03 seq []))) ∧
      ((s.chip.lane l).acted? 0x02 seq = true → exec (.creditInit l seq limits) s = .next (s.after (s.chip.lcSend l 0x03 seq [])))) ∧
    ((s.chip.lane l).waits 0x02 seq = true → exec (.creditInitAck l seq) s = .next (s.after
      ((s.chip.lcAnswered l 0x02 seq).modLane l (fun x => { x with rxInit := true })))) ∧
    (∀ (mask : BitVec 8) (limits : List (BitVec 24)), limits.length = 8 → exec (.credit l mask limits) s = .next (s.after
      (s.chip.modLane l (fun x => { x with txMask := mask.toNat, txLimit := (setBitsOf 8 mask.toNat).foldl (fun m k =>
                                            cntSet m k (limitForward (cnt m k) (nth (limits.map (·.toNat)) k))) x.txLimit })))) ∧
    (∀ old new : Nat, limitForward old new = if (new + 2 ^ 24 - old) % 2 ^ 24 < 2 ^ 23 then new % 2 ^ 24 else old) ∧
    (∀ (sents : List (BitVec 24)), sents.length = 8 → (s.chip.lane l).drain = none → s.chip.twinSt ≠ 2 → s.calm = true →
      ∃ t, exec (.creditSync l seq 0 sents) s = .next t ∧ (t.chip.lane l).received = (s.chip.lane l).received ∧
        (t.chip.lane l).reqs = (s.chip.lane l).reqs.filter (fun r => !(r.op == 0x06 && r.seq == seq.val)) ∧ ∀ a, t.chip.rd a = s.chip.rd a) ∧
    (exec (.syncReq l seq) s = .next (s.after ((s.chip.lcSend l 0x05 seq (creditBody (s.chip.losslessMask (laneDie l))
      ((List.range 8).map (cnt (s.chip.lane l).sent)))).modLane l (fun x => { x with syncDue := false })))) ∧
    (∀ k, k < 8 → s.chip.lossless (laneDie l) k = true → 1 ≤ s.chip.creditAdvance l k → s.chip.creditAdvance l k < 2 ^ 23 →
      exec (.creditAdvertiseTimer l) s = .next (s.after (s.chip.sendCredit l))) ∧
    ((s.chip.lane l).syncDue = true → exec (.creditSyncTimer l) s = .next (s.after (s.chip.sendCreditSync l))) ∧
    (∀ op : Fin 256, knownOp op = false → exec (.reservedLcOp l op) s = .next (s.after
      (s.chip.incSat (R.PRT_RX_ERR (laneDie l) (laneLocal l)) F.PRT_RX_ERR_HDR_ERR 1)))

/-- DRAIN, DRAIN_ACK, RESUME, the drain limit and unanswered requests. (03_cells_and_links.md R104, 03_cells_and_links.md R105,
03_cells_and_links.md R106, 03_cells_and_links.md R119, 03_cells_and_links.md R511) -/
def Obligations.DrainsAndResumesAnswerEachOther : Prop :=
  ∀ (l : Fin 2048) (seq : Fin 256) (s : State), s.chip.lcOpen l = true →
    (s.chip.laneState l = LS.active → (s.chip.lane l).acted? 0x07 seq = false → exec (.drain l seq) s = .next (s.after
      ((((((((s.chip.lcActed l 0x07 seq).modLane l (fun x => { x with reqs := x.reqs.filter (fun r => r.op != 0x0A) })).laneTo l LS.draining 4).modLane l
        (fun x => { x with drain := some ⟨0, true, false⟩ })).lcSend l 0x08 seq []).sendCreditSync l).clrPortCheck l).entryCheck (laneDie l) (laneBlock l)))) ∧
    (s.chip.laneState l ≠ LS.active ∨ (s.chip.lane l).acted? 0x07 seq = true → exec (.drain l seq) s = .next (s.after
      ((s.chip.lcActed l 0x07 seq).lcSend l 0x08 seq []))) ∧
    ((s.chip.lane l).waits 0x07 seq = true → exec (.drainAck l seq) s = .next (s.after
      ((((s.chip.lcAnswered l 0x07 seq).modLane l (fun x => { x with drain := x.drain.map (fun v => { v with acked := true }) })).sendCreditSync
        l).drainStep l))) ∧
    ((s.chip.lane l).waits 0x07 seq = false → (s.chip.lane l).waits 0x09 seq = true → s.chip.laneState l ≠ LS.training →
      exec (.drainAck l seq) s = .next (s.after ((s.chip.lcAnswered l 0x09 seq).modLane l (fun x => { x with wait := false })))) ∧
    ((s.chip.lane l).waits 0x09 seq = true → exec (.resume l seq) s = .next (s.after ((s.chip.lcAnswered l 0x09 seq).resumed l))) ∧
    ((s.chip.lane l).waits 0x09 seq = false → (s.chip.laneState l = LS.active ∨ s.chip.laneState l = LS.drained) →
      (s.chip.mayResume l = true → exec (.resume l seq) s = .next (s.after ((s.chip.lcSend l 0x09 seq []).resumed l))) ∧
      (s.chip.mayResume l = false → exec (.resume l seq) s = .next (s.after (s.chip.lcSend l 0x08 seq [])))) ∧
    (∀ (op : Fin 256) (q : LcReq), (s.chip.lane l).reqs.find? (fun r => r.op == op.val && r.seq == seq.val) = some q →
      (q.repeats < 8 → exec (.lcRepeatTimeout l op seq) s = .next (s.after
        (((s.chip.modLane l (fun x => { x with reqs := x.reqs.map (fun r => if r.op = op.val ∧ r.seq = seq.val then { r with repeats := r.repeats + 1 } else r) })).incSat
          (R.PRT_LC_STAT (laneDie l) (laneLocal l)) F.PRT_LC_STAT_RETRIES 1).lcSend l op seq q.body))) ∧
      (8 ≤ q.repeats → exec (.lcRepeatTimeout l op seq) s = .next (s.after
        (((s.chip.incSat (R.PRT_LC_STAT (laneDie l) (laneLocal l)) F.PRT_LC_STAT_FAILURES 1).lcAnswered l op seq).lcFailure l q)))) ∧
    (s.chip.laneState l = LS.draining → s.chip.planeRuns (laneDie l) = true → exec (.drainTimeout l) s = .next (s.after
      (((s.chip.laneTo l LS.drained 6).modLane l (fun x => { x with drain := none, reqs := x.reqs.filter (fun r => r.op != 0x07) })).afterDrained l)))

/-- DROWSY, WAKE_REQ, AWAKE and RETUNE with their answers. (03_cells_and_links.md R106, 03_cells_and_links.md R120, 03_cells_and_links.md
R121, 03_cells_and_links.md R122) -/
def Obligations.DrowsyWakeAndRetuneExchanges : Prop :=
  ∀ (l : Fin 2048) (seq : Fin 256) (s : State), s.chip.lcOpen l = true →
    (∀ depth : Fin 256, s.chip.laneState l = LS.active → (s.chip.lane l).waitsOp 0x07 = false → (s.chip.lane l).acted? 0x0A seq = false →
      1 ≤ depth.val → depth.val ≤ 3 → exec (.drowsy l seq depth) s = .next (s.after
        (((((s.chip.lcActed l 0x0A seq).laneMove l LS.drowsy).set (lstat l) F.PRT_LSTAT_DEPTH depth).modLane l (fun x => { x with mine := false })).lcSend
          l 0x0B seq []))) ∧
    (∀ r : LcReq, (s.chip.lane l).reqs.find? (fun r => r.op == 0x0A && r.seq == seq.val) = some r → exec (.drowsyAck l seq) s = .next (s.after
      ((((((s.chip.lcAnswered l 0x0A seq).laneMove l LS.drowsy).set (lstat l) F.PRT_LSTAT_DEPTH (nth r.body 0)).modLane l
        (fun x => { x with mine := true })).entryCheck (laneDie l) (laneBlock l)).sleepCheck (laneDie l)))) ∧
    (s.chip.laneState l = LS.drowsy → s.chip.blkSt (laneDie l) (laneBlock l) = 0 → exec (.wakeReq l seq) s = .next (s.after
      ((s.chip.modLane l (fun x => { x with wakeSeq := some seq.val })).sendAwake l))) ∧
    (s.chip.laneState l = LS.active → (s.chip.lane l).waitsOp 0x0A = false → exec (.wakeReq l seq) s = .next (s.after (s.chip.lcSend l 0x0D seq []))) ∧
    (s.chip.laneState l ≠ LS.drowsy → exec (.awake l seq) s = .next (s.after (s.chip.lcAnswered l 0x0C seq))) ∧
    (s.chip.laneState l = LS.drowsy → (s.chip.lane l).mine = false → exec (.awake l seq) s = .next (s.after ((s.chip.lcAnswered l 0x0C seq).laneAwake l))) ∧
    ((s.chip.lane l).waitsOp 0x0E = true → exec (.retune l seq) s = .next (s.after (s.chip.lcSend l 0x0F seq [3]))) ∧
    ((s.chip.lane l).waitsOp 0x0E = false → s.chip.laneState l ≠ LS.drained → exec (.retune l seq) s = .next (s.after (s.chip.lcSend l 0x0F seq [1]))) ∧
    ((s.chip.lane l).waits 0x0E seq = true →
      exec (.retuneAck l seq 0) s = .next (s.after ((s.chip.lcAnswered l 0x0E seq).retuneAccept l)) ∧
      ∀ st : Fin 256, st ≠ 0 → exec (.retuneAck l seq st) s = .next (s.after ((s.chip.lcAnswered l 0x0E seq).retuneRefused l st)))

/-- The five phases of training and the timers of a lane that trains. (03_cells_and_links.md R115, 03_cells_and_links.md R116,
03_cells_and_links.md R117, 03_cells_and_links.md R118) -/
def Obligations.TrainingGoesThroughItsPhases : Prop :=
  ∀ (l : Fin 2048) (s : State), s.chip.lcOpen l = true → s.chip.laneState l = LS.training →
    ((s.chip.lane l).held = false → (s.chip.lane l).wait = false →
      (s.chip.phase l = 1 → exec (.trainingPhaseDone l) s = .next (s.after (s.chip.setPhase l 2))) ∧
      (s.chip.phase l = 2 → exec (.trainingPhaseDone l) s = .next (s.after (s.chip.setPhase l 3))) ∧
      (s.chip.phase l = 3 → (s.chip.lane l).lock = true → exec (.trainingPhaseDone l) s = .next (s.after
        ((s.chip.setPhase l 4).lcRequest l 0x01 (s.chip.helloBody l)))) ∧
      (s.chip.phase l = 4 → s.chip.flag (R.PRT_LPARTNER (laneDie l) (laneLocal l)) F.PRT_LPARTNER_VALID = true → (s.chip.lane l).waitsOp 0x01 = false →
        s.chip.helloOk l = true → exec (.trainingPhaseDone l) s = .next (s.after ((s.chip.setPhase l 5).creditInit l))) ∧
      (s.chip.phase l = 5 → (s.chip.lane l).txInit = true → (s.chip.lane l).rxInit = true → exec (.trainingPhaseDone l) s = .next (s.after (s.chip.trained l))) ∧
      (let n := (s.chip.lane l).fails + 1
       let c1 := (s.chip.trainAt l 1 false).modLane l (fun y => { y with fails := n, held := decide (3 ≤ n) })
       ((n < 3 ∨ (n - 3) % 16 ≠ 0) → exec (.trainingPhaseTimeout l) s = .next (s.after c1)) ∧
       (3 ≤ n → (n - 3) % 16 = 0 → exec (.trainingPhaseTimeout l) s = .next (s.after (c1.laneNotice l LS.training LS.training 0x0A))))) ∧
    (s.chip.phase l = 4 → (s.chip.lane l).held = true → exec (.helloRetry l) s = .next (s.after
      ((s.chip.modLane l (fun x => { x with reqs := x.reqs.filter (fun r => r.op != 0x01) })).lcRequest l 0x01 (s.chip.helloBody l)))) ∧
    (s.chip.phase l = 1 → exec (.trainRetry l) s = .next (s.after (s.chip.modLane l (fun x => { x with held := false }))))

/-- The entries of tiles, blocks, clusters and dies into their low-power states. (03_cells_and_links.md R120, 15_power_clocks_reset.md
R422, 15_power_clocks_reset.md R423, 15_power_clocks_reset.md R424, 15_power_clocks_reset.md R425) -/
def Obligations.UnitsGoToSleepByStages : Prop :=
  ∀ (s : State),
    (∀ (d : Fin 40) (t : Fin 128) (idle : Bool), s.chip.tileFb d t = false → exec (.tileIdle d t idle) s = .next (s.after
      (s.chip.modPw (fun p => { p with idle := SMap.set (fun _ => false) p.idle (d * 128 + t) idle })))) ∧
    (∀ (d : Fin 40) (t : Fin 128) (idle : Bool), s.chip.tileFb d t = true → exec (.tileIdle d t idle) s = .next (s.after s.chip)) ∧
    (∀ (d : Fin 40) (b : Fin 8), s.chip.mayRest d b = true → s.chip.blkSt d b = 0 → s.chip.blkMax d b ≠ 0 → s.chip.unitQuiet d b = true →
      s.chip.twinActive d b = false → exec (.recessEntry d b) s = .next (s.after
      (s.chip.entryStart d b 1 (if d.val < 32 then (blockLanes d b).filter (fun l => s.chip.laneState l == LS.active) else [])))) ∧
    (∀ (d : Fin 40) (b : Fin 8), s.chip.mayRest d b = true → s.chip.blkSt d b = 1 → s.chip.deepOk d b = true → exec (.deepRecessEntry d b) s = .next (s.after
      (s.chip.entryStart d b 2 (if d.val < 32 then (blockLanes d b).filter (fun l => s.chip.laneState l == LS.drowsy) else [])))) ∧
    (∀ (d : Fin 40) (b : Fin 8), s.chip.mayRest d b = true → s.chip.blkSt d b = 3 → exec (.recessEntry d b) s = .next (s.after (s.chip.entryCheck d b)) ∧
      exec (.deepRecessEntry d b) s = .next (s.after (s.chip.entryCheck d b))) ∧
    (∀ d : Fin 40, s.chip.dieSt d ≠ 3 → s.chip.dieRuns d = true → s.chip.planeRuns d = true → s.chip.isolated d = false →
      s.chip.flag (R.PWR_POL_MAX d) F.PWR_POL_MAX_DIE_MAX = true → (List.range (blocksOf d)).all (fun b => s.chip.blkSt d b == 2) = true →
      s.chip.creditsHome d = true → (d.val < 32 → (dieLanes d).all s.chip.laneRests = true) → (32 ≤ d.val → s.chip.coreMaySleep (d - 32) = true) →
      exec (.sleepEntry d) s = .next (s.after (((if d.val < 32 then (dieLanes d).filter (fun l => s.chip.laneState l == LS.drowsy) else []).foldl
        (fun c l => c.sendDrowsy l 3) (s.chip.setDieSt d 3)).sleepCheck d)))

/-- Wakes from RECESS, DEEP_RECESS and SLEEP, and re-admission from a fresh or stale shadow. (01_architecture.md R25, 02_eufen_image.md
R69, 02_eufen_image.md R70, 02_eufen_image.md R71, 03_cells_and_links.md R121, 15_power_clocks_reset.md R423, 15_power_clocks_reset.md
R424, 15_power_clocks_reset.md R427, 15_power_clocks_reset.md R428) -/
def Obligations.UnitsWakeAndAreReadmitted : Prop :=
  ∀ (s : State),
    (∀ (d : Fin 40) (b : Fin 8), s.chip.wokenFrom d b 1 = true → exec (.recessWake d b) s = .next (s.after (s.chip.blockRuns d b false))) ∧
    (∀ (d : Fin 40) (b : Fin 8), s.chip.wokenFrom d b 2 = true → SMap.get (fun _ => none) s.chip.pw.reload (d * 8 + b) = none →
      (s.chip.shadowFresh d b = true → exec (.blockWake d b) s = .next (s.after (s.chip.blockRuns d b false))) ∧
      (s.chip.shadowFresh d b = false → exec (.blockWake d b) s = .next (s.after (s.chip.reloadStart d b)))) ∧
    (∀ (d : Fin 40) (b : Fin 8), SMap.get (fun _ => false) s.chip.pw.readmit (d * 8 + b) = true → SMap.get (fun _ => none) s.chip.pw.reload (d * 8 + b) = none →
      (s.chip.shadowFresh d b = true → exec (.blockReadmit d b) s = .next (s.after (s.chip.readmitted d b))) ∧
      (s.chip.shadowFresh d b = false → exec (.blockReadmit d b) s = .next (s.after (s.chip.reloadStart d b)))) ∧
    (∀ (d : Fin 40) (b : Fin 8) (v : Nat), SMap.get (fun _ => none) s.chip.pw.reload (d * 8 + b) = some v →
      (v ≠ (s.chip.rd (R.CFG_GEN d)).toNat → exec (.staleReloadDone d b) s = .next (s.after (s.chip.modPw (fun p => { p with reload := SMap.set (fun _ => none) p.reload (d * 8 + b) (some (s.chip.rd (R.CFG_GEN d)).toNat) })))) ∧
      (v = (s.chip.rd (R.CFG_GEN d)).toNat → SMap.get (fun _ => false) s.chip.pw.readmit (d * 8 + b) = true →
        exec (.staleReloadDone d b) s = .next (s.after (s.chip.readmitted d b))) ∧
      (v = (s.chip.rd (R.CFG_GEN d)).toNat → SMap.get (fun _ => false) s.chip.pw.readmit (d * 8 + b) = false → s.chip.blkSt d b = 4 →
        exec (.staleReloadDone d b) s = .next (s.after (s.chip.blockRuns d b true)))) ∧
    (∀ (d : Fin 40) (w : Waking), s.chip.dieSt d = 4 → SMap.get (fun _ => none) s.chip.pw.dieWake d = some w → exec (.dieWake d) s = .next (s.after
      ((setBitsOf (blocksOf d) w.mask).foldl (fun c b => c.wakeBlock d b w.source)
        ((((s.chip.setDieSt d 0).modPw (fun p => { p with dieWake := SMap.set (fun _ => none) p.dieWake d none })).incWrap (R.PWR_WAKE_CNT d)
          F.PWR_WAKE_CNT_WAKES 1).powerNotice d 0 3 0 (powerDetail 2 0 3 w.source 0 0 0
          (s.chip.asleepUs (d * 16 + 8))))))) ∧
    (∀ l : Fin 2048, s.chip.pw.standby = false → s.chip.laneState l = LS.drowsy → s.chip.get (lstat l) F.PRT_LSTAT_DEPTH = 3 →
      (s.chip.dieSt (laneDie l) = 0 → exec (.wakeBurstDetect l) s = .next (s.after (s.chip.wakeBlock (laneDie l) (laneBlock l) 4))) ∧
      (s.chip.dieSt (laneDie l) ≠ 0 → exec (.wakeBurstDetect l) s = .next (s.after (s.chip.wakeDie (laneDie l) (2 ^ laneBlock l) 4)))) ∧
    (∀ l : Fin 2048, s.chip.pw.standby = true → s.chip.portEnabled l = true → exec (.wakeBurstDetect l) s = .next (s.after (s.chip.standbyLeave 4)))

/-- The commands STANDBY and WAKE, and the end of the exit from STANDBY. (04_optical_engine.md R141, 15_power_clocks_reset.md R422,
15_power_clocks_reset.md R426, 15_power_clocks_reset.md R433, 16_management_security_twin.md R445) -/
def Obligations.StandbyIsEnteredAndLeft : Prop :=
  ∀ (s : State),
    (∀ (o : Origin) (x : Command), s.chip.cmdOf o 0x40 = some x →
      (1 < x.arg0 → exec (.standby o) s = .next (s.after (s.chip.complete o 2 0 []))) ∧
      (x.arg0 ≤ 1 → s.chip.wakeRuns = true → exec (.standby o) s = .next (s.after (s.chip.complete o 3 0 []))) ∧
      (x.arg0 = 1 → s.chip.wakeRuns = false → exec (.standby o) s = .next (s.after ((s.chip.standbyLeave 6).complete o 0 0 []))) ∧
      (x.arg0 = 0 → s.chip.wakeRuns = false →
        (s.chip.twinSt ≠ 0 → exec (.standby o) s = .next (s.after (s.chip.complete o 4 5 []))) ∧
        (s.chip.twinSt = 0 → s.chip.pw.standby = true → exec (.standby o) s = .next (s.after (s.chip.complete o 0 0 []))) ∧
        (s.chip.twinSt = 0 → s.chip.pw.standby = false → s.chip.weferActive ≠ [] → exec (.standby o) s = .next (s.after s.chip.weferRest)) ∧
        (s.chip.twinSt = 0 → s.chip.pw.standby = false → s.chip.weferActive = [] →
          exec (.standby o) s = .next (s.after (if s.chip.standbyFails = 0 then s.chip.standbyEnter.complete o 0 0 []
            else s.chip.complete o 4 s.chip.standbyFails []))))) ∧
    (∀ (o : Origin) (x : Command), s.chip.cmdOf o 0x41 = some x →
      ((39 < x.arg0 ∨ 0x1FF < x.arg1) → exec (.wake o) s = .next (s.after (s.chip.complete o 2 0 []))) ∧
      (x.arg0 ≤ 39 → x.arg1 ≤ 0x1FF → bitOf x.arg1 8 = true → s.chip.pw.standby = true →
        exec (.wake o) s = .next (s.after ((s.chip.standbyLeave 6).complete o 0 0 []))) ∧
      (x.arg0 ≤ 39 → x.arg1 ≤ 0x1FF → (bitOf x.arg1 8 = false ∨ s.chip.pw.standby = false) →
        exec (.wake o) s = .next (s.after ((s.chip.wakeMask x.arg0 (x.arg1 % 256) (bitOf x.arg1 8) 6).complete o 0 0 [])))) ∧
    ((s.chip.pw.standby = false ∨ s.chip.pw.standbyExit = false) → exec .standbyExitDone s = .next (s.after s.chip)) ∧
    (s.chip.pw.standby = true → s.chip.pw.standbyExit = true → exec .standbyExitDone s = .next (s.after
      (let run := ((s.chip.modPw (fun p => { p with standby := false, standbyExit := false, dieWake := SMap.erase p.dieWake 40 })).eachDie
         (fun c d => c.setDieSt d 0)).modSw (fun w => { w with pools := [] })
       let lit := (List.range 32).foldl (fun c d => (List.range 8).foldl (fun c f => (List.range 17).foldl (fun c r =>
         if (c.ring d f r).dark then c else c.unholdRing d f r) c) (c.refreshPools d)) run
       ((List.range 2048).foldl Chip.laneStandsUp lit).chipPower 0
         (powerDetail 2 0 4 (((SMap.get (fun _ => none) s.chip.pw.dieWake 40).map (·.source)).getD 1) 0 0 0 (s.chip.asleepUs 640)))))

/-- BOOT_IMAGE_LOAD, LOAD_IMAGE, WRITE_IMAGE and the end of a partial load. (02_eufen_image.md R58, 02_eufen_image.md R59,
02_eufen_image.md R60, 02_eufen_image.md R61, 02_eufen_image.md R62, 02_eufen_image.md R63, 16_management_security_twin.md R445,
16_management_security_twin.md R448, 17_maintenance_and_counters.md R480) -/
def Obligations.ImagesAreCheckedAndPutInForce : Prop :=
  ∀ (s : State),
    (∀ h : Nat, s.chip.pw.chipReset = 0 → s.chip.pw.dataHeld = true → s.chip.primary = some h → (s.chip.hub h).mgmtUp = true → s.chip.inRecovery h = false →
      (s.chip.pw.repaired = false → exec .bootImageLoad s = .next (s.after (s.chip.loadState 4 0x0A 0xFFFF))) ∧
      (∀ m, s.chip.pw.repaired = true → s.chip.bootPick h (s.chip.bootSlots h) (1, 0xFFFF) = .inr m →
        exec .bootImageLoad s = .next (s.after (s.chip.loadFull h m))) ∧
      (∀ r, s.chip.pw.repaired = true → s.chip.bootPick h (s.chip.bootSlots h) (1, 0xFFFF) = .inl r →
        exec .bootImageLoad s = .next (s.after (s.chip.loadState 4 r.1 r.2)))) ∧
    (∀ (o : Origin) (x : Command), s.chip.cmdOf o 0x10 = some x →
      ∀ m : Image,
      (1 < x.arg0 → exec (.loadImage o m) s = .next (s.after (s.chip.complete o 2 0 []))) ∧
      (x.arg0 = 0 → (s.chip.loadCheck o.hub 0 m).1 ≠ 0 → exec (.loadImage o m) s = .next (s.after
        (((if (s.chip.loadCheck o.hub 0 m).1 = 0x0C then s.chip.ledgerRefuse m.region (.partialLoad m.region) else s.chip).loadState 4
            (s.chip.loadCheck o.hub 0 m).1 (s.chip.loadCheck o.hub 0 m).2).complete o 6 (s.chip.loadCheck o.hub 0 m).1 []))) ∧
      (x.arg0 = 0 → (s.chip.loadCheck o.hub 0 m).1 = 0 →
        exec (.loadImage o m) s = .next (s.after ((s.chip.planeDataWipe.planeDataReport.loadFull o.hub m).complete o 0 0 []))) ∧
      (x.arg0 = 1 → SMap.get (fun _ => none) s.chip.loading m.region = none →
        ((s.chip.loadCheck o.hub 1 m).1 ≠ 0 → exec (.loadImage o m) s = .next (s.after
          (((if (s.chip.loadCheck o.hub 1 m).1 = 0x0C then s.chip.ledgerRefuse m.region (.partialLoad m.region) else s.chip).loadState 4
            (s.chip.loadCheck o.hub 1 m).1 (s.chip.loadCheck o.hub 1 m).2).complete o 6 (s.chip.loadCheck o.hub 1 m).1 []))) ∧
        (∀ i, (s.chip.loadCheck o.hub 1 m).1 = 0 → s.chip.freeEntry m.region = some i → exec (.loadImage o m) s = .next (s.after
          (({ s.chip with loading := SMap.set (fun _ => none) s.chip.loading m.region (some { image := m, origin := o }), ledgerNext := s.chip.ledgerNext + 1 }).setEntry
            m.region i (some ⟨.partialLoad m.region, false, true, s.chip.ledgerNext, s.chip.now, false⟩) |>.loadState 2 0 0xFFFF))))) ∧
    (∀ (o : Origin) (x : Command), s.chip.cmdOf o 0x11 = some x →
      ∀ m : Image,
      ((1 < x.arg0 ∨ 1 < x.arg1) → exec (.writeImage o m) s = .next (s.after (s.chip.complete o 2 0 []))) ∧
      (x.arg0 ≤ 1 → x.arg1 ≤ 1 → (s.chip.imageCheck o.hub 0 m).1 ≠ 0 →
        exec (.writeImage o m) s = .next (s.after (s.chip.complete o 6 (s.chip.imageCheck o.hub 0 m).1 []))) ∧
      (x.arg0 ≤ 1 → x.arg1 ≤ 1 → (s.chip.imageCheck o.hub 0 m).1 = 0 → exec (.writeImage o m) s = .next (s.after
        ((s.chip.modHub x.arg1 (fun u => { u with flash := { u.flash with images := SMap.set (fun _ => none) u.flash.images x.arg0 (some m) } })).complete o 0 0 [])))) ∧
    (∀ d : Fin 40, SMap.get (fun _ => none) s.chip.loading d = none → exec (.partialLoadSwitch d) s = .next (s.after s.chip)) ∧
    (∀ (d : Fin 40) (x : Loading), SMap.get (fun _ => none) s.chip.loading d = some x →
      (x.dead = true → exec (.partialLoadSwitch d) s = .next (s.after
        ((({ s.chip with loading := SMap.set (fun _ => none) s.chip.loading d none } : Chip).loadState 4 0x0C 0xFFFF).finishLoad x 6 0x0C))) ∧
      (x.dead = false → exec (.partialLoadSwitch d) s = .next (s.after
        (((({ s.chip with loading := SMap.set (fun _ => none) s.chip.loading d none } : Chip).switchMasters d x).loadState 3 0 0xFFFF).finishLoad x 0 0))))

/-- COMMAND_PICKUP, SERIAL_COMMAND_START, NOP and CONTROL_ORDER. (16_management_security_twin.md R442, 16_management_security_twin.md R444,
16_management_security_twin.md R445, 16_management_security_twin.md R446, 16_management_security_twin.md R447,
16_management_security_twin.md R453) -/
def Obligations.SlotsArePickedUpAndStarted : Prop :=
  ∀ (s : State),
    (∀ (h : Fin 2) (w : Fin 62) (i : Fin 64) (x : Command), x.wf = true → (s.chip.hub h).mgmtUp = true → s.chip.windowOn h w = true →
      s.chip.inRecovery h = false → ((s.chip.cmdSlot h (slotKey w i)).owner = 0 ∨ (s.chip.cmdSlot h (slotKey w i)).owner = 3) →
      exec (.commandPickup h w i x) s = .next (s.after ((((s.chip.setCmdSlot h (slotKey w i)
        { owner := 2, cmd := x, order := (s.chip.hub h).picked, waiting := serialOp x.opcode && s.chip.serialRuns && (s.chip.refusedAt h x.opcode).isNone }).modHub h
        (fun u => { u with picked := u.picked + 1, lastSlot := SMap.set (fun _ => 0) u.lastSlot w (i + 1) })).flushWindow h w 64)))) ∧
    (∀ (h : Fin 2) (w : Fin 62) (i : Fin 64) (x : Command), x.wf = true → (s.chip.windowOn h w = false ∨ (s.chip.cmdSlot h (slotKey w i)).owner = 1 ∨
      (s.chip.cmdSlot h (slotKey w i)).owner = 2) → exec (.commandPickup h w i x) s = .next (s.after s.chip)) ∧
    (s.chip.serialRuns = true → exec .serialCommandStart s = .next (s.after s.chip)) ∧
    (∀ e t, s.chip.serialRuns = false → orderBy (fun e : Nat × Slot => e.2.order) ((s.chip.hub 0).slots.filter (fun e => e.2.owner == 2 && e.2.waiting)) = e :: t →
      exec .serialCommandStart s = .next (s.after (s.chip.setCmdSlot 0 e.1 { e.2 with waiting := false }))) ∧
    (∀ e t, s.chip.serialRuns = false → orderBy (fun e : Nat × Slot => e.2.order) ((s.chip.hub 0).slots.filter (fun e => e.2.owner == 2 && e.2.waiting)) = [] →
      orderBy (fun e : Nat × Slot => e.2.order) ((s.chip.hub 1).slots.filter (fun e => e.2.owner == 2 && e.2.waiting)) = e :: t →
      exec .serialCommandStart s = .next (s.after (s.chip.setCmdSlot 1 e.1 { e.2 with waiting := false }))) ∧
    (∀ (o : Origin) (x : Command), s.chip.cmdOf o 0x01 = some x →
      exec (.nop o) s = .next (s.after (s.chip.complete o 0 (timeSec s.chip.now * 1000000000 + timeNsec s.chip.now) []))) ∧
    (∀ (o : Origin) (x : Command), s.chip.cmdOf o 0x70 = some x →
      (s.chip.orders.any (fun y => decide (y.src = .command o)) = false → exec (.controlOrder o) s = .next (s.after (s.chip.orderArrive (.command o) x.inline))) ∧
      (s.chip.orders.any (fun y => decide (y.src = .command o)) = true → exec (.controlOrder o) s = .next (s.after s.chip)))

/-- WRITE_REPAIR, WRITE_FIRMWARE, ENROLL_KEY, RAISE_FLOOR and LOAD_PACK. (02_eufen_image.md R56, 02_eufen_image.md R59,
13_result_integrity.md R389, 16_management_security_twin.md R448, 16_management_security_twin.md R458, 16_management_security_twin.md
R459, 16_management_security_twin.md R460, 16_management_security_twin.md R462) -/
def Obligations.CommandsKeepFlashItems : Prop :=
  ∀ (s : State),
    (∀ (o : Origin) (x : Command), s.chip.cmdOf o 0x12 = some x →
      ∀ r : Repair, (¬(r.sigOk = true ∧ r.identity = identityDigest) → exec (.writeRepair o r) s = .next (s.after (s.chip.complete o 6 0x0A []))) ∧
      (r.sigOk = true → r.identity = identityDigest → exec (.writeRepair o r) s = .next (s.after
        (((s.chip.modHub 0 (fun h => { h with flash := { h.flash with repair := some r } })).modHub 1
          (fun h => { h with flash := { h.flash with repair := some r } })).complete o 0 0 [])))) ∧
    (∀ (o : Origin) (x : Command), s.chip.cmdOf o 0x16 = some x →
      ∀ f : Firmware, (1 < x.arg0 → exec (.writeFirmware o f) s = .next (s.after (s.chip.complete o 2 0 []))) ∧
      (x.arg0 ≤ 1 → f.sigOk = false → exec (.writeFirmware o f) s = .next (s.after (s.chip.complete o 6 5 []))) ∧
      (x.arg0 ≤ 1 → f.sigOk = true → f.version < s.chip.floor o.hub 0 → exec (.writeFirmware o f) s = .next (s.after (s.chip.complete o 6 8 []))) ∧
      (x.arg0 ≤ 1 → f.sigOk = true → s.chip.floor o.hub 0 ≤ f.version → exec (.writeFirmware o f) s = .next (s.after ((s.chip.modHub o.hub
        (fun u => { u with flash := { u.flash with firmware := SMap.set (fun _ => none) u.flash.firmware x.arg0 (some f) } })).complete o 0 0 [])))) ∧
    (∀ (o : Origin) (x : Command), s.chip.cmdOf o 0x14 = some x →
      ∀ k : KeyCert, ((16 ≤ (s.chip.hub o.hub).flash.keys.length ∨ s.chip.chainOk o.hub k = false ∨ k.use = 0 ∨ 4 < k.use) →
        exec (.enrollKey o k) s = .next (s.after (s.chip.complete o 4 0 []))) ∧
      ((s.chip.hub o.hub).flash.keys.length < 16 → s.chip.chainOk o.hub k = true → k.use ≠ 0 → k.use ≤ 4 →
        exec (.enrollKey o k) s = .next (s.after ((((((((s.chip.modHub 0 (fun h => { h with flash := { h.flash with keys := h.flash.keys ++ [k] } })).modHub 1
          (fun h => { h with flash := { h.flash with keys := h.flash.keys ++ [k] } })).logItem o.hub 5 0 k.keyId)).showKeys 0).showKeys 1).hostEvent
          o.hub 0x84 2).complete o 0 (s.chip.hub o.hub).flash.keys.length [])))) ∧
    (∀ (o : Origin) (x : Command), s.chip.cmdOf o 0x15 = some x →
      ((2 < x.arg0 ∨ 2 ^ 32 ≤ x.arg1) → exec (.raiseFloor o) s = .next (s.after (s.chip.complete o 2 0 []))) ∧
      (x.arg0 ≤ 2 → x.arg1 < 2 ^ 32 → s.chip.runningVersion o.hub x.arg0 < x.arg1 → exec (.raiseFloor o) s = .next (s.after (s.chip.complete o 4 0 []))) ∧
      (x.arg0 ≤ 2 → x.arg1 < 2 ^ 32 → x.arg1 ≤ s.chip.runningVersion o.hub x.arg0 → exec (.raiseFloor o) s = .next (s.after
        ((s.chip.raiseFloor x.arg0 x.arg1).complete o 0 ((s.chip.raiseFloor x.arg0 x.arg1).floor o.hub x.arg0) [])))) ∧
    (∀ (o : Origin) (x : Command), s.chip.cmdOf o 0x13 = some x →
      ∀ p : Pack, (s.chip.packCheck o.hub p ≠ 0 →
        exec (.loadPack o p) s = .next (s.after ((s.chip.packStat (s.chip.packCheck o.hub p) none).complete o 6 (s.chip.packCheck o.hub p) []))) ∧
      (s.chip.packCheck o.hub p = 0 → exec (.loadPack o p) s = .next (s.after
        ((((s.chip.modInteg (fun g => { g with pack := some p, ran := [], provFails := [], suspended := [], reruns := [] })).packStat 0
          (some p.version)).logItem o.hub 8 p.version p.digest).raiseFloor 2 p.version |>.complete o 0 0 []))))

/-- COMMISSION, SET_TOD, READ_REGS, READ_FSIG, READ_IDENTITY, QUOTE and READ_LOG. (01_architecture.md R40, 04_optical_engine.md R148,
13_result_integrity.md R386, 14_time_and_bells.md R400, 15_power_clocks_reset.md R433, 16_management_security_twin.md R448,
16_management_security_twin.md R457, 16_management_security_twin.md R460, 16_management_security_twin.md R461) -/
def Obligations.CommandsReadAndRecord : Prop :=
  ∀ (s : State),
    (∀ (o : Origin) (x : Command), s.chip.cmdOf o 0x20 = some x →
      ∀ ps : List (Nat × BitVec 16), ps.all (fun e => decide (e.1 < 2048)) = true →
      let hits := ((List.range 2048).filter (fun l => bitOf x.arg0 (laneDie l) && bitOf x.arg1 (laneLocal l) && s.chip.ringsLocked l)).filterMap
        (fun l => ((ps.find? (fun e => e.1 == l)).map (·.2)).map (fun v => (l, v)))
      exec (.commission o ps) s = .next (s.after ((hits.foldl (fun (c : Chip) e =>
        ((c.modHub 0 (fun u => { u with flash := { u.flash with optical := SMap.set (fun _ => 0) u.flash.optical e.1 (e.2.toNat + 1) } })).modHub 1
          (fun u => { u with flash := { u.flash with optical := SMap.set (fun _ => 0) u.flash.optical e.1 (e.2.toNat + 1) } })).set
          (R.PRT_OPT_COMM (laneDie e.1) (laneLocal e.1)) F.PRT_OPT_COMM_POWER e.2.toNat) s.chip).complete o 0 hits.length []))) ∧
    (∀ (o : Origin) (x : Command), s.chip.cmdOf o 0x30 = some x →
      ((1 < x.arg0 ∨ 2 ^ 48 ≤ x.arg1) → exec (.setTod o) s = .next (s.after (s.chip.complete o 2 0 []))) ∧
      (x.arg0 ≤ 1 → x.arg1 < 2 ^ 48 → exec (.setTod o) s = .next (s.after
        ((s.chip.setDom x.arg0 { s.chip.dom x.arg0 with tod := some x.arg1 }).complete o 0 0 [])))) ∧
    (∀ (o : Origin) (x : Command), s.chip.cmdOf o 0x51 = some x →
      ((39 < x.arg0 ∨ x.arg1 % 4 ≠ 0 ∨ 0x04000000 < x.arg1 + 4 * x.arg2 ∨ 1008 < x.arg2) →
        exec (.readRegs o) s = .next (s.after (s.chip.complete o 2 0 []))) ∧
      (x.arg0 ≤ 39 → x.arg1 % 4 = 0 → x.arg1 + 4 * x.arg2 ≤ 0x04000000 → x.arg2 ≤ 1008 → exec (.readRegs o) s = .next (s.after
        (s.chip.complete o 0 x.arg2 ((List.range x.arg2).flatMap (fun i =>
          leBytes 4 (s.chip.readReg (.mgmt (if o.hub = 0 then 0 else 1)) (dieBase x.arg0 + x.arg1 + 4 * i)).toNat)))))) ∧
    (∀ (o : Origin) (x : Command), s.chip.cmdOf o 0x50 = some x →
      (1 < x.arg1 → exec (.readFsig o) s = .next (s.after (s.chip.complete o 2 0 []))) ∧
      (x.arg1 = 1 → exec (.readFsig o) s = .next
        ((s.store (s.chip.completeData o x ((s.chip.hub o.hub).flash.fsig.take x.arg0).length ((s.chip.hub o.hub).flash.fsig.take x.arg0).flatten).1).withChip
          (s.settled (s.chip.completeData o x ((s.chip.hub o.hub).flash.fsig.take x.arg0).length ((s.chip.hub o.hub).flash.fsig.take x.arg0).flatten).2)))) ∧
    (∀ (o : Origin) (x : Command), s.chip.cmdOf o 0x60 = some x →
      exec (.readIdentity o) s = .next ((s.store (s.chip.completeData o x certificate.length certificate).1).withChip
        (s.settled (s.chip.completeData o x certificate.length certificate).2))) ∧
    (∀ (o : Origin) (x : Command), s.chip.cmdOf o 0x61 = some x →
      let q := s.chip.quote o.hub (x.inline.take 32)
      exec (.quote o) s = .next ((s.store (q.2.completeData o x 1432 q.1).1).withChip (s.settled (q.2.completeData o x 1432 q.1).2))) ∧
    (∀ (o : Origin) (x : Command), s.chip.cmdOf o 0x62 = some x →
      let out := (s.chip.hub o.hub).log.drop (max x.arg0 (firstKept (s.chip.hub o.hub).log))
      exec (.readLog o) s = .next ((s.store (s.chip.completeData o x out.length (out.flatMap LogEntry.bytes)).1).withChip
        (s.settled (s.chip.completeData o x out.length (out.flatMap LogEntry.bytes)).2)))

/-- S_INIT, S_CONFIRM, S_CLOSE and SESSION_IDLE_TIMEOUT at a primary hub that runs. (16_management_security_twin.md R450,
16_management_security_twin.md R454, 16_management_security_twin.md R455, 16_management_security_twin.md R456,
16_management_security_twin.md R470) -/
def Obligations.SessionsOpenAndClose : Prop :=
  ∀ (s : State),
    (∀ (h : Nat) (client : BitVec 20) (cert : KeyCert) (tw : Bool), s.chip.messageHub = some h →
      ((s.chip.inRecovery h = true ∨ s.chip.answersFor tw = false ∨ cert.use ≠ 3 ∨ s.chip.chainOk h cert = false ∨ 32 ≤ (s.chip.hub h).sessions.length) →
        exec (.sInit client cert tw) s = .next (s.after s.chip)) ∧
      (s.chip.inRecovery h = false → s.chip.answersFor tw = true → cert.use = 3 → s.chip.chainOk h cert = true → (s.chip.hub h).sessions.length < 32 →
        let n := ((List.range 33).find? (fun i => i != 0 && (s.chip.session h i).isNone)).getD 33
        let kem := ({ s.chip.setSession h n (some { rights := cert.rights, client := client.toNat, alias_ := tw }) with draws := s.chip.draws + 1 } : Chip).drawBytes 3 1568
        exec (.sInit client cert tw) s = .next (s.after ((kem.2.drawBytes 4 1280).2.sendPlain 6 client.toNat 0x0101
          (leBytes 2 n ++ leBytes 32 (Config.random s.chip.draws).toNat ++ kem.1 ++ certificate ++ (kem.2.drawBytes 4 1280).1))))) ∧
    (∀ (h : Nat) (n : BitVec 16) (seq : BitVec 64) (sig tag : Bool), s.chip.messageHub = some h →
      (s.chip.session h n.toNat = none → exec (.sConfirm n seq sig tag) s = .next (s.after (s.chip.dropTag h))) ∧
      (∀ x, s.chip.session h n.toNat = some x →
        ((x.open_ = true ∨ sig = false ∨ tag = false) → exec (.sConfirm n seq sig tag) s = .next (s.after (s.chip.dropTag h))) ∧
        (x.open_ = false → sig = true → tag = true → exec (.sConfirm n seq sig tag) s = .next (s.after
          ((((s.chip.setSession h n.toNat (some { x with open_ := true, lastIn := seq.toNat })).hostEvent h 0x82 (1 + n.toNat % 256 * 2 ^ 8)).releaseHeld)))))) ∧
    (∀ (h : Nat) (n : BitVec 16) (seq : BitVec 64) (tag : Bool), s.chip.messageHub = some h →
      exec (.sClose n seq tag) s = .next (s.after (if (s.chip.takeMsg h n.toNat seq.toNat tag).1 = true
        then (s.chip.takeMsg h n.toNat seq.toNat tag).2.closeSession h n.toNat 2 else (s.chip.takeMsg h n.toNat seq.toNat tag).2))) ∧
    (∀ (h : Fin 2) (n : BitVec 16), (s.chip.hub h).mgmtUp = true → exec (.sessionIdleTimeout h n) s = .next (s.after (s.chip.closeSession h n.toNat 4)))

/-- SWITCH_MESSAGE_COMPLETE, ORDER, COMMAND_MESSAGE and DATA_MESSAGE at a primary hub that runs. (16_management_security_twin.md R447,
16_management_security_twin.md R451, 16_management_security_twin.md R452, 16_management_security_twin.md R453,
16_management_security_twin.md R454, 16_management_security_twin.md R455, 16_management_security_twin.md R456,
16_management_security_twin.md R470) -/
def Obligations.MessagesReachTheirComplex : Prop :=
  ∀ (s : State),
    (∀ (h : Nat) (m : HubMsg) (tw tag : Bool), m.kind = 5 → m.body.length ≤ 65000 → s.chip.messageHub = some h → s.chip.answersFor tw = true →
      let put (c : Chip) : Chip := c.modHub h (fun x => { x with inbox := x.inbox ++ [m] })
      let r := s.chip.takeMsg h m.session m.seq tag
      (typeNeeds m.ty = none → exec (.switchMessageComplete m tw tag) s = .next (s.after (s.chip.dropTag h))) ∧
      (typeNeeds m.ty = some true → m.session = 0 → exec (.switchMessageComplete m tw tag) s = .next (s.after (s.chip.dropTag h))) ∧
      (typeNeeds m.ty = some false → m.session = 0 → exec (.switchMessageComplete m tw tag) s = .next (s.after (put s.chip))) ∧
      (∀ b, typeNeeds m.ty = some b → m.session ≠ 0 → r.1 = false → exec (.switchMessageComplete m tw tag) s = .next (s.after r.2)) ∧
      (typeNeeds m.ty = some true → m.session ≠ 0 → r.1 = true → exec (.switchMessageComplete m tw tag) s = .next (s.after
        (if r.2.rightsOf h m.session < 2 then r.2.dropTag h else put r.2))) ∧
      (typeNeeds m.ty = some false → m.session ≠ 0 → r.1 = true → exec (.switchMessageComplete m tw tag) s = .next (s.after (put r.2)))) ∧
    (∀ (h : Nat) (m : HubMsg), s.chip.messageHub = some h → (s.chip.hub h).inbox.find? (fun m => m.ty == 0x0001) = some m →
      ((s.chip.popMsg h 0x0001).session h m.session = none → exec .order s = .next (s.after (s.chip.popMsg h 0x0001))) ∧
      (∀ x, (s.chip.popMsg h 0x0001).session h m.session = some x →
        (x.alias_ = true → exec .order s = .next (s.after ((s.chip.popMsg h 0x0001).orderAnswer (.session h m.session m.seq) 0 1 0))) ∧
        (x.alias_ = false → exec .order s = .next (s.after ((s.chip.popMsg h 0x0001).orderArrive (.session h m.session m.seq) m.body))))) ∧
    (∀ (h : Nat) (n : BitVec 16) (seq : BitVec 64) (tag : Bool) (cmd : Command), cmd.wf = true → s.chip.messageHub = some h →
      let r := s.chip.takeMsg h n.toNat seq.toNat tag
      (r.1 = false → exec (.commandMessage n seq tag cmd) s = .next (s.after r.2)) ∧
      (∀ x, r.1 = true → r.2.session h n.toNat = some x →
        (∀ st, r.2.refusedAt h cmd.opcode = some st → exec (.commandMessage n seq tag cmd) s = .next (s.after (r.2.sessionStatus h n.toNat st))) ∧
        (r.2.refusedAt h cmd.opcode = none →
          (x.rights < rightFor cmd.opcode → exec (.commandMessage n seq tag cmd) s = .next (s.after (r.2.sessionStatus h n.toNat 7))) ∧
          (rightFor cmd.opcode ≤ x.rights → x.alias_ = true → cmd.opcode ≠ 0x01 → exec (.commandMessage n seq tag cmd) s = .next (s.after (r.2.sessionStatus h n.toNat 6))) ∧
          (rightFor cmd.opcode ≤ x.rights → (x.alias_ = false ∨ cmd.opcode = 0x01) → exec (.commandMessage n seq tag cmd) s = .next (s.after
            (r.2.setSession h n.toNat (some { x with cmds := x.cmds ++ [(cmd, serialOp cmd.opcode && r.2.serialRuns)] }))))))) ∧
    (∀ (h : Nat) (n : BitVec 16) (seq off : BitVec 64) (tag : Bool), s.chip.messageHub = some h →
      let r := s.chip.takeMsg h n.toNat seq.toNat tag
      (∀ op, r.1 = false → exec (.dataMessage n seq tag off op) s = .next (s.after r.2)) ∧
      (∀ bs : List Byte, r.1 = true → 3 ≤ r.2.rightsOf h n.toNat → bs.length ≤ 64992 → off.toNat + bs.length ≤ 64 * 2 ^ 30 →
        exec (.dataMessage n seq tag off (.write bs)) s = .next ((s.store (bytesAt h off.toNat (bs.map (·.toNat)))).withChip (s.settled r.2))) ∧
      (∀ bs : List Byte, r.1 = true → (r.2.rightsOf h n.toNat < 3 ∨ 64992 < bs.length ∨ 64 * 2 ^ 30 < off.toNat + bs.length) →
        exec (.dataMessage n seq tag off (.write bs)) s = .next (s.after r.2)) ∧
      (∀ k : Nat, r.1 = true → 1 ≤ r.2.rightsOf h n.toNat → k ≤ 64992 → off.toNat + k ≤ 64 * 2 ^ 30 →
        exec (.dataMessage n seq tag off (.read k)) s = .next (s.after
          (r.2.sendSession h n.toNat 6 0x0112 (leBytes 8 off.toNat ++ (List.range k).map (fun i => s.read h (off.toNat + i)))))))

/-- PAIRING_TRY, TW_HELLO, TW_ATTEST, TW_KEM, TW_INDEX, PAIRING_TIMEOUT. (03_cells_and_links.md R105, 16_management_security_twin.md R465,
16_management_security_twin.md R466, 16_management_security_twin.md R467, 16_management_security_twin.md R471) -/
def Obligations.PairingRunsThroughItsSteps : Prop :=
  ∀ (s : State),
    (∀ h, s.chip.messageHub = some h → s.chip.darkChip = false → s.chip.twinSt = 0 → s.chip.flag (R.TWN_CFG s.chip.primaryDie) F.TWN_CFG_ENABLE = true →
      8 ≤ s.chip.weferActive.length →
      (s.chip.stepDone 4 = true → exec .pairingTry s = .next (s.after (((s.chip.twinTo 1 0).pairSend 0x21).pairFail 6))) ∧
      (s.chip.stepDone 4 = false → s.chip.stepDone 0 = false → exec .pairingTry s = .next (s.after ((s.chip.twinTo 1 0).pairSend 0x21))) ∧
      (s.chip.stepDone 4 = false → s.chip.stepDone 0 = true → exec .pairingTry s = .next (s.after ((((s.chip.twinTo 1 0).pairSend 0x21).stepSet 0).pairSend 0x22)))) ∧
    (∀ (l : Fin 2048) (seq : Fin 256), s.chip.weferIn l = true →
      (∀ dg ok, (s.chip.twinAck l 0x21 seq).1 = false → exec (.twHello l seq dg ok) s = .next (s.after (s.chip.twinAck l 0x21 seq).2)) ∧
      (∀ v fw img fl, fl.length = 3 → (s.chip.twinAck l 0x22 seq).1 = false → exec (.twAttest l seq v fw img fl) s = .next (s.after (s.chip.twinAck l 0x22 seq).2)) ∧
      ((s.chip.twinAck l 0x23 seq).1 = false → exec (.twKem l seq) s = .next (s.after (s.chip.twinAck l 0x23 seq).2)) ∧
      (∀ es, es.all (fun e => decide (e.1 < 4096)) = true → (s.chip.twinAck l 0x25 seq).1 = false →
        exec (.twIndex l seq es) s = .next (s.after (s.chip.twinAck l 0x25 seq).2))) ∧
    (∀ (l : Fin 2048) (seq : Fin 256) (dg : BitVec 128) (ok : Bool), s.chip.weferIn l = true → (s.chip.twinAck l 0x21 seq).1 = true →
      let c := (s.chip.twinAck l 0x21 seq).2
      c.twinSt = 1 →
      (ok = true → (c.flag (R.TWN_CFG c.primaryDie) F.TWN_CFG_MATCH = false ∨ c.peerDigest = dg.toNat) → exec (.twHello l seq dg ok) s = .next (s.after
        (((c.eachHubDie (fun c1 d => c1.set (R.TWN_PEER_ID d) F.TWN_PEER_ID_SWITCH_ID
          (c.get (R.PRT_LPARTNER (laneDie l) (laneLocal l)) F.PRT_LPARTNER_SWITCH_ID))).stepSet 0).pairSend 0x22))) ∧
      (ok = false → exec (.twHello l seq dg ok) s = .next (s.after (c.pairFail 6)))) ∧
    (∀ (l : Fin 2048) (seq : Fin 256) (v : Bool) (fw img : BitVec 32) (fl : List (BitVec 32)), fl.length = 3 → s.chip.weferIn l = true →
      (s.chip.twinAck l 0x22 seq).1 = true →
      let c := (s.chip.twinAck l 0x22 seq).2
      c.twinSt = 1 → c.stepDone 0 = true →
      (v = false → exec (.twAttest l seq v fw img fl) s = .next (s.after (c.pairFail 5))) ∧
      (v = true → (fw.toNat ≠ c.runningVersion (c.primary.getD 0) 0 ∨ img.toNat ≠ c.runningVersion (c.primary.getD 0) 1) →
        exec (.twAttest l seq v fw img fl) s = .next (s.after (c.pairFail 8)))) ∧
    (∀ (l : Fin 2048) (seq : Fin 256), s.chip.weferIn l = true → (s.chip.twinAck l 0x23 seq).1 = true → (s.chip.twinAck l 0x23 seq).2.twinSt = 1 →
      (s.chip.twinAck l 0x23 seq).2.stepDone 1 = true →
      exec (.twKem l seq) s = .next (s.after (((s.chip.twinAck l 0x23 seq).2.stepSet 2).pairSend 0x25))) ∧
    (∀ (l : Fin 2048) (seq : Fin 256) (es : List (Nat × Nat × Nat)), es.all (fun e => decide (e.1 < 4096)) = true → s.chip.weferIn l = true →
      ((s.chip.twinAck l 0x25 seq).2.twinSt ≠ 1 ∨ (s.chip.twinAck l 0x25 seq).2.stepDone 2 = false) →
      exec (.twIndex l seq es) s = .next (s.after (s.chip.twinAck l 0x25 seq).2)) ∧
    (s.chip.twinSt = 1 → exec .pairingTimeout s = .next (s.after (s.chip.twinTo 0 9)))

/-- TW_BEAT_SEND, TW_BEAT, TW_MIRROR, TW_ACK, TW_DETACH, TW_LOSS and the timeouts of the twin link. (03_cells_and_links.md R105,
16_management_security_twin.md R465, 16_management_security_twin.md R466, 16_management_security_twin.md R468,
16_management_security_twin.md R469, 16_management_security_twin.md R470, 16_management_security_twin.md R471,
16_management_security_twin.md R472) -/
def Obligations.ThePairedTwinBeatsAndMirrors : Prop :=
  ∀ (s : State),
    (s.chip.darkChip = true → exec .twBeatSend s = .next (s.after s.chip)) ∧
    (∀ (l0 l1 : Nat) (t0 t1 : List Nat), s.chip.darkChip = false → s.chip.weferOf 0 = l0 :: t0 → s.chip.weferOf 16 = l1 :: t1 →
      (let n := s.chip.twin.beats + 1
       let body := leBytes 4 n ++ [s.chip.twinSt, s.chip.primary.getD 2] ++ leBytes 6 (timeSec s.chip.now) ++ leBytes 4 (timeNsec s.chip.now) ++
         leBytes 8 s.chip.twin.recvSeq
       let c1 := (s.chip.modTwin (fun t => { t with beats := n })).lcSend l0 0x20 0 body
       c1.weferOf 16 = l1 :: t1 → (s.chip.modTwin (fun t => { t with beats := n })).weferOf 0 = l0 :: t0 →
         exec .twBeatSend s = .next (s.after (c1.lcSend l1 0x20 0 body)))) ∧
    (∀ (l : Fin 2048) (sec : BitVec 48) (nsec : BitVec 32) (last : BitVec 64), s.chip.weferIn l = true → s.chip.twinSt = 2 →
      exec (.twBeat l sec nsec last) s = .next (s.after ((s.chip.modTwin (fun t => { t with unacked := t.unacked.filter (fun e => decide (last.toNat < e.1)) })).eachHubDie
        (fun c d => c.set (R.TWN_TIME_OFS d) F.TWN_TIME_OFS_OFFSET (sat32 ((sec.toNat * 1000000000 + nsec.toNat : Nat) -
          (timeSec s.chip.now * 1000000000 + timeNsec s.chip.now : Nat) : Int)))))) ∧
    (∀ (l : Fin 2048) (n : BitVec 64) (r : MirrorRec), s.chip.weferIn l = true → s.chip.twinSt = 2 →
      exec (.twMirror l n false r) s = .next (s.after (s.chip.dropTag (s.chip.primary.getD 0))) ∧
      ((n.toNat ≤ s.chip.twin.recvSeq ∨ s.chip.twin.early.any (fun e => e.1 == n.toNat) = true) →
        exec (.twMirror l n true r) s = .next (s.after s.chip)) ∧
      (s.chip.twin.recvSeq < n.toNat → s.chip.twin.early.any (fun e => e.1 == n.toNat) = false → exec (.twMirror l n true r) s = .next (s.after
        (s.chip.modTwin (fun t => Twin.catchUp { t with early := t.early ++ [(n.toNat, r)] } (t.early.length + 1)))))) ∧
    (∀ (l : Fin 2048) (seq : Fin 256) (q : LcReq), s.chip.weferIn l = true →
      (s.chip.lane l).reqs.find? (fun q => decide (0x20 ≤ q.op) && q.seq == seq.val) = some q →
      (q.op ≠ 0x27 → exec (.twAck l seq) s = .next (s.after (s.chip.lcAnswered l q.op seq))) ∧
      (q.op = 0x27 → exec (.twAck l seq) s = .next (s.after (s.chip.lcAnswered l 0x27 seq).detachDone))) ∧
    (∀ (l : Fin 2048) (seq : Fin 256), s.chip.weferIn l = true →
      ((s.chip.twinAck l 0x27 seq).2.twinSt = 2 → exec (.twDetach l seq) s = .next (s.after ((s.chip.twinAck l 0x27 seq).2.twinTo 3 0).detachDone)) ∧
      ((s.chip.twinAck l 0x27 seq).2.twinSt ≠ 2 → exec (.twDetach l seq) s = .next (s.after (s.chip.twinAck l 0x27 seq).2))) ∧
    ((s.chip.twinSt = 3 → exec .detachTimeout s = .next (s.after ((s.chip.twinTo 0 4).modTwin (fun t => { beats := t.beats, held := t.held })))) ∧
      (s.chip.twinSt ≠ 3 → exec .detachTimeout s = .next (s.after s.chip))) ∧
    (exec (.twinLoss true) s = .next (s.after (s.chip.twinLost 1)) ∧ (s.chip.weferActive = [] → exec (.twinLoss false) s = .next (s.after (s.chip.twinLost 2))) ∧
      (∀ l : Fin 2048, s.chip.weferIn l = true → exec (.twLoss l) s = .next (s.after (s.chip.twinLost 3)))) ∧
    ((s.chip.twinSt = 0 → exec (.twinLoss true) s = .next (s.after s.chip)) ∧ (s.chip.twinSt = 1 → exec (.twinLoss true) s = .next (s.after (s.chip.twinTo 0 1))))

/-- RAIL_WARN_CROSSING, SAG_PIN_ASSERT, SAG_CLEAR, TEMP_READING and THERMAL_SHUTDOWN. (15_power_clocks_reset.md R415,
15_power_clocks_reset.md R416, 15_power_clocks_reset.md R417, 15_power_clocks_reset.md R418, 15_power_clocks_reset.md R434,
18_electrical_and_package.md R507) -/
def Obligations.SagWarningsStartAndEnd : Prop :=
  ∀ (s : State),
    (s.chip.pw.chipReset = 0 →
      (∀ (d : Fin 40) (rail : Fin 10), exec (.railWarnCrossing d rail) s = .next (s.after
        ((if s.chip.sag = true then s.chip.set (R.PWR_SAG_STAT d) ⟨rail, 1⟩ 1
          else (s.chip.set (R.PWR_SAG_STAT d) ⟨rail, 1⟩ 1).incSat (R.PWR_SAG_STAT d) F.PWR_SAG_STAT_COUNT 1).sagStart rail))) ∧
      exec .sagPinAssert s = .next (s.after (((List.range 40).foldl (fun c d => c.set (R.PWR_SAG_STAT d) F.PWR_SAG_STAT_PIN 1) s.chip).sagStart 15))) ∧
    (∀ rail : Nat, (s.chip.sag = true → s.chip.sagStart rail = s.chip) ∧
      (s.chip.sag = false → s.chip.sagStart rail = (({ ((List.range 40).foldl (fun c d => c.set (R.PWR_STATE d) F.PWR_STATE_SAG 1) s.chip).modPw
        (fun p => { p with clkHalf := true }) with sagN := false } : Chip).sagQuizzes.sagSignal).chipPower 1 (powerDetail 5 0 0 0 rail 0 0 0))) ∧
    ((s.chip.sag = true → s.chip.pw.setpoint = none → (let c := (((List.range 8).foldl Chip.pendingRelease s.chip.sagEnd).sagSignal).chipPower 0 (powerDetail 6 0 0 0 0 0 0 0)
        c.pw.setpoint = none → exec .sagClear s = .next (s.after c))) ∧
      (∀ mv, s.chip.sag = true → (let c := (((List.range 8).foldl Chip.pendingRelease s.chip.sagEnd).sagSignal).chipPower 0 (powerDetail 6 0 0 0 0 0 0 0)
        c.pw.setpoint = some mv → exec .sagClear s = .next (s.after ((c.modPw (fun p => { p with setpoint := none })).putSetpoint mv)))) ∧
      (s.chip.sag = false → s.chip.pw.chipReset = 0 → s.chip.sagN = false → exec .sagClear s = .next (s.after { s.chip with sagN := true })) ∧
      (s.chip.sag = false → s.chip.sagN = true → exec .sagClear s = .next (s.after s.chip))) ∧
    (∀ (d : Fin 40) (v : BitVec 16),
      (toSigned 16 (s.chip.get (R.PWR_TEMP d) F.PWR_TEMP_PEAK) < v.toInt → exec (.tempReading d v) s = .next (s.after
        ((((s.chip.set (R.PWR_TEMP d) F.PWR_TEMP_NOW v.toNat).set (R.PWR_TEMP d) F.PWR_TEMP_PEAK v.toNat).modPw
          (fun p => { p with hot := SMap.set (fun _ => false) p.hot d (decide (760 ≤ v.toInt)) })).showTemp))) ∧
      (v.toInt ≤ toSigned 16 (s.chip.get (R.PWR_TEMP d) F.PWR_TEMP_PEAK) → exec (.tempReading d v) s = .next (s.after
        ((((s.chip.set (R.PWR_TEMP d) F.PWR_TEMP_NOW v.toNat)).modPw
          (fun p => { p with hot := SMap.set (fun _ => false) p.hot d (decide (760 ≤ v.toInt)) })).showTemp)))) ∧
    (∀ d : Fin 40, (s.chip.tempNow d < 920 → exec (.thermalShutdown d) s = .next (s.after s.chip)) ∧
      (s.chip.pw.chipReset = 0 → 920 ≤ s.chip.tempNow d →
        let c := (s.chip.set (R.PWR_TEMP_CHIP 32) F.PWR_TEMP_CHIP_OVER 1).set (R.PWR_TEMP_CHIP 39) F.PWR_TEMP_CHIP_OVER 1
        exec (.thermalShutdown d) s = .next (s.after ((if c.sag = true then c.sagQuiet else c).fbDue ⟨4, 32, 0, 0x11⟩))))

/-- POWER, SAG and CHIP resets and the state they leave: POWER_RESET, CLK25_LOSS, RAIL_RESET_CROSSING, CHIP_RESET. (00_scope.md R10,
00_scope.md R11, 00_scope.md R12, 15_power_clocks_reset.md R419, 15_power_clocks_reset.md R420, 15_power_clocks_reset.md R421,
15_power_clocks_reset.md R429, 15_power_clocks_reset.md R430, 15_power_clocks_reset.md R433) -/
def Obligations.ResetsOfTheChipEmptyIt : Prop :=
  ∀ (s : State),
    (exec .powerReset s = .next (s.after (s.chip.powerReset 0 true)) ∧ exec .clk25Loss s = .next (s.after (s.chip.powerReset 0 s.chip.faultN)) ∧
      exec (.railResetCrossing 0) s = .next (s.after (s.chip.powerReset 0x10 s.chip.faultN))) ∧
    (∀ (cause : Nat) (fault : Bool), (s.chip.powerReset cause fault).pw.chipReset = 1 ∧ (s.chip.powerReset cause fault).faultN = fault ∧
      (∀ h : Fin 2, ((s.chip.powerReset cause fault).hub h).flash = (s.chip.hub h).flash) ∧
      (∀ a : Nat, a ≠ R.PWR_RST_STAT 32 → a ≠ R.PWR_RST_STAT 39 → (s.chip.powerReset cause fault).rd a = regReset a)) ∧
    (∀ rail : Fin 10, rail ≠ 0 → s.chip.pw.chipReset ≠ 1 → exec (.railResetCrossing rail) s = .next (s.after
      { (s.chip.rstBegin 2 (some (rail + 0x10))).chipWipe 2 with faultN := false, sagN := false })) ∧
    (s.chip.pw.chipReset = 0 → exec .chipReset s = .next (s.after
      ((((s.chip.raiseChip 0x12).lanes.map (·.1)).foldl Chip.flushLc (s.chip.raiseChip 0x12)).rstBegin 3 none |>.chipWipe 3))) ∧
    (∀ (c : Chip) (n : Nat), n ≠ 0 → (c.chipWipe n).pw.chipReset = n ∧ (c.chipWipe n).pw.dataHeld = true ∧ (c.chipWipe n).image = none ∧
      (c.chipWipe n).coll = {} ∧ (c.chipWipe n).sw = {} ∧ (s.withChip (c.chipWipe n)).lpddrA = [] ∧ (s.withChip (c.chipWipe n)).lpddrB = [] ∧
      (s.withChip (c.chipWipe n)).pending = s.pending)

/-- PLANE_DATA, PLANE_CONTROL, PLANE_MGMT, REGION, BLOCK, TILE and LINK resets, and RESET_END. (00_scope.md R10, 00_scope.md R11,
01_architecture.md R25, 15_power_clocks_reset.md R429, 15_power_clocks_reset.md R431, 15_power_clocks_reset.md R432,
15_power_clocks_reset.md R434, 16_management_security_twin.md R453, 03_cells_and_links.md R513) -/
def Obligations.NarrowerResetsReachTheirPart : Prop :=
  ∀ (s : State),
    (s.chip.pw.chipReset ≠ 0 → exec .planeDataReset s = .next (s.after s.chip) ∧ exec .planeControlReset s = .next (s.after s.chip) ∧
      (∀ h, exec (.planeMgmtReset h) s = .next (s.after s.chip)) ∧ (∀ h, exec (.linkReset h) s = .next (s.after s.chip)) ∧
      (∀ d, exec (.regionReset d) s = .next (s.after s.chip)) ∧ (∀ d b, exec (.blockReset d b) s = .next (s.after s.chip)) ∧
      (∀ d t, exec (.tileReset d t) s = .next (s.after s.chip)) ∧ (∀ t, exec (.resetEnd t) s = .next (s.after s.chip))) ∧
    (s.chip.pw.chipReset = 0 →
      (s.chip.pw.planeReset = false → s.chip.pw.dataHeld = false → exec .planeDataReset s = .next (s.after
        (((s.chip.rstBegin 4 none).wipeData).modPw (fun p => { p with planeReset := true })))) ∧
      exec .planeControlReset s = .next (s.after ((((s.chip.freezeOrders.rstBegin 5 none).resetRegs 5 reachControl).modHub 0
        (fun x => { x with ctlUp := false })).modHub 1 (fun x => { x with ctlUp := false }))) ∧
      (∀ h : Fin 2, exec (.planeMgmtReset h) s = .next (s.after
        (((s.chip.rstBegin 6 none).resetRegs 6 (reachMgmt h (s.chip.primary == some h.val))).modHub h Hub.mgmtReset))) ∧
      (∀ h : Fin 2, let c := s.chip.modHub h (fun x => { x with linkUp := false })
        exec (.linkReset h) s = .next (s.after (if c.flag (R.PWR_RST_CFG c.primaryDie) F.PWR_RST_CFG_PERST_MGMT = true then c.planeMgmtReset h else c)))) ∧
    (s.chip.pw.chipReset = 0 → s.chip.pw.planeReset = false → s.chip.pw.dataHeld = false →
      (∀ d : Fin 40, ∃ c : Chip, exec (.regionReset d) s = .next (s.after c) ∧ SMap.get (fun _ => false) c.pw.regionReset d = true) ∧
      (∀ (d : Fin 40) (b : Fin 8), b.val < blocksOf d → ∃ c : Chip, exec (.blockReset d b) s = .next (s.after c) ∧
        SMap.get (fun _ => false) c.pw.blockReset (d * 8 + b) = true) ∧
      (∀ (d : Fin 40) (t : Fin 128), (if d.val < 32 then t.val < 64 else t.val < 33 ∨ (64 ≤ t.val ∧ t.val < 112)) →
        ∃ c : Chip, exec (.tileReset d t) s = .next (s.after c) ∧ SMap.get (fun _ => false) c.pw.tileReset (d * 128 + t) = true)) ∧
    (s.chip.pw.chipReset = 0 →
      (s.chip.pw.planeReset = true → exec (.resetEnd .planeData) s = .next (s.after s.chip.reapply.planeDataReport)) ∧
      (s.chip.pw.planeReset = false → exec (.resetEnd .planeData) s = .next (s.after s.chip)) ∧
      (∀ h : Fin 2, (s.chip.hub h).mgmtUp = false → exec (.resetEnd (.planeMgmt h)) s = .next (s.after
        ((s.chip.modHub h (fun x => { x with mgmtUp := true })).resetNotice s.chip.primaryDie 6 4))) ∧
      (∀ h : Fin 2, (s.chip.hub h).linkUp = false → exec (.resetEnd (.link h)) s = .next (s.after
        ((s.chip.hub h).vecPending.foldl (fun c v => c.signal h v) (s.chip.modHub h (fun x => { x with linkUp := true, vecPending := [] }))))) ∧
      (∀ d : Fin 40, SMap.get (fun _ => false) s.chip.pw.regionReset d = true → exec (.resetEnd (.region d)) s = .next (s.after (s.chip.regionBack d))) ∧
      (∀ (d : Fin 40) (t : Fin 128), SMap.get (fun _ => false) s.chip.pw.tileReset (d * 128 + t) = true →
        exec (.resetEnd (.tile d t)) s = .next (s.after (s.chip.tileBack d t))) ∧
      (∀ (d : Fin 40) (b : Fin 8), SMap.get (fun _ => false) s.chip.pw.blockReset (d * 8 + b) = true →
        exec (.resetEnd (.block d b)) s = .next (s.after ((s.chip.modPw (fun p => { p with blockReset := SMap.erase p.blockReset (d * 8 + b) })).blockBack d b
          (s.chip.blockFb d b || s.chip.isolated d)))))

/-- RESTART waits while a die is hot, and ends the reset of the chip. (00_scope.md R10, 01_architecture.md R17, 02_eufen_image.md R56,
02_eufen_image.md R57, 15_power_clocks_reset.md R415, 15_power_clocks_reset.md R430, 16_management_security_twin.md R457,
18_electrical_and_package.md R506) -/
def Obligations.RestartBringsTheHubsBack : Prop :=
  ∀ (s : State),
    (∀ b : BootFacts, (s.chip.pw.chipReset = 0 ∨ s.chip.pw.hot.any (fun e => e.2) = true) → exec (.restart b) s = .next (s.after s.chip)) ∧
    (∀ b : BootFacts, s.chip.pw.chipReset ≠ 0 → s.chip.pw.hot.any (fun e => e.2) = false →
      let on : Chip := { s.chip.modPw (fun p => { p with chipReset := 0, dataHeld := true }) with sagN := true }
      let found := ((on.bootRoles b.idA b.idB).modHub 0 (fun x => { x with flash := { x.flash with floorOk := b.floorA } })).modHub 1
        (fun x => { x with flash := { x.flash with floorOk := b.floorB } })
      let up := (found.bootHub 0 b.idA).bootHub 1 b.idB
      (∀ h, up.primary = some h → (up.hub h).fw.isSome = true → (let c := up.bootPrimary h s.chip.pw.chipReset b.setpoint.toNat
        exec (.restart b) s = .next (s.after ((List.range 40).foldl Chip.reportLost (c.resetNotice c.primaryDie s.chip.pw.chipReset 4))))) ∧
      (up.primary = none → exec (.restart b) s = .next (s.after
        ((List.range 40).foldl Chip.reportLost (up.resetNotice up.primaryDie s.chip.pw.chipReset 4))))) ∧
    (∀ idA idB : Bool, (s.chip.bootRoles idA idB).primary = if idA = true then some 0 else if idB = true then some 1 else none)

/-- The ring search, the locks and the tone checks. (04_optical_engine.md R131, 04_optical_engine.md R132, 04_optical_engine.md R134,
04_optical_engine.md R135, 04_optical_engine.md R136, 04_optical_engine.md R137, 04_optical_engine.md R139) -/
def Obligations.RingsSearchAndLock : Prop :=
  ∀ (s : State),
    (∀ d : Fin 32, (s.chip.get (R.PRT_OPT_STAT d) F.PRT_OPT_STAT_SEARCH = 0 → s.chip.pw.dataHeld = false →
        exec (.searchStart d) s = .next (s.after ((s.chip.set (R.PRT_OPT_STAT d) F.PRT_OPT_STAT_SEARCH 1).searchFrom d 16 0))) ∧
      (s.chip.get (R.PRT_OPT_STAT d) F.PRT_OPT_STAT_SEARCH ≠ 0 → exec (.searchStart d) s = .next (s.after s.chip))) ∧
    (∀ (d : Fin 32) (f : Fin 8) (r : Fin 17), ∀ dips : List (BitVec 12), s.chip.ringSt d f r = RS.search →
      (exec (.ringSweepDone d f r false dips) s = .next (s.after
        (let p := (s.chip.parkRing d f r).modRing d f r (fun x => { x with dark := true })
         let q := if r.val < 8 then p else p.modOptics (fun o => { o with rxLight := SMap.set (fun _ => false) o.rxLight (d * 8 + f) false })
         (q.opticalNotice d f r (s.chip.wantedCh d f r) 0x02 0).searchStep d))) ∧
      (∀ v, sweepRecord (dips.map (·.toNat)) = some v → exec (.ringSweepDone d f r true dips) s = .next (s.after
        ((((s.chip.modRing d f r (fun x => { x with record := v, badSweeps := 0 })).set (R.PRT_RING d f r) F.PRT_RING_RECORD 1).ringTo d f r
          (s.chip.wantedCh d f r) false).searchStep d))) ∧
      (sweepRecord (dips.map (·.toNat)) = none → exec (.ringSweepDone d f r true dips) s = .next (s.after
        ((if 1 ≤ (s.chip.ring d f r).badSweeps then s.chip.ringFault d f r
          else s.chip.modRing d f r (fun x => { x with badSweeps := x.badSweeps + 1 })).searchStep d)))) ∧
    (∀ (d : Fin 32) (f : Fin 8) (r : Fin 17), s.chip.ringSt d f r = RS.locking →
      exec (.ringLockCapture d f r) s = .next (s.after ((s.chip.setRingSt d f r RS.confirm).modRing d f r (fun x => { x with dark := false, badTones := 0 }))) ∧
      ((s.chip.ring d f r).waits = 0 →
        ((s.chip.ring d f r).fromHeld = true → exec (.ringCaptureTimeout d f r) s = .next (s.after
          ((s.chip.modRing d f r (fun x => { x with badSweeps := 0 })).searchRing d f r))) ∧
        ((s.chip.ring d f r).fromHeld = false → exec (.ringCaptureTimeout d f r) s = .next (s.after
          (((s.chip.opticalNotice d f r (s.chip.ringCh d f r) 0x03 (s.chip.get (R.PRT_RING d f r) F.PRT_RING_WRONG)).ringWrong d f r).searchStep d))))) ∧
    (∀ (d : Fin 32) (f : Fin 8) (r : Fin 17), ∀ amp below above ref : Nat,
      (s.chip.ringSt d f r = RS.confirm →
        (toneOk (s.chip.ringCh d f r) amp below above ref = true → exec (.toneCheckWindow d f r amp below above ref) s = .next (s.after ((s.chip.ringLock d f r).searchStep d))) ∧
        (toneOk (s.chip.ringCh d f r) amp below above ref = false → exec (.toneCheckWindow d f r amp below above ref) s = .next (s.after (s.chip.wrongLock d f r)))) ∧
      (s.chip.ringSt d f r = RS.locked →
        (toneOk (s.chip.ringCh d f r) amp below above ref = true → exec (.toneCheckWindow d f r amp below above ref) s = .next (s.after
          (s.chip.modRing d f r (fun x => { x with badTones := 0 })))) ∧
        (toneOk (s.chip.ringCh d f r) amp below above ref = false → (s.chip.ring d f r).badTones < 3 →
          exec (.toneCheckWindow d f r amp below above ref) s = .next (s.after (s.chip.modRing d f r (fun x => { x with badTones := x.badTones + 1 })))) ∧
        (toneOk (s.chip.ringCh d f r) amp below above ref = false → 3 ≤ (s.chip.ring d f r).badTones →
          exec (.toneCheckWindow d f r amp below above ref) s = .next (s.after (s.chip.wrongLock d f r))))) ∧
    (∀ (d : Fin 32) (f : Fin 8) (r : Fin 17), s.chip.ringSt d f r = RS.recover → (s.chip.ring d f r).waits = 0 →
      (∀ v : BitVec 12, exec (.ringRecoveryDone d f r (some v)) s = .next (s.after ((s.chip.setRingSt d f r RS.confirm).setHtr d f r (min v.toNat 4095)))) ∧
      exec (.ringRecoveryDone d f r none) s = .next (s.after ((s.chip.ringWrong d f r).searchStep d)))

/-- LOCK_SLIP, light lost, restored and first seen, LOCK_LOOP_UPDATE and OPT_SEARCH_AGAIN. (04_optical_engine.md R132, 04_optical_engine.md
R133, 04_optical_engine.md R136, 04_optical_engine.md R140, 04_optical_engine.md R142, 04_optical_engine.md R157) -/
def Obligations.RingsLoseAndRegainLight : Prop :=
  ∀ (s : State),
    (∀ (d : Fin 32) (f : Fin 8) (r : Fin 17), (s.chip.ringSt d f r = RS.locked → exec (.lockSlip d f r) s = .next (s.after
        ((((s.chip.setRingSt d f r RS.locking).modRing d f r (fun x => { x with fromHeld := false })).opticalNotice d f r (s.chip.ringCh d f r) 0x05 0).ringLeft d f r))) ∧
      (s.chip.ringSt d f r ≠ RS.locked → exec (.lockSlip d f r) s = .next (s.after s.chip))) ∧
    (∀ (d : Fin 32) (f : Fin 8) (r : Fin 17), (s.chip.ringSt d f r = RS.locked → exec (.ringLightLoss d f r) s = .next (s.after
        (((s.chip.modRing d f r (fun x => { x with dark := true })).holdRing d f r).ringLeft d f r))) ∧
      (s.chip.ringSt d f r ≠ RS.locked → exec (.ringLightLoss d f r) s = .next (s.after
        ((s.chip.modRing d f r (fun x => { x with dark := true })).searchStep d)))) ∧
    (∀ (d : Fin 32) (f : Fin 8) (r : Fin 17), s.chip.pw.standby = false → (8 ≤ r.val ∨ s.chip.flag (R.PRT_FP d f) F.PRT_FP_FEED_LOST = false) →
      (s.chip.ringSt d f r = RS.held → exec (.ringLightRestored d f r) s = .next (s.after
        ((s.chip.setRingSt d f r RS.locking).modRing d f r (fun x => { x with fromHeld := true, dark := false })))) ∧
      (s.chip.ringSt d f r ≠ RS.held → exec (.ringLightRestored d f r) s = .next (s.after (s.chip.modRing d f r (fun x => { x with dark := false }))))) ∧
    (∀ (d : Fin 32) (f : Fin 8), exec (.ringLightAppears d f none) s = .next (s.after
        ((s.chip.modOptics (fun o => { o with rxLight := SMap.set (fun _ => false) o.rxLight (d * 8 + f) true })).searchKick d)) ∧
      (∀ r : Fin 17, r.val < 8 → exec (.ringLightAppears d f (some r)) s = .next (s.after
        ((s.chip.modRing d f r (fun x => { x with dark := false })).searchKick d)))) ∧
    (∀ (d : Fin 32) (f : Fin 8) (r : Fin 17), ∀ code : BitVec 12,
      (s.chip.ringSt d f r ≠ RS.locking → s.chip.ringSt d f r ≠ RS.confirm → s.chip.ringSt d f r ≠ RS.locked →
        exec (.lockLoopUpdate d f r code) s = .next (s.after s.chip)) ∧
      ((s.chip.ringSt d f r = RS.locking ∨ s.chip.ringSt d f r = RS.confirm) → code.toNat < 4095 →
        exec (.lockLoopUpdate d f r code) s = .next (s.after (s.chip.setHtr d f r code.toNat))) ∧
      (s.chip.ringSt d f r = RS.locked → code.toNat ≤ 3890 → exec (.lockLoopUpdate d f r code) s = .next (s.after (s.chip.setHtr d f r code.toNat)))) ∧
    (∀ d : Fin 32, (s.chip.get (R.PRT_OPT_REQ d) F.PRT_OPT_REQ_OP ≠ 3 → exec (.optSearchAgain d) s = .next (s.after s.chip)) ∧
      (let n := s.chip.get (R.PRT_OPT_REQ d) F.PRT_OPT_REQ_RING
       let c := s.chip.setBoth (R.PRT_OPT_REQ d) F.PRT_OPT_REQ_OP 0
       s.chip.get (R.PRT_OPT_REQ d) F.PRT_OPT_REQ_OP = 3 →
        ((136 ≤ n ∨ s.chip.ringSt d (n / 17) (n % 17) ≠ RS.parked) → exec (.optSearchAgain d) s = .next (s.after c)) ∧
        (n < 136 → s.chip.ringSt d (n / 17) (n % 17) = RS.parked → exec (.optSearchAgain d) s = .next (s.after
          ((c.modRing d (n / 17) (n % 17) (fun x => { x with badSweeps := 0, dark := false })).searchRing d (n / 17) (n % 17))))))

/-- Calibration, moves to and from the spare wavelength, fade readings and the optical requests. (04_optical_engine.md R143,
04_optical_engine.md R144, 04_optical_engine.md R145, 04_optical_engine.md R148, 04_optical_engine.md R149, 04_optical_engine.md R150,
04_optical_engine.md R151, 04_optical_engine.md R153, 04_optical_engine.md R154, 04_optical_engine.md R155, 04_optical_engine.md R157) -/
def Obligations.LanesAreCalibratedMovedAndWatched : Prop :=
  ∀ (s : State),
    (∀ l : Fin 2048, (s.chip.role l = 1 ∨ s.chip.role l = 2) → s.chip.laneState l ≠ LS.cleared → s.chip.hasEntry (laneDie l) (isCal l) = none →
      ((s.chip.role l = 1 ∧ s.chip.portWidth l = 1 ∧ s.chip.flag (R.PRT_OPT_POL (laneDie l)) F.PRT_OPT_POL_CAL_SOLO = false ∧ s.chip.laneState l ≠ LS.drained) →
        exec (.calibrationDue l) s = .next (s.after (s.chip.laneOptical l 0x06 0xFFFF))) ∧
      ((s.chip.role l ≠ 1 ∨ s.chip.portWidth l ≠ 1 ∨ s.chip.flag (R.PRT_OPT_POL (laneDie l)) F.PRT_OPT_POL_CAL_SOLO = true ∨ s.chip.laneState l = LS.drained) →
        exec (.calibrationDue l) s = .next (s.after (s.chip.ledgerRequest (laneDie l) (.cal l))))) ∧
    (∀ (l : Fin 2048) (m : Move), (s.chip.laneOpt l).move = some m → m.acted = true → m.fin = false →
      (∀ us, m.kind = 3 → s.chip.laneState l = LS.drained → exec (.calibrationDone l us) s = .next (s.after
        ((s.chip.laneOptical l 0x06 (us : Int)).moveFin l false))) ∧
      (m.kind ≠ 3 → exec (.swapTrainTimeout l) s = .next (s.after ((s.chip.laneOptical l 0x0A (s.chip.fade l)).moveFin l true)))) ∧
    (∀ d : Fin 32, let l := s.chip.optReqLane d
      (s.chip.optReqOp d = 1 → s.chip.onSpare l = true → -50 < s.chip.spareFade l →
        exec (.optReturnFromSpare d) s = .next (s.after ((s.chip.optReqDone d).ledgerRequest d (.swap true (feedOf l) [l])))) ∧
      (s.chip.optReqOp d = 1 → s.chip.onSpare l = false → exec (.optReturnFromSpare d) s = .next (s.after (s.chip.optReqDone d))) ∧
      (s.chip.optReqOp d = 2 → exec (.optCalibrateNow d) s = .next (s.after ((s.chip.optReqDone d).calRequest l))) ∧
      (s.chip.optReqOp d = 4 → s.chip.fadeHold l = true → exec (.optClearFadeHold d) s = .next (s.after
        (((s.chip.optReqDone d).modLaneOpt l (fun x => { x with holdClear := true })).holdEndCheck l))) ∧
      (s.chip.optReqOp d = 4 → s.chip.fadeHold l = false → exec (.optClearFadeHold d) s = .next (s.after (s.chip.optReqDone d)))) ∧
    (∀ (d : Fin 32) (powers spares : List Int), powers.length = 64 → spares.length = 8 → exec (.fadeReading d powers spares) s = .next (s.after
      ((((dieLanes d).foldl (fun c l => c.fadeRead powers l) ([2 * d.val, 2 * d.val + 1].foldl (fun c feed => c.feedRead feed powers)
        ((List.range 8).foldl (fun c f => c.spareRead d f (spares.getD f 0)) s.chip))).fadeCross d).fadeUnusable d)))

/-- Requests, messages and timers of clearings. (05_clearings.md R166, 05_clearings.md R172, 05_clearings.md R173, 05_clearings.md R174,
05_clearings.md R175, 05_clearings.md R176, 05_clearings.md R177, 05_clearings.md R178, 05_clearings.md R179, 05_clearings.md R181,
05_clearings.md R184) -/
def Obligations.ClearingsAreSetUpAndTornDown : Prop :=
  ∀ (s : State),
    (∀ d : Fin 32, let r := s.chip.clrReqRoute d
      let k := s.chip.clrReqChan d
      (s.chip.clrReqOp d = 1 → s.chip.clrAllowed d r k = false → exec (.clearingSetup d) s = .next (s.after (s.chip.clrReqDone d))) ∧
      (∀ i, s.chip.clrReqOp d = 1 → s.chip.clrAllowed d r k = true →
        (((s.chip.clrReqDone d).ledgerRequest d (.clearing r k)).hasEntry d (isClearing r k)) = some i → exec (.clearingSetup d) s = .next (s.after
          (((((s.chip.clrReqDone d).ledgerRequest d (.clearing r k)).setClr d r k { bell := s.chip.get (R.CLR_REQ d) F.CLR_REQ_LEAD }).setClrSt d r k 1).set
            (R.CLR_CHAN d r k) F.CLR_CHAN_REASON 0))) ∧
      (s.chip.clrReqOp d ≠ 1 → exec (.clearingSetup d) s = .next (s.after s.chip)) ∧
      (s.chip.clrReqOp d = 2 → exec (.clearingTeardown d) s = .next (s.after (if (s.chip.clrReqDone d).clrSt d r k = 5
        then (s.chip.clrReqDone d).clrTeardown d r k 0 0 else (s.chip.clrReqDone d).clrCancelNow d r k 5))) ∧
      (s.chip.clrReqOp d ≠ 2 → exec (.clearingTeardown d) s = .next (s.after s.chip))) ∧
    (∀ (d : Fin 32) (r : Fin 4) (k : Fin 8),
      ((s.chip.clrSt d r k ≠ 2 ∨ (clrLanes d r k).all (fun l => s.chip.laneState l == LS.drained) = false) → exec (.clearSetSend d r k) s = .next (s.after s.chip)) ∧
      (s.chip.clrSt d r k = 2 → (clrLanes d r k).all (fun l => s.chip.laneState l == LS.drained) = true → (s.chip.clr d r k).bell < s.chip.now + 100 * tuUs →
        exec (.clearSetSend d r k) s = .next (s.after (s.chip.clrCancelNow d r k 4)))) ∧
    (∀ (l : Fin 2048) (seq st : Fin 256) (h : BitVec 16),
      ((s.chip.lane l).reqs.find? (fun q => (q.op == 0x18 || q.op == 0x19) && q.seq == seq.val) = none → exec (.clearAck l seq h st) s = .next (s.after s.chip)) ∧
      (s.chip.lcOpen l = true → exec (.clearAck l seq h st) s = .next (s.after (s.chip.clearAck l seq h.toNat st)))) ∧
    (∀ (l : Fin 2048) (seq : Fin 256) (h : BitVec 16) (lane : Fin 64), s.chip.lcOpen l = true →
      let r := laneBlock l % 4
      let k := lane.val % 8
      ((s.chip.clrHandle (laneDie l) r k ≠ h.toNat ∨ (s.chip.clrSt (laneDie l) r k ≠ 5 ∧ s.chip.clrSt (laneDie l) r k ≠ 6)) →
        exec (.clearDrained l seq h lane) s = .next (s.after (s.chip.lcSend l 0x1A seq [h.toNat, 6]))) ∧
      (s.chip.clrHandle (laneDie l) r k = h.toNat → (s.chip.clrSt (laneDie l) r k = 5 ∨ s.chip.clrSt (laneDie l) r k = 6) → (s.chip.lane l).acted? 0x1B seq = true →
        exec (.clearDrained l seq h lane) s = .next (s.after (s.chip.lcSend l 0x1A seq [h.toNat, 0])))) ∧
    (∀ (d : Fin 32) (r : Fin 4) (k : Fin 8),
      (s.chip.clrSt d r k = 6 → (s.chip.clr d r k).phase = 1 → exec (.clearDrainedTimeout d r k) s = .next (s.after (s.chip.clrForce d r k 0x0C))) ∧
      (s.chip.clrSt d r k ≠ 6 → exec (.clearDrainedTimeout d r k) s = .next (s.after s.chip)) ∧
      (s.chip.clrSt d r k = 5 → (clrLanes d r k).all (fun l => s.chip.clearCap l) = false → (clrLanes d r k).all (fun l => (s.chip.activeOfPort l).isSome) = true →
        exec (.clearingImageTeardown d r k) s = .next (s.after (s.chip.clrForce d r k 0x0B))) ∧
      ((s.chip.clrSt d r k ≠ 5 ∨ (clrLanes d r k).all (fun l => s.chip.clearCap l) = true) → exec (.clearingImageTeardown d r k) s = .next (s.after s.chip)))

/-- CELL_INGRESS, SAF_HOLD_EXPIRY, POLICER_REFILL and FLOW_LEARN_INSERT. (03_cells_and_links.md R80, 03_cells_and_links.md R120,
06_switching_path.md R186, 06_switching_path.md R190, 06_switching_path.md R195, 06_switching_path.md R214, 08_scheduling_and_shaping.md
R256, 08_scheduling_and_shaping.md R261, 09_tables_and_learning.md R279, 09_tables_and_learning.md R287) -/
def Obligations.CellsEnterTheChip : Prop :=
  ∀ (s : State),
    (∀ (l : Fin 2048) (x : Cell), let c := s.chip.takeRx l x; let d := laneDie l
      (c.planeRuns d = true ∧ c.isolated d = false ∧ c.role l = 1 ∧ c.laneState l = LS.active ∧ c.blkSt d (laneBlock l) = 0) →
      (x.crcOk = false → exec (.cellIngress l x false) s = .next (s.after
        ((c.incSat (R.PRT_RX_ERR d (laneLocal l)) F.PRT_RX_ERR_CRC_ERR 1).pmcDrop d 1))) ∧
      (x.crcOk = true → x.isLc = true → exec (.cellIngress l x false) s = .next (s.after c)) ∧
      (let r := c.countRx l x.tc.toNat
       x.crcOk = true → x.isLc = false →
        (r.headerOk d x = false → exec (.cellIngress l x false) s = .next (s.after
          (r.dropRx l x (R.PRT_RX_ERR d (laneLocal l)) F.PRT_RX_ERR_HDR_ERR))) ∧
        (r.headerOk d x = true → r.blockFb d (laneBlock l) = true → exec (.cellIngress l x false) s = .next (s.after
          (r.dropRx l x (R.PRT_FB_DISCARD d) F.PRT_FB_DISCARD_CELLS))) ∧
        (r.headerOk d x = true → r.blockFb d (laneBlock l) = false → exec (.cellIngress l x false) s = .next (s.after (r.dispatch l x))))) ∧
    (∀ (l : Fin 2048) (x : Cell), (s.chip.takeRx l x).isolated (laneDie l) = true → exec (.cellIngress l x false) s = .next (s.after (s.chip.takeRx l x))) ∧
    (∀ (d : Fin 32) (e : Fin 40) (k : Fin 8), exec (.safHoldExpiry d e k) s = .next (s.after (s.chip.safRelease d e k)) ∧
      ∀ b : Fin 8, ∀ v ∈ (s.chip.safRelease d e k).voq d b e k, v.eligible.isSome = true) ∧
    (∀ (d : Fin 32) (p : Fin 64) (k : Fin 4),
      (s.chip.flag (R.SCH_POL_CIR d p k) F.SCH_POL_CIR_ENABLE = true → s.chip.pw.clkHalf = false → exec (.policerRefill d p k) s = .next (s.after
        (s.chip.setBuckets d p k
          (min (s.chip.committed d p k + (s.chip.get (R.SCH_POL_CIR d p k) F.SCH_POL_CIR_CIR * 2 ^ 24 / 5000 : Nat))
            (s.chip.get (R.SCH_POL_CBS d p k) F.SCH_POL_CBS_VALUE * 2 ^ 24 : Nat))
          (min (s.chip.peak d p k + (s.chip.get (R.SCH_POL_PIR d p k) F.SCH_POL_PIR_VALUE * 2 ^ 24 / 5000 : Nat))
            (s.chip.get (R.SCH_POL_PBS d p k) F.SCH_POL_PBS_VALUE * 2 ^ 24 : Nat))))) ∧
      (s.chip.flag (R.SCH_POL_CIR d p k) F.SCH_POL_CIR_ENABLE = false → exec (.policerRefill d p k) s = .next (s.after s.chip))) ∧
    (∀ d : Fin 32, (SMap.get (fun _ => []) s.chip.tb.learnQ d = [] → exec (.flowLearnInsert d) s = .next (s.after s.chip)) ∧
      (∀ q t, SMap.get (fun _ => []) s.chip.tb.learnQ d = q :: t →
        let r := ({ s.chip with tb := { s.chip.tb with learnQ := SMap.set (fun _ => []) s.chip.tb.learnQ d t } }).flowLookup d q.key
        (∀ i, r.1 = some i → exec (.flowLearnInsert d) s = .next (s.after (r.2.flowCharge d i q.units))) ∧
        (r.1 = none → (r.2.flowInsert d (r.2.learnEntry d q)).1.1.idx = none → exec (.flowLearnInsert d) s = .next (s.after
          ((r.2.flowInsert d (r.2.learnEntry d q)).2.incSat (R.TBL_LEARN_STAT d) F.TBL_LEARN_STAT_LOST 1))) ∧
        (∀ i, r.1 = none → (r.2.flowInsert d (r.2.learnEntry d q)).1.1.idx = some i → exec (.flowLearnInsert d) s = .next (s.after
          ((r.2.flowInsert d (r.2.learnEntry d q)).2.flowCharge d i 0)))))

/-- The uplink scheduler, landings, the crossbar and the two kinds of credit. (06_switching_path.md R200, 06_switching_path.md R201,
06_switching_path.md R202, 06_switching_path.md R206, 06_switching_path.md R207, 06_switching_path.md R209, 06_switching_path.md R214,
06_switching_path.md R216, 07_buffers_and_congestion.md R229) -/
def Obligations.EnvelopesCrossTheChip : Prop :=
  ∀ (s : State),
    (∀ d : Fin 32, (s.chip.isolated d = true → exec (.uplinkSchedule d) s = .next (s.after s.chip)) ∧
      (s.chip.planeRuns d = true → s.chip.isolated d = false → s.chip.dieRuns d = true → exec (.uplinkSchedule d) s = .next (s.after
        ([0, 1, 2, 3, 4, 5, 6, 7].foldl (fun (x : List Nat × Chip) i => x.2.uplinkTurn d ((s.chip.slot + i) % 8) x.1) ([], s.chip.ingWaiting d)).2))) ∧
    (∀ (d : Fin 32) (k : Fin 8) (e : Env) (t : List Env), SMap.get (fun _ => []) s.chip.sw.up (d * 8 + k) = e :: t →
      let c := s.chip.modSw (fun w => { w with up := SMap.set (fun _ => []) w.up (d * 8 + k) t })
      (c.isolated (32 + k) = true → exec (.envelopeLandCore d k) s = .next (s.after c)) ∧
      (c.isolated (32 + k) = false → e.spill = true → exec (.envelopeLandCore d k) s = .next (s.after (c.spillPark k e))) ∧
      (c.isolated (32 + k) = false → e.spill = false → e.dst = 32 + k → exec (.envelopeLandCore d k) s = .next (s.after (c.landLocal k e))) ∧
      (c.isolated (32 + k) = false → e.spill = false → e.dst ≠ 32 + k → c.isolated e.dst = true → exec (.envelopeLandCore d k) s = .next (s.after
        (((c.incSat (R.XBR_DROP (32 + k)) F.XBR_DROP_ENVELOPES 1).pmcDrop (32 + k) e.cells.length).envCreditDue d k e.dst))) ∧
      (c.isolated (32 + k) = false → e.spill = false → e.dst ≠ 32 + k → c.isolated e.dst = false → c.tileFb (32 + k) e.dst = false →
        c.tileFb (32 + k) d = false → exec (.envelopeLandCore d k) s = .next (s.after (c.xqPush k d e.dst e)))) ∧
    (∀ k : Fin 8, (s.chip.isolated (32 + k) = true → exec (.crossbarArbitrate k) s = .next (s.after s.chip)) ∧
      (s.chip.planeRuns (32 + k) = true → s.chip.isolated (32 + k) = false → s.chip.dieRuns (32 + k) = true →
        ∃ m : List Req, (m.map (·.o)).Nodup ∧ (m.map (·.i)).Nodup ∧ (∀ r ∈ m, r ∈ s.chip.allReqs k) ∧
          ∃ g a, exec (.crossbarArbitrate k) s = .next (s.after (m.foldl (fun c r => c.switchHead k r)
            (s.chip.modSw (fun w => { w with gptr := g, aptr := a })))))) ∧
    (∀ (d : Fin 32) (k : Fin 8) (e : Env) (t : List Env), SMap.get (fun _ => []) s.chip.sw.down (k * 32 + d) = e :: t →
      let c := s.chip.modSw (fun w => { w with down := SMap.set (fun _ => []) w.down (k * 32 + d) t })
      (c.isolated d = true → exec (.envelopeLandEgress d k) s = .next (s.after c)) ∧
      (let g := c.gatherPlaces d e.cells
       let r := g.2.placeSlot d (g.2.landSlots d) [] g.1
       c.isolated d = false → c.planeRuns d = true →
        (r.1 = [] → exec (.envelopeLandEgress d k) s = .next (s.after (r.2.landCreditDue k d))) ∧
        (r.1 ≠ [] → exec (.envelopeLandEgress d k) s = .next (s.after (r.2.setLandSlots d (g.2.landSlots d ++ [⟨k, r.1⟩])))))) ∧
    (∀ d : Fin 32, let r := s.chip.placeAll d [] (s.chip.landSlots d)
      exec (.stalledCellPlace d) s = .next (s.after ((r.2.setLandSlots d r.1).stallEnd d)) ∧
      (s.chip.landSlots d = [] → r = ([], s.chip))) ∧
    (∀ (d : Fin 32) (k : Fin 8) (e : Fin 40), let key := pairKey d k e
      (sget s.chip.sw.envReturn key = 0 → exec (.envCreditReturn d k e) s = .next (s.after s.chip)) ∧
      (s.calm = true → sget s.chip.sw.envReturn key ≠ 0 → 0 < sget s.chip.sw.envSpent key →
        ∃ t, exec (.envCreditReturn d k e) s = .next t ∧ sget t.chip.sw.envReturn key = sget s.chip.sw.envReturn key - 1 ∧
          t.chip.envHeld d k e = (if sget s.chip.sw.envWithheld key < sget s.chip.sw.envLowered k then s.chip.envHeld d k e else s.chip.envHeld d k e + 1) ∧
          ∀ a, t.chip.rd a = s.chip.rd a)) ∧
    (∀ (d : Fin 32) (k : Fin 8), let key := k.val * 32 + d.val
      (sget s.chip.sw.landReturn key = 0 → exec (.landingCreditReturn d k) s = .next (s.after s.chip)) ∧
      (s.calm = true → sget s.chip.sw.landReturn key ≠ 0 → sget s.chip.sw.landSpent key ≤ 32 → 0 < sget s.chip.sw.landSpent key →
        ∃ t, exec (.landingCreditReturn d k) s = .next t ∧ t.chip.landHeld k d = s.chip.landHeld k d + 1 ∧
          sget t.chip.sw.landReturn key = sget s.chip.sw.landReturn key - 1 ∧ ∀ a, t.chip.rd a = s.chip.rd a))

/-- Hold masks are sampled, relayed and applied; spill pools are unparked and expire. (07_buffers_and_congestion.md R227,
07_buffers_and_congestion.md R233, 07_buffers_and_congestion.md R235, 07_buffers_and_congestion.md R236, 07_buffers_and_congestion.md
R237) -/
def Obligations.HoldMasksAndSpillPools : Prop :=
  ∀ (s : State),
    (∀ d : Fin 32, (s.chip.isolated d = true → exec (.holdMaskSample d) s = .next (s.after s.chip)) ∧
      (s.calm = true → s.chip.isolated d = false → s.chip.planeRuns d = true → ∃ t, exec (.holdMaskSample d) s = .next t ∧
        ∀ k : Fin 8, sget t.chip.sw.holdSample (k * 32 + d) =
          (if s.chip.d2dDown d k = true ∨ s.chip.isolated (32 + k) = true then sget s.chip.sw.holdSample (k * 32 + d) else s.chip.holdMask d))) ∧
    (∀ d : Fin 32, s.calm = true → ∃ t, exec (.holdMaskApply d) s = .next t ∧ ∀ e : Fin 32,
      SMap.get (fun _ => none) t.chip.sw.holdRelay (d * 32 + e) = none ∧
      sget t.chip.sw.holdApplied (d * 32 + e) = (SMap.get (fun _ => none) s.chip.sw.holdRelay (d * 32 + e)).getD (sget s.chip.sw.holdApplied (d * 32 + e))) ∧
    (∀ k : Fin 8, (s.chip.isolated (32 + k) = true → exec (.holdMaskRelay k) s = .next (s.after s.chip)) ∧
      (s.calm = true → s.chip.isolated (32 + k) = false → s.chip.planeRuns (32 + k) = true → ∃ t, exec (.holdMaskRelay k) s = .next t ∧
        ∀ d e : Fin 32, SMap.get (fun _ => none) t.chip.sw.holdRelay (d * 32 + e) =
          (if e.val / 4 = s.chip.slot % 8 ∧ s.chip.d2dDown e k = false ∧ s.chip.d2dDown d k = false ∧ s.chip.isolated d = false
           then some (sget s.chip.sw.holdSample (k * 32 + e)) else SMap.get (fun _ => none) s.chip.sw.holdRelay (d * 32 + e)))) ∧
    (∀ (k : Fin 8) (e : Fin 32), (s.chip.landHeld k e = 0 → exec (.spillUnpark k e) s = .next (s.after s.chip)) ∧
      (let r := s.chip.unparkCells k e 12
       s.chip.landHeld k e ≠ 0 → s.chip.isolated e = false → s.chip.isolated (32 + k) = false → s.chip.tileFb (32 + k) e = false →
        (r.1 = [] → exec (.spillUnpark k e) s = .next (s.after s.chip)) ∧
        (r.1 ≠ [] → r.1.length ≤ 12 ∧ exec (.spillUnpark k e) s = .next (s.after
          ((r.2.hbmRead k (64 * r.1.length)).xqPush k 32 e { src := 32 + k, dst := e, seq := 0, cells := r.1, spill := false }))))) ∧
    (∀ (k : Fin 8) (e : Fin 32) (cls : Fin 8), (s.chip.parked k e cls = [] → exec (.spillLifetimeExpiry k e cls) s = .next (s.after s.chip)) ∧
      (∀ h t, s.chip.parked k e cls = h :: t → exec (.spillLifetimeExpiry k e cls) s = .next (s.after
        (((((s.chip.setParked (parkKey k e cls) t).setSpillOcc k (s.chip.spillOcc k - 1)).incSat (R.BUF_SPILL_EXPIRED (32 + k)) F.BUF_SPILL_EXPIRED_CELLS 1).pmcDrop
          (32 + k) 1).modSw (fun w => { w with expiredFirst := if sget w.expiredWin k = 0 then sset w.expiredFirst k (e + cls * 64) else w.expiredFirst, expiredWin := sadd w.expiredWin k 1 }))))) ∧
    (∀ k : Fin 8, (sget s.chip.sw.expiredWin k = 0 → exec (.spillExpiryWindowEnd k) s = .next (s.after s.chip)) ∧
      (let f := sget s.chip.sw.expiredFirst k
       sget s.chip.sw.expiredWin k ≠ 0 → exec (.spillExpiryWindowEnd k) s = .next (s.after
        ((s.chip.post (32 + k) 0x09 1 (32 + k) 3 0 0 (sget s.chip.sw.expiredWin k % 2 ^ 32 + f % 64 * 2 ^ 32 + f / 64 * 2 ^ 38)).modSw
          (fun w => { w with expiredWin := sset w.expiredWin k 0, expiredFirst := sset w.expiredFirst k 0 })))))

/-- Lane assignment, cell slots, shapers, timed launches, saturation and the die-to-die links. (03_cells_and_links.md R102,
06_switching_path.md R197, 06_switching_path.md R211, 06_switching_path.md R213, 07_buffers_and_congestion.md R243,
08_scheduling_and_shaping.md R252, 08_scheduling_and_shaping.md R256, 08_scheduling_and_shaping.md R264, 08_scheduling_and_shaping.md
R265, 08_scheduling_and_shaping.md R266) -/
def Obligations.LanesSendAndDieToDieLinksRecover : Prop :=
  ∀ (s : State),
    (∀ d : Fin 32, (s.chip.isolated d = true → exec (.laneAssign d) s = .next (s.after s.chip)) ∧
      (s.chip.planeRuns d = true → s.chip.isolated d = false → s.chip.dieRuns d = true → exec (.laneAssign d) s = .next (s.after
        (((List.range 64).filter (fun p => s.chip.startsPort d p)).foldl (fun c p => c.assignPort d p) s.chip)))) ∧
    (∀ l : Fin 2048, s.chip.darkChip = false → s.chip.planeRuns (laneDie l) = true → s.chip.transmits l = true → s.chip.laneState l = LS.active →
      (∀ m t, (s.chip.lane l).lcOut = m :: t → (s.chip.lane l).txLc < 2 → exec (.laneCellSlot l) s = .next (s.after ((s.chip.sendLc l m t).slotPass l))) ∧
      ((s.chip.lane l).lcOut = [] → (s.chip.lane l).launch = none →
        (∀ k, s.chip.strictReady l = some k → exec (.laneCellSlot l) s = .next (s.after ((s.chip.sendStaged l k).slotPass l))) ∧
        (∀ k v, s.chip.strictReady l = none → s.chip.wfqReady l = some (k, v) → exec (.laneCellSlot l) s = .next (s.after
          (((s.chip.sendStaged l k).modSw (fun w => { w with wfqV := sset w.wfqV l v })).slotPass l))) ∧
        (s.chip.strictReady l = none → s.chip.wfqReady l = none → exec (.laneCellSlot l) s = .next (s.after
          ((s.chip.modLane l (fun y => { y with lastTx := none })).slotPass l))))) ∧
    (∀ (d : Fin 32) (p : Fin 64) (i : Fin 9), (s.chip.shaped d p i = false → exec (.shaperRefill d p i) s = .next (s.after s.chip)) ∧
      (s.chip.shaped d p i = true → s.chip.pw.clkHalf = false → exec (.shaperRefill d p i) s = .next (s.after (s.chip.setTokens d p i
        (min (s.chip.tokens d p i + (s.chip.get (R.SCH_SHP_RATE d p i) F.SCH_SHP_RATE_RATE * 2 ^ 24 / 5000 : Nat)) (s.chip.burst d p i))))) ∧
      (s.chip.shaped d p i = true → s.chip.pw.clkHalf = true → exec (.shaperRefill d p i) s = .next (s.after (s.chip.setTokens d p i
        (min (s.chip.tokens d p i + (s.chip.get (R.SCH_SHP_RATE d p i) F.SCH_SHP_RATE_RATE * 2 ^ 24 * 2 / 5000 : Nat)) (s.chip.burst d p i)))))) ∧
    (∀ (d : Fin 32) (i : Fin 256), (SMap.get (fun _ => none) s.chip.bells (d * 256 + i) = none → exec (.launchPrepare d i) s = .next (s.after s.chip)) ∧
      (∀ b, SMap.get (fun _ => none) s.chip.bells (d * 256 + i) = some b →
        (b.action ≠ 1 → exec (.launchPrepare d i) s = .next (s.after s.chip)) ∧
        (∀ e t l, b.action = 1 → s.chip.queueHeld d (b.arg % 64) (b.arg / 64 % 8) = true → s.chip.pq d (b.arg % 64) (b.arg / 64 % 8) = e :: t →
          s.chip.launchLane d (b.arg % 64) (b.arg / 64 % 8) = some l → exec (.launchPrepare d i) s = .next (s.after
            ((s.chip.setPq d (b.arg % 64) (b.arg / 64 % 8) t).modLane l (fun x => { x with launch := some ⟨e.buf, e.ts, b.arg % 64, b.arg / 64 % 8, b.time, if b.ts then some (2 * 65536 + b.tag) else none, i, false, false⟩ })))))) ∧
    (∀ (d : Fin 32) (p : Fin 64) (k : Fin 8), (SMap.get (fun _ => none) s.chip.sw.late (pqKey d p k) = none → exec (.lateLaunch d p k) s = .next (s.after s.chip)) ∧
      (∀ x e t l, SMap.get (fun _ => none) s.chip.sw.late (pqKey d p k) = some x → s.chip.pq d p k = e :: t → s.chip.launchLane d p k = some l →
        exec (.lateLaunch d p k) s = .next (s.after (((s.chip.setPq d p k t).modLane l (fun y => { y with launch := some { x with buf := e.buf, own := e.ts } })).modSw
          (fun w => { w with late := SMap.set (fun _ => none) w.late (pqKey d p k) none }))))) ∧
    (∀ (w : Fin 5) (d : Fin 40) (u : Fin 64) (enter : Bool) (us : Nat), satUnit w d u = true → let key := (w.val * 64 + d) * 64 + u
      (sget s.chip.sw.satSince key = enter.toNat → exec (.levelSatDwell w d u enter us) s = .next (s.after s.chip)) ∧
      (sget s.chip.sw.satSince key = (!enter).toNat → s.chip.planeRuns d = true → s.chip.saturated w d u enter = enter →
        ∃ detail, detail % 2 ^ 8 = (if enter then 1 else 2) ∧ exec (.levelSatDwell w d u enter us) s = .next (s.after
          ((s.chip.post d 0x02 (if enter then 1 else 0) d (if w.val = 1 then 1 else if w.val = 2 then 2 else 3)
            (if w.val = 1 then u / 8 else if w.val = 2 then u else 0) (if w.val = 1 then u else 0) detail).modSw
            (fun x => { x with satSince := sset x.satSince key enter.toNat }))))) ∧
    (∀ (d : Fin 32) (k : Fin 8) (up : Bool), let key := (d.val * 8 + k.val) * 2 + up.toNat; let a := replayReg d k up
      s.chip.d2dDown d k = false → s.chip.isolated d = false → s.chip.isolated (32 + k) = false → sget s.chip.sw.d2dWindow key = s.chip.now / tuMs + 1 →
      (let n := sget s.chip.sw.slotReplays key + 1
       let c (m : Nat) := ((s.chip.incSat a F.PRT_D2D_REPLAY_TOTAL 1).incSat a F.PRT_D2D_REPLAY_WINDOW 1).modSw (fun w => { w with slotReplays := sset w.slotReplays key m })
       exec (.d2dBeatUncorrectable d k up false) s = .next (s.after (c 1)) ∧
       (n ≤ 8 → exec (.d2dBeatUncorrectable d k up true) s = .next (s.after (c n))) ∧
       (8 < n → exec (.d2dBeatUncorrectable d k up true) s = .next (s.after ((c n).linkDown d k))))) ∧
    (∀ (d : Fin 32) (k : Fin 8) (up : Bool),
      (s.chip.get (replayReg d k up) F.PRT_D2D_REPLAY_WINDOW ≤ 1024 → exec (.d2dReplayLimit d k up) s = .next (s.after s.chip)) ∧
      (1024 < s.chip.get (replayReg d k up) F.PRT_D2D_REPLAY_WINDOW → exec (.d2dReplayLimit d k up) s = .next (s.after (s.chip.linkDown d k))) ∧
      (s.chip.d2dDown d k = false → exec (.d2dRetrainDone d k) s = .next (s.after s.chip)) ∧
      (s.calm = true → s.chip.d2dDown d k = true → ∃ t, exec (.d2dRetrainDone d k) s = .next t ∧ t.chip.d2dDown d k = false ∧ ∀ j : Fin 8, j ≠ k → t.chip.d2dDown d j = s.chip.d2dDown d j))

/-- The six table operations of TBL_OP. (09_tables_and_learning.md R270, 09_tables_and_learning.md R271, 09_tables_and_learning.md R274,
09_tables_and_learning.md R276) -/
def Obligations.TableOperations : Prop :=
  ∀ (s : State),
    (∀ d : Fin 32, (s.chip.get (R.TBL_OP d) F.TBL_OP_OP ≠ 0 → exec (.tblNone d) s = .next (s.after s.chip)) ∧
      (s.chip.get (R.TBL_OP d) F.TBL_OP_OP = 0 → exec (.tblNone d) s = .next (s.after
        ((s.chip.set (R.TBL_OP_STAT d) F.TBL_OP_STAT_STATUS 0).setBoth (R.TBL_OP d) F.TBL_OP_OP 0)))) ∧
    (∀ d : Fin 32, (s.chip.get (R.TBL_OP d) F.TBL_OP_OP ≠ 1 → exec (.tblWrite d) s = .next (s.after s.chip)) ∧
      (s.chip.get (R.TBL_OP d) F.TBL_OP_OP = 1 → exec (.tblWrite d) s = .next (s.after
        (((s.chip.setLeaf d (s.chip.get (R.TBL_OP d) F.TBL_OP_INDEX) (BitVec.ofNat 128 ((s.chip.rd (R.TBL_DATA d 0)).toNat % 2 ^ 13))).wr
          (R.TBL_OP_STAT d) (BitVec.ofNat 32 (2 * 2 ^ 4))).setBoth (R.TBL_OP d) F.TBL_OP_OP 0)))) ∧
    (∀ d : Fin 32, (s.chip.get (R.TBL_OP d) F.TBL_OP_OP ≠ 2 → exec (.tblInsert d) s = .next (s.after s.chip)) ∧
      (s.chip.get (R.TBL_OP d) F.TBL_OP_OP = 2 → s.chip.tblTable d = 1 →
        let r := s.chip.flowInsert d (BitVec.ofNat 128 (s.chip.tblData d % 2 ^ 102 / 2 ^ 43 * 2 ^ 43 + s.chip.tblKey d))
        let c := if r.1.1.status = 3 then r.2.tblRes d r.1.2.toNat else r.2
        exec (.tblInsert d) s = .next (s.after ((c.tblStat d r.1.1.status r.1.1.idx false).setBoth (R.TBL_OP d) F.TBL_OP_OP 0))) ∧
      (s.chip.get (R.TBL_OP d) F.TBL_OP_OP = 2 → s.chip.tblTable d ≠ 1 →
        let r := s.chip.mcInsert d (BitVec.ofNat 256 (s.chip.tblData d % 2 ^ 137 / 2 ^ 20 * 2 ^ 20 + s.chip.tblKey d))
        let c := if r.1.1.status = 3 then r.2.tblRes d r.1.2.toNat else r.2
        exec (.tblInsert d) s = .next (s.after ((c.tblStat d r.1.1.status r.1.1.idx false).setBoth (R.TBL_OP d) F.TBL_OP_OP 0)))) ∧
    (∀ d : Fin 32, (s.chip.get (R.TBL_OP d) F.TBL_OP_OP ≠ 3 → exec (.tblDelete d) s = .next (s.after s.chip)) ∧
      (s.chip.get (R.TBL_OP d) F.TBL_OP_OP = 3 → s.chip.tblTable d = 1 →
        (∀ i c, s.chip.flowLookup d (s.chip.tblKey d) = (some i, c) → exec (.tblDelete d) s = .next (s.after
          ((((c.setFlow d i 0).countTables d).tblStat d 0 (some i) false).setBoth (R.TBL_OP d) F.TBL_OP_OP 0))) ∧
        (∀ c, s.chip.flowLookup d (s.chip.tblKey d) = (none, c) → exec (.tblDelete d) s = .next (s.after
          ((c.tblStat d 1 none false).setBoth (R.TBL_OP d) F.TBL_OP_OP 0)))) ∧
      (s.chip.get (R.TBL_OP d) F.TBL_OP_OP = 3 → s.chip.tblTable d ≠ 1 →
        (∀ i, s.chip.mcFind d (s.chip.tblKey d) = some i → exec (.tblDelete d) s = .next (s.after
          ((((s.chip.setMc d i 0).countTables d).tblStat d 0 (some i) false).setBoth (R.TBL_OP d) F.TBL_OP_OP 0))) ∧
        (s.chip.mcFind d (s.chip.tblKey d) = none → exec (.tblDelete d) s = .next (s.after
          ((s.chip.tblStat d 1 none false).setBoth (R.TBL_OP d) F.TBL_OP_OP 0))))) ∧
    (∀ d : Fin 32, (s.chip.get (R.TBL_OP d) F.TBL_OP_OP ≠ 4 → exec (.tblRead d) s = .next (s.after s.chip)) ∧
      (s.chip.get (R.TBL_OP d) F.TBL_OP_OP = 4 → s.chip.tblTable d = 0 → exec (.tblRead d) s = .next (s.after
        (((s.chip.tblRes d (s.chip.leafEnt d (s.chip.get (R.TBL_OP d) F.TBL_OP_INDEX)).toNat).tblStat d 0 none true).setBoth (R.TBL_OP d) F.TBL_OP_OP 0))) ∧
      (s.chip.get (R.TBL_OP d) F.TBL_OP_OP = 4 → s.chip.tblTable d = 1 →
        (∀ i c, s.chip.flowLookup d (s.chip.tblKey d) = (some i, c) → exec (.tblRead d) s = .next (s.after
          (((c.tblRes d (c.flowEnt d i).toNat).tblStat d 0 (some i) false).setBoth (R.TBL_OP d) F.TBL_OP_OP 0))) ∧
        (∀ c, s.chip.flowLookup d (s.chip.tblKey d) = (none, c) → exec (.tblRead d) s = .next (s.after
          ((c.tblStat d 1 none false).setBoth (R.TBL_OP d) F.TBL_OP_OP 0)))) ∧
      (s.chip.get (R.TBL_OP d) F.TBL_OP_OP = 4 → 2 ≤ s.chip.tblTable d →
        (∀ i, s.chip.mcFind d (s.chip.tblKey d) = some i → exec (.tblRead d) s = .next (s.after
          (((s.chip.tblRes d (s.chip.mcEnt d i).toNat).tblStat d 0 (some i) false).setBoth (R.TBL_OP d) F.TBL_OP_OP 0))) ∧
        (s.chip.mcFind d (s.chip.tblKey d) = none → exec (.tblRead d) s = .next (s.after
          ((s.chip.tblStat d 1 none false).setBoth (R.TBL_OP d) F.TBL_OP_OP 0))))) ∧
    (∀ d : Fin 32, (s.chip.get (R.TBL_OP d) F.TBL_OP_OP ≠ 5 → exec (.tblClear d) s = .next (s.after s.chip)) ∧
      (s.calm = true → s.chip.get (R.TBL_OP d) F.TBL_OP_OP = 5 → ∃ t, exec (.tblClear d) s = .next t ∧
        (∀ e, e ∈ t.chip.tb.flow ↔ e ∈ s.chip.tb.flow ∧ ¬ (e.1 / 2 ^ 20 = d.val ∧ bitsOf e.2 101 1 = 0)) ∧
        t.chip.tb.mc = s.chip.tb.mc ∧ t.chip.tb.leaf = s.chip.tb.leaf ∧ t.chip.get (R.TBL_OP d) F.TBL_OP_OP = 0))

/-- Table scrubs, leak audits and HBM scrubs. (07_buffers_and_congestion.md R239, 07_buffers_and_congestion.md R240,
07_buffers_and_congestion.md R241, 09_tables_and_learning.md R277, 17_maintenance_and_counters.md R482) -/
def Obligations.ScrubsAndAuditsRun : Prop :=
  ∀ (s : State),
    (∀ d : Fin 32, ((s.chip.hasEntry d isTableScrub).isSome = true → exec (.tableScrubDue d) s = .next (s.after s.chip)) ∧
      (s.chip.hasEntry d isTableScrub = none → exec (.tableScrubDue d) s = .next (s.after (s.chip.ledgerRequest d .tableScrub)))) ∧
    (∀ (d : Fin 32) (corr : Nat) (bad : List (Nat × Nat)), bad.all (fun e => decide (e.1 < 3) && decide (e.2 < 2 ^ 20)) = true →
      (s.chip.running d isTableScrub = false → exec (.tableScrubDone d corr bad) s = .next (s.after s.chip)) ∧
      (let c1 := bad.foldl (fun c x => c.tableEntryBad d x.1 x.2) (s.chip.incSat (R.TBL_SCRUB_STAT d) F.TBL_SCRUB_STAT_CORR corr)
       let c2 := (listedIdx c1.tb.flow d).foldl (fun c i => c.scrubFlow d i) c1
       let c3 := (listedIdx c2.tb.mc d).foldl (fun c i => c.scrubMc d i) c2
       s.chip.running d isTableScrub = true → exec (.tableScrubDone d corr bad) s = .next (s.after ((c3.countTables d).activityEnd d isTableScrub 0 corr)))) ∧
    (∀ (d : Fin 40) (p : Fin 9), poolOf d p = true → ((s.chip.hasEntry d (isAudit p)).isSome = true → exec (.leakAuditDue d p) s = .next (s.after s.chip)) ∧
      (s.chip.hasEntry d (isAudit p) = none → exec (.leakAuditDue d p) s = .next (s.after (s.chip.ledgerRequest d (.audit p))))) ∧
    (∀ (d : Fin 40) (p : Fin 9) (bad : Bool), poolOf d p = true → (s.chip.running d (isAudit p) = false → exec (.leakAuditDone d p bad) s = .next (s.after s.chip)) ∧
      (s.chip.running d (isAudit p) = true → p.val < 8 → exec (.leakAuditDone d p true) s = .next (s.after (s.chip.fbDue ⟨2, d, p, 0x07⟩)) ∧
        (let c1 := (s.chip.leaked d p).foldl (fun c n => c.reclaim d p n) s.chip
         let c2 := ((c1.incSat (R.BUF_AUDIT_STAT d) F.BUF_AUDIT_STAT_LEAKS (s.chip.leaked d p).length).set (R.BUF_AUDIT_STAT d) F.BUF_AUDIT_STAT_LAST p).incWrap
           (R.BUF_AUDIT_STAT d) F.BUF_AUDIT_STAT_RUNS 1
         d.val < 32 → exec (.leakAuditDone d p false) s = .next (s.after
           ((c2.setPool d p { c2.pool d p with auditing := false }).activityEnd d (isAudit p) 0 (s.chip.leaked d p).length))))) ∧
    (∀ (k : Fin 8) (st : Fin 2), (s.chip.flag (R.FLT_LDG_CFG (32 + k)) F.FLT_LDG_CFG_HSC_ENABLE = false → exec (.hbmScrubDue k st) s = .next (s.after s.chip)) ∧
      (s.chip.flag (R.FLT_LDG_CFG (32 + k)) F.FLT_LDG_CFG_HSC_ENABLE = true → s.chip.hasEntry (32 + k) (isHbmScrub st) = none →
        exec (.hbmScrubDue k st) s = .next (s.after (s.chip.ledgerRequest (32 + k) (.hbmScrub st)))) ∧
      (∀ (corr : Nat) (bad : List HbmBad), bad.all (·.wf) = true →
        (s.chip.running (32 + k) (isHbmScrub st) = false → exec (.hbmScrubDone k st corr bad) s = .next (s.after s.chip)) ∧
        (s.chip.running (32 + k) (isHbmScrub st) = true → exec (.hbmScrubDone k st corr bad) s = .next (s.after
          ((bad.foldl (fun c w => c.hbmWord k w) (s.chip.incSat (R.FLT_HSC_STAT (32 + k)) F.FLT_HSC_STAT_CORR corr)).activityEnd (32 + k) (isHbmScrub st) 0 corr)))))

/-- Staging slots: open, close, force close, repair and release. (09_tables_and_learning.md R283, 09_tables_and_learning.md R284,
09_tables_and_learning.md R285, 09_tables_and_learning.md R286) -/
def Obligations.StagingSlotsOpenServeAndClose : Prop :=
  ∀ (s : State),
    (∀ k : Fin 8, let n := s.chip.stgSlot k; let a := R.TBL_STG_REQ (32 + k)
      (s.chip.stgOp k ≠ 1 → exec (.stgOpen k) s = .next (s.after s.chip)) ∧
      (s.chip.stgOp k = 1 → s.chip.slotSt k n ≠ 0 → exec (.stgOpen k) s = .next (s.after (s.chip.setBoth a F.TBL_STG_REQ_OP 0))) ∧
      (s.chip.stgOp k = 1 → s.chip.slotSt k n = 0 → exec (.stgOpen k) s = .next (s.after
        (((s.chip.setStg k n { group := s.chip.get a F.TBL_STG_REQ_GROUP, dieMap := (s.chip.rd (R.TBL_STG_MAP (32 + k))).toNat, reserve := s.chip.get a F.TBL_STG_REQ_RESERVE }).setSlotSt
          k n 1).setBoth a F.TBL_STG_REQ_OP 0)))) ∧
    (∀ k : Fin 8, let n := s.chip.stgSlot k; let a := R.TBL_STG_REQ (32 + k)
      (s.chip.stgOp k ≠ 2 → exec (.stgClose k) s = .next (s.after s.chip)) ∧
      (s.chip.stgOp k = 2 → s.chip.slotSt k n = 1 → exec (.stgClose k) s = .next (s.after
        (((s.chip.setSlotSt k n 2).slotCheck k n).setBoth a F.TBL_STG_REQ_OP 0))) ∧
      (s.chip.stgOp k = 2 → s.chip.slotSt k n ≠ 1 → exec (.stgClose k) s = .next (s.after (s.chip.setBoth a F.TBL_STG_REQ_OP 0))) ∧
      (s.chip.stgOp k ≠ 3 → exec (.stgForceClose k) s = .next (s.after s.chip)) ∧
      (s.chip.stgOp k = 3 → exec (.stgForceClose k) s = .next (s.after (((s.chip.setStg k n {}).setSlotSt k n 0).setBoth a F.TBL_STG_REQ_OP 0)))) ∧
    (∀ (l : Fin 2048) (k : Fin 8) (n : Fin 4) (src : BitVec 20) (tag : BitVec 32) (first last : BitVec 22), let c := s.chip.popSwitchMsg 0x0010
      c.laneState l = LS.active → c.isolated (32 + k) = false → c.slotSt k n ≠ 0 →
      ((c.stg k n).extents.find? (fun e => e.isFor src.toNat tag.toNat) = none → exec (.stageRepair l k n src tag first last) s = .next (s.after c)) ∧
      (∀ e, (c.stg k n).extents.find? (fun e => e.isFor src.toNat tag.toNat) = some e →
        (e.bad = true → exec (.stageRepair l k n src tag first last) s = .next (s.after c)) ∧
        (e.bad = false → exec (.stageRepair l k n src tag first last) s = .next (s.after
          (c.coreSend k (laneDie l) (((e.cells.filter (fun x => decide (first.toNat ≤ x.1) && decide (x.1 ≤ last.toNat))).filterMap (·.2)).map (fun v =>
            { cell := { v with retx := true }.seal, port := c.portOf l, mcast := false, saf := false }))))))) ∧
    (∀ (l : Fin 2048) (k : Fin 8) (n : Fin 4) (src : BitVec 20) (tag : BitVec 32), let c := s.chip.popSwitchMsg 0x0011; let x := c.stg k n; let d := laneDie l
      c.laneState l = LS.active → c.isolated (32 + k) = false → c.slotSt k n ≠ 0 →
      (bitOf x.dieMap d = false → exec (.stageRelease l k n src tag) s = .next (s.after c)) ∧
      (bitOf x.dieMap d = true → exec (.stageRelease l k n src tag) s = .next (s.after
        ((c.setStg k n { x with extents := (x.extents.map (fun e => if e.isFor src.toNat tag.toNat then e.releaseBy d (c.portOf l) (c.portMap d x.group) else e)).filter (fun e => !(e.isFor src.toNat tag.toNat && e.refs == 0)) }).slotCheck k n))))

/-- SYN_ALLOC, ROLL_LOAD_DONE, SYN_FREE, DROP_MEMBER and SYN_READ. (10_collectives.md R309, 10_collectives.md R317, 10_collectives.md R318,
10_collectives.md R320) -/
def Obligations.SyncObjectOperations : Prop :=
  ∀ (s : State),
    (∀ k : Fin 8, let n := s.chip.synObj k; let c := s.chip.synDone k
      (s.chip.synOp k ≠ 1 → exec (.synAlloc k) s = .next (s.after s.chip)) ∧
      (s.chip.synOp k = 1 → s.chip.objState n = 7 → s.chip.flag (R.SYN_OP (32 + k)) F.SYN_OP_QUEUE = true → (s.chip.obj n).queued = none →
        exec (.synAlloc k) s = .next (s.after (((c.modObj n (fun o => { o with queued := some (s.chip.allocReq n) })).set (objReg n) F.SYN_OBJ_QUEUED 1).synStat n 1))) ∧
      (s.chip.synOp k = 1 → s.chip.objState n = 7 → (s.chip.obj n).queued.isSome = true → exec (.synAlloc k) s = .next (s.after (c.synStat n 2))) ∧
      (s.chip.synOp k = 1 → s.chip.objState n ≠ 0 → s.chip.objState n ≠ 7 → exec (.synAlloc k) s = .next (s.after (c.synStat n 2))) ∧
      (s.chip.synOp k = 1 → s.chip.objState n = 0 → (s.chip.obj n).loading = none →
        ((c.syncGroup n).enable = true → c.isolated (objDie n) = false → exec (.synAlloc k) s = .next (s.after
          (c.modObj n (fun o => { o with loading := some (s.chip.allocReq n) })))) ∧
        ((c.syncGroup n).enable = false → exec (.synAlloc k) s = .next (s.after (c.synStat n 3))))) ∧
    (∀ n : Fin 4096, ((s.chip.obj n).loading = none → exec (.rollLoadDone n) s = .next (s.after s.chip)) ∧
      (∀ r, (s.chip.obj n).loading = some r → let roll := readRoll (s.read r.hub) r.addr r.members
        let c := s.chip.modObj n (fun o => { o with loading := none }); let e := BitVec.ofNat 32 ((s.chip.objEpoch n + 1) % 2 ^ 32)
        (rollValid roll r.fanout = false → exec (.rollLoadDone n) s = .next (s.after (c.synStat n 5))) ∧
        (rollValid roll r.fanout = true → c.storeFits (objCore n) r = false → exec (.rollLoadDone n) s = .next (s.after (c.synStat n 4))) ∧
        (s.calm = true → rollValid roll r.fanout = true → c.storeFits (objCore n) r = true → ∃ t, exec (.rollLoadDone n) s = .next t ∧
          (t.chip.obj n).roll = roll ∧ (t.chip.obj n).nextSeq = r.nextSeq ∧ t.chip.rd (R.SYN_EPOCH (objDie n) (n.val % 512)) = e ∧ t.chip.objState n = 1))) ∧
    (∀ k : Fin 8, let n := s.chip.synObj k; let c := s.chip.synDone k
      (s.chip.synOp k ≠ 2 → exec (.synFree k) s = .next (s.after s.chip)) ∧
      (s.chip.synOp k = 2 → s.chip.objState n = 0 → exec (.synFree k) s = .next (s.after (c.synStat n 6))) ∧
      (s.chip.synOp k = 2 → s.chip.objState n = 7 → exec (.synFree k) s = .next (s.after (c.synStat n 0))) ∧
      (s.chip.synOp k = 2 → s.chip.objState n ≠ 0 → s.chip.objState n ≠ 7 → exec (.synFree k) s = .next (s.after
        (((if s.chip.objBusy n then c.collAbort n 6 none 0 0 else c).toQuarantine n).synStat n 0)))) ∧
    (∀ k : Fin 8, let n := s.chip.synObj k; let c := s.chip.synDone k; let r := s.chip.get (R.SYN_RANK (32 + k)) F.SYN_RANK_RANK
      (s.chip.synOp k ≠ 3 → exec (.dropMember k) s = .next (s.after s.chip)) ∧
      (s.chip.synOp k = 3 → (s.chip.objState n = 0 ∨ s.chip.objState n = 7) → exec (.dropMember k) s = .next (s.after (c.synStat n 6))) ∧
      (s.chip.synOp k = 3 → s.chip.objState n ≠ 0 → s.chip.objState n ≠ 7 → r < (s.chip.obj n).roll.length →
        let c2 := (c.modObj n (fun o => { o with lost := if r ∈ o.lost then o.lost else o.lost ++ [r] })).set (objReg n) F.SYN_OBJ_LOST 1
        exec (.dropMember k) s = .next (s.after ((if s.chip.objBusy n then c2.collAbort n 4 (some r) 0 0 else c2.lateCause n).synStat n 0)))) ∧
    (∀ k : Fin 8, let n := s.chip.synObj k; let o := s.chip.obj n
      (s.chip.synOp k ≠ 4 → exec (.synRead k) s = .next (s.after s.chip)) ∧
      (s.chip.synOp k = 4 → s.chip.objState n = 0 → exec (.synRead k) s = .next (s.after ((s.chip.synDone k).synStat n 6))) ∧
      (s.chip.synOp k = 4 → s.chip.objState n ≠ 0 → exec (.synRead k) s = .next (s.after
        ((((List.range 13).map (fun i => leVal (((o.desc.getD []).drop (4 * i)).take 4)) ++ [o.nextSeq % 2 ^ 32, o.nextSeq / 2 ^ 32, o.mark]).zipIdx.foldl
          (fun c w => c.wr (R.SYN_RES (32 + k) w.2) (BitVec.ofNat 32 w.1)) (s.chip.synDone k)).synStat n 0))))

/-- Contribution cells, the pending store, the timers of collectives and the return of a home die. (10_collectives.md R302,
10_collectives.md R303, 10_collectives.md R306, 10_collectives.md R307, 10_collectives.md R308, 10_collectives.md R311,
10_collectives.md R312, 10_collectives.md R314, 10_collectives.md R320, 10_collectives.md R321) -/
def Obligations.CollectivesCollectAbortAndRest : Prop :=
  ∀ (s : State),
    (∀ (k : Fin 8) (x : Cell), let n := x.dest.toNat / 256; let c := s.chip.takeLanded k x
      (x.kind ≠ 2 → exec (.contributionCell k x) s = .next (s.after s.chip)) ∧
      (x.kind = 2 → objCore n = k → s.chip.isolated (32 + k) = false → s.chip.planeRuns (32 + k) = true →
        ((c.objState n = 0 ∨ 6 ≤ c.objState n ∨ x.dest.toNat % 256 ≠ c.objEpoch n % 256) → exec (.contributionCell k x) s = .next (s.after (c.synStale k 1))) ∧
        (c.objState n ≠ 0 → c.objState n < 6 → x.dest.toNat % 256 = c.objEpoch n % 256 →
          ((c.obj n).rank x.src.toNat = none → exec (.contributionCell k x) s = .next (s.after (c.synDrop k (R.SYN_DROP (32 + k)) F.SYN_DROP_NOT_MEMBER 1))) ∧
          (∀ r, (c.obj n).rank x.src.toNat = some r → (c.obj n).desc = none → x.seq ≠ 0 → exec (.contributionCell k x) s = .next (s.after (c.hold n x))) ∧
          (∀ r, (c.obj n).rank x.src.toNat = some r → (c.obj n).desc = none → x.seq = 0 → c.sag = false → exec (.contributionCell k x) s = .next (s.after
            (c.fixDescriptor n r x.payloadBytes))) ∧
          (∀ r b, (c.obj n).rank x.src.toNat = some r → (c.obj n).desc = some b → exec (.contributionCell k x) s = .next (s.after (c.contribFixed n r x b)))))) ∧
    (∀ k : Fin 8, (s.chip.isolated (32 + k) = true → exec (.pendingRelease k) s = .next (s.after s.chip)) ∧
      (s.chip.isolated (32 + k) = false → exec (.pendingRelease k) s = .next (s.after
        ((s.chip.pendingOf k).foldl (fun c p => c.contribute p.obj p.cell) (s.chip.setPending k []))))) ∧
    (∀ n : Fin 4096, let o := s.chip.obj n
      (s.chip.objBusy n = false → exec (.progressTimeout n) s = .next (s.after s.chip) ∧ exec (.collectiveTimeout n) s = .next (s.after (s.chip.lateCause n))) ∧
      (s.chip.objBusy n = true → exec (.collectiveTimeout n) s = .next (s.after
        (s.chip.collAbort n 1 (o.oldest.bind (fun p => fewest (o.chunk p) o.roll.length)) 0 0))) ∧
      (∀ p, s.chip.objBusy n = true → o.oldest = some p →
        ((∀ r < o.roll.length, SMap.get (fun _ => 0) (o.chunk p).counts r ≠ 0) → exec (.progressTimeout n) s = .next (s.after (s.chip.lossReplay n p))) ∧
        ((∃ r < o.roll.length, SMap.get (fun _ => 0) (o.chunk p).counts r = 0) → exec (.progressTimeout n) s = .next (s.after s.chip)))) ∧
    (∀ n : Fin 4096, let o := s.chip.obj n
      (o.gap = false → exec (.sealNoticeGap n) s = .next (s.after s.chip)) ∧
      (o.gap = true → o.told < o.mark → s.chip.objBusy n = true → exec (.sealNoticeGap n) s = .next (s.after (s.chip.sealNotice n (s.chip.seqOf n) 0))) ∧
      (o.gap = true → o.mark ≤ o.told → exec (.sealNoticeGap n) s = .next (s.after (s.chip.modObj n (fun o => { o with gap := false })))) ∧
      (s.chip.objState n = 6 → exec (.abortHoldExpiry n) s = .next (s.after (s.chip.setObjState n 1))) ∧
      (s.chip.objState n ≠ 6 → exec (.abortHoldExpiry n) s = .next (s.after s.chip))) ∧
    (∀ n : Fin 4096, let c := ((s.chip.setObjState n 0).set (objReg n) F.SYN_OBJ_QUEUED 0).setObj n {}
      (s.chip.objState n ≠ 7 → exec (.quarantineExpiry n) s = .next (s.after s.chip)) ∧
      (s.chip.objState n = 7 → (s.chip.obj n).queued = none → exec (.quarantineExpiry n) s = .next (s.after c)) ∧
      (∀ r, s.chip.objState n = 7 → (s.chip.obj n).queued = some r → exec (.quarantineExpiry n) s = .next (s.after (c.allocStart n r)))) ∧
    (∀ k : Fin 8, (s.chip.isolated (32 + k) = true → exec (.homeDieReadmit k) s = .next (s.after s.chip)) ∧
      (s.chip.isolated (32 + k) = false → s.chip.planeRuns (32 + k) = true → exec (.homeDieReadmit k) s = .next (s.after
        (((s.chip.coll.orphans.filter (fun e => objCore e.1 == k.val)).map (·.1)).foldl Chip.orphanReturn s.chip))))

/-- RESIDUE_CHECK_DONE, RERUN_VERDICT, RECIPE_STEPS_DONE and RECORD_COPY_DONE. (12_transforms_and_optimizer.md R355,
12_transforms_and_optimizer.md R364, 12_transforms_and_optimizer.md R365, 12_transforms_and_optimizer.md R368, 13_result_integrity.md
R374, 13_result_integrity.md R375, 13_result_integrity.md R376) -/
def Obligations.ChecksAndStepsEndAChunk : Prop :=
  ∀ (s : State),
    (∀ (n : Fin 4096) (pos : Nat) (err : CheckErr), let o := s.chip.obj n; let x := o.chunk pos; let r := passResidues (o.geo.2.elemsAt pos) x err
      (s.chip.checkOpen n pos false = false → exec (.residueCheckDone n pos err) s = .next (s.after s.chip)) ∧
      (s.chip.checkOpen n pos false = true → r.raA = r.cA → r.raB = r.cB → exec (.residueCheckDone n pos err) s = .next (s.after
        (((s.chip.incWrap (R.RED_CHK_CNT (32 + objCore n)) F.RED_CHK_CNT_CHECKS 1).setChunk n pos { x with checked := true }).trySeal n pos)))) ∧
    (∀ (n : Fin 4096) (pos : Nat) (err : CheckErr) (differs : Bool) (r1 : Residues), let o := s.chip.obj n; let x := o.chunk pos
      let r2 := passResidues (o.geo.2.elemsAt pos) x err; let k := objCore n; let c1 := s.chip.incWrap (R.RED_CHK_CNT (32 + k)) F.RED_CHK_CNT_CHECKS 1
      (s.chip.checkOpen n pos true = false → exec (.rerunVerdict n pos err differs) s = .next (s.after s.chip)) ∧
      (s.chip.checkOpen n pos true = true → x.first = some r1 → r2.acc = r2.chk → r2.chk = r1.chk → exec (.rerunVerdict n pos err differs) s = .next (s.after
        (((((c1.showVerdict k x.cluster n pos 11 r2 x.groups).countVerdict k F.RED_CHK_FAULT_FIRST_PASS).verdictNotice (verdictUnit k x.firstCluster x.groups) 11 0xFFF n).rerunKnown
          n (some pos) 1).rerunStands n pos x differs))) ∧
      (s.chip.checkOpen n pos true = true → x.first = some r1 → r2.acc = r2.chk → r2.chk ≠ r1.chk → r2.acc = r1.acc → exec (.rerunVerdict n pos err differs) s = .next (s.after
        ((((((c1.showVerdict k x.cluster n pos 12 r2 []).verdictNotice (checkerUnit k x.firstCluster 0) 12 0xFFF n).implicateChecker k x.firstCluster 0 n pos r1 x.sent).implicateChecker
          k x.firstCluster 1 n pos r1 x.sent).rerunKnown n (some pos) 2).rerunStands n pos x differs)))) ∧
    (∀ (n : Fin 4096) (pos : Nat) (ecc : Bool), let o := s.chip.obj n; let x := o.chunk pos; let steps := progSteps o.prog
      ((s.chip.objBusy n = false ∨ x.complete = false ∨ x.stepped = true) → exec (.recipeStepsDone n pos ecc) s = .next (s.after s.chip)) ∧
      (s.chip.objBusy n = true → x.complete = true → x.stepped = false → x.wanted = 0 → o.isSealed pos = false →
        (steps.any (fun t => t.1.op == 6) = false → exec (.recipeStepsDone n pos ecc) s = .next (s.after
          ((s.chip.countPasses (objCore n) x.cluster steps (o.geo.2.elemsAt pos)).stepsEnd n pos (runSteps none [] steps x.work) none))) ∧
        (∀ i b p, steps.any (fun t => t.1.op == 6) = true → s.chip.bindOf n = some (i, b) → o.params = some p →
          exec (.recipeStepsDone n pos true) s = .next (s.after ((s.chip.setBind (objCore n) i (some { b with lost := true })).collAbort n 5 none 0 0)) ∧
          exec (.recipeStepsDone n pos false) s = .next (s.after (s.chip.runOpt n pos b p))))) ∧
    (∀ (k : Fin 8) (i : Fin 64), (∀ b r t, s.chip.bind k i = some b → b.commits = r :: t → exec (.recordCopyDone k i) s = .next (s.after
        ((s.chip.copyRecord k b r).setBind k i (some { b with commits := t })))) ∧
      (∀ b, s.chip.bind k i = some b → b.commits = [] → exec (.recordCopyDone k i) s = .next (s.after s.chip)) ∧
      (s.chip.bind k i = none → exec (.recordCopyDone k i) s = .next (s.after s.chip)))

/-- LOAD_MATRIX, DROP_MATRIX, LOAD_RECIPE, DROP_RECIPE and TRF_READ. (12_transforms_and_optimizer.md R348, 12_transforms_and_optimizer.md
R353, 12_transforms_and_optimizer.md R369, 12_transforms_and_optimizer.md R370) -/
def Obligations.TransformOperations : Prop :=
  ∀ (s : State),
    (∀ k : Fin 8, let fmt := s.chip.trfArgA k % 256; let i := s.chip.trfId k; let w := if fmt = 3 then 2 else 1
      (s.chip.trfOp k ≠ 1 → exec (.loadMatrix k) s = .next (s.after s.chip)) ∧
      (s.chip.trfOp k = 1 → ((fmt ≠ 3 ∧ fmt ≠ 5) ∨ 128 ≤ i) → exec (.loadMatrix k) s = .next (s.after (s.chip.trfEnd k 3))) ∧
      (s.chip.trfOp k = 1 → (fmt = 3 ∨ fmt = 5) → i < 128 → s.chip.trfFits k i fmt = false → exec (.loadMatrix k) s = .next (s.after (s.chip.trfEnd k 2))) ∧
      (s.chip.trfOp k = 1 → (fmt = 3 ∨ fmt = 5) → i < 128 → s.chip.trfFits k i fmt = true → exec (.loadMatrix k) s = .next (s.after
        ((s.chip.setMat k i (some ⟨fmt, (List.range 1024).map (fun j => readLe (s.read (s.chip.trfHub k)) (s.chip.trfAddr k + w * j) w)⟩)).trfEnd k 0)))) ∧
    (∀ k : Fin 8, let i := s.chip.trfId k
      (s.chip.trfOp k ≠ 2 → exec (.dropMatrix k) s = .next (s.after s.chip)) ∧
      (s.chip.trfOp k = 2 → (s.chip.matAt k i = none ∨ 128 ≤ i) → exec (.dropMatrix k) s = .next (s.after (s.chip.trfEnd k 4))) ∧
      (s.chip.trfOp k = 2 → (s.chip.matAt k i).isSome = true → i < 128 →
        (s.chip.inUse k (fun o => (progSteps o.prog).any (fun t => t.1.op == 4 && t.1.arg == i)) = true → exec (.dropMatrix k) s = .next (s.after (s.chip.trfEnd k 1))) ∧
        (s.chip.inUse k (fun o => (progSteps o.prog).any (fun t => t.1.op == 4 && t.1.arg == i)) = false → exec (.dropMatrix k) s = .next (s.after
          ((s.chip.setMat k i none).trfEnd k 0))))) ∧
    (∀ k : Fin 8, let i := s.chip.trfId k; let ws := recipeWords ((List.range 32).map (fun j => readLe (s.read (s.chip.trfHub k)) (s.chip.trfAddr k + 8 * j) 8))
      (s.chip.trfOp k ≠ 3 → exec (.loadRecipe k) s = .next (s.after s.chip)) ∧
      (s.chip.trfOp k = 3 → i = 0 → exec (.loadRecipe k) s = .next (s.after (s.chip.trfEnd k 3))) ∧
      (s.chip.trfOp k = 3 → i ≠ 0 → s.chip.recipeInUse k i = true → exec (.loadRecipe k) s = .next (s.after (s.chip.trfEnd k 1))) ∧
      (s.chip.trfOp k = 3 → i ≠ 0 → s.chip.recipeInUse k i = false → recipeValid ws false = false → exec (.loadRecipe k) s = .next (s.after (s.chip.trfEnd k 3))) ∧
      (s.chip.trfOp k = 3 → i ≠ 0 → s.chip.recipeInUse k i = false → recipeValid ws false = true → exec (.loadRecipe k) s = .next (s.after
        ((s.chip.setRec k i (some ws)).trfEnd k 0)))) ∧
    (∀ k : Fin 8, let i := s.chip.trfId k
      (s.chip.trfOp k ≠ 4 → exec (.dropRecipe k) s = .next (s.after s.chip)) ∧
      (s.chip.trfOp k = 4 → s.chip.recAt k i = none → exec (.dropRecipe k) s = .next (s.after (s.chip.trfEnd k 4))) ∧
      (s.chip.trfOp k = 4 → (s.chip.recAt k i).isSome = true → s.chip.recipeInUse k i = true → exec (.dropRecipe k) s = .next (s.after (s.chip.trfEnd k 1))) ∧
      (s.chip.trfOp k = 4 → (s.chip.recAt k i).isSome = true → s.chip.recipeInUse k i = false → exec (.dropRecipe k) s = .next (s.after ((s.chip.setRec k i none).trfEnd k 0)))) ∧
    (∀ k : Fin 8, let i := s.chip.trfId k; let what := s.chip.trfArgA k % 4
      (s.chip.trfOp k ≠ 8 → exec (.trfRead k) s = .next (s.after s.chip)) ∧
      (s.chip.trfOp k = 8 → what = 3 → exec (.trfRead k) s = .next (s.after (s.chip.trfEnd k 3))) ∧
      (∀ b, s.chip.trfOp k = 8 → what = 0 → i < 64 → s.chip.bind k i = some b → exec (.trfRead k) s = .next (s.after ((s.chip.trfRes k (b.bytesOf.take 64)).trfEnd k 0))) ∧
      (s.chip.trfOp k = 8 → what = 0 → s.chip.bind k i = none → exec (.trfRead k) s = .next (s.after (s.chip.trfEnd k 4))) ∧
      (∀ ws, s.chip.trfOp k = 8 → what = 2 → s.chip.recAt k i = some ws → exec (.trfRead k) s = .next (s.after
        ((s.chip.trfRes k ((ws.flatMap (leBytes 8)).take 64)).trfEnd k 0))))

/-- BIND, BIND_ZERO_DONE, UNBIND, STATE_COPY and STATE_COPY_DONE. (12_transforms_and_optimizer.md R359, 12_transforms_and_optimizer.md
R360, 12_transforms_and_optimizer.md R364, 12_transforms_and_optimizer.md R367, 12_transforms_and_optimizer.md R369,
12_transforms_and_optimizer.md R370) -/
def Obligations.BindingsBindCopyAndEnd : Prop :=
  ∀ (s : State),
    (∀ k : Fin 8, let i := s.chip.trfId k; let rd := s.read (s.chip.trfHub k); let b := readBinding rd (s.chip.trfAddr k)
      (s.chip.trfOp k ≠ 5 → exec (.bind k) s = .next (s.after s.chip)) ∧
      (s.chip.trfOp k = 5 → (64 ≤ i ∨ 4096 ≤ b.object ∨ objCore b.object ≠ k ∨ s.chip.objState b.object = 0 ∨ s.chip.objState b.object = 7 ∨ 2 < b.rule) →
        exec (.bind k) s = .next (s.after (s.chip.trfEnd k 3))) ∧
      (s.chip.trfOp k = 5 → i < 64 → b.object < 4096 → objCore b.object = k → s.chip.objState b.object ≠ 0 → s.chip.objState b.object ≠ 7 → b.rule ≤ 2 →
        (((s.chip.bind k i).isSome = true ∨ (s.chip.bindOf b.object).isSome = true) → exec (.bind k) s = .next (s.after (s.chip.trfEnd k 1))) ∧
        (s.chip.bind k i = none → s.chip.bindOf b.object = none → s.chip.bindFits k b = false → exec (.bind k) s = .next (s.after (s.chip.trfEnd k 2))) ∧
        (s.chip.bind k i = none → s.chip.bindOf b.object = none → s.chip.bindFits k b = true → exec (.bind k) s = .next (s.after
          ((s.chip.setBind k i (some { b with busy := bitOf (rd (s.chip.trfAddr k + 3)) 0 })).trfEnd k 0))))) ∧
    (∀ (k : Fin 8) (i : Fin 64), (s.chip.bind k i = none → exec (.bindZeroDone k i) s = .next (s.after s.chip)) ∧
      (∀ b, s.chip.bind k i = some b → (b.busy = false ∨ b.copy.isSome = true) → exec (.bindZeroDone k i) s = .next (s.after s.chip)) ∧
      (∀ b, s.chip.bind k i = some b → b.busy = true → b.copy = none → exec (.bindZeroDone k i) s = .next (s.after
        (((List.range b.chunks).foldl (fun c r => c.zeroRecord k b r) s.chip).setBind k i (some { b with busy := false }))))) ∧
    (∀ k : Fin 8, let i := s.chip.trfId k
      (s.chip.trfOp k ≠ 6 → exec (.unbind k) s = .next (s.after s.chip)) ∧ (s.chip.trfOp k = 6 → s.chip.bind k i = none → exec (.unbind k) s = .next (s.after (s.chip.trfEnd k 4))) ∧
      (∀ b, s.chip.trfOp k = 6 → s.chip.bind k i = some b →
        ((s.chip.objBusy b.object = true ∨ b.busy = true) → exec (.unbind k) s = .next (s.after (s.chip.trfEnd k 5))) ∧
        (s.chip.objBusy b.object = false → b.busy = false → exec (.unbind k) s = .next (s.after
          (((b.commits.foldl (fun c r => c.copyRecord k b r) s.chip).setBind k i none).trfEnd k 0))))) ∧
    (∀ k : Fin 8, let i := s.chip.trfId k; let first := s.chip.trfArgA k / 256; let count := s.chip.trfArgB k % 2 ^ 24
      (s.chip.trfOp k ≠ 7 → exec (.stateCopy k) s = .next (s.after s.chip)) ∧ (s.chip.trfOp k = 7 → s.chip.bind k i = none → exec (.stateCopy k) s = .next (s.after (s.chip.trfEnd k 4))) ∧
      (∀ b, s.chip.trfOp k = 7 → s.chip.bind k i = some b → let st := s.chip.objState b.object
        ((b.busy = true ∨ (st ≠ 1 ∧ st ≠ 5 ∧ st ≠ 6)) → exec (.stateCopy k) s = .next (s.after (s.chip.trfEnd k 5))) ∧
        (b.busy = false → (st = 1 ∨ st = 5 ∨ st = 6) → b.chunks < first + count → exec (.stateCopy k) s = .next (s.after (s.chip.trfEnd k 3))) ∧
        (b.busy = false → (st = 1 ∨ st = 5 ∨ st = 6) → first + count ≤ b.chunks → exec (.stateCopy k) s = .next (s.after
          ((s.chip.setBind k i (some { b with busy := true, copy := some (s.chip.trfArgA k % 2, first, count, s.chip.trfHub k, s.chip.trfAddr k) })).trfEnd k 0))))) ∧
    (∀ (k : Fin 8) (i : Fin 64) (b : Binding) (first count hub a : Nat), s.chip.bind k i = some b →
      (b.copy = none → exec (.stateCopyDone k i) s = .next (s.after s.chip)) ∧
      (b.copy = some (0, first, count, hub, a) → exec (.stateCopyDone k i) s = .next (s.after
        (((List.range count).foldl (fun c j => c.recordIn k b (first + j) (s.read hub) (a + j * b.stride)) s.chip).setBind k i (some { b with busy := false, copy := none, lost := false })))) ∧
      (b.copy = some (1, first, count, hub, a) → exec (.stateCopyDone k i) s = .next
        ((s.store ((List.range count).flatMap (fun j => s.chip.recordOut k b (first + j) hub (a + j * b.stride)))).withChip (s.settled
          ((s.chip.hbmRead k (count * b.stride)).setBind k i (some { b with busy := false, copy := none }))))))

/-- LEDGER_REQUEST, LEDGER_TICK and LEDGER_WAIT_NOTICE. (17_maintenance_and_counters.md R475, 17_maintenance_and_counters.md R476,
17_maintenance_and_counters.md R477, 17_maintenance_and_counters.md R478, 17_maintenance_and_counters.md R479,
17_maintenance_and_counters.md R490) -/
def Obligations.TheLedgerQueuesAndAdmits : Prop :=
  ∀ (s : State),
    (∀ (d : Fin 40) (a : Activity), a.wfOn d = true → let free := 64 - (s.chip.entries d).length
      (∀ i, s.chip.freeEntry d = some i → (a.headBand = true ∨ 4 < free) → exec (.ledgerRequest d a) s = .next (s.after
        (({ s.chip with ledgerNext := s.chip.ledgerNext + 1 }).setEntry d i (some ⟨a, a.headBand, false, s.chip.ledgerNext, s.chip.now, false⟩)))) ∧
      ((s.chip.freeEntry d = none ∨ (a.headBand = false ∧ free ≤ 4)) → exec (.ledgerRequest d a) s = .next (s.after
        ((s.chip.incSat (R.FLT_LDG_STAT d) F.FLT_LDG_STAT_REFUSED 1).maint d a 2 5 0 0 0)))) ∧
    (∀ d : Fin 40, (∀ x ∈ s.chip.ledgerQueue d, s.chip.admissible d x.2.act [] = false) → exec (.ledgerTick d) s = .next (s.after s.chip)) ∧
    (∀ (d : Fin 40) (i : Nat) (e : LedgerEnt) (t : List (Nat × LedgerEnt)), s.chip.ledgerQueue d = (i, e) :: t →
      ((∀ x ∈ s.chip.entries d, x.2.running = true → x.2.act.conflicts e.act = false) → s.chip.capacityOk d e.act = true →
        (e.act.act = 3 → s.chip.sag = false) → s.chip.unitsOk d e.act = true → exec (.ledgerTick d) s = .next (s.after
          ((((s.chip.setEntry d i (some { e with running := true, since := s.chip.now })).incWrap (R.FLT_LDG_CNT d) F.FLT_LDG_CNT_ADMITTED 1).startActivity d e.act).admitAll d [] t))) ∧
      (((∃ x ∈ s.chip.entries d, x.2.running = true ∧ x.2.act.conflicts e.act = true) ∨ s.chip.capacityOk d e.act = false ∨
        (e.act.act = 3 ∧ s.chip.sag = true) ∨ s.chip.unitsOk d e.act = false) → exec (.ledgerTick d) s = .next (s.after (s.chip.admitAll d [e.act] t)))) ∧
    (∀ (d : Fin 40) (i : Fin 64) (e : LedgerEnt), s.chip.entry d i = some e →
      ((e.running = true ∨ e.told = true) → exec (.ledgerWaitNotice d i) s = .next (s.after s.chip)) ∧
      (e.running = false → e.told = false → exec (.ledgerWaitNotice d i) s = .next (s.after
        ((s.chip.setEntry d i (some { e with told := true })).maint d e.act 3 0 i ((s.chip.now - e.since) / tuUs) 0)))) ∧
    (∀ (d : Fin 40) (i : Fin 64), s.chip.entry d i = none → exec (.ledgerWaitNotice d i) s = .next (s.after s.chip))

/-- QUIZ_DUE, QUIZ_REQUEST, QUIZ_END and PROVISIONAL_RERUN. (13_result_integrity.md R377, 13_result_integrity.md R380,
13_result_integrity.md R381, 13_result_integrity.md R384, 13_result_integrity.md R388, 13_result_integrity.md R390,
13_result_integrity.md R391, 13_result_integrity.md R393) -/
def Obligations.QuizzesAreAskedForRunAndRerun : Prop :=
  ∀ (s : State),
    (∀ u : QUnit, u.exists_ = true →
      (s.chip.hasEntry u.die (isQuizOf u) = none → exec (.quizDue u) s = .next (s.after (s.chip.ledgerRequest u.die (.quiz u 0)))) ∧
      ((s.chip.hasEntry u.die (isQuizOf u)).isSome = true → exec (.quizDue u) s = .next (s.after s.chip))) ∧
    (∀ d : Fin 40, let a := R.FLT_QUIZ_REQ d
      (s.chip.get a F.FLT_QUIZ_REQ_OP ≠ 1 → exec (.quizRequest d) s = .next (s.after s.chip)) ∧
      (s.chip.get a F.FLT_QUIZ_REQ_OP = 1 → exec (.quizRequest d) s = .next (s.after ((s.chip.setBoth a F.FLT_QUIZ_REQ_OP 0).ledgerRequest d
        (.quiz ⟨s.chip.get a F.FLT_QUIZ_REQ_UNIT, d, s.chip.get a F.FLT_QUIZ_REQ_BLOCK, s.chip.get a F.FLT_QUIZ_REQ_TILE⟩ 3))))) ∧
    (∀ (u : QUnit) (abort boot : Bool) (runs : List QuizRun), u.exists_ = true → (boot = false ∨ s.chip.pw.dataHeld = false) →
      let q := (s.chip.entries u.die).find? (fun e => e.2.running && isQuizOf u e.2.act)
      (q = none → exec (.quizEnd u abort boot runs) s = .next (s.after s.chip)) ∧
      (∀ i e, q = some (i, e) → (abort = true ∨ runs = []) → exec (.quizEnd u abort boot runs) s = .next (s.after (s.chip.forceEnd u.die i 3))) ∧
      (∀ i e r, q = some (i, e) → e.act = .quiz u r → abort = false → runs ≠ [] → (∀ x ∈ runs, x.ok = true) →
        let c := (s.chip.entryEnd u.die i 0 0).modInteg (fun g => { g with ran :=
          ((runs.filter (fun x => decide (0x400 ≤ x.id))).map (fun x => (x.id, u))).foldl (fun l e => if e ∈ l then l else l ++ [e]) g.ran })
        exec (.quizEnd u abort boot runs) s = .next (s.after (c.quizPass u ((runs.map (·.id)).foldl max 0) r ((s.chip.now - e.since) / tuUs)))) ∧
      (∀ i e r x, q = some (i, e) → e.act = .quiz u r → abort = false → runs = [x] → x.ok = false → x.id < 0x400 → x.id ∉ s.chip.integ.suspended →
        exec (.quizEnd u abort boot runs) s = .next (s.after ((s.chip.entryEnd u.die i 1 0).quizFail u x r ((s.chip.now - e.since) / tuUs))))) ∧
    (∀ (u : QUnit) (id : BitVec 16), u.exists_ = true →
      ((id.toNat, u) ∉ s.chip.integ.reruns → exec (.provisionalRerun u id) s = .next (s.after s.chip)) ∧
      ((id.toNat, u) ∈ s.chip.integ.reruns → exec (.provisionalRerun u id) s = .next (s.after
        ((s.chip.modInteg (fun g => { g with reruns := g.reruns.filter (fun e => e != (id.toNat, u)) })).ledgerRequest u.die (.quiz u 5)))))

/-- TSQ_ENTRY and TSQ_TAIL_WRITE: a full transmit timestamp queue loses the newest entry, counts it, and reports the first loss.
(14_time_and_bells.md R405) -/
def Obligations.TransmitTimestampsQueueUp : Prop :=
  ∀ (s : State),
    (∀ d : Fin 32, SMap.get (fun _ => []) s.chip.stamps d = [] → exec (.tsqEntry d) s = .next (s.after s.chip)) ∧
    (∀ (d : Fin 32) (x : Stamp) (t : List Stamp) (c : Chip), SMap.get (fun _ => []) s.chip.stamps d = x :: t → c = { s.chip with stamps := SMap.set (fun _ => []) s.chip.stamps d t } →
      let hd := s.chip.get (R.TIM_TSQ_PTR d) F.TIM_TSQ_PTR_HEAD; let tl := s.chip.get (R.TIM_TSQ_PTR d) F.TIM_TSQ_PTR_TAIL; let c2 := c.incSat (R.TIM_TSQ_STAT d) F.TIM_TSQ_STAT_LOST 1;
      (¬ (hd % 64 = tl % 64 ∧ hd ≠ tl) → exec (.tsqEntry d) s = .next (s.after
        (({ c with tsq := SMap.set (fun _ => 0) c.tsq (d * 64 + hd % 64) (BitVec.ofNat 128 (timeSec x.time * 2 ^ 80 + timeNsec x.time * 2 ^ 50 + timeFrac x.time * 2 ^ 34 + x.lane * 2 ^ 28 + x.source * 2 ^ 24 + x.tag)) }).set (R.TIM_TSQ_PTR d) F.TIM_TSQ_PTR_HEAD (hd + 1)))) ∧
      (hd % 64 = tl % 64 → hd ≠ tl → SMap.get (fun _ => false) s.chip.tsqLost d = true → exec (.tsqEntry d) s = .next (s.after c2)) ∧
      (hd % 64 = tl % 64 → hd ≠ tl → SMap.get (fun _ => false) s.chip.tsqLost d = false → exec (.tsqEntry d) s = .next (s.after
        (({ c2 with tsqLost := SMap.set (fun _ => false) c2.tsqLost d true }).post d 0x0A 1 d 3 0 0 (0x12 + x.lane * 2 ^ 8))))) ∧
    (∀ (d : Fin 32) (x : Stamp) (t : List Stamp), s.calm = true → SMap.get (fun _ => []) s.chip.stamps d = x :: t →
      s.chip.get (R.TIM_TSQ_PTR d) F.TIM_TSQ_PTR_HEAD % 64 = s.chip.get (R.TIM_TSQ_PTR d) F.TIM_TSQ_PTR_TAIL % 64 →
      s.chip.get (R.TIM_TSQ_PTR d) F.TIM_TSQ_PTR_HEAD ≠ s.chip.get (R.TIM_TSQ_PTR d) F.TIM_TSQ_PTR_TAIL → SMap.get (fun _ => false) s.chip.tsqLost d = true →
      ∃ t, exec (.tsqEntry d) s = .next t ∧ t.chip.tsq = s.chip.tsq ∧ t.chip.rd (R.TIM_TSQ_PTR d) = s.chip.rd (R.TIM_TSQ_PTR d) ∧
        t.chip.get (R.TIM_TSQ_STAT d) F.TIM_TSQ_STAT_LOST = min F.TIM_TSQ_STAT_LOST.top (s.chip.get (R.TIM_TSQ_STAT d) F.TIM_TSQ_STAT_LOST + 1)) ∧
    (∀ (d : Fin 32) (tail : Fin 128), s.calm = true → ∃ t, exec (.tsqTailWrite d tail) s = .next t ∧ t.chip.tsq = s.chip.tsq ∧
      t.chip.get (R.TIM_TSQ_PTR d) F.TIM_TSQ_PTR_TAIL = tail ∧ t.chip.get (R.TIM_TSQ_PTR d) F.TIM_TSQ_PTR_HEAD = s.chip.get (R.TIM_TSQ_PTR d) F.TIM_TSQ_PTR_HEAD ∧
      SMap.get (fun _ => false) t.chip.tsqLost d = (decide (s.chip.get (R.TIM_TSQ_PTR d) F.TIM_TSQ_PTR_HEAD ≠ tail) && SMap.get (fun _ => false) s.chip.tsqLost d)) ∧
    (∀ (v : Via) (d : Fin 32) (i : Fin 64) (w : Fin 4), s.chip.isolated d = false →
      s.chip.readReg v (d * 0x04000000 + 0x03810000 + 16 * i + 4 * w) = entryWord (SMap.get (fun _ => 0) s.chip.tsq (d * 64 + i)) w)

/-- BELL_ARM, BELL_CANCEL and BELL_FIRE. (08_scheduling_and_shaping.md R265, 08_scheduling_and_shaping.md R266, 14_time_and_bells.md R406,
14_time_and_bells.md R407, 14_time_and_bells.md R409, 14_time_and_bells.md R410) -/
def Obligations.BellsArmCancelAndAct : Prop :=
  ∀ (s : State),
    (∀ (d : Fin 40) (x : Fin 2) (i : Fin 256), let w := bellAct d x; let act := s.chip.get w F.TIM_BELL_ACT_C_ACTION; let arg := s.chip.get w F.TIM_BELL_ACT_C_ARG
      let at_ := timeOf (s.chip.faceSec d x) (s.chip.faceNsec d x)
      (192 ≤ i.val → exec (.bellArm d x i) s = .next (s.after (s.chip.setBellStatus d x 9))) ∧
      (i.val < 192 → (s.chip.bell d i).isSome = true → exec (.bellArm d x i) s = .next (s.after (s.chip.setBellStatus d x 2))) ∧
      (i.val < 192 → s.chip.bell d i = none → s.chip.timValid = false → exec (.bellArm d x i) s = .next (s.after (s.chip.setBellStatus d x 4))) ∧
      (i.val < 192 → s.chip.bell d i = none → s.chip.timValid = true → 1000000000 ≤ s.chip.faceNsec d x →
        exec (.bellArm d x i) s = .next (s.after (s.chip.setBellStatus d x 8))) ∧
      (i.val < 192 → s.chip.bell d i = none → s.chip.timValid = true → s.chip.faceNsec d x < 1000000000 →
        (s.chip.bellActionOk d act arg = false → exec (.bellArm d x i) s = .next (s.after (s.chip.setBellStatus d x 5))) ∧
        (s.chip.bellActionOk d act arg = true → at_ < s.chip.now + tuUs → exec (.bellArm d x i) s = .next (s.after (s.chip.setBellStatus d x 3))) ∧
        (s.chip.bellActionOk d act arg = true → s.chip.now + tuUs ≤ at_ → exec (.bellArm d x i) s = .next (s.after ((s.chip.setBell d i (some ⟨at_, act, arg,
          s.chip.get (if x.val = 0 then R.TIM_BELL_TAG_C d else R.TIM_BELL_TAG_M d) F.TIM_BELL_TAG_C_TAG, s.chip.flag w F.TIM_BELL_ACT_C_NOTIFY, s.chip.flag w F.TIM_BELL_ACT_C_TS, x⟩)).setBellStatus d x 0))))) ∧
    (∀ (d : Fin 40) (x : Fin 2) (i : Fin 256),
      (192 ≤ i.val → exec (.bellCancel d x i) s = .next (s.after (s.chip.setBellStatus d x 6))) ∧
      (i.val < 192 → s.chip.bell d i = none → exec (.bellCancel d x i) s = .next (s.after (s.chip.setBellStatus d x 7))) ∧
      (∀ b, i.val < 192 → s.chip.bell d i = some b →
        (b.owner ≠ x → exec (.bellCancel d x i) s = .next (s.after (s.chip.setBellStatus d x 6))) ∧
        (b.owner = x → exec (.bellCancel d x i) s = .next (s.after
          ((if b.action = 1 ∧ d.val < 32 then (s.chip.setBell d i none).launchCancel d i else s.chip.setBell d i none).setBellStatus d x 1))))) ∧
    (∀ (d : Fin 40) (i : Fin 256), (s.chip.bell d i = none → exec (.bellFire d i) s = .next (s.after s.chip)) ∧
      (∀ b, s.chip.bell d i = some b → let c := (s.chip.timeTo b.time).setBell d i none
        let c1 := (c.incWrap (R.TIM_BELL_CNT d) F.TIM_BELL_CNT_FIRED 1).pmcFixed d 6 1
        (c.bellDown d b = true → exec (.bellFire d i) s = .next (s.after (c.bellNotice d 2 i b.action 0 b.tag))) ∧
        (c.bellDown d b = false → b.action = 3 → exec (.bellFire d i) s = .next (s.after (c1.bellAction d i b).2)) ∧
        (c.bellDown d b = false → b.action = 1 → b.notify = true → let r := c1.bellRelease d i b
          exec (.bellFire d i) s = .next (s.after (if r.1 = 0 then r.2.bellNotice d 1 i 1 r.1 b.tag else (r.2.bellNotice d 1 i 1 r.1 b.tag).bellNotice d 4 i 1 r.1 b.tag))) ∧
        (c.bellDown d b = false → b.action = 5 → exec (.bellFire d i) s = .next (s.after (let c2 := c1.ledgerRequest d (.quiz (quizArg d b.arg) 3)
          if b.notify then c2.bellNotice d 1 i 5 0 b.tag else c2)))))

/-- PTP_MESSAGE, PPS_IN_EDGE, DOMAIN_HOLDOVER, DOMAIN_FAULT_CLEAR, SLEW_DONE, PPS_OUT_EDGE, PPS_OUT_FALL, PTM_REQUEST, PTP_DELAY_REQ_SEND.
(14_time_and_bells.md R396, 14_time_and_bells.md R398, 14_time_and_bells.md R399, 14_time_and_bells.md R400, 14_time_and_bells.md R402,
14_time_and_bells.md R403, 16_management_security_twin.md R438) -/
def Obligations.TimeDomainsAndTimePins : Prop :=
  ∀ (s : State),
    (∀ (l : Fin 2048) (number : Fin 256) (raw : Int), let c := s.chip.popSwitchMsg 0x0020
      let takes := fun (c : Chip) x => c.domSource x = 1 ∧ c.get (R.TIM_DOM_CFG c.primaryDie x) F.TIM_DOM_CFG_LANE = l.val ∧ c.get (R.TIM_DOM_CFG c.primaryDie x) F.TIM_DOM_CFG_DOMAIN = number.val
      let m := c.measure 0 ((raw + toSigned 32 (c.rd (R.TIM_DOM_ASYM c.primaryDie 0)).toNat) / 65536)
      (¬ takes c 0 → ¬ takes c 1 → exec (.ptpMessage l number raw) s = .next (s.after c)) ∧
      (¬ takes c 0 → takes c 1 → exec (.ptpMessage l number raw) s = .next (s.after (c.measure 1 ((raw + toSigned 32 (c.rd (R.TIM_DOM_ASYM c.primaryDie 1)).toNat) / 65536)))) ∧
      (takes c 0 → ¬ takes m 1 → exec (.ptpMessage l number raw) s = .next (s.after m))) ∧
    (∀ (c : Chip) (x : Fin 2) (ofs : Int) (v : Domain), c.dom x = v → let h := (ofs :: v.hist).take 8
      let c1 := (([32, 39].foldl (fun (s : Chip) d => s.set (R.TIM_DOM_OFS d x) F.TIM_DOM_OFS_OFFSET (ofSigned 32 (clampSigned 32 ofs))) c).setDom x { v with hist := h })
      (c.domState x = 0 → c.measure x ofs = c) ∧
      (c.domState x = 1 → v.hist.head?.any (fun p => decide (1000000 < (ofs - p).natAbs)) = false →
        (agree h = true → (c.domSource x < 2 ∨ v.dated = true) → c.measure x ofs = (c1.domTo x 2).domLocked x) ∧
        ((agree h = false ∨ (2 ≤ c.domSource x ∧ v.dated = false)) → c.measure x ofs = c1)) ∧
      (c.domState x = 3 → c.measure x ofs = ((([32, 39].foldl (fun (s : Chip) d => s.set (R.TIM_DOM_OFS d x) F.TIM_DOM_OFS_OFFSET (ofSigned 32 (clampSigned 32 ofs))) c).setDom x { v with hist := [ofs] })).domTo x 1) ∧
      ((c.domState x = 1 ∨ c.domState x = 2) → v.hist.head?.any (fun p => decide (1000000 < (ofs - p).natAbs)) = true → c.measure x ofs = (c1.domTo x 4).autoHandover)) ∧
    (∀ pin : Fin 2, let c := (s.chip.set (R.TIM_PPS_NSEC 32 pin) F.TIM_PPS_NSEC_NSEC (timeNsec s.chip.now)).set (R.TIM_PPS_NSEC 39 pin) F.TIM_PPS_NSEC_NSEC (timeNsec s.chip.now)
      let takes := fun (c : Chip) x => c.domSource x = 2 + pin.val ∧ c.domState x ≠ 0
      (¬ takes c 0 → ¬ takes c 1 → exec (.ppsInEdge pin) s = .next (s.after c)) ∧
      (takes c 0 → ¬ takes (c.ppsMeasure 0) 1 → exec (.ppsInEdge pin) s = .next (s.after (c.ppsMeasure 0))) ∧
      (¬ takes c 0 → takes c 1 → exec (.ppsInEdge pin) s = .next (s.after (c.ppsMeasure 1)))) ∧
    (∀ x : Fin 2, (∀ st, s.chip.domState x = st → (st = 1 ∨ st = 2) → exec (.domainHoldover x) s = .next (s.after
        ((s.chip.setTimStat (domFld x) 3).timeNotice 0x10 1 x 3 st).autoHandover)) ∧
      (s.chip.domState x ≠ 1 → s.chip.domState x ≠ 2 → exec (.domainHoldover x) s = .next (s.after s.chip)) ∧
      (s.chip.domState x = 4 → exec (.domainFaultClear x) s = .next (s.after
        (((s.chip.setTimStat (domFld x) 1).timeNotice 0x10 0 x 1 4).setDom x { s.chip.dom x with hist := [] }))) ∧
      (s.chip.domState x ≠ 4 → exec (.domainFaultClear x) s = .next (s.after s.chip))) ∧
    (exec .slewDone s = .next (s.after ((List.range 40).foldl (fun (c : Chip) d => c.set (R.TIM_STAT d) F.TIM_STAT_SLEWING 0) s.chip))) ∧
    (∀ c, c = s.chip.timeTo (ceilDiv s.chip.now tuSec * tuSec) →
      ((s.chip.timValid = true ∨ s.chip.flag (R.TIM_CFG s.chip.primaryDie) F.TIM_CFG_PPS_FORCE = true) → exec .ppsOutEdge s = .next (s.after (c.modPw (fun p => { p with ppsOut := true })))) ∧
      (s.chip.timValid = false → s.chip.flag (R.TIM_CFG s.chip.primaryDie) F.TIM_CFG_PPS_FORCE = false → exec .ppsOutEdge s = .next (s.after c)) ∧
      c.now % tuSec = 0 ∧ s.chip.now ≤ c.now ∧ c.now < s.chip.now + tuSec ∧
      exec .ppsOutFall s = .next (s.after (s.chip.modPw (fun p => { p with ppsOut := false })))) ∧
    (∀ h : Fin 2, ((s.chip.hub h).linkUp = true → exec (.ptmRequest h) s = .next (s.after (s.chip.modHub h (fun x => { x with ptm := x.ptm ++ [(timeSec s.chip.now * 1000000000 + timeNsec s.chip.now) % 2 ^ 64] })))) ∧
      ((s.chip.hub h).linkUp = false → exec (.ptmRequest h) s = .next (s.after s.chip))) ∧
    (∀ (x : Fin 2) (dest : BitVec 20) (id : BitVec 16) (body : List Byte) (h : Nat), decide (body.length ≤ 65000) = true → s.chip.primary = some h →
      (s.chip.domSource x = 1 → s.chip.domState x ≠ 0 → (s.chip.hub h).mgmtUp = true → exec (.ptpDelayReqSend x dest id body) s = .next (s.after
        (s.chip.sendStream 5 dest.toNat (msgBytes 0x0020 0 0 (body.map (·.toNat)) []) (some (65536 + id.toNat % 65536))))) ∧
      ((s.chip.domSource x ≠ 1 ∨ s.chip.domState x = 0 ∨ (s.chip.hub h).mgmtUp = false) → exec (.ptpDelayReqSend x dest id body) s = .next (s.after s.chip)))

/-- The management core die, C0 or with C0 isolated C7, carries every TC7 cell between two port dies. (06_switching_path.md R189) -/
def Obligations.OneCoreDieCarriesTC7 : Prop :=
  ∀ (s : State),
    ((s.chip.isolated 32 = false → s.chip.mgmtCore = 0) ∧ (s.chip.isolated 32 = true → s.chip.mgmtCore = 7)) ∧
    (∀ (d k : Nat) (x : Cand), x ∈ s.chip.candsFor d k → x.cls = 7 → x.dest < 32 → k = s.chip.mgmtCore) ∧
    (∀ (d : Nat) (v : Nat × List VoqEnt) (i : Nat) (e : VoqEnt) (age : Nat), v ∈ s.chip.dieVoqs d → v.2[i]? = some e → e.eligible = some age → voqClass v.1 = 7 → voqDest v.1 < 32 →
      s.chip.dieRuns (voqDest v.1) = true → s.chip.isolated (voqDest v.1) = false → s.chip.heldAt d (voqDest v.1) 7 = false →
      s.chip.pathOpen d s.chip.mgmtCore (voqDest v.1) = true → (⟨v.1, i, age, e⟩ : Cand) ∈ s.chip.candsFor d s.chip.mgmtCore)

/-- An element whose g, w, m1 or m2 is NaN or infinite keeps its state and is counted with NF_SKIP, and aborts the collective without.
(12_transforms_and_optimizer.md R363) -/
def Obligations.AnUpdateThatIsNotFiniteIsSkippedOrAborts : Prop :=
  ∀ (s : State),
    (∀ (o : OptCtx) (skip : Bool) (xs : List Nat) (i x : Nat), xs[i]? = some x → let r := optElement o x (nth o.w i) (nth o.m1 i) (nth o.m2 i); let u := optimize o skip xs
      let fine := f32Finite r.1 && f32Finite r.2.1 && f32Finite r.2.2.1 && f32Finite r.2.2.2
      ∃ pw p1 p2, u.planes = some (pw, p1, p2) ∧
        (fine = true → u.work[i]? = some r.2.1 ∧ pw[i]? = some r.2.1 ∧ p1[i]? = some r.2.2.1 ∧ p2[i]? = some r.2.2.2) ∧
        (fine = false → u.work[i]? = some (nth o.w i) ∧ pw[i]? = some (nth o.w i) ∧ p1[i]? = some (nth o.m1 i) ∧ p2[i]? = some (nth o.m2 i) ∧ u.abort = !skip)) ∧
    (∀ (o : OptCtx) (xs : List Nat), (optimize o true xs).abort = false ∧ (optimize o false xs).skipped = 0 ∧ (optimize o true xs).skipped = ((List.range xs.length).filter (fun i =>
      let r := optElement o (nth xs i) (nth o.w i) (nth o.m1 i) (nth o.m2 i); !(f32Finite r.1 && f32Finite r.2.1 && f32Finite r.2.2.1 && f32Finite r.2.2.2))).length) ∧
    (∀ (n pos : Nat) (r : RunRes) (ubuf : Option Nat), r.abort = true →
      s.chip.stepsEnd n pos r ubuf = (s.chip.incSat (R.OPT_SKIP (32 + objCore n)) F.OPT_SKIP_COUNT r.skipped |>.incSat (R.RED_RANGE (objDie n)) F.RED_RANGE_ABORTS 1 |>.collAbort n 7 none 0 0))
end

