-- ==== Sys2Proof/Laws/Map.lean ====
section
/-!
SUPPORT. Laws of sparse maps: what a read after a write gives, and that a write keeps the canonical form.
-/

namespace Sys2Proof.Machine

variable {α : Type}

theorem SMap.get_erase_same (f : Nat → α) (m : SMap α) (k : Nat) : SMap.get f (SMap.erase m k) k = f k := by
  induction m with
  | nil => rfl
  | cons e t ih =>
    obtain ⟨j, v⟩ := e
    by_cases h : j = k <;> simp [SMap.erase, SMap.get, h, ih]

theorem SMap.get_erase_other (f : Nat → α) (m : SMap α) {k j : Nat} (h : j ≠ k) :
    SMap.get f (SMap.erase m k) j = SMap.get f m j := by
  induction m with
  | nil => rfl
  | cons e t ih =>
    obtain ⟨i, v⟩ := e
    by_cases hi : i = k
    · have : i ≠ j := fun e => h (e ▸ hi)
      simp [SMap.erase, SMap.get, hi, ih]
      intro e; exact absurd (e ▸ hi) (by omega)
    · simp [SMap.erase, SMap.get, hi, ih]

/-- No entry of the map has key k. -/
def SMap.lacks (m : SMap α) (k : Nat) : Prop := ∀ e ∈ m, e.1 ≠ k

theorem SMap.lacks_erase (m : SMap α) (k : Nat) : (SMap.erase m k).lacks k := by
  induction m with
  | nil => intro e he; cases he
  | cons e t ih =>
    obtain ⟨j, v⟩ := e
    by_cases h : j = k
    · simpa [SMap.erase, h] using ih
    · intro x hx
      simp only [SMap.erase, h, if_false, List.mem_cons] at hx
      rcases hx with rfl | hx
      · exact h
      · exact ih x hx

theorem SMap.get_insert_same (f : Nat → α) (m : SMap α) (k : Nat) (v : α) (hm : m.lacks k) :
    SMap.get f (SMap.insert m k v) k = v := by
  induction m with
  | nil => simp [SMap.insert, SMap.get]
  | cons e t ih =>
    obtain ⟨j, w⟩ := e
    have hj : j ≠ k := hm (j, w) (by simp)
    have ht : SMap.lacks t k := fun x hx => hm x (by simp [hx])
    by_cases h : k < j <;> simp [SMap.insert, SMap.get, h, hj, ih ht]

theorem SMap.get_insert_other (f : Nat → α) (m : SMap α) {k j : Nat} (v : α) (h : j ≠ k) :
    SMap.get f (SMap.insert m k v) j = SMap.get f m j := by
  induction m with
  | nil => simp [SMap.insert, SMap.get, Ne.symm h]
  | cons e t ih =>
    obtain ⟨i, w⟩ := e
    by_cases hi : k < i <;> simp [SMap.insert, SMap.get, hi, ih, Ne.symm h]

variable [DecidableEq α]

/-- A read after a write to the same key gives the value written. -/
@[simp] theorem SMap.get_set_same (f : Nat → α) (m : SMap α) (k : Nat) (v : α) : SMap.get f (SMap.set f m k v) k = v := by
  by_cases h : v = f k
  · simp [SMap.set, h, SMap.get_erase_same]
  · simp [SMap.set, h, SMap.get_insert_same f _ k v (SMap.lacks_erase m k)]

/-- A write leaves every other key alone. -/
theorem SMap.get_set_other (f : Nat → α) (m : SMap α) {k j : Nat} (v : α) (h : j ≠ k) :
    SMap.get f (SMap.set f m k v) j = SMap.get f m j := by
  by_cases hv : v = f k
  · simp [SMap.set, hv, SMap.get_erase_other f m h]
  · simp [SMap.set, hv, SMap.get_insert_other f _ v h, SMap.get_erase_other f m h]

theorem SMap.get_set (f : Nat → α) (m : SMap α) (k j : Nat) (v : α) :
    SMap.get f (SMap.set f m k v) j = if j = k then v else SMap.get f m j := by
  by_cases h : j = k
  · subst h; simp
  · simp [h, SMap.get_set_other f m v h]

/-! ### The canonical form -/

theorem SMap.wfFrom_weaken (f : Nat → α) (m : SMap α) {a b : Nat} (h : a ≤ b) (hm : SMap.wfFrom f b m = true) :
    SMap.wfFrom f a m = true := by
  cases m with
  | nil => rfl
  | cons e t =>
    obtain ⟨j, v⟩ := e
    simp only [SMap.wfFrom, Bool.and_eq_true, decide_eq_true_eq] at hm ⊢
    exact ⟨by omega, hm.2⟩

theorem SMap.wfFrom_erase (f : Nat → α) (m : SMap α) (b k : Nat) (hm : SMap.wfFrom f b m = true) :
    SMap.wfFrom f b (SMap.erase m k) = true := by
  induction m generalizing b with
  | nil => rfl
  | cons e t ih =>
    obtain ⟨j, v⟩ := e
    simp only [SMap.wfFrom, Bool.and_eq_true, decide_eq_true_eq] at hm
    by_cases h : j = k
    · simp only [SMap.erase, h, if_true]
      exact ih b (SMap.wfFrom_weaken f t (by omega) hm.2.2)
    · simp only [SMap.erase, h, if_false, SMap.wfFrom, Bool.and_eq_true, decide_eq_true_eq]
      exact ⟨hm.1, hm.2.1, ih (j + 1) hm.2.2⟩

theorem SMap.wfFrom_insert (f : Nat → α) (m : SMap α) (b k : Nat) (v : α) (hb : b ≤ k) (hv : v ≠ f k) (hk : m.lacks k)
    (hm : SMap.wfFrom f b m = true) : SMap.wfFrom f b (SMap.insert m k v) = true := by
  induction m generalizing b with
  | nil => simp [SMap.insert, SMap.wfFrom, hb, hv]
  | cons e t ih =>
    obtain ⟨j, w⟩ := e
    have hj : j ≠ k := hk (j, w) (by simp)
    simp only [SMap.wfFrom, Bool.and_eq_true, decide_eq_true_eq] at hm
    by_cases h : k < j
    · simp only [SMap.insert, h, if_true, SMap.wfFrom, Bool.and_eq_true, decide_eq_true_eq]
      exact ⟨hb, hv, by omega, hm.2.1, hm.2.2⟩
    · simp only [SMap.insert, h, if_false, SMap.wfFrom, Bool.and_eq_true, decide_eq_true_eq]
      exact ⟨hm.1, hm.2.1, ih (j + 1) (by omega) (fun x hx => hk x (by simp [hx])) hm.2.2⟩

/-- A write keeps the canonical form. -/
theorem SMap.wf_set (f : Nat → α) (m : SMap α) (k : Nat) (v : α) (hm : SMap.wf f m = true) : SMap.wf f (SMap.set f m k v) = true := by
  unfold SMap.wf SMap.set at *
  by_cases h : v = f k
  · rw [if_pos h]; exact SMap.wfFrom_erase f m 0 k hm
  · rw [if_neg h]
    exact SMap.wfFrom_insert f _ 0 k v (Nat.zero_le k) h (SMap.lacks_erase m k) (SMap.wfFrom_erase f m 0 k hm)

@[simp] theorem SMap.wf_nil (f : Nat → α) : SMap.wf f ([] : SMap α) = true := rfl

omit [DecidableEq α] in
/-- A value read is the key's default or stands in the map under its key. -/
theorem SMap.get_mem (f : Nat → α) (m : SMap α) (k : Nat) : SMap.get f m k = f k ∨ (k, SMap.get f m k) ∈ m := by
  induction m with
  | nil => exact .inl rfl
  | cons e t ih =>
    obtain ⟨j, v⟩ := e
    by_cases h : j = k
    · subst h; exact .inr (by simp [SMap.get])
    · simp only [SMap.get, h, if_false]
      exact ih.imp id (fun x => List.mem_cons_of_mem _ x)

end Sys2Proof.Machine
end

