-- ==== Sys2Proof/Laws/Bits.lean ====
section
/-!
SUPPORT. Laws of register fields: what a field reads after a field is written, at the level of words and of registers.
-/

namespace Sys2Proof.Machine

theorem testBit_getBits (w : Word) (f : Fld) (i : Nat) :
    (getBits w f).testBit i = (decide (i < f.width) && w.getLsbD (f.lo + i)) := by
  simp [getBits, Nat.testBit_mod_two_pow, Nat.testBit_div_two_pow, BitVec.getLsbD, Nat.add_comm]

theorem getLsbD_mask (f : Fld) (j : Nat) (hj : j < 32) :
    f.mask.getLsbD j = (decide (f.lo ≤ j) && decide (j - f.lo < f.width)) := by
  simp only [Fld.mask, BitVec.getLsbD_ofNat, hj, Nat.testBit_mul_two_pow, Nat.testBit_two_pow_sub_one, decide_true, Bool.true_and]

theorem getLsbD_setBits (w : Word) (f : Fld) (v j : Nat) (hj : j < 32) :
    (setBits w f v).getLsbD j = if f.lo ≤ j ∧ j < f.lo + f.width then v.testBit (j - f.lo) else w.getLsbD j := by
  have hm := getLsbD_mask f j hj
  simp only [setBits, BitVec.getLsbD_or, BitVec.getLsbD_and, BitVec.getLsbD_not, BitVec.getLsbD_ofNat, hm, hj,
    Nat.testBit_mul_two_pow, Nat.testBit_mod_two_pow, decide_true, Bool.true_and]
  by_cases h : f.lo ≤ j ∧ j < f.lo + f.width
  · have h2 : j - f.lo < f.width := by omega
    simp [h, h2]
  · by_cases h1 : f.lo ≤ j
    · have h2 : ¬ j - f.lo < f.width := by omega
      rw [if_neg h]; simp [h1, h2]
    · rw [if_neg h]; simp [h1]

/-- A field reads what was written to it, modulo its width. -/
theorem getBits_setBits_same (w : Word) (f : Fld) (v : Nat) (hf : f.lo + f.width ≤ 32) :
    getBits (setBits w f v) f = v % 2 ^ f.width := by
  apply Nat.eq_of_testBit_eq
  intro i
  rw [testBit_getBits, Nat.testBit_mod_two_pow]
  by_cases h : i < f.width
  · rw [getLsbD_setBits _ _ _ _ (by omega)]
    simp [h]
  · simp [h]

/-- A write to one field leaves a field apart from it alone. -/
theorem getBits_setBits_other (w : Word) (f g : Fld) (v : Nat) (hg : g.lo + g.width ≤ 32)
    (h : f.lo + f.width ≤ g.lo ∨ g.lo + g.width ≤ f.lo) : getBits (setBits w f v) g = getBits w g := by
  apply Nat.eq_of_testBit_eq
  intro i
  rw [testBit_getBits, testBit_getBits]
  by_cases hi : i < g.width
  · rw [getLsbD_setBits _ _ _ _ (by omega), if_neg (by omega)]
  · simp [hi]

/-! ### Registers -/

variable (c : Chip)

@[simp] theorem Chip.rd_wr_same (a : Nat) (w : Word) : (c.wr a w).rd a = w := by
  simp [Chip.rd, Chip.wr]

/-- A write to one register leaves every other alone. -/
theorem Chip.rd_wr_other {a b : Nat} (w : Word) (h : b ≠ a) : (c.wr a w).rd b = c.rd b := by
  simp [Chip.rd, Chip.wr, SMap.get_set_other regReset c.regs w h]

theorem Chip.rd_wr (a b : Nat) (w : Word) : (c.wr a w).rd b = if b = a then w else c.rd b := by
  simp [Chip.rd, Chip.wr, SMap.get_set]

theorem Chip.rd_set (a b : Nat) (f : Fld) (v : Nat) :
    (c.set a f v).rd b = if b = a then setBits (c.rd a) f v else c.rd b := by
  simp [Chip.set, Chip.rd_wr]

theorem Chip.rd_set_other {a b : Nat} (f : Fld) (v : Nat) (h : b ≠ a) : (c.set a f v).rd b = c.rd b := by
  simp [Chip.rd_set, h]

/-- A register field reads what was written to it. -/
theorem Chip.get_set_same (a : Nat) (f : Fld) (v : Nat) (hf : f.lo + f.width ≤ 32) :
    (c.set a f v).get a f = v % 2 ^ f.width := by
  simp [Chip.get, Chip.rd_set, getBits_setBits_same _ f v hf]

/-- A write to a field leaves another field of its register alone. -/
theorem Chip.get_set_field (a : Nat) (f g : Fld) (v : Nat) (hg : g.lo + g.width ≤ 32)
    (h : f.lo + f.width ≤ g.lo ∨ g.lo + g.width ≤ f.lo) : (c.set a f v).get a g = c.get a g := by
  simp [Chip.get, Chip.rd_set, getBits_setBits_other _ f g v hg h]

theorem Chip.get_set_other {a b : Nat} (f g : Fld) (v : Nat) (h : b ≠ a) : (c.set a f v).get b g = c.get b g := by
  simp [Chip.get, Chip.rd_set, h]

theorem Chip.get_wr_other {a b : Nat} (w : Word) (g : Fld) (h : b ≠ a) : (c.wr a w).get b g = c.get b g := by
  simp [Chip.get, Chip.rd_wr_other c w h]

@[simp] theorem Chip.rdS_wrS_same (a : Nat) (w : Word) : (c.wrS a w).rdS a = w := by
  simp [Chip.rdS, Chip.wrS]

theorem Chip.rdS_wrS_other {a b : Nat} (w : Word) (h : b ≠ a) : (c.wrS a w).rdS b = c.rdS b := by
  simp [Chip.rdS, Chip.wrS, SMap.get_set_other regReset c.staged w h]

/-- A write to a register changes only the registers. -/
theorem Chip.wr_eq (a : Nat) (w : Word) : ∃ r, c.wr a w = { c with regs := r } := ⟨_, rfl⟩

/-- A write to a field changes only the registers. -/
theorem Chip.set_eq (a : Nat) (f : Fld) (v : Nat) : ∃ r, c.set a f v = { c with regs := r } := ⟨_, rfl⟩

/-- A count changes only the registers. -/
theorem Chip.incSat_eq (a : Nat) (f : Fld) (n : Nat) : ∃ r, c.incSat a f n = { c with regs := r } := ⟨_, rfl⟩

/-- A one-bit field shows the bit written to it. -/
theorem Chip.flag_set_bool (a : Nat) (f : Fld) (b : Bool) (hw : f.width = 1) (hl : f.lo ≤ 31) : (c.set a f b.toNat).flag a f = b := by
  simp only [Chip.flag]
  rw [Chip.get_set_same _ _ _ _ (by omega), hw]
  cases b <;> rfl

/-- A saturating counter counts up to its top. -/
theorem Chip.get_incSat_same (a : Nat) (f : Fld) (n : Nat) (hf : f.lo + f.width ≤ 32) :
    (c.incSat a f n).get a f = min f.top (c.get a f + n) := by
  rw [Chip.incSat, Chip.get_set_same _ _ _ _ hf]
  apply Nat.mod_eq_of_lt
  have : 0 < 2 ^ f.width := Nat.two_pow_pos _
  simp only [Fld.top]; omega

/-- A field is below two to its width. -/
theorem Chip.get_lt (a : Nat) (f : Fld) : c.get a f < 2 ^ f.width := Nat.mod_lt _ (Nat.two_pow_pos _)

end Sys2Proof.Machine
end

