-- ==== Sys2Proof/Laws/Run.lean ====
section
/-!
SUPPORT. Laws of how a command acts on the state: what the twin's mirror and the firebreaks leave alone, what a command leaves of hub
memory, and that memory keeps its canonical form.
-/

namespace Sys2Proof.Machine

/-! ### The mirror -/

theorem Chip.lcSend_eq (c : Chip) (l op seq : Nat) (body : List Nat) : ∃ x, c.lcSend l op seq body = { c with lanes := x } :=
  ⟨_, rfl⟩

theorem Chip.mirrorSend_eq (c : Chip) (seq : Nat) : ∃ x n, c.mirrorSend seq = { c with lanes := x, draws := n } := by
  simp only [Chip.mirrorSend]
  split
  · exact ⟨_, _, rfl⟩
  · exact ⟨_, _, rfl⟩

theorem Chip.mirror_eq (c : Chip) (r : MirrorRec) : ∃ x t n, c.mirror r = { c with lanes := x, twin := t, draws := n } := by
  simp only [Chip.mirror]
  split
  · exact ⟨_, _, _, rfl⟩
  · have step (t : Twin) (k : Nat) : ∃ x n, ({ c with twin := t } : Chip).mirrorSend k = { c with lanes := x, twin := t, draws := n } :=
      Chip.mirrorSend_eq { c with twin := t } k
    obtain ⟨x, n, h⟩ := step _ _
    exact ⟨x, _, n, h⟩

/-- A fold of steps that change only the lanes, the twin and the draws changes only those. -/
theorem Chip.fold_lanes_twin {β : Type} (l : List β) (f : Chip → β → Chip)
    (hf : ∀ c b, ∃ x t n, f c b = { c with lanes := x, twin := t, draws := n }) (c : Chip) :
    ∃ x t n, l.foldl f c = { c with lanes := x, twin := t, draws := n } := by
  induction l generalizing c with
  | nil => exact ⟨_, _, _, rfl⟩
  | cons b t ih =>
    obtain ⟨x, u, n, h⟩ := hf c b
    obtain ⟨x', u', n', h'⟩ := ih (f c b)
    exact ⟨x', u', n', by rw [List.foldl_cons, h', h]⟩

/-- The mirror changes lanes (what they send), the twin's record and the draws, and nothing else. -/
theorem Chip.mirrorChanges_eq (c v : Chip) :
    ∃ x t n, c.mirrorChanges v = { v with lanes := x, twin := t, draws := n } := by
  simp only [Chip.mirrorChanges]
  split
  · exact ⟨_, _, _, rfl⟩
  · obtain ⟨x1, t1, n1, h1⟩ := Chip.fold_lanes_twin (c.objsChanged v) (fun s n => s.mirror (.object (v.mirObj n)))
      (fun s _ => Chip.mirror_eq s _) v
    obtain ⟨x2, t2, n2, h2⟩ := Chip.fold_lanes_twin (c.clearsChanged v)
      (fun s x => s.mirror (.clearing x.1 x.2.1 x.2.2 (v.clrSt x.1 x.2.1 x.2.2) (v.rd (R.CFG_GEN x.1)).toNat))
      (fun s _ => Chip.mirror_eq s _) { v with lanes := x1, twin := t1, draws := n1 }
    obtain ⟨x3, t3, n3, h3⟩ := Chip.fold_lanes_twin (c.bulkChanged v)
      (fun s x => s.mirror (.flow x.1 x.2.1 x.2.2 (v.rd (R.CFG_GEN x.1)).toNat))
      (fun s _ => Chip.mirror_eq s _) { v with lanes := x2, twin := t2, draws := n2 }
    simp only [h1, h2, h3]
    split
    · simp only [Chip.mirrorResend]
      split
      · exact ⟨_, _, _, rfl⟩
      · obtain ⟨x4, t4, n4, h4⟩ := Chip.fold_lanes_twin t3.unacked (fun s e => s.mirrorSend e.1)
          (fun s b => by obtain ⟨x, n, h⟩ := Chip.mirrorSend_eq s b.1; exact ⟨x, s.twin, n, h⟩)
          { v with lanes := x3, twin := t3, draws := n3 }
        exact ⟨x4, t4, n4, h4⟩
    · exact ⟨_, _, _, rfl⟩

/-- While the M40 is not PAIRED the mirror changes nothing. -/
theorem Chip.mirrorChanges_solo (c v : Chip) (h : c.twinSt ≠ 2) : c.mirrorChanges v = v := by
  simp [Chip.mirrorChanges, h]

/-- No firebreak trigger waits: none acts. -/
theorem Chip.raiseDue_nil (c : Chip) (h : c.integ.due = []) : c.raiseDue = c := by
  simp [Chip.raiseDue, h]

/-- With no trigger raised, settling changes only what the mirror does. -/
theorem State.settled_eq (s : State) (c : Chip) (h : c.integ.due = []) :
    ∃ x t n, s.settled c = { c with lanes := x, twin := t, draws := n } := by
  rw [State.settled, Chip.raiseDue_nil c h]
  exact Chip.mirrorChanges_eq _ _

/-- With no trigger raised and the M40 not PAIRED, settling changes nothing. -/
theorem State.settled_solo (s : State) (c : Chip) (h : c.integ.due = []) (ht : s.chip.twinSt ≠ 2) : s.settled c = c := by
  rw [State.settled, Chip.raiseDue_nil c h, Chip.mirrorChanges_solo _ _ ht]

/-! ### The state after a command -/

@[simp] theorem State.withChip_pending (s : State) (c : Chip) : (s.withChip c).pending = s.pending := by
  unfold State.withChip; split <;> rfl

@[simp] theorem State.withChip_chip (s : State) (c : Chip) : (s.withChip c).chip = c := by
  unfold State.withChip; split <;> rfl

/-- Unless a reset of the whole chip lasts, a command that only changes the chip leaves hub memory alone. -/
theorem State.withChip_up (s : State) (c : Chip) (h : c.pw.chipReset = 0) : s.withChip c = { s with chip := c } := by
  simp [State.withChip, h]

@[simp] theorem State.storeByte_pending (s : State) (w : HubWrite) : (s.storeByte w).pending = s.pending := by
  unfold State.storeByte; dsimp only; split <;> rfl

@[simp] theorem State.storeByte_chip (s : State) (w : HubWrite) : (s.storeByte w).chip = s.chip := by
  unfold State.storeByte; dsimp only; split <;> rfl

@[simp] theorem State.store_pending (s : State) (ws : List HubWrite) : (s.store ws).pending = s.pending := by
  induction ws generalizing s with
  | nil => rfl
  | cons w t ih => exact (ih (s.storeByte w)).trans (State.storeByte_pending s w)

@[simp] theorem State.store_chip (s : State) (ws : List HubWrite) : (s.store ws).chip = s.chip := by
  induction ws generalizing s with
  | nil => rfl
  | cons w t ih => exact (ih (s.storeByte w)).trans (State.storeByte_chip s w)

/-- Everything a command that changes the chip can do. -/
theorem State.run_eq (s : State) (f : Chip → Chip) : s.run f = .next (s.withChip (s.settled (f s.chip))) := rfl

/-! ### Hub memory -/

/-- A byte of hub memory reads what was written to it. -/
theorem State.read_storeByte_same (s : State) (w : HubWrite) (h : w.1 < 2) :
    (s.storeByte w).read w.1 w.2.1 = w.2.2 % 256 := by
  have h2 : w.1 = 0 ∨ w.1 = 1 := by omega
  rcases h2 with h2 | h2 <;> simp [State.read, State.mem, State.storeByte, h2]

/-- A write of a byte leaves every other byte alone. -/
theorem State.read_storeByte_other (s : State) (w : HubWrite) (h a : Nat) (hw : w.1 < 2) (hh : h < 2)
    (ne : ¬ (h = w.1 ∧ a = w.2.1)) : (s.storeByte w).read h a = s.read h a := by
  have h1 : w.1 = 0 ∨ w.1 = 1 := by omega
  have h2 : h = 0 ∨ h = 1 := by omega
  rcases h1 with h1 | h1 <;> rcases h2 with h2 | h2 <;>
    simp [State.read, State.mem, State.storeByte, h1, h2] <;>
    (have : a ≠ w.2.1 := by omega) <;> simp [SMap.get_set, this]

/-- A write keeps the memories' canonical form. -/
theorem State.storeByte_wf (s : State) (w : HubWrite) (ha : Memory.wf s.lpddrA = true) (hb : Memory.wf s.lpddrB = true) :
    Memory.wf (s.storeByte w).lpddrA = true ∧ Memory.wf (s.storeByte w).lpddrB = true := by
  unfold State.storeByte
  dsimp only
  split
  · exact ⟨SMap.wf_set _ _ _ _ ha, hb⟩
  · exact ⟨ha, SMap.wf_set _ _ _ _ hb⟩

/-- Writes keep the memories' canonical form. -/
theorem State.store_wf (s : State) (ws : List HubWrite) (ha : Memory.wf s.lpddrA = true) (hb : Memory.wf s.lpddrB = true) :
    Memory.wf (s.store ws).lpddrA = true ∧ Memory.wf (s.store ws).lpddrB = true := by
  induction ws generalizing s with
  | nil => exact ⟨ha, hb⟩
  | cons w t ih => exact ih (s.storeByte w) (State.storeByte_wf s w ha hb).1 (State.storeByte_wf s w ha hb).2

/-- The chip a command leaves keeps the memories sound. -/
theorem State.withChip_memOk (s : State) (c : Chip) (ha : Memory.wf s.lpddrA = true) (hb : Memory.wf s.lpddrB = true) :
    (s.withChip c).memOk = true := by
  unfold State.withChip
  split
  · rename_i h; simp [State.memOk, ha, hb, h]
  · simp [State.memOk, Memory.wf]

end Sys2Proof.Machine
end

