-- ==== Sys2Proof/Laws/State.lean ====
section
/-!
SUPPORT. What each update of the chip leaves alone: one law for each field and update, and for the readers of registers, lanes and hubs.
-/

namespace Sys2Proof.Machine

variable (c : Chip)

/-! ### Chip.wr changes `regs` only -/

@[simp] theorem Chip.wr_cycle (a : Nat) (w : Word) : (c.wr a w).cycle = c.cycle := (rfl)
@[simp] theorem Chip.wr_now (a : Nat) (w : Word) : (c.wr a w).now = c.now := (rfl)
@[simp] theorem Chip.wr_staged (a : Nat) (w : Word) : (c.wr a w).staged = c.staged := (rfl)
@[simp] theorem Chip.wr_latch (a : Nat) (w : Word) : (c.wr a w).latch = c.latch := (rfl)
@[simp] theorem Chip.wr_lastRead (a : Nat) (w : Word) : (c.wr a w).lastRead = c.lastRead := (rfl)
@[simp] theorem Chip.wr_lanes (a : Nat) (w : Word) : (c.wr a w).lanes = c.lanes := (rfl)
@[simp] theorem Chip.wr_sw (a : Nat) (w : Word) : (c.wr a w).sw = c.sw := (rfl)
@[simp] theorem Chip.wr_snaps (a : Nat) (w : Word) : (c.wr a w).snaps = c.snaps := (rfl)
@[simp] theorem Chip.wr_cfg (a : Nat) (w : Word) : (c.wr a w).cfg = c.cfg := (rfl)
@[simp] theorem Chip.wr_nq (a : Nat) (w : Word) : (c.wr a w).nq = c.nq := (rfl)
@[simp] theorem Chip.wr_pmc (a : Nat) (w : Word) : (c.wr a w).pmc = c.pmc := (rfl)
@[simp] theorem Chip.wr_hubs (a : Nat) (w : Word) : (c.wr a w).hubs = c.hubs := (rfl)
@[simp] theorem Chip.wr_pw (a : Nat) (w : Word) : (c.wr a w).pw = c.pw := (rfl)
@[simp] theorem Chip.wr_tb (a : Nat) (w : Word) : (c.wr a w).tb = c.tb := (rfl)
@[simp] theorem Chip.wr_stage (a : Nat) (w : Word) : (c.wr a w).stage = c.stage := (rfl)
@[simp] theorem Chip.wr_stamps (a : Nat) (w : Word) : (c.wr a w).stamps = c.stamps := (rfl)
@[simp] theorem Chip.wr_tsq (a : Nat) (w : Word) : (c.wr a w).tsq = c.tsq := (rfl)
@[simp] theorem Chip.wr_tsqLost (a : Nat) (w : Word) : (c.wr a w).tsqLost = c.tsqLost := (rfl)
@[simp] theorem Chip.wr_bells (a : Nat) (w : Word) : (c.wr a w).bells = c.bells := (rfl)
@[simp] theorem Chip.wr_coll (a : Nat) (w : Word) : (c.wr a w).coll = c.coll := (rfl)
@[simp] theorem Chip.wr_ledger (a : Nat) (w : Word) : (c.wr a w).ledger = c.ledger := (rfl)
@[simp] theorem Chip.wr_ledgerNext (a : Nat) (w : Word) : (c.wr a w).ledgerNext = c.ledgerNext := (rfl)
@[simp] theorem Chip.wr_integ (a : Nat) (w : Word) : (c.wr a w).integ = c.integ := (rfl)
@[simp] theorem Chip.wr_optics (a : Nat) (w : Word) : (c.wr a w).optics = c.optics := (rfl)
@[simp] theorem Chip.wr_clears (a : Nat) (w : Word) : (c.wr a w).clears = c.clears := (rfl)
@[simp] theorem Chip.wr_real (a : Nat) (w : Word) : (c.wr a w).real = c.real := (rfl)
@[simp] theorem Chip.wr_aliasA (a : Nat) (w : Word) : (c.wr a w).alias_ = c.alias_ := (rfl)
@[simp] theorem Chip.wr_faultN (a : Nat) (w : Word) : (c.wr a w).faultN = c.faultN := (rfl)
@[simp] theorem Chip.wr_sagN (a : Nat) (w : Word) : (c.wr a w).sagN = c.sagN := (rfl)
@[simp] theorem Chip.wr_darkChip (a : Nat) (w : Word) : (c.wr a w).darkChip = c.darkChip := (rfl)
@[simp] theorem Chip.wr_clock (a : Nat) (w : Word) : (c.wr a w).clock = c.clock := (rfl)
@[simp] theorem Chip.wr_twin (a : Nat) (w : Word) : (c.wr a w).twin = c.twin := (rfl)
@[simp] theorem Chip.wr_orders (a : Nat) (w : Word) : (c.wr a w).orders = c.orders := (rfl)
@[simp] theorem Chip.wr_image (a : Nat) (w : Word) : (c.wr a w).image = c.image := (rfl)
@[simp] theorem Chip.wr_loading (a : Nat) (w : Word) : (c.wr a w).loading = c.loading := (rfl)
@[simp] theorem Chip.wr_bellWaits (a : Nat) (w : Word) : (c.wr a w).bellWaits = c.bellWaits := (rfl)
@[simp] theorem Chip.wr_bellApply (a : Nat) (w : Word) : (c.wr a w).bellApply = c.bellApply := (rfl)
@[simp] theorem Chip.wr_draws (a : Nat) (w : Word) : (c.wr a w).draws = c.draws := (rfl)
@[simp] theorem Chip.wr_lane (a : Nat) (w : Word) (y : Nat) : (c.wr a w).lane y = c.lane y := (rfl)
@[simp] theorem Chip.wr_hub (a : Nat) (w : Word) (y : Nat) : (c.wr a w).hub y = c.hub y := (rfl)

/-! ### Chip.set changes `regs` only -/

@[simp] theorem Chip.set_cycle (a : Nat) (f : Fld) (v : Nat) : (c.set a f v).cycle = c.cycle := (rfl)
@[simp] theorem Chip.set_now (a : Nat) (f : Fld) (v : Nat) : (c.set a f v).now = c.now := (rfl)
@[simp] theorem Chip.set_staged (a : Nat) (f : Fld) (v : Nat) : (c.set a f v).staged = c.staged := (rfl)
@[simp] theorem Chip.set_latch (a : Nat) (f : Fld) (v : Nat) : (c.set a f v).latch = c.latch := (rfl)
@[simp] theorem Chip.set_lastRead (a : Nat) (f : Fld) (v : Nat) : (c.set a f v).lastRead = c.lastRead := (rfl)
@[simp] theorem Chip.set_lanes (a : Nat) (f : Fld) (v : Nat) : (c.set a f v).lanes = c.lanes := (rfl)
@[simp] theorem Chip.set_sw (a : Nat) (f : Fld) (v : Nat) : (c.set a f v).sw = c.sw := (rfl)
@[simp] theorem Chip.set_snaps (a : Nat) (f : Fld) (v : Nat) : (c.set a f v).snaps = c.snaps := (rfl)
@[simp] theorem Chip.set_cfg (a : Nat) (f : Fld) (v : Nat) : (c.set a f v).cfg = c.cfg := (rfl)
@[simp] theorem Chip.set_nq (a : Nat) (f : Fld) (v : Nat) : (c.set a f v).nq = c.nq := (rfl)
@[simp] theorem Chip.set_pmc (a : Nat) (f : Fld) (v : Nat) : (c.set a f v).pmc = c.pmc := (rfl)
@[simp] theorem Chip.set_hubs (a : Nat) (f : Fld) (v : Nat) : (c.set a f v).hubs = c.hubs := (rfl)
@[simp] theorem Chip.set_pw (a : Nat) (f : Fld) (v : Nat) : (c.set a f v).pw = c.pw := (rfl)
@[simp] theorem Chip.set_tb (a : Nat) (f : Fld) (v : Nat) : (c.set a f v).tb = c.tb := (rfl)
@[simp] theorem Chip.set_stage (a : Nat) (f : Fld) (v : Nat) : (c.set a f v).stage = c.stage := (rfl)
@[simp] theorem Chip.set_stamps (a : Nat) (f : Fld) (v : Nat) : (c.set a f v).stamps = c.stamps := (rfl)
@[simp] theorem Chip.set_tsq (a : Nat) (f : Fld) (v : Nat) : (c.set a f v).tsq = c.tsq := (rfl)
@[simp] theorem Chip.set_tsqLost (a : Nat) (f : Fld) (v : Nat) : (c.set a f v).tsqLost = c.tsqLost := (rfl)
@[simp] theorem Chip.set_bells (a : Nat) (f : Fld) (v : Nat) : (c.set a f v).bells = c.bells := (rfl)
@[simp] theorem Chip.set_coll (a : Nat) (f : Fld) (v : Nat) : (c.set a f v).coll = c.coll := (rfl)
@[simp] theorem Chip.set_ledger (a : Nat) (f : Fld) (v : Nat) : (c.set a f v).ledger = c.ledger := (rfl)
@[simp] theorem Chip.set_ledgerNext (a : Nat) (f : Fld) (v : Nat) : (c.set a f v).ledgerNext = c.ledgerNext := (rfl)
@[simp] theorem Chip.set_integ (a : Nat) (f : Fld) (v : Nat) : (c.set a f v).integ = c.integ := (rfl)
@[simp] theorem Chip.set_optics (a : Nat) (f : Fld) (v : Nat) : (c.set a f v).optics = c.optics := (rfl)
@[simp] theorem Chip.set_clears (a : Nat) (f : Fld) (v : Nat) : (c.set a f v).clears = c.clears := (rfl)
@[simp] theorem Chip.set_real (a : Nat) (f : Fld) (v : Nat) : (c.set a f v).real = c.real := (rfl)
@[simp] theorem Chip.set_aliasA (a : Nat) (f : Fld) (v : Nat) : (c.set a f v).alias_ = c.alias_ := (rfl)
@[simp] theorem Chip.set_faultN (a : Nat) (f : Fld) (v : Nat) : (c.set a f v).faultN = c.faultN := (rfl)
@[simp] theorem Chip.set_sagN (a : Nat) (f : Fld) (v : Nat) : (c.set a f v).sagN = c.sagN := (rfl)
@[simp] theorem Chip.set_darkChip (a : Nat) (f : Fld) (v : Nat) : (c.set a f v).darkChip = c.darkChip := (rfl)
@[simp] theorem Chip.set_clock (a : Nat) (f : Fld) (v : Nat) : (c.set a f v).clock = c.clock := (rfl)
@[simp] theorem Chip.set_twin (a : Nat) (f : Fld) (v : Nat) : (c.set a f v).twin = c.twin := (rfl)
@[simp] theorem Chip.set_orders (a : Nat) (f : Fld) (v : Nat) : (c.set a f v).orders = c.orders := (rfl)
@[simp] theorem Chip.set_image (a : Nat) (f : Fld) (v : Nat) : (c.set a f v).image = c.image := (rfl)
@[simp] theorem Chip.set_loading (a : Nat) (f : Fld) (v : Nat) : (c.set a f v).loading = c.loading := (rfl)
@[simp] theorem Chip.set_bellWaits (a : Nat) (f : Fld) (v : Nat) : (c.set a f v).bellWaits = c.bellWaits := (rfl)
@[simp] theorem Chip.set_bellApply (a : Nat) (f : Fld) (v : Nat) : (c.set a f v).bellApply = c.bellApply := (rfl)
@[simp] theorem Chip.set_draws (a : Nat) (f : Fld) (v : Nat) : (c.set a f v).draws = c.draws := (rfl)
@[simp] theorem Chip.set_lane (a : Nat) (f : Fld) (v : Nat) (y : Nat) : (c.set a f v).lane y = c.lane y := (rfl)
@[simp] theorem Chip.set_hub (a : Nat) (f : Fld) (v : Nat) (y : Nat) : (c.set a f v).hub y = c.hub y := (rfl)

/-! ### Chip.setBoth changes `regs` and `staged` only -/

@[simp] theorem Chip.setBoth_lanes (a : Nat) (f : Fld) (v : Nat) : (c.setBoth a f v).lanes = c.lanes := (rfl)
@[simp] theorem Chip.setBoth_sw (a : Nat) (f : Fld) (v : Nat) : (c.setBoth a f v).sw = c.sw := (rfl)
@[simp] theorem Chip.setBoth_nq (a : Nat) (f : Fld) (v : Nat) : (c.setBoth a f v).nq = c.nq := (rfl)
@[simp] theorem Chip.setBoth_pmc (a : Nat) (f : Fld) (v : Nat) : (c.setBoth a f v).pmc = c.pmc := (rfl)
@[simp] theorem Chip.setBoth_hubs (a : Nat) (f : Fld) (v : Nat) : (c.setBoth a f v).hubs = c.hubs := (rfl)
@[simp] theorem Chip.setBoth_pw (a : Nat) (f : Fld) (v : Nat) : (c.setBoth a f v).pw = c.pw := (rfl)
@[simp] theorem Chip.setBoth_tb (a : Nat) (f : Fld) (v : Nat) : (c.setBoth a f v).tb = c.tb := (rfl)
@[simp] theorem Chip.setBoth_stage (a : Nat) (f : Fld) (v : Nat) : (c.setBoth a f v).stage = c.stage := (rfl)
@[simp] theorem Chip.setBoth_bells (a : Nat) (f : Fld) (v : Nat) : (c.setBoth a f v).bells = c.bells := (rfl)
@[simp] theorem Chip.setBoth_coll (a : Nat) (f : Fld) (v : Nat) : (c.setBoth a f v).coll = c.coll := (rfl)
@[simp] theorem Chip.setBoth_ledger (a : Nat) (f : Fld) (v : Nat) : (c.setBoth a f v).ledger = c.ledger := (rfl)
@[simp] theorem Chip.setBoth_integ (a : Nat) (f : Fld) (v : Nat) : (c.setBoth a f v).integ = c.integ := (rfl)
@[simp] theorem Chip.setBoth_optics (a : Nat) (f : Fld) (v : Nat) : (c.setBoth a f v).optics = c.optics := (rfl)
@[simp] theorem Chip.setBoth_clears (a : Nat) (f : Fld) (v : Nat) : (c.setBoth a f v).clears = c.clears := (rfl)
@[simp] theorem Chip.setBoth_clock (a : Nat) (f : Fld) (v : Nat) : (c.setBoth a f v).clock = c.clock := (rfl)
@[simp] theorem Chip.setBoth_twin (a : Nat) (f : Fld) (v : Nat) : (c.setBoth a f v).twin = c.twin := (rfl)
@[simp] theorem Chip.setBoth_orders (a : Nat) (f : Fld) (v : Nat) : (c.setBoth a f v).orders = c.orders := (rfl)
@[simp] theorem Chip.setBoth_rd (a : Nat) (f : Fld) (v b : Nat) : (c.setBoth a f v).rd b = (c.set a f v).rd b := (rfl)
@[simp] theorem Chip.setBoth_get (a : Nat) (f g : Fld) (v b : Nat) : (c.setBoth a f v).get b g = (c.set a f v).get b g := (rfl)

/-! ### Chip.incSat changes `regs` only -/

@[simp] theorem Chip.incSat_cycle (a : Nat) (f : Fld) (n : Nat) : (c.incSat a f n).cycle = c.cycle := (rfl)
@[simp] theorem Chip.incSat_now (a : Nat) (f : Fld) (n : Nat) : (c.incSat a f n).now = c.now := (rfl)
@[simp] theorem Chip.incSat_staged (a : Nat) (f : Fld) (n : Nat) : (c.incSat a f n).staged = c.staged := (rfl)
@[simp] theorem Chip.incSat_latch (a : Nat) (f : Fld) (n : Nat) : (c.incSat a f n).latch = c.latch := (rfl)
@[simp] theorem Chip.incSat_lastRead (a : Nat) (f : Fld) (n : Nat) : (c.incSat a f n).lastRead = c.lastRead := (rfl)
@[simp] theorem Chip.incSat_lanes (a : Nat) (f : Fld) (n : Nat) : (c.incSat a f n).lanes = c.lanes := (rfl)
@[simp] theorem Chip.incSat_sw (a : Nat) (f : Fld) (n : Nat) : (c.incSat a f n).sw = c.sw := (rfl)
@[simp] theorem Chip.incSat_snaps (a : Nat) (f : Fld) (n : Nat) : (c.incSat a f n).snaps = c.snaps := (rfl)
@[simp] theorem Chip.incSat_cfg (a : Nat) (f : Fld) (n : Nat) : (c.incSat a f n).cfg = c.cfg := (rfl)
@[simp] theorem Chip.incSat_nq (a : Nat) (f : Fld) (n : Nat) : (c.incSat a f n).nq = c.nq := (rfl)
@[simp] theorem Chip.incSat_pmc (a : Nat) (f : Fld) (n : Nat) : (c.incSat a f n).pmc = c.pmc := (rfl)
@[simp] theorem Chip.incSat_hubs (a : Nat) (f : Fld) (n : Nat) : (c.incSat a f n).hubs = c.hubs := (rfl)
@[simp] theorem Chip.incSat_pw (a : Nat) (f : Fld) (n : Nat) : (c.incSat a f n).pw = c.pw := (rfl)
@[simp] theorem Chip.incSat_tb (a : Nat) (f : Fld) (n : Nat) : (c.incSat a f n).tb = c.tb := (rfl)
@[simp] theorem Chip.incSat_stage (a : Nat) (f : Fld) (n : Nat) : (c.incSat a f n).stage = c.stage := (rfl)
@[simp] theorem Chip.incSat_stamps (a : Nat) (f : Fld) (n : Nat) : (c.incSat a f n).stamps = c.stamps := (rfl)
@[simp] theorem Chip.incSat_tsq (a : Nat) (f : Fld) (n : Nat) : (c.incSat a f n).tsq = c.tsq := (rfl)
@[simp] theorem Chip.incSat_tsqLost (a : Nat) (f : Fld) (n : Nat) : (c.incSat a f n).tsqLost = c.tsqLost := (rfl)
@[simp] theorem Chip.incSat_bells (a : Nat) (f : Fld) (n : Nat) : (c.incSat a f n).bells = c.bells := (rfl)
@[simp] theorem Chip.incSat_coll (a : Nat) (f : Fld) (n : Nat) : (c.incSat a f n).coll = c.coll := (rfl)
@[simp] theorem Chip.incSat_ledger (a : Nat) (f : Fld) (n : Nat) : (c.incSat a f n).ledger = c.ledger := (rfl)
@[simp] theorem Chip.incSat_ledgerNext (a : Nat) (f : Fld) (n : Nat) : (c.incSat a f n).ledgerNext = c.ledgerNext := (rfl)
@[simp] theorem Chip.incSat_integ (a : Nat) (f : Fld) (n : Nat) : (c.incSat a f n).integ = c.integ := (rfl)
@[simp] theorem Chip.incSat_optics (a : Nat) (f : Fld) (n : Nat) : (c.incSat a f n).optics = c.optics := (rfl)
@[simp] theorem Chip.incSat_clears (a : Nat) (f : Fld) (n : Nat) : (c.incSat a f n).clears = c.clears := (rfl)
@[simp] theorem Chip.incSat_real (a : Nat) (f : Fld) (n : Nat) : (c.incSat a f n).real = c.real := (rfl)
@[simp] theorem Chip.incSat_aliasA (a : Nat) (f : Fld) (n : Nat) : (c.incSat a f n).alias_ = c.alias_ := (rfl)
@[simp] theorem Chip.incSat_faultN (a : Nat) (f : Fld) (n : Nat) : (c.incSat a f n).faultN = c.faultN := (rfl)
@[simp] theorem Chip.incSat_sagN (a : Nat) (f : Fld) (n : Nat) : (c.incSat a f n).sagN = c.sagN := (rfl)
@[simp] theorem Chip.incSat_darkChip (a : Nat) (f : Fld) (n : Nat) : (c.incSat a f n).darkChip = c.darkChip := (rfl)
@[simp] theorem Chip.incSat_clock (a : Nat) (f : Fld) (n : Nat) : (c.incSat a f n).clock = c.clock := (rfl)
@[simp] theorem Chip.incSat_twin (a : Nat) (f : Fld) (n : Nat) : (c.incSat a f n).twin = c.twin := (rfl)
@[simp] theorem Chip.incSat_orders (a : Nat) (f : Fld) (n : Nat) : (c.incSat a f n).orders = c.orders := (rfl)
@[simp] theorem Chip.incSat_image (a : Nat) (f : Fld) (n : Nat) : (c.incSat a f n).image = c.image := (rfl)
@[simp] theorem Chip.incSat_loading (a : Nat) (f : Fld) (n : Nat) : (c.incSat a f n).loading = c.loading := (rfl)
@[simp] theorem Chip.incSat_bellWaits (a : Nat) (f : Fld) (n : Nat) : (c.incSat a f n).bellWaits = c.bellWaits := (rfl)
@[simp] theorem Chip.incSat_bellApply (a : Nat) (f : Fld) (n : Nat) : (c.incSat a f n).bellApply = c.bellApply := (rfl)
@[simp] theorem Chip.incSat_draws (a : Nat) (f : Fld) (n : Nat) : (c.incSat a f n).draws = c.draws := (rfl)
@[simp] theorem Chip.incSat_lane (a : Nat) (f : Fld) (n : Nat) (y : Nat) : (c.incSat a f n).lane y = c.lane y := (rfl)
@[simp] theorem Chip.incSat_hub (a : Nat) (f : Fld) (n : Nat) (y : Nat) : (c.incSat a f n).hub y = c.hub y := (rfl)

/-! ### Chip.setLane changes `lanes` only -/

@[simp] theorem Chip.setLane_cycle (l : Nat) (x : Lane) : (c.setLane l x).cycle = c.cycle := (rfl)
@[simp] theorem Chip.setLane_now (l : Nat) (x : Lane) : (c.setLane l x).now = c.now := (rfl)
@[simp] theorem Chip.setLane_regs (l : Nat) (x : Lane) : (c.setLane l x).regs = c.regs := (rfl)
@[simp] theorem Chip.setLane_staged (l : Nat) (x : Lane) : (c.setLane l x).staged = c.staged := (rfl)
@[simp] theorem Chip.setLane_latch (l : Nat) (x : Lane) : (c.setLane l x).latch = c.latch := (rfl)
@[simp] theorem Chip.setLane_lastRead (l : Nat) (x : Lane) : (c.setLane l x).lastRead = c.lastRead := (rfl)
@[simp] theorem Chip.setLane_sw (l : Nat) (x : Lane) : (c.setLane l x).sw = c.sw := (rfl)
@[simp] theorem Chip.setLane_snaps (l : Nat) (x : Lane) : (c.setLane l x).snaps = c.snaps := (rfl)
@[simp] theorem Chip.setLane_cfg (l : Nat) (x : Lane) : (c.setLane l x).cfg = c.cfg := (rfl)
@[simp] theorem Chip.setLane_nq (l : Nat) (x : Lane) : (c.setLane l x).nq = c.nq := (rfl)
@[simp] theorem Chip.setLane_pmc (l : Nat) (x : Lane) : (c.setLane l x).pmc = c.pmc := (rfl)
@[simp] theorem Chip.setLane_hubs (l : Nat) (x : Lane) : (c.setLane l x).hubs = c.hubs := (rfl)
@[simp] theorem Chip.setLane_pw (l : Nat) (x : Lane) : (c.setLane l x).pw = c.pw := (rfl)
@[simp] theorem Chip.setLane_tb (l : Nat) (x : Lane) : (c.setLane l x).tb = c.tb := (rfl)
@[simp] theorem Chip.setLane_stage (l : Nat) (x : Lane) : (c.setLane l x).stage = c.stage := (rfl)
@[simp] theorem Chip.setLane_stamps (l : Nat) (x : Lane) : (c.setLane l x).stamps = c.stamps := (rfl)
@[simp] theorem Chip.setLane_tsq (l : Nat) (x : Lane) : (c.setLane l x).tsq = c.tsq := (rfl)
@[simp] theorem Chip.setLane_tsqLost (l : Nat) (x : Lane) : (c.setLane l x).tsqLost = c.tsqLost := (rfl)
@[simp] theorem Chip.setLane_bells (l : Nat) (x : Lane) : (c.setLane l x).bells = c.bells := (rfl)
@[simp] theorem Chip.setLane_coll (l : Nat) (x : Lane) : (c.setLane l x).coll = c.coll := (rfl)
@[simp] theorem Chip.setLane_ledger (l : Nat) (x : Lane) : (c.setLane l x).ledger = c.ledger := (rfl)
@[simp] theorem Chip.setLane_ledgerNext (l : Nat) (x : Lane) : (c.setLane l x).ledgerNext = c.ledgerNext := (rfl)
@[simp] theorem Chip.setLane_integ (l : Nat) (x : Lane) : (c.setLane l x).integ = c.integ := (rfl)
@[simp] theorem Chip.setLane_optics (l : Nat) (x : Lane) : (c.setLane l x).optics = c.optics := (rfl)
@[simp] theorem Chip.setLane_clears (l : Nat) (x : Lane) : (c.setLane l x).clears = c.clears := (rfl)
@[simp] theorem Chip.setLane_real (l : Nat) (x : Lane) : (c.setLane l x).real = c.real := (rfl)
@[simp] theorem Chip.setLane_aliasA (l : Nat) (x : Lane) : (c.setLane l x).alias_ = c.alias_ := (rfl)
@[simp] theorem Chip.setLane_faultN (l : Nat) (x : Lane) : (c.setLane l x).faultN = c.faultN := (rfl)
@[simp] theorem Chip.setLane_sagN (l : Nat) (x : Lane) : (c.setLane l x).sagN = c.sagN := (rfl)
@[simp] theorem Chip.setLane_darkChip (l : Nat) (x : Lane) : (c.setLane l x).darkChip = c.darkChip := (rfl)
@[simp] theorem Chip.setLane_clock (l : Nat) (x : Lane) : (c.setLane l x).clock = c.clock := (rfl)
@[simp] theorem Chip.setLane_twin (l : Nat) (x : Lane) : (c.setLane l x).twin = c.twin := (rfl)
@[simp] theorem Chip.setLane_orders (l : Nat) (x : Lane) : (c.setLane l x).orders = c.orders := (rfl)
@[simp] theorem Chip.setLane_image (l : Nat) (x : Lane) : (c.setLane l x).image = c.image := (rfl)
@[simp] theorem Chip.setLane_loading (l : Nat) (x : Lane) : (c.setLane l x).loading = c.loading := (rfl)
@[simp] theorem Chip.setLane_bellWaits (l : Nat) (x : Lane) : (c.setLane l x).bellWaits = c.bellWaits := (rfl)
@[simp] theorem Chip.setLane_bellApply (l : Nat) (x : Lane) : (c.setLane l x).bellApply = c.bellApply := (rfl)
@[simp] theorem Chip.setLane_draws (l : Nat) (x : Lane) : (c.setLane l x).draws = c.draws := (rfl)
@[simp] theorem Chip.setLane_rd (l : Nat) (x : Lane) (y : Nat) : (c.setLane l x).rd y = c.rd y := (rfl)
@[simp] theorem Chip.setLane_get (l : Nat) (x : Lane) (y : Nat) (g0 : Fld) : (c.setLane l x).get y g0 = c.get y g0 := (rfl)
@[simp] theorem Chip.setLane_flag (l : Nat) (x : Lane) (y : Nat) (g0 : Fld) : (c.setLane l x).flag y g0 = c.flag y g0 := (rfl)
@[simp] theorem Chip.setLane_hub (l : Nat) (x : Lane) (y : Nat) : (c.setLane l x).hub y = c.hub y := (rfl)

/-! ### Chip.modLane changes `lanes` only -/

@[simp] theorem Chip.modLane_cycle (l : Nat) (f : Lane → Lane) : (c.modLane l f).cycle = c.cycle := (rfl)
@[simp] theorem Chip.modLane_now (l : Nat) (f : Lane → Lane) : (c.modLane l f).now = c.now := (rfl)
@[simp] theorem Chip.modLane_regs (l : Nat) (f : Lane → Lane) : (c.modLane l f).regs = c.regs := (rfl)
@[simp] theorem Chip.modLane_staged (l : Nat) (f : Lane → Lane) : (c.modLane l f).staged = c.staged := (rfl)
@[simp] theorem Chip.modLane_latch (l : Nat) (f : Lane → Lane) : (c.modLane l f).latch = c.latch := (rfl)
@[simp] theorem Chip.modLane_lastRead (l : Nat) (f : Lane → Lane) : (c.modLane l f).lastRead = c.lastRead := (rfl)
@[simp] theorem Chip.modLane_sw (l : Nat) (f : Lane → Lane) : (c.modLane l f).sw = c.sw := (rfl)
@[simp] theorem Chip.modLane_snaps (l : Nat) (f : Lane → Lane) : (c.modLane l f).snaps = c.snaps := (rfl)
@[simp] theorem Chip.modLane_cfg (l : Nat) (f : Lane → Lane) : (c.modLane l f).cfg = c.cfg := (rfl)
@[simp] theorem Chip.modLane_nq (l : Nat) (f : Lane → Lane) : (c.modLane l f).nq = c.nq := (rfl)
@[simp] theorem Chip.modLane_pmc (l : Nat) (f : Lane → Lane) : (c.modLane l f).pmc = c.pmc := (rfl)
@[simp] theorem Chip.modLane_hubs (l : Nat) (f : Lane → Lane) : (c.modLane l f).hubs = c.hubs := (rfl)
@[simp] theorem Chip.modLane_pw (l : Nat) (f : Lane → Lane) : (c.modLane l f).pw = c.pw := (rfl)
@[simp] theorem Chip.modLane_tb (l : Nat) (f : Lane → Lane) : (c.modLane l f).tb = c.tb := (rfl)
@[simp] theorem Chip.modLane_stage (l : Nat) (f : Lane → Lane) : (c.modLane l f).stage = c.stage := (rfl)
@[simp] theorem Chip.modLane_stamps (l : Nat) (f : Lane → Lane) : (c.modLane l f).stamps = c.stamps := (rfl)
@[simp] theorem Chip.modLane_tsq (l : Nat) (f : Lane → Lane) : (c.modLane l f).tsq = c.tsq := (rfl)
@[simp] theorem Chip.modLane_tsqLost (l : Nat) (f : Lane → Lane) : (c.modLane l f).tsqLost = c.tsqLost := (rfl)
@[simp] theorem Chip.modLane_bells (l : Nat) (f : Lane → Lane) : (c.modLane l f).bells = c.bells := (rfl)
@[simp] theorem Chip.modLane_coll (l : Nat) (f : Lane → Lane) : (c.modLane l f).coll = c.coll := (rfl)
@[simp] theorem Chip.modLane_ledger (l : Nat) (f : Lane → Lane) : (c.modLane l f).ledger = c.ledger := (rfl)
@[simp] theorem Chip.modLane_ledgerNext (l : Nat) (f : Lane → Lane) : (c.modLane l f).ledgerNext = c.ledgerNext := (rfl)
@[simp] theorem Chip.modLane_integ (l : Nat) (f : Lane → Lane) : (c.modLane l f).integ = c.integ := (rfl)
@[simp] theorem Chip.modLane_optics (l : Nat) (f : Lane → Lane) : (c.modLane l f).optics = c.optics := (rfl)
@[simp] theorem Chip.modLane_clears (l : Nat) (f : Lane → Lane) : (c.modLane l f).clears = c.clears := (rfl)
@[simp] theorem Chip.modLane_real (l : Nat) (f : Lane → Lane) : (c.modLane l f).real = c.real := (rfl)
@[simp] theorem Chip.modLane_aliasA (l : Nat) (f : Lane → Lane) : (c.modLane l f).alias_ = c.alias_ := (rfl)
@[simp] theorem Chip.modLane_faultN (l : Nat) (f : Lane → Lane) : (c.modLane l f).faultN = c.faultN := (rfl)
@[simp] theorem Chip.modLane_sagN (l : Nat) (f : Lane → Lane) : (c.modLane l f).sagN = c.sagN := (rfl)
@[simp] theorem Chip.modLane_darkChip (l : Nat) (f : Lane → Lane) : (c.modLane l f).darkChip = c.darkChip := (rfl)
@[simp] theorem Chip.modLane_clock (l : Nat) (f : Lane → Lane) : (c.modLane l f).clock = c.clock := (rfl)
@[simp] theorem Chip.modLane_twin (l : Nat) (f : Lane → Lane) : (c.modLane l f).twin = c.twin := (rfl)
@[simp] theorem Chip.modLane_orders (l : Nat) (f : Lane → Lane) : (c.modLane l f).orders = c.orders := (rfl)
@[simp] theorem Chip.modLane_image (l : Nat) (f : Lane → Lane) : (c.modLane l f).image = c.image := (rfl)
@[simp] theorem Chip.modLane_loading (l : Nat) (f : Lane → Lane) : (c.modLane l f).loading = c.loading := (rfl)
@[simp] theorem Chip.modLane_bellWaits (l : Nat) (f : Lane → Lane) : (c.modLane l f).bellWaits = c.bellWaits := (rfl)
@[simp] theorem Chip.modLane_bellApply (l : Nat) (f : Lane → Lane) : (c.modLane l f).bellApply = c.bellApply := (rfl)
@[simp] theorem Chip.modLane_draws (l : Nat) (f : Lane → Lane) : (c.modLane l f).draws = c.draws := (rfl)
@[simp] theorem Chip.modLane_rd (l : Nat) (f : Lane → Lane) (y : Nat) : (c.modLane l f).rd y = c.rd y := (rfl)
@[simp] theorem Chip.modLane_get (l : Nat) (f : Lane → Lane) (y : Nat) (g0 : Fld) : (c.modLane l f).get y g0 = c.get y g0 := (rfl)
@[simp] theorem Chip.modLane_flag (l : Nat) (f : Lane → Lane) (y : Nat) (g0 : Fld) : (c.modLane l f).flag y g0 = c.flag y g0 := (rfl)
@[simp] theorem Chip.modLane_hub (l : Nat) (f : Lane → Lane) (y : Nat) : (c.modLane l f).hub y = c.hub y := (rfl)

/-! ### Chip.modSw changes `sw` only -/

@[simp] theorem Chip.modSw_cycle (f : Switch → Switch) : (c.modSw f).cycle = c.cycle := (rfl)
@[simp] theorem Chip.modSw_now (f : Switch → Switch) : (c.modSw f).now = c.now := (rfl)
@[simp] theorem Chip.modSw_regs (f : Switch → Switch) : (c.modSw f).regs = c.regs := (rfl)
@[simp] theorem Chip.modSw_staged (f : Switch → Switch) : (c.modSw f).staged = c.staged := (rfl)
@[simp] theorem Chip.modSw_latch (f : Switch → Switch) : (c.modSw f).latch = c.latch := (rfl)
@[simp] theorem Chip.modSw_lastRead (f : Switch → Switch) : (c.modSw f).lastRead = c.lastRead := (rfl)
@[simp] theorem Chip.modSw_lanes (f : Switch → Switch) : (c.modSw f).lanes = c.lanes := (rfl)
@[simp] theorem Chip.modSw_snaps (f : Switch → Switch) : (c.modSw f).snaps = c.snaps := (rfl)
@[simp] theorem Chip.modSw_cfg (f : Switch → Switch) : (c.modSw f).cfg = c.cfg := (rfl)
@[simp] theorem Chip.modSw_nq (f : Switch → Switch) : (c.modSw f).nq = c.nq := (rfl)
@[simp] theorem Chip.modSw_pmc (f : Switch → Switch) : (c.modSw f).pmc = c.pmc := (rfl)
@[simp] theorem Chip.modSw_hubs (f : Switch → Switch) : (c.modSw f).hubs = c.hubs := (rfl)
@[simp] theorem Chip.modSw_pw (f : Switch → Switch) : (c.modSw f).pw = c.pw := (rfl)
@[simp] theorem Chip.modSw_tb (f : Switch → Switch) : (c.modSw f).tb = c.tb := (rfl)
@[simp] theorem Chip.modSw_stage (f : Switch → Switch) : (c.modSw f).stage = c.stage := (rfl)
@[simp] theorem Chip.modSw_stamps (f : Switch → Switch) : (c.modSw f).stamps = c.stamps := (rfl)
@[simp] theorem Chip.modSw_tsq (f : Switch → Switch) : (c.modSw f).tsq = c.tsq := (rfl)
@[simp] theorem Chip.modSw_tsqLost (f : Switch → Switch) : (c.modSw f).tsqLost = c.tsqLost := (rfl)
@[simp] theorem Chip.modSw_bells (f : Switch → Switch) : (c.modSw f).bells = c.bells := (rfl)
@[simp] theorem Chip.modSw_coll (f : Switch → Switch) : (c.modSw f).coll = c.coll := (rfl)
@[simp] theorem Chip.modSw_ledger (f : Switch → Switch) : (c.modSw f).ledger = c.ledger := (rfl)
@[simp] theorem Chip.modSw_ledgerNext (f : Switch → Switch) : (c.modSw f).ledgerNext = c.ledgerNext := (rfl)
@[simp] theorem Chip.modSw_integ (f : Switch → Switch) : (c.modSw f).integ = c.integ := (rfl)
@[simp] theorem Chip.modSw_optics (f : Switch → Switch) : (c.modSw f).optics = c.optics := (rfl)
@[simp] theorem Chip.modSw_clears (f : Switch → Switch) : (c.modSw f).clears = c.clears := (rfl)
@[simp] theorem Chip.modSw_real (f : Switch → Switch) : (c.modSw f).real = c.real := (rfl)
@[simp] theorem Chip.modSw_aliasA (f : Switch → Switch) : (c.modSw f).alias_ = c.alias_ := (rfl)
@[simp] theorem Chip.modSw_faultN (f : Switch → Switch) : (c.modSw f).faultN = c.faultN := (rfl)
@[simp] theorem Chip.modSw_sagN (f : Switch → Switch) : (c.modSw f).sagN = c.sagN := (rfl)
@[simp] theorem Chip.modSw_darkChip (f : Switch → Switch) : (c.modSw f).darkChip = c.darkChip := (rfl)
@[simp] theorem Chip.modSw_clock (f : Switch → Switch) : (c.modSw f).clock = c.clock := (rfl)
@[simp] theorem Chip.modSw_twin (f : Switch → Switch) : (c.modSw f).twin = c.twin := (rfl)
@[simp] theorem Chip.modSw_orders (f : Switch → Switch) : (c.modSw f).orders = c.orders := (rfl)
@[simp] theorem Chip.modSw_image (f : Switch → Switch) : (c.modSw f).image = c.image := (rfl)
@[simp] theorem Chip.modSw_loading (f : Switch → Switch) : (c.modSw f).loading = c.loading := (rfl)
@[simp] theorem Chip.modSw_bellWaits (f : Switch → Switch) : (c.modSw f).bellWaits = c.bellWaits := (rfl)
@[simp] theorem Chip.modSw_bellApply (f : Switch → Switch) : (c.modSw f).bellApply = c.bellApply := (rfl)
@[simp] theorem Chip.modSw_draws (f : Switch → Switch) : (c.modSw f).draws = c.draws := (rfl)
@[simp] theorem Chip.modSw_rd (f : Switch → Switch) (y : Nat) : (c.modSw f).rd y = c.rd y := (rfl)
@[simp] theorem Chip.modSw_get (f : Switch → Switch) (y : Nat) (g0 : Fld) : (c.modSw f).get y g0 = c.get y g0 := (rfl)
@[simp] theorem Chip.modSw_flag (f : Switch → Switch) (y : Nat) (g0 : Fld) : (c.modSw f).flag y g0 = c.flag y g0 := (rfl)
@[simp] theorem Chip.modSw_lane (f : Switch → Switch) (y : Nat) : (c.modSw f).lane y = c.lane y := (rfl)
@[simp] theorem Chip.modSw_hub (f : Switch → Switch) (y : Nat) : (c.modSw f).hub y = c.hub y := (rfl)

/-! ### Chip.setHub changes `hubs` only -/

@[simp] theorem Chip.setHub_cycle (h : Nat) (x : Hub) : (c.setHub h x).cycle = c.cycle := (rfl)
@[simp] theorem Chip.setHub_now (h : Nat) (x : Hub) : (c.setHub h x).now = c.now := (rfl)
@[simp] theorem Chip.setHub_regs (h : Nat) (x : Hub) : (c.setHub h x).regs = c.regs := (rfl)
@[simp] theorem Chip.setHub_staged (h : Nat) (x : Hub) : (c.setHub h x).staged = c.staged := (rfl)
@[simp] theorem Chip.setHub_latch (h : Nat) (x : Hub) : (c.setHub h x).latch = c.latch := (rfl)
@[simp] theorem Chip.setHub_lastRead (h : Nat) (x : Hub) : (c.setHub h x).lastRead = c.lastRead := (rfl)
@[simp] theorem Chip.setHub_lanes (h : Nat) (x : Hub) : (c.setHub h x).lanes = c.lanes := (rfl)
@[simp] theorem Chip.setHub_sw (h : Nat) (x : Hub) : (c.setHub h x).sw = c.sw := (rfl)
@[simp] theorem Chip.setHub_snaps (h : Nat) (x : Hub) : (c.setHub h x).snaps = c.snaps := (rfl)
@[simp] theorem Chip.setHub_cfg (h : Nat) (x : Hub) : (c.setHub h x).cfg = c.cfg := (rfl)
@[simp] theorem Chip.setHub_nq (h : Nat) (x : Hub) : (c.setHub h x).nq = c.nq := (rfl)
@[simp] theorem Chip.setHub_pmc (h : Nat) (x : Hub) : (c.setHub h x).pmc = c.pmc := (rfl)
@[simp] theorem Chip.setHub_pw (h : Nat) (x : Hub) : (c.setHub h x).pw = c.pw := (rfl)
@[simp] theorem Chip.setHub_tb (h : Nat) (x : Hub) : (c.setHub h x).tb = c.tb := (rfl)
@[simp] theorem Chip.setHub_stage (h : Nat) (x : Hub) : (c.setHub h x).stage = c.stage := (rfl)
@[simp] theorem Chip.setHub_stamps (h : Nat) (x : Hub) : (c.setHub h x).stamps = c.stamps := (rfl)
@[simp] theorem Chip.setHub_tsq (h : Nat) (x : Hub) : (c.setHub h x).tsq = c.tsq := (rfl)
@[simp] theorem Chip.setHub_tsqLost (h : Nat) (x : Hub) : (c.setHub h x).tsqLost = c.tsqLost := (rfl)
@[simp] theorem Chip.setHub_bells (h : Nat) (x : Hub) : (c.setHub h x).bells = c.bells := (rfl)
@[simp] theorem Chip.setHub_coll (h : Nat) (x : Hub) : (c.setHub h x).coll = c.coll := (rfl)
@[simp] theorem Chip.setHub_ledger (h : Nat) (x : Hub) : (c.setHub h x).ledger = c.ledger := (rfl)
@[simp] theorem Chip.setHub_ledgerNext (h : Nat) (x : Hub) : (c.setHub h x).ledgerNext = c.ledgerNext := (rfl)
@[simp] theorem Chip.setHub_integ (h : Nat) (x : Hub) : (c.setHub h x).integ = c.integ := (rfl)
@[simp] theorem Chip.setHub_optics (h : Nat) (x : Hub) : (c.setHub h x).optics = c.optics := (rfl)
@[simp] theorem Chip.setHub_clears (h : Nat) (x : Hub) : (c.setHub h x).clears = c.clears := (rfl)
@[simp] theorem Chip.setHub_real (h : Nat) (x : Hub) : (c.setHub h x).real = c.real := (rfl)
@[simp] theorem Chip.setHub_aliasA (h : Nat) (x : Hub) : (c.setHub h x).alias_ = c.alias_ := (rfl)
@[simp] theorem Chip.setHub_faultN (h : Nat) (x : Hub) : (c.setHub h x).faultN = c.faultN := (rfl)
@[simp] theorem Chip.setHub_sagN (h : Nat) (x : Hub) : (c.setHub h x).sagN = c.sagN := (rfl)
@[simp] theorem Chip.setHub_darkChip (h : Nat) (x : Hub) : (c.setHub h x).darkChip = c.darkChip := (rfl)
@[simp] theorem Chip.setHub_clock (h : Nat) (x : Hub) : (c.setHub h x).clock = c.clock := (rfl)
@[simp] theorem Chip.setHub_twin (h : Nat) (x : Hub) : (c.setHub h x).twin = c.twin := (rfl)
@[simp] theorem Chip.setHub_orders (h : Nat) (x : Hub) : (c.setHub h x).orders = c.orders := (rfl)
@[simp] theorem Chip.setHub_image (h : Nat) (x : Hub) : (c.setHub h x).image = c.image := (rfl)
@[simp] theorem Chip.setHub_loading (h : Nat) (x : Hub) : (c.setHub h x).loading = c.loading := (rfl)
@[simp] theorem Chip.setHub_bellWaits (h : Nat) (x : Hub) : (c.setHub h x).bellWaits = c.bellWaits := (rfl)
@[simp] theorem Chip.setHub_bellApply (h : Nat) (x : Hub) : (c.setHub h x).bellApply = c.bellApply := (rfl)
@[simp] theorem Chip.setHub_draws (h : Nat) (x : Hub) : (c.setHub h x).draws = c.draws := (rfl)
@[simp] theorem Chip.setHub_rd (h : Nat) (x : Hub) (y : Nat) : (c.setHub h x).rd y = c.rd y := (rfl)
@[simp] theorem Chip.setHub_get (h : Nat) (x : Hub) (y : Nat) (g0 : Fld) : (c.setHub h x).get y g0 = c.get y g0 := (rfl)
@[simp] theorem Chip.setHub_flag (h : Nat) (x : Hub) (y : Nat) (g0 : Fld) : (c.setHub h x).flag y g0 = c.flag y g0 := (rfl)
@[simp] theorem Chip.setHub_lane (h : Nat) (x : Hub) (y : Nat) : (c.setHub h x).lane y = c.lane y := (rfl)

/-! ### Chip.modHub changes `hubs` only -/

@[simp] theorem Chip.modHub_cycle (h : Nat) (f : Hub → Hub) : (c.modHub h f).cycle = c.cycle := (rfl)
@[simp] theorem Chip.modHub_now (h : Nat) (f : Hub → Hub) : (c.modHub h f).now = c.now := (rfl)
@[simp] theorem Chip.modHub_regs (h : Nat) (f : Hub → Hub) : (c.modHub h f).regs = c.regs := (rfl)
@[simp] theorem Chip.modHub_staged (h : Nat) (f : Hub → Hub) : (c.modHub h f).staged = c.staged := (rfl)
@[simp] theorem Chip.modHub_latch (h : Nat) (f : Hub → Hub) : (c.modHub h f).latch = c.latch := (rfl)
@[simp] theorem Chip.modHub_lastRead (h : Nat) (f : Hub → Hub) : (c.modHub h f).lastRead = c.lastRead := (rfl)
@[simp] theorem Chip.modHub_lanes (h : Nat) (f : Hub → Hub) : (c.modHub h f).lanes = c.lanes := (rfl)
@[simp] theorem Chip.modHub_sw (h : Nat) (f : Hub → Hub) : (c.modHub h f).sw = c.sw := (rfl)
@[simp] theorem Chip.modHub_snaps (h : Nat) (f : Hub → Hub) : (c.modHub h f).snaps = c.snaps := (rfl)
@[simp] theorem Chip.modHub_cfg (h : Nat) (f : Hub → Hub) : (c.modHub h f).cfg = c.cfg := (rfl)
@[simp] theorem Chip.modHub_nq (h : Nat) (f : Hub → Hub) : (c.modHub h f).nq = c.nq := (rfl)
@[simp] theorem Chip.modHub_pmc (h : Nat) (f : Hub → Hub) : (c.modHub h f).pmc = c.pmc := (rfl)
@[simp] theorem Chip.modHub_pw (h : Nat) (f : Hub → Hub) : (c.modHub h f).pw = c.pw := (rfl)
@[simp] theorem Chip.modHub_tb (h : Nat) (f : Hub → Hub) : (c.modHub h f).tb = c.tb := (rfl)
@[simp] theorem Chip.modHub_stage (h : Nat) (f : Hub → Hub) : (c.modHub h f).stage = c.stage := (rfl)
@[simp] theorem Chip.modHub_stamps (h : Nat) (f : Hub → Hub) : (c.modHub h f).stamps = c.stamps := (rfl)
@[simp] theorem Chip.modHub_tsq (h : Nat) (f : Hub → Hub) : (c.modHub h f).tsq = c.tsq := (rfl)
@[simp] theorem Chip.modHub_tsqLost (h : Nat) (f : Hub → Hub) : (c.modHub h f).tsqLost = c.tsqLost := (rfl)
@[simp] theorem Chip.modHub_bells (h : Nat) (f : Hub → Hub) : (c.modHub h f).bells = c.bells := (rfl)
@[simp] theorem Chip.modHub_coll (h : Nat) (f : Hub → Hub) : (c.modHub h f).coll = c.coll := (rfl)
@[simp] theorem Chip.modHub_ledger (h : Nat) (f : Hub → Hub) : (c.modHub h f).ledger = c.ledger := (rfl)
@[simp] theorem Chip.modHub_ledgerNext (h : Nat) (f : Hub → Hub) : (c.modHub h f).ledgerNext = c.ledgerNext := (rfl)
@[simp] theorem Chip.modHub_integ (h : Nat) (f : Hub → Hub) : (c.modHub h f).integ = c.integ := (rfl)
@[simp] theorem Chip.modHub_optics (h : Nat) (f : Hub → Hub) : (c.modHub h f).optics = c.optics := (rfl)
@[simp] theorem Chip.modHub_clears (h : Nat) (f : Hub → Hub) : (c.modHub h f).clears = c.clears := (rfl)
@[simp] theorem Chip.modHub_real (h : Nat) (f : Hub → Hub) : (c.modHub h f).real = c.real := (rfl)
@[simp] theorem Chip.modHub_aliasA (h : Nat) (f : Hub → Hub) : (c.modHub h f).alias_ = c.alias_ := (rfl)
@[simp] theorem Chip.modHub_faultN (h : Nat) (f : Hub → Hub) : (c.modHub h f).faultN = c.faultN := (rfl)
@[simp] theorem Chip.modHub_sagN (h : Nat) (f : Hub → Hub) : (c.modHub h f).sagN = c.sagN := (rfl)
@[simp] theorem Chip.modHub_darkChip (h : Nat) (f : Hub → Hub) : (c.modHub h f).darkChip = c.darkChip := (rfl)
@[simp] theorem Chip.modHub_clock (h : Nat) (f : Hub → Hub) : (c.modHub h f).clock = c.clock := (rfl)
@[simp] theorem Chip.modHub_twin (h : Nat) (f : Hub → Hub) : (c.modHub h f).twin = c.twin := (rfl)
@[simp] theorem Chip.modHub_orders (h : Nat) (f : Hub → Hub) : (c.modHub h f).orders = c.orders := (rfl)
@[simp] theorem Chip.modHub_image (h : Nat) (f : Hub → Hub) : (c.modHub h f).image = c.image := (rfl)
@[simp] theorem Chip.modHub_loading (h : Nat) (f : Hub → Hub) : (c.modHub h f).loading = c.loading := (rfl)
@[simp] theorem Chip.modHub_bellWaits (h : Nat) (f : Hub → Hub) : (c.modHub h f).bellWaits = c.bellWaits := (rfl)
@[simp] theorem Chip.modHub_bellApply (h : Nat) (f : Hub → Hub) : (c.modHub h f).bellApply = c.bellApply := (rfl)
@[simp] theorem Chip.modHub_draws (h : Nat) (f : Hub → Hub) : (c.modHub h f).draws = c.draws := (rfl)
@[simp] theorem Chip.modHub_rd (h : Nat) (f : Hub → Hub) (y : Nat) : (c.modHub h f).rd y = c.rd y := (rfl)
@[simp] theorem Chip.modHub_get (h : Nat) (f : Hub → Hub) (y : Nat) (g0 : Fld) : (c.modHub h f).get y g0 = c.get y g0 := (rfl)
@[simp] theorem Chip.modHub_flag (h : Nat) (f : Hub → Hub) (y : Nat) (g0 : Fld) : (c.modHub h f).flag y g0 = c.flag y g0 := (rfl)
@[simp] theorem Chip.modHub_lane (h : Nat) (f : Hub → Hub) (y : Nat) : (c.modHub h f).lane y = c.lane y := (rfl)

/-! ### Chip.pmcFixed changes `pmc` only -/

@[simp] theorem Chip.pmcFixed_cycle (d k n : Nat) : (c.pmcFixed d k n).cycle = c.cycle := (rfl)
@[simp] theorem Chip.pmcFixed_now (d k n : Nat) : (c.pmcFixed d k n).now = c.now := (rfl)
@[simp] theorem Chip.pmcFixed_regs (d k n : Nat) : (c.pmcFixed d k n).regs = c.regs := (rfl)
@[simp] theorem Chip.pmcFixed_staged (d k n : Nat) : (c.pmcFixed d k n).staged = c.staged := (rfl)
@[simp] theorem Chip.pmcFixed_latch (d k n : Nat) : (c.pmcFixed d k n).latch = c.latch := (rfl)
@[simp] theorem Chip.pmcFixed_lastRead (d k n : Nat) : (c.pmcFixed d k n).lastRead = c.lastRead := (rfl)
@[simp] theorem Chip.pmcFixed_lanes (d k n : Nat) : (c.pmcFixed d k n).lanes = c.lanes := (rfl)
@[simp] theorem Chip.pmcFixed_sw (d k n : Nat) : (c.pmcFixed d k n).sw = c.sw := (rfl)
@[simp] theorem Chip.pmcFixed_snaps (d k n : Nat) : (c.pmcFixed d k n).snaps = c.snaps := (rfl)
@[simp] theorem Chip.pmcFixed_cfg (d k n : Nat) : (c.pmcFixed d k n).cfg = c.cfg := (rfl)
@[simp] theorem Chip.pmcFixed_nq (d k n : Nat) : (c.pmcFixed d k n).nq = c.nq := (rfl)
@[simp] theorem Chip.pmcFixed_hubs (d k n : Nat) : (c.pmcFixed d k n).hubs = c.hubs := (rfl)
@[simp] theorem Chip.pmcFixed_pw (d k n : Nat) : (c.pmcFixed d k n).pw = c.pw := (rfl)
@[simp] theorem Chip.pmcFixed_tb (d k n : Nat) : (c.pmcFixed d k n).tb = c.tb := (rfl)
@[simp] theorem Chip.pmcFixed_stage (d k n : Nat) : (c.pmcFixed d k n).stage = c.stage := (rfl)
@[simp] theorem Chip.pmcFixed_stamps (d k n : Nat) : (c.pmcFixed d k n).stamps = c.stamps := (rfl)
@[simp] theorem Chip.pmcFixed_tsq (d k n : Nat) : (c.pmcFixed d k n).tsq = c.tsq := (rfl)
@[simp] theorem Chip.pmcFixed_tsqLost (d k n : Nat) : (c.pmcFixed d k n).tsqLost = c.tsqLost := (rfl)
@[simp] theorem Chip.pmcFixed_bells (d k n : Nat) : (c.pmcFixed d k n).bells = c.bells := (rfl)
@[simp] theorem Chip.pmcFixed_coll (d k n : Nat) : (c.pmcFixed d k n).coll = c.coll := (rfl)
@[simp] theorem Chip.pmcFixed_ledger (d k n : Nat) : (c.pmcFixed d k n).ledger = c.ledger := (rfl)
@[simp] theorem Chip.pmcFixed_ledgerNext (d k n : Nat) : (c.pmcFixed d k n).ledgerNext = c.ledgerNext := (rfl)
@[simp] theorem Chip.pmcFixed_integ (d k n : Nat) : (c.pmcFixed d k n).integ = c.integ := (rfl)
@[simp] theorem Chip.pmcFixed_optics (d k n : Nat) : (c.pmcFixed d k n).optics = c.optics := (rfl)
@[simp] theorem Chip.pmcFixed_clears (d k n : Nat) : (c.pmcFixed d k n).clears = c.clears := (rfl)
@[simp] theorem Chip.pmcFixed_real (d k n : Nat) : (c.pmcFixed d k n).real = c.real := (rfl)
@[simp] theorem Chip.pmcFixed_aliasA (d k n : Nat) : (c.pmcFixed d k n).alias_ = c.alias_ := (rfl)
@[simp] theorem Chip.pmcFixed_faultN (d k n : Nat) : (c.pmcFixed d k n).faultN = c.faultN := (rfl)
@[simp] theorem Chip.pmcFixed_sagN (d k n : Nat) : (c.pmcFixed d k n).sagN = c.sagN := (rfl)
@[simp] theorem Chip.pmcFixed_darkChip (d k n : Nat) : (c.pmcFixed d k n).darkChip = c.darkChip := (rfl)
@[simp] theorem Chip.pmcFixed_clock (d k n : Nat) : (c.pmcFixed d k n).clock = c.clock := (rfl)
@[simp] theorem Chip.pmcFixed_twin (d k n : Nat) : (c.pmcFixed d k n).twin = c.twin := (rfl)
@[simp] theorem Chip.pmcFixed_orders (d k n : Nat) : (c.pmcFixed d k n).orders = c.orders := (rfl)
@[simp] theorem Chip.pmcFixed_image (d k n : Nat) : (c.pmcFixed d k n).image = c.image := (rfl)
@[simp] theorem Chip.pmcFixed_loading (d k n : Nat) : (c.pmcFixed d k n).loading = c.loading := (rfl)
@[simp] theorem Chip.pmcFixed_bellWaits (d k n : Nat) : (c.pmcFixed d k n).bellWaits = c.bellWaits := (rfl)
@[simp] theorem Chip.pmcFixed_bellApply (d k n : Nat) : (c.pmcFixed d k n).bellApply = c.bellApply := (rfl)
@[simp] theorem Chip.pmcFixed_draws (d k n : Nat) : (c.pmcFixed d k n).draws = c.draws := (rfl)
@[simp] theorem Chip.pmcFixed_rd (d k n : Nat) (y : Nat) : (c.pmcFixed d k n).rd y = c.rd y := (rfl)
@[simp] theorem Chip.pmcFixed_get (d k n : Nat) (y : Nat) (g0 : Fld) : (c.pmcFixed d k n).get y g0 = c.get y g0 := (rfl)
@[simp] theorem Chip.pmcFixed_flag (d k n : Nat) (y : Nat) (g0 : Fld) : (c.pmcFixed d k n).flag y g0 = c.flag y g0 := (rfl)
@[simp] theorem Chip.pmcFixed_lane (d k n : Nat) (y : Nat) : (c.pmcFixed d k n).lane y = c.lane y := (rfl)
@[simp] theorem Chip.pmcFixed_hub (d k n : Nat) (y : Nat) : (c.pmcFixed d k n).hub y = c.hub y := (rfl)

/-! ### Chip.modPw changes `pw` only -/

@[simp] theorem Chip.modPw_cycle (f : Power → Power) : (c.modPw f).cycle = c.cycle := (rfl)
@[simp] theorem Chip.modPw_now (f : Power → Power) : (c.modPw f).now = c.now := (rfl)
@[simp] theorem Chip.modPw_regs (f : Power → Power) : (c.modPw f).regs = c.regs := (rfl)
@[simp] theorem Chip.modPw_staged (f : Power → Power) : (c.modPw f).staged = c.staged := (rfl)
@[simp] theorem Chip.modPw_latch (f : Power → Power) : (c.modPw f).latch = c.latch := (rfl)
@[simp] theorem Chip.modPw_lastRead (f : Power → Power) : (c.modPw f).lastRead = c.lastRead := (rfl)
@[simp] theorem Chip.modPw_lanes (f : Power → Power) : (c.modPw f).lanes = c.lanes := (rfl)
@[simp] theorem Chip.modPw_sw (f : Power → Power) : (c.modPw f).sw = c.sw := (rfl)
@[simp] theorem Chip.modPw_snaps (f : Power → Power) : (c.modPw f).snaps = c.snaps := (rfl)
@[simp] theorem Chip.modPw_cfg (f : Power → Power) : (c.modPw f).cfg = c.cfg := (rfl)
@[simp] theorem Chip.modPw_nq (f : Power → Power) : (c.modPw f).nq = c.nq := (rfl)
@[simp] theorem Chip.modPw_pmc (f : Power → Power) : (c.modPw f).pmc = c.pmc := (rfl)
@[simp] theorem Chip.modPw_hubs (f : Power → Power) : (c.modPw f).hubs = c.hubs := (rfl)
@[simp] theorem Chip.modPw_tb (f : Power → Power) : (c.modPw f).tb = c.tb := (rfl)
@[simp] theorem Chip.modPw_stage (f : Power → Power) : (c.modPw f).stage = c.stage := (rfl)
@[simp] theorem Chip.modPw_stamps (f : Power → Power) : (c.modPw f).stamps = c.stamps := (rfl)
@[simp] theorem Chip.modPw_tsq (f : Power → Power) : (c.modPw f).tsq = c.tsq := (rfl)
@[simp] theorem Chip.modPw_tsqLost (f : Power → Power) : (c.modPw f).tsqLost = c.tsqLost := (rfl)
@[simp] theorem Chip.modPw_bells (f : Power → Power) : (c.modPw f).bells = c.bells := (rfl)
@[simp] theorem Chip.modPw_coll (f : Power → Power) : (c.modPw f).coll = c.coll := (rfl)
@[simp] theorem Chip.modPw_ledger (f : Power → Power) : (c.modPw f).ledger = c.ledger := (rfl)
@[simp] theorem Chip.modPw_ledgerNext (f : Power → Power) : (c.modPw f).ledgerNext = c.ledgerNext := (rfl)
@[simp] theorem Chip.modPw_integ (f : Power → Power) : (c.modPw f).integ = c.integ := (rfl)
@[simp] theorem Chip.modPw_optics (f : Power → Power) : (c.modPw f).optics = c.optics := (rfl)
@[simp] theorem Chip.modPw_clears (f : Power → Power) : (c.modPw f).clears = c.clears := (rfl)
@[simp] theorem Chip.modPw_real (f : Power → Power) : (c.modPw f).real = c.real := (rfl)
@[simp] theorem Chip.modPw_aliasA (f : Power → Power) : (c.modPw f).alias_ = c.alias_ := (rfl)
@[simp] theorem Chip.modPw_faultN (f : Power → Power) : (c.modPw f).faultN = c.faultN := (rfl)
@[simp] theorem Chip.modPw_sagN (f : Power → Power) : (c.modPw f).sagN = c.sagN := (rfl)
@[simp] theorem Chip.modPw_darkChip (f : Power → Power) : (c.modPw f).darkChip = c.darkChip := (rfl)
@[simp] theorem Chip.modPw_clock (f : Power → Power) : (c.modPw f).clock = c.clock := (rfl)
@[simp] theorem Chip.modPw_twin (f : Power → Power) : (c.modPw f).twin = c.twin := (rfl)
@[simp] theorem Chip.modPw_orders (f : Power → Power) : (c.modPw f).orders = c.orders := (rfl)
@[simp] theorem Chip.modPw_image (f : Power → Power) : (c.modPw f).image = c.image := (rfl)
@[simp] theorem Chip.modPw_loading (f : Power → Power) : (c.modPw f).loading = c.loading := (rfl)
@[simp] theorem Chip.modPw_bellWaits (f : Power → Power) : (c.modPw f).bellWaits = c.bellWaits := (rfl)
@[simp] theorem Chip.modPw_bellApply (f : Power → Power) : (c.modPw f).bellApply = c.bellApply := (rfl)
@[simp] theorem Chip.modPw_draws (f : Power → Power) : (c.modPw f).draws = c.draws := (rfl)
@[simp] theorem Chip.modPw_rd (f : Power → Power) (y : Nat) : (c.modPw f).rd y = c.rd y := (rfl)
@[simp] theorem Chip.modPw_get (f : Power → Power) (y : Nat) (g0 : Fld) : (c.modPw f).get y g0 = c.get y g0 := (rfl)
@[simp] theorem Chip.modPw_flag (f : Power → Power) (y : Nat) (g0 : Fld) : (c.modPw f).flag y g0 = c.flag y g0 := (rfl)
@[simp] theorem Chip.modPw_lane (f : Power → Power) (y : Nat) : (c.modPw f).lane y = c.lane y := (rfl)
@[simp] theorem Chip.modPw_hub (f : Power → Power) (y : Nat) : (c.modPw f).hub y = c.hub y := (rfl)

/-! ### Chip.modInteg changes `integ` only -/

@[simp] theorem Chip.modInteg_cycle (f : Integrity → Integrity) : (c.modInteg f).cycle = c.cycle := (rfl)
@[simp] theorem Chip.modInteg_now (f : Integrity → Integrity) : (c.modInteg f).now = c.now := (rfl)
@[simp] theorem Chip.modInteg_regs (f : Integrity → Integrity) : (c.modInteg f).regs = c.regs := (rfl)
@[simp] theorem Chip.modInteg_staged (f : Integrity → Integrity) : (c.modInteg f).staged = c.staged := (rfl)
@[simp] theorem Chip.modInteg_latch (f : Integrity → Integrity) : (c.modInteg f).latch = c.latch := (rfl)
@[simp] theorem Chip.modInteg_lastRead (f : Integrity → Integrity) : (c.modInteg f).lastRead = c.lastRead := (rfl)
@[simp] theorem Chip.modInteg_lanes (f : Integrity → Integrity) : (c.modInteg f).lanes = c.lanes := (rfl)
@[simp] theorem Chip.modInteg_sw (f : Integrity → Integrity) : (c.modInteg f).sw = c.sw := (rfl)
@[simp] theorem Chip.modInteg_snaps (f : Integrity → Integrity) : (c.modInteg f).snaps = c.snaps := (rfl)
@[simp] theorem Chip.modInteg_cfg (f : Integrity → Integrity) : (c.modInteg f).cfg = c.cfg := (rfl)
@[simp] theorem Chip.modInteg_nq (f : Integrity → Integrity) : (c.modInteg f).nq = c.nq := (rfl)
@[simp] theorem Chip.modInteg_pmc (f : Integrity → Integrity) : (c.modInteg f).pmc = c.pmc := (rfl)
@[simp] theorem Chip.modInteg_hubs (f : Integrity → Integrity) : (c.modInteg f).hubs = c.hubs := (rfl)
@[simp] theorem Chip.modInteg_pw (f : Integrity → Integrity) : (c.modInteg f).pw = c.pw := (rfl)
@[simp] theorem Chip.modInteg_tb (f : Integrity → Integrity) : (c.modInteg f).tb = c.tb := (rfl)
@[simp] theorem Chip.modInteg_stage (f : Integrity → Integrity) : (c.modInteg f).stage = c.stage := (rfl)
@[simp] theorem Chip.modInteg_stamps (f : Integrity → Integrity) : (c.modInteg f).stamps = c.stamps := (rfl)
@[simp] theorem Chip.modInteg_tsq (f : Integrity → Integrity) : (c.modInteg f).tsq = c.tsq := (rfl)
@[simp] theorem Chip.modInteg_tsqLost (f : Integrity → Integrity) : (c.modInteg f).tsqLost = c.tsqLost := (rfl)
@[simp] theorem Chip.modInteg_bells (f : Integrity → Integrity) : (c.modInteg f).bells = c.bells := (rfl)
@[simp] theorem Chip.modInteg_coll (f : Integrity → Integrity) : (c.modInteg f).coll = c.coll := (rfl)
@[simp] theorem Chip.modInteg_ledger (f : Integrity → Integrity) : (c.modInteg f).ledger = c.ledger := (rfl)
@[simp] theorem Chip.modInteg_ledgerNext (f : Integrity → Integrity) : (c.modInteg f).ledgerNext = c.ledgerNext := (rfl)
@[simp] theorem Chip.modInteg_optics (f : Integrity → Integrity) : (c.modInteg f).optics = c.optics := (rfl)
@[simp] theorem Chip.modInteg_clears (f : Integrity → Integrity) : (c.modInteg f).clears = c.clears := (rfl)
@[simp] theorem Chip.modInteg_real (f : Integrity → Integrity) : (c.modInteg f).real = c.real := (rfl)
@[simp] theorem Chip.modInteg_aliasA (f : Integrity → Integrity) : (c.modInteg f).alias_ = c.alias_ := (rfl)
@[simp] theorem Chip.modInteg_faultN (f : Integrity → Integrity) : (c.modInteg f).faultN = c.faultN := (rfl)
@[simp] theorem Chip.modInteg_sagN (f : Integrity → Integrity) : (c.modInteg f).sagN = c.sagN := (rfl)
@[simp] theorem Chip.modInteg_darkChip (f : Integrity → Integrity) : (c.modInteg f).darkChip = c.darkChip := (rfl)
@[simp] theorem Chip.modInteg_clock (f : Integrity → Integrity) : (c.modInteg f).clock = c.clock := (rfl)
@[simp] theorem Chip.modInteg_twin (f : Integrity → Integrity) : (c.modInteg f).twin = c.twin := (rfl)
@[simp] theorem Chip.modInteg_orders (f : Integrity → Integrity) : (c.modInteg f).orders = c.orders := (rfl)
@[simp] theorem Chip.modInteg_image (f : Integrity → Integrity) : (c.modInteg f).image = c.image := (rfl)
@[simp] theorem Chip.modInteg_loading (f : Integrity → Integrity) : (c.modInteg f).loading = c.loading := (rfl)
@[simp] theorem Chip.modInteg_bellWaits (f : Integrity → Integrity) : (c.modInteg f).bellWaits = c.bellWaits := (rfl)
@[simp] theorem Chip.modInteg_bellApply (f : Integrity → Integrity) : (c.modInteg f).bellApply = c.bellApply := (rfl)
@[simp] theorem Chip.modInteg_draws (f : Integrity → Integrity) : (c.modInteg f).draws = c.draws := (rfl)
@[simp] theorem Chip.modInteg_rd (f : Integrity → Integrity) (y : Nat) : (c.modInteg f).rd y = c.rd y := (rfl)
@[simp] theorem Chip.modInteg_get (f : Integrity → Integrity) (y : Nat) (g0 : Fld) : (c.modInteg f).get y g0 = c.get y g0 := (rfl)
@[simp] theorem Chip.modInteg_flag (f : Integrity → Integrity) (y : Nat) (g0 : Fld) : (c.modInteg f).flag y g0 = c.flag y g0 := (rfl)
@[simp] theorem Chip.modInteg_lane (f : Integrity → Integrity) (y : Nat) : (c.modInteg f).lane y = c.lane y := (rfl)
@[simp] theorem Chip.modInteg_hub (f : Integrity → Integrity) (y : Nat) : (c.modInteg f).hub y = c.hub y := (rfl)

/-! ### Chip.modOptics changes `optics` only -/

@[simp] theorem Chip.modOptics_cycle (f : Optics → Optics) : (c.modOptics f).cycle = c.cycle := (rfl)
@[simp] theorem Chip.modOptics_now (f : Optics → Optics) : (c.modOptics f).now = c.now := (rfl)
@[simp] theorem Chip.modOptics_regs (f : Optics → Optics) : (c.modOptics f).regs = c.regs := (rfl)
@[simp] theorem Chip.modOptics_staged (f : Optics → Optics) : (c.modOptics f).staged = c.staged := (rfl)
@[simp] theorem Chip.modOptics_latch (f : Optics → Optics) : (c.modOptics f).latch = c.latch := (rfl)
@[simp] theorem Chip.modOptics_lastRead (f : Optics → Optics) : (c.modOptics f).lastRead = c.lastRead := (rfl)
@[simp] theorem Chip.modOptics_lanes (f : Optics → Optics) : (c.modOptics f).lanes = c.lanes := (rfl)
@[simp] theorem Chip.modOptics_sw (f : Optics → Optics) : (c.modOptics f).sw = c.sw := (rfl)
@[simp] theorem Chip.modOptics_snaps (f : Optics → Optics) : (c.modOptics f).snaps = c.snaps := (rfl)
@[simp] theorem Chip.modOptics_cfg (f : Optics → Optics) : (c.modOptics f).cfg = c.cfg := (rfl)
@[simp] theorem Chip.modOptics_nq (f : Optics → Optics) : (c.modOptics f).nq = c.nq := (rfl)
@[simp] theorem Chip.modOptics_pmc (f : Optics → Optics) : (c.modOptics f).pmc = c.pmc := (rfl)
@[simp] theorem Chip.modOptics_hubs (f : Optics → Optics) : (c.modOptics f).hubs = c.hubs := (rfl)
@[simp] theorem Chip.modOptics_pw (f : Optics → Optics) : (c.modOptics f).pw = c.pw := (rfl)
@[simp] theorem Chip.modOptics_tb (f : Optics → Optics) : (c.modOptics f).tb = c.tb := (rfl)
@[simp] theorem Chip.modOptics_stage (f : Optics → Optics) : (c.modOptics f).stage = c.stage := (rfl)
@[simp] theorem Chip.modOptics_stamps (f : Optics → Optics) : (c.modOptics f).stamps = c.stamps := (rfl)
@[simp] theorem Chip.modOptics_tsq (f : Optics → Optics) : (c.modOptics f).tsq = c.tsq := (rfl)
@[simp] theorem Chip.modOptics_tsqLost (f : Optics → Optics) : (c.modOptics f).tsqLost = c.tsqLost := (rfl)
@[simp] theorem Chip.modOptics_bells (f : Optics → Optics) : (c.modOptics f).bells = c.bells := (rfl)
@[simp] theorem Chip.modOptics_coll (f : Optics → Optics) : (c.modOptics f).coll = c.coll := (rfl)
@[simp] theorem Chip.modOptics_ledger (f : Optics → Optics) : (c.modOptics f).ledger = c.ledger := (rfl)
@[simp] theorem Chip.modOptics_ledgerNext (f : Optics → Optics) : (c.modOptics f).ledgerNext = c.ledgerNext := (rfl)
@[simp] theorem Chip.modOptics_integ (f : Optics → Optics) : (c.modOptics f).integ = c.integ := (rfl)
@[simp] theorem Chip.modOptics_clears (f : Optics → Optics) : (c.modOptics f).clears = c.clears := (rfl)
@[simp] theorem Chip.modOptics_real (f : Optics → Optics) : (c.modOptics f).real = c.real := (rfl)
@[simp] theorem Chip.modOptics_aliasA (f : Optics → Optics) : (c.modOptics f).alias_ = c.alias_ := (rfl)
@[simp] theorem Chip.modOptics_faultN (f : Optics → Optics) : (c.modOptics f).faultN = c.faultN := (rfl)
@[simp] theorem Chip.modOptics_sagN (f : Optics → Optics) : (c.modOptics f).sagN = c.sagN := (rfl)
@[simp] theorem Chip.modOptics_darkChip (f : Optics → Optics) : (c.modOptics f).darkChip = c.darkChip := (rfl)
@[simp] theorem Chip.modOptics_clock (f : Optics → Optics) : (c.modOptics f).clock = c.clock := (rfl)
@[simp] theorem Chip.modOptics_twin (f : Optics → Optics) : (c.modOptics f).twin = c.twin := (rfl)
@[simp] theorem Chip.modOptics_orders (f : Optics → Optics) : (c.modOptics f).orders = c.orders := (rfl)
@[simp] theorem Chip.modOptics_image (f : Optics → Optics) : (c.modOptics f).image = c.image := (rfl)
@[simp] theorem Chip.modOptics_loading (f : Optics → Optics) : (c.modOptics f).loading = c.loading := (rfl)
@[simp] theorem Chip.modOptics_bellWaits (f : Optics → Optics) : (c.modOptics f).bellWaits = c.bellWaits := (rfl)
@[simp] theorem Chip.modOptics_bellApply (f : Optics → Optics) : (c.modOptics f).bellApply = c.bellApply := (rfl)
@[simp] theorem Chip.modOptics_draws (f : Optics → Optics) : (c.modOptics f).draws = c.draws := (rfl)
@[simp] theorem Chip.modOptics_rd (f : Optics → Optics) (y : Nat) : (c.modOptics f).rd y = c.rd y := (rfl)
@[simp] theorem Chip.modOptics_get (f : Optics → Optics) (y : Nat) (g0 : Fld) : (c.modOptics f).get y g0 = c.get y g0 := (rfl)
@[simp] theorem Chip.modOptics_flag (f : Optics → Optics) (y : Nat) (g0 : Fld) : (c.modOptics f).flag y g0 = c.flag y g0 := (rfl)
@[simp] theorem Chip.modOptics_lane (f : Optics → Optics) (y : Nat) : (c.modOptics f).lane y = c.lane y := (rfl)
@[simp] theorem Chip.modOptics_hub (f : Optics → Optics) (y : Nat) : (c.modOptics f).hub y = c.hub y := (rfl)

/-! ### Chip.modObj changes `coll` only -/

@[simp] theorem Chip.modObj_cycle (n : Nat) (f : SyncObj → SyncObj) : (c.modObj n f).cycle = c.cycle := (rfl)
@[simp] theorem Chip.modObj_now (n : Nat) (f : SyncObj → SyncObj) : (c.modObj n f).now = c.now := (rfl)
@[simp] theorem Chip.modObj_regs (n : Nat) (f : SyncObj → SyncObj) : (c.modObj n f).regs = c.regs := (rfl)
@[simp] theorem Chip.modObj_staged (n : Nat) (f : SyncObj → SyncObj) : (c.modObj n f).staged = c.staged := (rfl)
@[simp] theorem Chip.modObj_latch (n : Nat) (f : SyncObj → SyncObj) : (c.modObj n f).latch = c.latch := (rfl)
@[simp] theorem Chip.modObj_lastRead (n : Nat) (f : SyncObj → SyncObj) : (c.modObj n f).lastRead = c.lastRead := (rfl)
@[simp] theorem Chip.modObj_lanes (n : Nat) (f : SyncObj → SyncObj) : (c.modObj n f).lanes = c.lanes := (rfl)
@[simp] theorem Chip.modObj_sw (n : Nat) (f : SyncObj → SyncObj) : (c.modObj n f).sw = c.sw := (rfl)
@[simp] theorem Chip.modObj_snaps (n : Nat) (f : SyncObj → SyncObj) : (c.modObj n f).snaps = c.snaps := (rfl)
@[simp] theorem Chip.modObj_cfg (n : Nat) (f : SyncObj → SyncObj) : (c.modObj n f).cfg = c.cfg := (rfl)
@[simp] theorem Chip.modObj_nq (n : Nat) (f : SyncObj → SyncObj) : (c.modObj n f).nq = c.nq := (rfl)
@[simp] theorem Chip.modObj_pmc (n : Nat) (f : SyncObj → SyncObj) : (c.modObj n f).pmc = c.pmc := (rfl)
@[simp] theorem Chip.modObj_hubs (n : Nat) (f : SyncObj → SyncObj) : (c.modObj n f).hubs = c.hubs := (rfl)
@[simp] theorem Chip.modObj_pw (n : Nat) (f : SyncObj → SyncObj) : (c.modObj n f).pw = c.pw := (rfl)
@[simp] theorem Chip.modObj_tb (n : Nat) (f : SyncObj → SyncObj) : (c.modObj n f).tb = c.tb := (rfl)
@[simp] theorem Chip.modObj_stage (n : Nat) (f : SyncObj → SyncObj) : (c.modObj n f).stage = c.stage := (rfl)
@[simp] theorem Chip.modObj_stamps (n : Nat) (f : SyncObj → SyncObj) : (c.modObj n f).stamps = c.stamps := (rfl)
@[simp] theorem Chip.modObj_tsq (n : Nat) (f : SyncObj → SyncObj) : (c.modObj n f).tsq = c.tsq := (rfl)
@[simp] theorem Chip.modObj_tsqLost (n : Nat) (f : SyncObj → SyncObj) : (c.modObj n f).tsqLost = c.tsqLost := (rfl)
@[simp] theorem Chip.modObj_bells (n : Nat) (f : SyncObj → SyncObj) : (c.modObj n f).bells = c.bells := (rfl)
@[simp] theorem Chip.modObj_ledger (n : Nat) (f : SyncObj → SyncObj) : (c.modObj n f).ledger = c.ledger := (rfl)
@[simp] theorem Chip.modObj_ledgerNext (n : Nat) (f : SyncObj → SyncObj) : (c.modObj n f).ledgerNext = c.ledgerNext := (rfl)
@[simp] theorem Chip.modObj_integ (n : Nat) (f : SyncObj → SyncObj) : (c.modObj n f).integ = c.integ := (rfl)
@[simp] theorem Chip.modObj_optics (n : Nat) (f : SyncObj → SyncObj) : (c.modObj n f).optics = c.optics := (rfl)
@[simp] theorem Chip.modObj_clears (n : Nat) (f : SyncObj → SyncObj) : (c.modObj n f).clears = c.clears := (rfl)
@[simp] theorem Chip.modObj_real (n : Nat) (f : SyncObj → SyncObj) : (c.modObj n f).real = c.real := (rfl)
@[simp] theorem Chip.modObj_aliasA (n : Nat) (f : SyncObj → SyncObj) : (c.modObj n f).alias_ = c.alias_ := (rfl)
@[simp] theorem Chip.modObj_faultN (n : Nat) (f : SyncObj → SyncObj) : (c.modObj n f).faultN = c.faultN := (rfl)
@[simp] theorem Chip.modObj_sagN (n : Nat) (f : SyncObj → SyncObj) : (c.modObj n f).sagN = c.sagN := (rfl)
@[simp] theorem Chip.modObj_darkChip (n : Nat) (f : SyncObj → SyncObj) : (c.modObj n f).darkChip = c.darkChip := (rfl)
@[simp] theorem Chip.modObj_clock (n : Nat) (f : SyncObj → SyncObj) : (c.modObj n f).clock = c.clock := (rfl)
@[simp] theorem Chip.modObj_twin (n : Nat) (f : SyncObj → SyncObj) : (c.modObj n f).twin = c.twin := (rfl)
@[simp] theorem Chip.modObj_orders (n : Nat) (f : SyncObj → SyncObj) : (c.modObj n f).orders = c.orders := (rfl)
@[simp] theorem Chip.modObj_image (n : Nat) (f : SyncObj → SyncObj) : (c.modObj n f).image = c.image := (rfl)
@[simp] theorem Chip.modObj_loading (n : Nat) (f : SyncObj → SyncObj) : (c.modObj n f).loading = c.loading := (rfl)
@[simp] theorem Chip.modObj_bellWaits (n : Nat) (f : SyncObj → SyncObj) : (c.modObj n f).bellWaits = c.bellWaits := (rfl)
@[simp] theorem Chip.modObj_bellApply (n : Nat) (f : SyncObj → SyncObj) : (c.modObj n f).bellApply = c.bellApply := (rfl)
@[simp] theorem Chip.modObj_draws (n : Nat) (f : SyncObj → SyncObj) : (c.modObj n f).draws = c.draws := (rfl)
@[simp] theorem Chip.modObj_rd (n : Nat) (f : SyncObj → SyncObj) (y : Nat) : (c.modObj n f).rd y = c.rd y := (rfl)
@[simp] theorem Chip.modObj_get (n : Nat) (f : SyncObj → SyncObj) (y : Nat) (g0 : Fld) : (c.modObj n f).get y g0 = c.get y g0 := (rfl)
@[simp] theorem Chip.modObj_flag (n : Nat) (f : SyncObj → SyncObj) (y : Nat) (g0 : Fld) : (c.modObj n f).flag y g0 = c.flag y g0 := (rfl)
@[simp] theorem Chip.modObj_lane (n : Nat) (f : SyncObj → SyncObj) (y : Nat) : (c.modObj n f).lane y = c.lane y := (rfl)
@[simp] theorem Chip.modObj_hub (n : Nat) (f : SyncObj → SyncObj) (y : Nat) : (c.modObj n f).hub y = c.hub y := (rfl)

/-! ### Chip.modTwin changes `twin` only -/

@[simp] theorem Chip.modTwin_cycle (f : Twin → Twin) : (c.modTwin f).cycle = c.cycle := (rfl)
@[simp] theorem Chip.modTwin_now (f : Twin → Twin) : (c.modTwin f).now = c.now := (rfl)
@[simp] theorem Chip.modTwin_regs (f : Twin → Twin) : (c.modTwin f).regs = c.regs := (rfl)
@[simp] theorem Chip.modTwin_staged (f : Twin → Twin) : (c.modTwin f).staged = c.staged := (rfl)
@[simp] theorem Chip.modTwin_latch (f : Twin → Twin) : (c.modTwin f).latch = c.latch := (rfl)
@[simp] theorem Chip.modTwin_lastRead (f : Twin → Twin) : (c.modTwin f).lastRead = c.lastRead := (rfl)
@[simp] theorem Chip.modTwin_lanes (f : Twin → Twin) : (c.modTwin f).lanes = c.lanes := (rfl)
@[simp] theorem Chip.modTwin_sw (f : Twin → Twin) : (c.modTwin f).sw = c.sw := (rfl)
@[simp] theorem Chip.modTwin_snaps (f : Twin → Twin) : (c.modTwin f).snaps = c.snaps := (rfl)
@[simp] theorem Chip.modTwin_cfg (f : Twin → Twin) : (c.modTwin f).cfg = c.cfg := (rfl)
@[simp] theorem Chip.modTwin_nq (f : Twin → Twin) : (c.modTwin f).nq = c.nq := (rfl)
@[simp] theorem Chip.modTwin_pmc (f : Twin → Twin) : (c.modTwin f).pmc = c.pmc := (rfl)
@[simp] theorem Chip.modTwin_hubs (f : Twin → Twin) : (c.modTwin f).hubs = c.hubs := (rfl)
@[simp] theorem Chip.modTwin_pw (f : Twin → Twin) : (c.modTwin f).pw = c.pw := (rfl)
@[simp] theorem Chip.modTwin_tb (f : Twin → Twin) : (c.modTwin f).tb = c.tb := (rfl)
@[simp] theorem Chip.modTwin_stage (f : Twin → Twin) : (c.modTwin f).stage = c.stage := (rfl)
@[simp] theorem Chip.modTwin_stamps (f : Twin → Twin) : (c.modTwin f).stamps = c.stamps := (rfl)
@[simp] theorem Chip.modTwin_tsq (f : Twin → Twin) : (c.modTwin f).tsq = c.tsq := (rfl)
@[simp] theorem Chip.modTwin_tsqLost (f : Twin → Twin) : (c.modTwin f).tsqLost = c.tsqLost := (rfl)
@[simp] theorem Chip.modTwin_bells (f : Twin → Twin) : (c.modTwin f).bells = c.bells := (rfl)
@[simp] theorem Chip.modTwin_coll (f : Twin → Twin) : (c.modTwin f).coll = c.coll := (rfl)
@[simp] theorem Chip.modTwin_ledger (f : Twin → Twin) : (c.modTwin f).ledger = c.ledger := (rfl)
@[simp] theorem Chip.modTwin_ledgerNext (f : Twin → Twin) : (c.modTwin f).ledgerNext = c.ledgerNext := (rfl)
@[simp] theorem Chip.modTwin_integ (f : Twin → Twin) : (c.modTwin f).integ = c.integ := (rfl)
@[simp] theorem Chip.modTwin_optics (f : Twin → Twin) : (c.modTwin f).optics = c.optics := (rfl)
@[simp] theorem Chip.modTwin_clears (f : Twin → Twin) : (c.modTwin f).clears = c.clears := (rfl)
@[simp] theorem Chip.modTwin_real (f : Twin → Twin) : (c.modTwin f).real = c.real := (rfl)
@[simp] theorem Chip.modTwin_aliasA (f : Twin → Twin) : (c.modTwin f).alias_ = c.alias_ := (rfl)
@[simp] theorem Chip.modTwin_faultN (f : Twin → Twin) : (c.modTwin f).faultN = c.faultN := (rfl)
@[simp] theorem Chip.modTwin_sagN (f : Twin → Twin) : (c.modTwin f).sagN = c.sagN := (rfl)
@[simp] theorem Chip.modTwin_darkChip (f : Twin → Twin) : (c.modTwin f).darkChip = c.darkChip := (rfl)
@[simp] theorem Chip.modTwin_clock (f : Twin → Twin) : (c.modTwin f).clock = c.clock := (rfl)
@[simp] theorem Chip.modTwin_orders (f : Twin → Twin) : (c.modTwin f).orders = c.orders := (rfl)
@[simp] theorem Chip.modTwin_image (f : Twin → Twin) : (c.modTwin f).image = c.image := (rfl)
@[simp] theorem Chip.modTwin_loading (f : Twin → Twin) : (c.modTwin f).loading = c.loading := (rfl)
@[simp] theorem Chip.modTwin_bellWaits (f : Twin → Twin) : (c.modTwin f).bellWaits = c.bellWaits := (rfl)
@[simp] theorem Chip.modTwin_bellApply (f : Twin → Twin) : (c.modTwin f).bellApply = c.bellApply := (rfl)
@[simp] theorem Chip.modTwin_draws (f : Twin → Twin) : (c.modTwin f).draws = c.draws := (rfl)
@[simp] theorem Chip.modTwin_rd (f : Twin → Twin) (y : Nat) : (c.modTwin f).rd y = c.rd y := (rfl)
@[simp] theorem Chip.modTwin_get (f : Twin → Twin) (y : Nat) (g0 : Fld) : (c.modTwin f).get y g0 = c.get y g0 := (rfl)
@[simp] theorem Chip.modTwin_flag (f : Twin → Twin) (y : Nat) (g0 : Fld) : (c.modTwin f).flag y g0 = c.flag y g0 := (rfl)
@[simp] theorem Chip.modTwin_lane (f : Twin → Twin) (y : Nat) : (c.modTwin f).lane y = c.lane y := (rfl)
@[simp] theorem Chip.modTwin_hub (f : Twin → Twin) (y : Nat) : (c.modTwin f).hub y = c.hub y := (rfl)

/-! ### Readers of what an update changes -/

@[simp] theorem Chip.lane_setLane_same (l : Nat) (x : Lane) : (c.setLane l x).lane l = x := by
  simp [Chip.lane, Chip.setLane]

theorem Chip.lane_setLane_other {l y : Nat} (x : Lane) (h : y ≠ l) : (c.setLane l x).lane y = c.lane y := by
  simp [Chip.lane, Chip.setLane, SMap.get_set, h]

@[simp] theorem Chip.lane_modLane_same (l : Nat) (f : Lane → Lane) : (c.modLane l f).lane l = f (c.lane l) := by
  simp [Chip.modLane]

theorem Chip.lane_modLane_other {l y : Nat} (f : Lane → Lane) (h : y ≠ l) : (c.modLane l f).lane y = c.lane y :=
  Chip.lane_setLane_other c _ h

@[simp] theorem Chip.hub_setHub_same (h : Nat) (x : Hub) : (c.setHub h x).hub h = x := by
  simp [Chip.hub, Chip.setHub]

theorem Chip.hub_setHub_other {h y : Nat} (x : Hub) (n : y ≠ h) : (c.setHub h x).hub y = c.hub y := by
  simp [Chip.hub, Chip.setHub, SMap.get_set, n]

@[simp] theorem Chip.hub_modHub_same (h : Nat) (f : Hub → Hub) : (c.modHub h f).hub h = f (c.hub h) := by
  simp [Chip.modHub]

theorem Chip.hub_modHub_other {h y : Nat} (f : Hub → Hub) (n : y ≠ h) : (c.modHub h f).hub y = c.hub y :=
  Chip.hub_setHub_other c _ n

@[simp] theorem Chip.modSw_sw (f : Switch → Switch) : (c.modSw f).sw = f c.sw := (rfl)
@[simp] theorem Chip.modPw_pw (f : Power → Power) : (c.modPw f).pw = f c.pw := (rfl)
@[simp] theorem Chip.modInteg_integ (f : Integrity → Integrity) : (c.modInteg f).integ = f c.integ := (rfl)
@[simp] theorem Chip.modOptics_optics (f : Optics → Optics) : (c.modOptics f).optics = f c.optics := (rfl)
@[simp] theorem Chip.modTwin_twin (f : Twin → Twin) : (c.modTwin f).twin = f c.twin := (rfl)

@[simp] theorem Chip.obj_setObj_same (n : Nat) (o : SyncObj) : (c.setObj n o).obj n = o := by
  simp [Chip.obj, Chip.setObj]

@[simp] theorem Chip.snap_setSnap_same (d g : Nat) (x : Option Snapshot) : (c.setSnap d g x).snap d g = x := by
  simp [Chip.snap, Chip.setSnap]

/-! ### Notices -/

/-- A notice turned away changes the lost counter and the overflow bit of its die, nothing else. -/
theorem Chip.nqTurnAway_eq (d q : Nat) (full : Bool) : ∃ r, c.nqTurnAway d q full = { c with regs := r } ∧
    ∀ a, a ≠ R.FLT_NQ_LOST d → a ≠ R.FLT_NQ_STATUS d → SMap.get regReset r a = c.rd a := by
  have one (x : Chip) (a : Nat) (f : Fld) (n : Nat) : ∃ r, x.incSat a f n = { x with regs := r } ∧
      ∀ b, b ≠ a → SMap.get regReset r b = x.rd b := ⟨_, rfl, fun b h => Chip.rd_set_other x f _ h⟩
  have two (x : Chip) (a : Nat) (f : Fld) (n : Nat) : ∃ r, x.set a f n = { x with regs := r } ∧
      ∀ b, b ≠ a → SMap.get regReset r b = x.rd b := ⟨_, rfl, fun b h => Chip.rd_set_other x f _ h⟩
  simp only [Chip.nqTurnAway]
  obtain ⟨r1, h1, a1⟩ := one c (R.FLT_NQ_LOST d) (nqLost q) 1
  rw [h1]
  split
  · obtain ⟨r2, h2, a2⟩ := two { c with regs := r1 } (R.FLT_NQ_STATUS d) (nqOvf q) 1
    exact ⟨r2, h2, fun a x1 x2 => (a2 a x2).trans (a1 a x1)⟩
  · exact ⟨r1, rfl, fun a x1 _ => a1 a x1⟩

theorem Chip.nqStage_eq (d q : Nat) (e : BitVec 128) : ∃ r n, c.nqStage d q e = { c with regs := r, nq := n } ∧
    ∀ a, a ≠ R.FLT_NQ_LOST d → a ≠ R.FLT_NQ_STATUS d → SMap.get regReset r a = c.rd a := by
  simp only [Chip.nqStage]
  split
  · obtain ⟨r, h, ha⟩ := Chip.nqTurnAway_eq c d q true
    exact ⟨r, c.nq, h, ha⟩
  · exact ⟨c.regs, _, rfl, fun _ _ _ => rfl⟩

/-- A notice posted on die d changes its notice queues, its lost counter and its overflow bits, nothing else. -/
theorem Chip.post_eq (d ty sev die level block tile detail : Nat) :
    ∃ r n, c.post d ty sev die level block tile detail = { c with regs := r, nq := n } ∧
      ∀ a, a ≠ R.FLT_NQ_LOST d → a ≠ R.FLT_NQ_STATUS d → SMap.get regReset r a = c.rd a := by
  have two (x : Chip) (p q : Bool) (e : BitVec 128) : ∃ r n,
      (let c1 := if p then x.nqStage d 0 e else x; if q then c1.nqStage d 1 e else c1) = { x with regs := r, nq := n } ∧
      ∀ a, a ≠ R.FLT_NQ_LOST d → a ≠ R.FLT_NQ_STATUS d → SMap.get regReset r a = x.rd a := by
    obtain ⟨r1, n1, h1, ha1⟩ := Chip.nqStage_eq x d 0 e
    obtain ⟨r3, n3, h3, ha3⟩ := Chip.nqStage_eq x d 1 e
    obtain ⟨r2, n2, h2, ha2⟩ := Chip.nqStage_eq { x with regs := r1, nq := n1 } d 1 e
    cases p <;> cases q
    · exact ⟨x.regs, x.nq, rfl, fun _ _ _ => rfl⟩
    · exact ⟨r3, n3, h3, ha3⟩
    · exact ⟨r1, n1, h1, ha1⟩
    · refine ⟨r2, n2, ?_, fun a x1 x2 => (ha2 a x1 x2).trans (ha1 a x1 x2)⟩
      simp only [if_true, h1, h2]
  simp only [Chip.post]
  split
  · exact ⟨c.regs, c.nq, rfl, fun _ _ _ => rfl⟩
  · obtain ⟨r, n, h, ha⟩ := two c (decide (c.route d ty sev % 2 = 1)) (decide (2 ≤ c.route d ty sev))
      (mkNotice ty sev die level block tile c.now detail)
    exact ⟨r, n, by simpa using h, ha⟩

/-! ### What settling leaves alone -/

@[simp] theorem State.after_pending (s : State) (v : Chip) : (s.after v).pending = s.pending := State.withChip_pending s _

@[simp] theorem State.after_chip (s : State) (v : Chip) : (s.after v).chip = s.settled v := State.withChip_chip s _

theorem State.after_eq (s : State) (f : Chip → Chip) : s.run f = .next (s.after (f s.chip)) := rfl

theorem State.settled_cycle (s : State) (v : Chip) (h : v.integ.due = []) : (s.settled v).cycle = v.cycle := by
  obtain ⟨_, _, _, e⟩ := State.settled_eq s v h; rw [e]
theorem State.settled_now (s : State) (v : Chip) (h : v.integ.due = []) : (s.settled v).now = v.now := by
  obtain ⟨_, _, _, e⟩ := State.settled_eq s v h; rw [e]
theorem State.settled_regs (s : State) (v : Chip) (h : v.integ.due = []) : (s.settled v).regs = v.regs := by
  obtain ⟨_, _, _, e⟩ := State.settled_eq s v h; rw [e]
theorem State.settled_staged (s : State) (v : Chip) (h : v.integ.due = []) : (s.settled v).staged = v.staged := by
  obtain ⟨_, _, _, e⟩ := State.settled_eq s v h; rw [e]
theorem State.settled_latch (s : State) (v : Chip) (h : v.integ.due = []) : (s.settled v).latch = v.latch := by
  obtain ⟨_, _, _, e⟩ := State.settled_eq s v h; rw [e]
theorem State.settled_lastRead (s : State) (v : Chip) (h : v.integ.due = []) : (s.settled v).lastRead = v.lastRead := by
  obtain ⟨_, _, _, e⟩ := State.settled_eq s v h; rw [e]
theorem State.settled_sw (s : State) (v : Chip) (h : v.integ.due = []) : (s.settled v).sw = v.sw := by
  obtain ⟨_, _, _, e⟩ := State.settled_eq s v h; rw [e]
theorem State.settled_snaps (s : State) (v : Chip) (h : v.integ.due = []) : (s.settled v).snaps = v.snaps := by
  obtain ⟨_, _, _, e⟩ := State.settled_eq s v h; rw [e]
theorem State.settled_cfg (s : State) (v : Chip) (h : v.integ.due = []) : (s.settled v).cfg = v.cfg := by
  obtain ⟨_, _, _, e⟩ := State.settled_eq s v h; rw [e]
theorem State.settled_nq (s : State) (v : Chip) (h : v.integ.due = []) : (s.settled v).nq = v.nq := by
  obtain ⟨_, _, _, e⟩ := State.settled_eq s v h; rw [e]
theorem State.settled_pmc (s : State) (v : Chip) (h : v.integ.due = []) : (s.settled v).pmc = v.pmc := by
  obtain ⟨_, _, _, e⟩ := State.settled_eq s v h; rw [e]
theorem State.settled_hubs (s : State) (v : Chip) (h : v.integ.due = []) : (s.settled v).hubs = v.hubs := by
  obtain ⟨_, _, _, e⟩ := State.settled_eq s v h; rw [e]
theorem State.settled_pw (s : State) (v : Chip) (h : v.integ.due = []) : (s.settled v).pw = v.pw := by
  obtain ⟨_, _, _, e⟩ := State.settled_eq s v h; rw [e]
theorem State.settled_tb (s : State) (v : Chip) (h : v.integ.due = []) : (s.settled v).tb = v.tb := by
  obtain ⟨_, _, _, e⟩ := State.settled_eq s v h; rw [e]
theorem State.settled_stage (s : State) (v : Chip) (h : v.integ.due = []) : (s.settled v).stage = v.stage := by
  obtain ⟨_, _, _, e⟩ := State.settled_eq s v h; rw [e]
theorem State.settled_stamps (s : State) (v : Chip) (h : v.integ.due = []) : (s.settled v).stamps = v.stamps := by
  obtain ⟨_, _, _, e⟩ := State.settled_eq s v h; rw [e]
theorem State.settled_tsq (s : State) (v : Chip) (h : v.integ.due = []) : (s.settled v).tsq = v.tsq := by
  obtain ⟨_, _, _, e⟩ := State.settled_eq s v h; rw [e]
theorem State.settled_tsqLost (s : State) (v : Chip) (h : v.integ.due = []) : (s.settled v).tsqLost = v.tsqLost := by
  obtain ⟨_, _, _, e⟩ := State.settled_eq s v h; rw [e]
theorem State.settled_bells (s : State) (v : Chip) (h : v.integ.due = []) : (s.settled v).bells = v.bells := by
  obtain ⟨_, _, _, e⟩ := State.settled_eq s v h; rw [e]
theorem State.settled_coll (s : State) (v : Chip) (h : v.integ.due = []) : (s.settled v).coll = v.coll := by
  obtain ⟨_, _, _, e⟩ := State.settled_eq s v h; rw [e]
theorem State.settled_ledger (s : State) (v : Chip) (h : v.integ.due = []) : (s.settled v).ledger = v.ledger := by
  obtain ⟨_, _, _, e⟩ := State.settled_eq s v h; rw [e]
theorem State.settled_ledgerNext (s : State) (v : Chip) (h : v.integ.due = []) : (s.settled v).ledgerNext = v.ledgerNext := by
  obtain ⟨_, _, _, e⟩ := State.settled_eq s v h; rw [e]
theorem State.settled_integ (s : State) (v : Chip) (h : v.integ.due = []) : (s.settled v).integ = v.integ := by
  obtain ⟨_, _, _, e⟩ := State.settled_eq s v h; rw [e]
theorem State.settled_optics (s : State) (v : Chip) (h : v.integ.due = []) : (s.settled v).optics = v.optics := by
  obtain ⟨_, _, _, e⟩ := State.settled_eq s v h; rw [e]
theorem State.settled_clears (s : State) (v : Chip) (h : v.integ.due = []) : (s.settled v).clears = v.clears := by
  obtain ⟨_, _, _, e⟩ := State.settled_eq s v h; rw [e]
theorem State.settled_real (s : State) (v : Chip) (h : v.integ.due = []) : (s.settled v).real = v.real := by
  obtain ⟨_, _, _, e⟩ := State.settled_eq s v h; rw [e]
theorem State.settled_aliasA (s : State) (v : Chip) (h : v.integ.due = []) : (s.settled v).alias_ = v.alias_ := by
  obtain ⟨_, _, _, e⟩ := State.settled_eq s v h; rw [e]
theorem State.settled_faultN (s : State) (v : Chip) (h : v.integ.due = []) : (s.settled v).faultN = v.faultN := by
  obtain ⟨_, _, _, e⟩ := State.settled_eq s v h; rw [e]
theorem State.settled_sagN (s : State) (v : Chip) (h : v.integ.due = []) : (s.settled v).sagN = v.sagN := by
  obtain ⟨_, _, _, e⟩ := State.settled_eq s v h; rw [e]
theorem State.settled_darkChip (s : State) (v : Chip) (h : v.integ.due = []) : (s.settled v).darkChip = v.darkChip := by
  obtain ⟨_, _, _, e⟩ := State.settled_eq s v h; rw [e]
theorem State.settled_clock (s : State) (v : Chip) (h : v.integ.due = []) : (s.settled v).clock = v.clock := by
  obtain ⟨_, _, _, e⟩ := State.settled_eq s v h; rw [e]
theorem State.settled_orders (s : State) (v : Chip) (h : v.integ.due = []) : (s.settled v).orders = v.orders := by
  obtain ⟨_, _, _, e⟩ := State.settled_eq s v h; rw [e]
theorem State.settled_image (s : State) (v : Chip) (h : v.integ.due = []) : (s.settled v).image = v.image := by
  obtain ⟨_, _, _, e⟩ := State.settled_eq s v h; rw [e]
theorem State.settled_loading (s : State) (v : Chip) (h : v.integ.due = []) : (s.settled v).loading = v.loading := by
  obtain ⟨_, _, _, e⟩ := State.settled_eq s v h; rw [e]
theorem State.settled_bellWaits (s : State) (v : Chip) (h : v.integ.due = []) : (s.settled v).bellWaits = v.bellWaits := by
  obtain ⟨_, _, _, e⟩ := State.settled_eq s v h; rw [e]
theorem State.settled_bellApply (s : State) (v : Chip) (h : v.integ.due = []) : (s.settled v).bellApply = v.bellApply := by
  obtain ⟨_, _, _, e⟩ := State.settled_eq s v h; rw [e]
theorem State.settled_rd (s : State) (v : Chip) (h : v.integ.due = []) (a : Nat) : (s.settled v).rd a = v.rd a := by
  simp only [Chip.rd, State.settled_regs s v h]
theorem State.settled_get (s : State) (v : Chip) (h : v.integ.due = []) (a : Nat) (f : Fld) : (s.settled v).get a f = v.get a f := by
  simp only [Chip.get, State.settled_rd s v h]
theorem State.settled_flag (s : State) (v : Chip) (h : v.integ.due = []) (a : Nat) (f : Fld) : (s.settled v).flag a f = v.flag a f := by
  simp only [Chip.flag, State.settled_get s v h]
theorem State.settled_hub (s : State) (v : Chip) (h : v.integ.due = []) (i : Nat) : (s.settled v).hub i = v.hub i := by
  simp only [Chip.hub, State.settled_hubs s v h]

theorem State.calm_due (s : State) (h : s.calm = true) : s.chip.integ.due = [] := by
  simpa [State.calm] using h

end Sys2Proof.Machine
end

