-- ==== Sys2Proof/Laws/Arms.lean ====
section
/-!
SUPPORT. What each command answers, said once: the state after the operation its chapter gives it (and the hub bytes it stores).
-/

namespace Sys2Proof.Machine

open Sys2Proof

theorem exec_registerWrite (v : Via) (a : BitVec 32) (w : Word) (st : State) :
    exec (.registerWrite v a w) st = .next (st.after (st.chip.registerWrite v a.toNat w)) :=
  (show exec (.registerWrite v a w) st = execRegisterWrite v a w st from rfl).trans rfl

theorem exec_latchedRead (v : Via) (a : BitVec 32) (st : State) :
    exec (.latchedRead v a) st = .next (st.after (st.chip.latchedRead v a.toNat)) :=
  (show exec (.latchedRead v a) st = execLatchedRead v a st from rfl).trans rfl

theorem exec_hubHeartbeatSend (h : Fin 2) (st : State) :
    exec (.hubHeartbeatSend h) st = .next (st.after (st.chip.heartbeat h)) :=
  (show exec (.hubHeartbeatSend h) st = execHubHeartbeatSend h st from rfl).trans rfl

theorem exec_hubTakeover (st : State) :
    exec .hubTakeover st = .next (st.after (st.chip.hubTakeover)) :=
  (show exec .hubTakeover st = execHubTakeover st from rfl).trans rfl

theorem exec_heartbeatPathLost (path : Fin 2) (st : State) :
    exec (.heartbeatPathLost path) st = .next (st.after (st.chip.pathLost path)) :=
  (show exec (.heartbeatPathLost path) st = execHeartbeatPathLost path st from rfl).trans rfl

theorem exec_blockFirebreakDrainTimeout (d : Fin 32) (b : Fin 8) (st : State) :
    exec (.blockFirebreakDrainTimeout d b) st = .next (st.after (st.chip.fbDrainTimeout d b)) :=
  (show exec (.blockFirebreakDrainTimeout d b) st = execBlockFirebreakDrainTimeout d b st from rfl).trans rfl

theorem exec_noticeEntry (d : Fin 40) (q : Fin 2) (st : State) :
    exec (.noticeEntry d q) st = .next (st.after (st.chip.noticeEntry d q)) :=
  (show exec (.noticeEntry d q) st = execNoticeEntry d q st from rfl).trans rfl

theorem exec_nqTailWrite (d : Fin 40) (q : Fin 2) (tail : Fin 2048) (st : State) :
    exec (.nqTailWrite d q tail) st = .next (st.after (st.chip.nqTailWrite d q tail)) :=
  (show exec (.nqTailWrite d q tail) st = execNqTailWrite d q tail st from rfl).trans rfl

theorem exec_csStagingWrite (v : Via) (a : BitVec 32) (w : Word) (st : State) :
    exec (.csStagingWrite v a w) st = .next (st.after (st.chip.writeVia v (fun s => if isCs a.toNat then s.stagingWrite a.toNat w else s))) :=
  (show exec (.csStagingWrite v a w) st = execCsStagingWrite v a w st from rfl).trans rfl

theorem exec_commitApply (v : Via) (d : Fin 40) (g : Fin 384) (st : State) :
    exec (.commitApply v d g) st = .next (st.after (st.chip.writeVia v (fun s => s.commitApply d g v.isCtl))) :=
  (show exec (.commitApply v d g) st = execCommitApply v d g st from rfl).trans rfl

theorem exec_commitDiscard (v : Via) (d : Fin 40) (g : Fin 384) (st : State) :
    exec (.commitDiscard v d g) st = .next (st.after (st.chip.writeVia v (fun s => s.commitDiscard d g))) :=
  (show exec (.commitDiscard v d g) st = execCommitDiscard v d g st from rfl).trans rfl

theorem exec_commitChecksDone (d : Fin 40) (g : Fin 384) (st : State) :
    exec (.commitChecksDone d g) st = .next (st.after ((st.chip.checksDone d g).orderAdvance)) :=
  (show exec (.commitChecksDone d g) st = execCommitChecksDone d g st from rfl).trans rfl

theorem exec_snapshotApply (d : Fin 40) (g : Fin 384) (st : State) :
    exec (.snapshotApply d g) st = .next (st.after ((st.chip.snapshotApply d g).orderAdvance)) :=
  (show exec (.snapshotApply d g) st = execSnapshotApply d g st from rfl).trans rfl

theorem exec_bootImageLoad (st : State) :
    exec .bootImageLoad st = .next (st.after (st.chip.bootImageLoad)) :=
  (show exec .bootImageLoad st = execBootImageLoad st from rfl).trans rfl

theorem exec_partialLoadSwitch (d : Fin 40) (st : State) :
    exec (.partialLoadSwitch d) st = .next (st.after (st.chip.partialLoadSwitch d)) :=
  (show exec (.partialLoadSwitch d) st = execPartialLoadSwitch d st from rfl).trans rfl

theorem exec_blockReadmit (d : Fin 40) (b : Fin 8) (st : State) :
    exec (.blockReadmit d b) st = .next (st.after (st.chip.blockReadmit d b)) :=
  (show exec (.blockReadmit d b) st = execBlockReadmit d b st from rfl).trans rfl

theorem exec_staleReloadDone (d : Fin 40) (b : Fin 8) (st : State) :
    exec (.staleReloadDone d b) st = .next (st.after (st.chip.staleReloadDone d b)) :=
  (show exec (.staleReloadDone d b) st = execStaleReloadDone d b st from rfl).trans rfl

theorem exec_fecBlockReceive (l : Fin 2048) (no : Fin 65536) (ok : Bool) (corrected : Nat) (tag : Fin 256) (slots : List (Option Cell)) (st : State) (hw : (slots.length == 32) = true) :
    exec (.fecBlockReceive l no ok corrected tag slots) st = .next (st.after (st.chip.fecBlock l no ok corrected tag slots)) :=
  (show exec (.fecBlockReceive l no ok corrected tag slots) st = execFecBlockReceive l no ok corrected tag slots st from rfl).trans (if_pos hw)

theorem exec_cellIngress (l : Fin 2048) (x : Cell) (ecc : Bool) (st : State) :
    exec (.cellIngress l x ecc) st = .next (st.after (st.chip.cellIngress l x ecc)) :=
  (show exec (.cellIngress l x ecc) st = execCellIngress l x ecc st from rfl).trans rfl

theorem exec_fecWindowEnd (d : Fin 32) (st : State) :
    exec (.fecWindowEnd d) st = .next (st.after (st.chip.fecWindowEnd d)) :=
  (show exec (.fecWindowEnd d) st = execFecWindowEnd d st from rfl).trans rfl

theorem exec_blockLockAcquire (l : Fin 2048) (st : State) :
    exec (.blockLockAcquire l) st = .next (st.after (st.chip.lockAcquire l)) :=
  (show exec (.blockLockAcquire l) st = execBlockLockAcquire l st from rfl).trans rfl

theorem exec_blockLockLoss (l : Fin 2048) (st : State) :
    exec (.blockLockLoss l) st = .next (st.after (st.chip.blockLockLoss l)) :=
  (show exec (.blockLockLoss l) st = execBlockLockLoss l st from rfl).trans rfl

theorem exec_hello (l : Fin 2048) (seq : Fin 256) (sid : BitVec 20) (lane : Fin 64) (role : Fin 4) (st : State) :
    exec (.hello l seq sid lane role) st = .next (st.after (st.chip.hello l seq sid.toNat lane role)) :=
  (show exec (.hello l seq sid lane role) st = execHello l seq sid lane role st from rfl).trans rfl

theorem exec_creditInit (l : Fin 2048) (seq : Fin 256) (limits : List (BitVec 24)) (st : State) (hw : (limits.length == 8) = true) :
    exec (.creditInit l seq limits) st = .next (st.after (st.chip.creditInitRx l seq (limits.map (·.toNat)))) :=
  (show exec (.creditInit l seq limits) st = execCreditInit l seq limits st from rfl).trans (if_pos hw)

theorem exec_creditInitAck (l : Fin 2048) (seq : Fin 256) (st : State) :
    exec (.creditInitAck l seq) st = .next (st.after (st.chip.creditInitAck l seq)) :=
  (show exec (.creditInitAck l seq) st = execCreditInitAck l seq st from rfl).trans rfl

theorem exec_credit (l : Fin 2048) (mask : BitVec 8) (limits : List (BitVec 24)) (st : State) (hw : (limits.length == 8) = true) :
    exec (.credit l mask limits) st = .next (st.after (st.chip.creditRx l mask.toNat (limits.map (·.toNat)))) :=
  (show exec (.credit l mask limits) st = execCredit l mask limits st from rfl).trans (if_pos hw)

theorem exec_creditSync (l : Fin 2048) (seq : Fin 256) (mask : BitVec 8) (sents : List (BitVec 24)) (st : State) (hw : (sents.length == 8) = true) :
    exec (.creditSync l seq mask sents) st = .next (st.after (st.chip.creditSync l seq mask.toNat (sents.map (·.toNat)))) :=
  (show exec (.creditSync l seq mask sents) st = execCreditSync l seq mask sents st from rfl).trans (if_pos hw)

theorem exec_syncReq (l : Fin 2048) (seq : Fin 256) (st : State) :
    exec (.syncReq l seq) st = .next (st.after (st.chip.syncReq l seq)) :=
  (show exec (.syncReq l seq) st = execSyncReq l seq st from rfl).trans rfl

theorem exec_drain (l : Fin 2048) (seq : Fin 256) (st : State) :
    exec (.drain l seq) st = .next (st.after (st.chip.drainRx l seq)) :=
  (show exec (.drain l seq) st = execDrain l seq st from rfl).trans rfl

theorem exec_drainAck (l : Fin 2048) (seq : Fin 256) (st : State) :
    exec (.drainAck l seq) st = .next (st.after (st.chip.drainAck l seq)) :=
  (show exec (.drainAck l seq) st = execDrainAck l seq st from rfl).trans rfl

theorem exec_resume (l : Fin 2048) (seq : Fin 256) (st : State) :
    exec (.resume l seq) st = .next (st.after (st.chip.resumeRx l seq)) :=
  (show exec (.resume l seq) st = execResume l seq st from rfl).trans rfl

theorem exec_drowsy (l : Fin 2048) (seq : Fin 256) (depth : Fin 256) (st : State) :
    exec (.drowsy l seq depth) st = .next (st.after (st.chip.drowsyRx l seq depth)) :=
  (show exec (.drowsy l seq depth) st = execDrowsy l seq depth st from rfl).trans rfl

theorem exec_drowsyAck (l : Fin 2048) (seq : Fin 256) (st : State) :
    exec (.drowsyAck l seq) st = .next (st.after (st.chip.drowsyAck l seq)) :=
  (show exec (.drowsyAck l seq) st = execDrowsyAck l seq st from rfl).trans rfl

theorem exec_wakeReq (l : Fin 2048) (seq : Fin 256) (st : State) :
    exec (.wakeReq l seq) st = .next (st.after (st.chip.wakeReq l seq)) :=
  (show exec (.wakeReq l seq) st = execWakeReq l seq st from rfl).trans rfl

theorem exec_awake (l : Fin 2048) (seq : Fin 256) (st : State) :
    exec (.awake l seq) st = .next (st.after (st.chip.awakeRx l seq)) :=
  (show exec (.awake l seq) st = execAwake l seq st from rfl).trans rfl

theorem exec_retune (l : Fin 2048) (seq : Fin 256) (st : State) :
    exec (.retune l seq) st = .next (st.after (st.chip.retuneRx l seq)) :=
  (show exec (.retune l seq) st = execRetune l seq st from rfl).trans rfl

theorem exec_retuneAck (l : Fin 2048) (seq : Fin 256) (status : Fin 256) (st : State) :
    exec (.retuneAck l seq status) st = .next (st.after (st.chip.retuneAck l seq status)) :=
  (show exec (.retuneAck l seq status) st = execRetuneAck l seq status st from rfl).trans rfl

theorem exec_reservedLcOp (l : Fin 2048) (op : Fin 256) (st : State) :
    exec (.reservedLcOp l op) st = .next (st.after (st.chip.reservedOp l op)) :=
  (show exec (.reservedLcOp l op) st = execReservedLcOp l op st from rfl).trans rfl

theorem exec_lcRepeatTimeout (l : Fin 2048) (op : Fin 256) (seq : Fin 256) (st : State) :
    exec (.lcRepeatTimeout l op seq) st = .next (st.after (st.chip.lcRepeat l op seq)) :=
  (show exec (.lcRepeatTimeout l op seq) st = execLcRepeatTimeout l op seq st from rfl).trans rfl

theorem exec_creditAdvertiseTimer (l : Fin 2048) (st : State) :
    exec (.creditAdvertiseTimer l) st = .next (st.after (st.chip.creditTimer l)) :=
  (show exec (.creditAdvertiseTimer l) st = execCreditAdvertiseTimer l st from rfl).trans rfl

theorem exec_creditSyncTimer (l : Fin 2048) (st : State) :
    exec (.creditSyncTimer l) st = .next (st.after (st.chip.syncTimer l)) :=
  (show exec (.creditSyncTimer l) st = execCreditSyncTimer l st from rfl).trans rfl

theorem exec_trainingPhaseDone (l : Fin 2048) (st : State) :
    exec (.trainingPhaseDone l) st = .next (st.after (st.chip.phaseDone l)) :=
  (show exec (.trainingPhaseDone l) st = execTrainingPhaseDone l st from rfl).trans rfl

theorem exec_trainingPhaseTimeout (l : Fin 2048) (st : State) :
    exec (.trainingPhaseTimeout l) st = .next (st.after (st.chip.phaseTimeout l)) :=
  (show exec (.trainingPhaseTimeout l) st = execTrainingPhaseTimeout l st from rfl).trans rfl

theorem exec_helloRetry (l : Fin 2048) (st : State) :
    exec (.helloRetry l) st = .next (st.after (st.chip.helloRetry l)) :=
  (show exec (.helloRetry l) st = execHelloRetry l st from rfl).trans rfl

theorem exec_trainRetry (l : Fin 2048) (st : State) :
    exec (.trainRetry l) st = .next (st.after (st.chip.trainRetry l)) :=
  (show exec (.trainRetry l) st = execTrainRetry l st from rfl).trans rfl

theorem exec_drainTimeout (l : Fin 2048) (st : State) :
    exec (.drainTimeout l) st = .next (st.after (st.chip.drainTimeout l)) :=
  (show exec (.drainTimeout l) st = execDrainTimeout l st from rfl).trans rfl

theorem exec_wakeBurstDetect (l : Fin 2048) (st : State) :
    exec (.wakeBurstDetect l) st = .next (st.after (st.chip.wakeBurstDetect l)) :=
  (show exec (.wakeBurstDetect l) st = execWakeBurstDetect l st from rfl).trans rfl

theorem exec_searchStart (d : Fin 32) (st : State) :
    exec (.searchStart d) st = .next (st.after (st.chip.searchStart d)) :=
  (show exec (.searchStart d) st = execSearchStart d st from rfl).trans rfl

theorem exec_ringSweepDone (d : Fin 32) (f : Fin 8) (r : Fin 17) (light : Bool) (dips : List (BitVec 12)) (st : State) :
    exec (.ringSweepDone d f r light dips) st = .next (st.after (st.chip.ringSweepDone d f r light (dips.map (·.toNat)))) :=
  (show exec (.ringSweepDone d f r light dips) st = execRingSweepDone d f r light dips st from rfl).trans rfl

theorem exec_ringLockCapture (d : Fin 32) (f : Fin 8) (r : Fin 17) (st : State) :
    exec (.ringLockCapture d f r) st = .next (st.after (st.chip.ringLockCapture d f r)) :=
  (show exec (.ringLockCapture d f r) st = execRingLockCapture d f r st from rfl).trans rfl

theorem exec_ringCaptureTimeout (d : Fin 32) (f : Fin 8) (r : Fin 17) (st : State) :
    exec (.ringCaptureTimeout d f r) st = .next (st.after (st.chip.ringCaptureTimeout d f r)) :=
  (show exec (.ringCaptureTimeout d f r) st = execRingCaptureTimeout d f r st from rfl).trans rfl

theorem exec_toneCheckWindow (d : Fin 32) (f : Fin 8) (r : Fin 17) (amp : Nat) (below : Nat) (above : Nat) (ref : Nat) (st : State) :
    exec (.toneCheckWindow d f r amp below above ref) st = .next (st.after (st.chip.toneCheck d f r amp below above ref)) :=
  (show exec (.toneCheckWindow d f r amp below above ref) st = execToneCheckWindow d f r amp below above ref st from rfl).trans rfl

theorem exec_ringRecoveryDone (d : Fin 32) (f : Fin 8) (r : Fin 17) (captured : Option (BitVec 12)) (st : State) :
    exec (.ringRecoveryDone d f r captured) st = .next (st.after (st.chip.ringRecoveryDone d f r (captured.map (·.toNat)))) :=
  (show exec (.ringRecoveryDone d f r captured) st = execRingRecoveryDone d f r captured st from rfl).trans rfl

theorem exec_lockSlip (d : Fin 32) (f : Fin 8) (r : Fin 17) (st : State) :
    exec (.lockSlip d f r) st = .next (st.after (st.chip.lockSlip d f r)) :=
  (show exec (.lockSlip d f r) st = execLockSlip d f r st from rfl).trans rfl

theorem exec_ringLightLoss (d : Fin 32) (f : Fin 8) (r : Fin 17) (st : State) :
    exec (.ringLightLoss d f r) st = .next (st.after (st.chip.ringLightLoss d f r)) :=
  (show exec (.ringLightLoss d f r) st = execRingLightLoss d f r st from rfl).trans rfl

theorem exec_ringLightRestored (d : Fin 32) (f : Fin 8) (r : Fin 17) (st : State) :
    exec (.ringLightRestored d f r) st = .next (st.after (st.chip.ringLightRestored d f r)) :=
  (show exec (.ringLightRestored d f r) st = execRingLightRestored d f r st from rfl).trans rfl

theorem exec_lockLoopUpdate (d : Fin 32) (f : Fin 8) (r : Fin 17) (code : BitVec 12) (st : State) :
    exec (.lockLoopUpdate d f r code) st = .next (st.after (st.chip.lockLoopUpdate d f r code.toNat)) :=
  (show exec (.lockLoopUpdate d f r code) st = execLockLoopUpdate d f r code st from rfl).trans rfl

theorem exec_calibrationDue (l : Fin 2048) (st : State) :
    exec (.calibrationDue l) st = .next (st.after (st.chip.calibrationDue l)) :=
  (show exec (.calibrationDue l) st = execCalibrationDue l st from rfl).trans rfl

theorem exec_calibrationDone (l : Fin 2048) (us : Nat) (st : State) :
    exec (.calibrationDone l us) st = .next (st.after (st.chip.calibrationDone l us)) :=
  (show exec (.calibrationDone l us) st = execCalibrationDone l us st from rfl).trans rfl

theorem exec_fadeReading (d : Fin 32) (powers : List Int) (spares : List Int) (st : State) (hw : (powers.length == 64 && spares.length == 8) = true) :
    exec (.fadeReading d powers spares) st = .next (st.after (st.chip.fadeReading d powers spares)) :=
  (show exec (.fadeReading d powers spares) st = execFadeReading d powers spares st from rfl).trans (if_pos hw)

theorem exec_swapTrainTimeout (l : Fin 2048) (st : State) :
    exec (.swapTrainTimeout l) st = .next (st.after (st.chip.swapTrainTimeout l)) :=
  (show exec (.swapTrainTimeout l) st = execSwapTrainTimeout l st from rfl).trans rfl

theorem exec_optReturnFromSpare (d : Fin 32) (st : State) :
    exec (.optReturnFromSpare d) st = .next (st.after (st.chip.returnFromSpare d)) :=
  (show exec (.optReturnFromSpare d) st = execOptReturnFromSpare d st from rfl).trans rfl

theorem exec_optCalibrateNow (d : Fin 32) (st : State) :
    exec (.optCalibrateNow d) st = .next (st.after (st.chip.calibrateNow d)) :=
  (show exec (.optCalibrateNow d) st = execOptCalibrateNow d st from rfl).trans rfl

theorem exec_optSearchAgain (d : Fin 32) (st : State) :
    exec (.optSearchAgain d) st = .next (st.after (st.chip.searchAgain d)) :=
  (show exec (.optSearchAgain d) st = execOptSearchAgain d st from rfl).trans rfl

theorem exec_optClearFadeHold (d : Fin 32) (st : State) :
    exec (.optClearFadeHold d) st = .next (st.after (st.chip.clearFadeHold d)) :=
  (show exec (.optClearFadeHold d) st = execOptClearFadeHold d st from rfl).trans rfl

theorem exec_clearingSetup (d : Fin 32) (st : State) :
    exec (.clearingSetup d) st = .next (st.after (st.chip.clearingSetup d)) :=
  (show exec (.clearingSetup d) st = execClearingSetup d st from rfl).trans rfl

theorem exec_clearingTeardown (d : Fin 32) (st : State) :
    exec (.clearingTeardown d) st = .next (st.after (st.chip.clearingTeardown d)) :=
  (show exec (.clearingTeardown d) st = execClearingTeardown d st from rfl).trans rfl

theorem exec_clearSetSend (d : Fin 32) (r : Fin 4) (k : Fin 8) (st : State) :
    exec (.clearSetSend d r k) st = .next (st.after (st.chip.clearSetSend d r k)) :=
  (show exec (.clearSetSend d r k) st = execClearSetSend d r k st from rfl).trans rfl

theorem exec_clearAck (l : Fin 2048) (seq : Fin 256) (handle : BitVec 16) (status : Fin 256) (st : State) :
    exec (.clearAck l seq handle status) st = .next (st.after (if st.chip.lcOpen l then st.chip.clearAck l seq handle.toNat status else st.chip)) :=
  (show exec (.clearAck l seq handle status) st = execClearAck l seq handle status st from rfl).trans rfl

theorem exec_clearDrained (l : Fin 2048) (seq : Fin 256) (handle : BitVec 16) (lane : Fin 64) (st : State) :
    exec (.clearDrained l seq handle lane) st = .next (st.after (if st.chip.lcOpen l then st.chip.clearDrained l seq handle.toNat lane else st.chip)) :=
  (show exec (.clearDrained l seq handle lane) st = execClearDrained l seq handle lane st from rfl).trans rfl

theorem exec_clearDrainedTimeout (d : Fin 32) (r : Fin 4) (k : Fin 8) (st : State) :
    exec (.clearDrainedTimeout d r k) st = .next (st.after (st.chip.clearDrainedTimeout d r k)) :=
  (show exec (.clearDrainedTimeout d r k) st = execClearDrainedTimeout d r k st from rfl).trans rfl

theorem exec_clearingImageTeardown (d : Fin 32) (r : Fin 4) (k : Fin 8) (st : State) :
    exec (.clearingImageTeardown d r k) st = .next (st.after (st.chip.clearingImageTeardown d r k)) :=
  (show exec (.clearingImageTeardown d r k) st = execClearingImageTeardown d r k st from rfl).trans rfl

theorem exec_uplinkSchedule (d : Fin 32) (st : State) :
    exec (.uplinkSchedule d) st = .next (st.after (st.chip.uplinkSchedule d)) :=
  (show exec (.uplinkSchedule d) st = execUplinkSchedule d st from rfl).trans rfl

theorem exec_safHoldExpiry (d : Fin 32) (e : Fin 40) (cls : Fin 8) (st : State) :
    exec (.safHoldExpiry d e cls) st = .next (st.after (st.chip.safHoldExpiry d e cls)) :=
  (show exec (.safHoldExpiry d e cls) st = execSafHoldExpiry d e cls st from rfl).trans rfl

theorem exec_envelopeLandCore (d : Fin 32) (k : Fin 8) (st : State) :
    exec (.envelopeLandCore d k) st = .next (st.after (st.chip.landCore d k)) :=
  (show exec (.envelopeLandCore d k) st = execEnvelopeLandCore d k st from rfl).trans rfl

theorem exec_crossbarArbitrate (k : Fin 8) (st : State) :
    exec (.crossbarArbitrate k) st = .next (st.after (st.chip.arbitrate k)) :=
  (show exec (.crossbarArbitrate k) st = execCrossbarArbitrate k st from rfl).trans rfl

theorem exec_envelopeLandEgress (d : Fin 32) (k : Fin 8) (st : State) :
    exec (.envelopeLandEgress d k) st = .next (st.after (st.chip.landEgress d k)) :=
  (show exec (.envelopeLandEgress d k) st = execEnvelopeLandEgress d k st from rfl).trans rfl

theorem exec_stalledCellPlace (d : Fin 32) (st : State) :
    exec (.stalledCellPlace d) st = .next (st.after (st.chip.placeStalled d)) :=
  (show exec (.stalledCellPlace d) st = execStalledCellPlace d st from rfl).trans rfl

theorem exec_laneAssign (d : Fin 32) (st : State) :
    exec (.laneAssign d) st = .next (st.after (st.chip.laneAssign d)) :=
  (show exec (.laneAssign d) st = execLaneAssign d st from rfl).trans rfl

theorem exec_laneCellSlot (l : Fin 2048) (st : State) :
    exec (.laneCellSlot l) st = .next (st.after (st.chip.laneCellSlot l)) :=
  (show exec (.laneCellSlot l) st = execLaneCellSlot l st from rfl).trans rfl

theorem exec_d2dBeatUncorrectable (d : Fin 32) (k : Fin 8) (up : Bool) (again : Bool) (st : State) :
    exec (.d2dBeatUncorrectable d k up again) st = .next (st.after (st.chip.beatBad d k up again)) :=
  (show exec (.d2dBeatUncorrectable d k up again) st = execD2dBeatUncorrectable d k up again st from rfl).trans rfl

theorem exec_d2dReplayLimit (d : Fin 32) (k : Fin 8) (up : Bool) (st : State) :
    exec (.d2dReplayLimit d k up) st = .next (st.after (st.chip.replayLimit d k up)) :=
  (show exec (.d2dReplayLimit d k up) st = execD2dReplayLimit d k up st from rfl).trans rfl

theorem exec_d2dRetrainDone (d : Fin 32) (k : Fin 8) (st : State) :
    exec (.d2dRetrainDone d k) st = .next (st.after (st.chip.retrainDone d k)) :=
  (show exec (.d2dRetrainDone d k) st = execD2dRetrainDone d k st from rfl).trans rfl

theorem exec_envCreditReturn (d : Fin 32) (k : Fin 8) (e : Fin 40) (st : State) :
    exec (.envCreditReturn d k e) st = .next (st.after (st.chip.envCreditReturn d k e)) :=
  (show exec (.envCreditReturn d k e) st = execEnvCreditReturn d k e st from rfl).trans rfl

theorem exec_landingCreditReturn (d : Fin 32) (k : Fin 8) (st : State) :
    exec (.landingCreditReturn d k) st = .next (st.after (st.chip.landCreditReturn d k)) :=
  (show exec (.landingCreditReturn d k) st = execLandingCreditReturn d k st from rfl).trans rfl

theorem exec_holdMaskSample (d : Fin 32) (st : State) :
    exec (.holdMaskSample d) st = .next (st.after (st.chip.holdSample d)) :=
  (show exec (.holdMaskSample d) st = execHoldMaskSample d st from rfl).trans rfl

theorem exec_holdMaskRelay (k : Fin 8) (st : State) :
    exec (.holdMaskRelay k) st = .next (st.after (st.chip.holdRelay k)) :=
  (show exec (.holdMaskRelay k) st = execHoldMaskRelay k st from rfl).trans rfl

theorem exec_holdMaskApply (d : Fin 32) (st : State) :
    exec (.holdMaskApply d) st = .next (st.after (st.chip.holdApply d)) :=
  (show exec (.holdMaskApply d) st = execHoldMaskApply d st from rfl).trans rfl

theorem exec_spillUnpark (k : Fin 8) (e : Fin 32) (st : State) :
    exec (.spillUnpark k e) st = .next (st.after (st.chip.spillUnpark k e)) :=
  (show exec (.spillUnpark k e) st = execSpillUnpark k e st from rfl).trans rfl

theorem exec_spillLifetimeExpiry (k : Fin 8) (e : Fin 32) (cls : Fin 8) (st : State) :
    exec (.spillLifetimeExpiry k e cls) st = .next (st.after (st.chip.spillExpire k e cls)) :=
  (show exec (.spillLifetimeExpiry k e cls) st = execSpillLifetimeExpiry k e cls st from rfl).trans rfl

theorem exec_spillExpiryWindowEnd (k : Fin 8) (st : State) :
    exec (.spillExpiryWindowEnd k) st = .next (st.after (st.chip.spillWindowEnd k)) :=
  (show exec (.spillExpiryWindowEnd k) st = execSpillExpiryWindowEnd k st from rfl).trans rfl

theorem exec_leakAuditDue (d : Fin 40) (pool : Fin 9) (st : State) (hw : (poolOf d pool) = true) :
    exec (.leakAuditDue d pool) st = .next (st.after (st.chip.leakAuditDue d pool)) :=
  (show exec (.leakAuditDue d pool) st = execLeakAuditDue d pool st from rfl).trans (if_pos hw)

theorem exec_leakAuditDone (d : Fin 40) (pool : Fin 9) (linkBad : Bool) (st : State) (hw : (poolOf d pool) = true) :
    exec (.leakAuditDone d pool linkBad) st = .next (st.after (st.chip.leakAuditDone d pool linkBad)) :=
  (show exec (.leakAuditDone d pool linkBad) st = execLeakAuditDone d pool linkBad st from rfl).trans (if_pos hw)

theorem exec_levelSatDwell (what : Fin 5) (d : Fin 40) (u : Fin 64) (enter : Bool) (us : Nat) (st : State) (hw : (satUnit what d u) = true) :
    exec (.levelSatDwell what d u enter us) st = .next (st.after (st.chip.levelSat what d u enter us)) :=
  (show exec (.levelSatDwell what d u enter us) st = execLevelSatDwell what d u enter us st from rfl).trans (if_pos hw)

theorem exec_shaperRefill (d : Fin 32) (p : Fin 64) (sh : Fin 9) (st : State) :
    exec (.shaperRefill d p sh) st = .next (st.after (st.chip.shaperRefill d p sh)) :=
  (show exec (.shaperRefill d p sh) st = execShaperRefill d p sh st from rfl).trans rfl

theorem exec_policerRefill (d : Fin 32) (p : Fin 64) (cls : Fin 4) (st : State) :
    exec (.policerRefill d p cls) st = .next (st.after (st.chip.policerRefill d p cls)) :=
  (show exec (.policerRefill d p cls) st = execPolicerRefill d p cls st from rfl).trans rfl

theorem exec_launchPrepare (d : Fin 32) (i : Fin 256) (st : State) :
    exec (.launchPrepare d i) st = .next (st.after (st.chip.launchPrepare d i)) :=
  (show exec (.launchPrepare d i) st = execLaunchPrepare d i st from rfl).trans rfl

theorem exec_lateLaunch (d : Fin 32) (p : Fin 64) (cls : Fin 8) (st : State) :
    exec (.lateLaunch d p cls) st = .next (st.after (st.chip.lateLaunch d p cls)) :=
  (show exec (.lateLaunch d p cls) st = execLateLaunch d p cls st from rfl).trans rfl

theorem exec_tblNone (d : Fin 32) (st : State) :
    exec (.tblNone d) st = .next (st.after (st.chip.tblNone d)) :=
  (show exec (.tblNone d) st = execTblNone d st from rfl).trans rfl

theorem exec_tblWrite (d : Fin 32) (st : State) :
    exec (.tblWrite d) st = .next (st.after (st.chip.tblWrite d)) :=
  (show exec (.tblWrite d) st = execTblWrite d st from rfl).trans rfl

theorem exec_tblInsert (d : Fin 32) (st : State) :
    exec (.tblInsert d) st = .next (st.after (st.chip.tblInsert d)) :=
  (show exec (.tblInsert d) st = execTblInsert d st from rfl).trans rfl

theorem exec_tblDelete (d : Fin 32) (st : State) :
    exec (.tblDelete d) st = .next (st.after (st.chip.tblDelete d)) :=
  (show exec (.tblDelete d) st = execTblDelete d st from rfl).trans rfl

theorem exec_tblRead (d : Fin 32) (st : State) :
    exec (.tblRead d) st = .next (st.after (st.chip.tblRead d)) :=
  (show exec (.tblRead d) st = execTblRead d st from rfl).trans rfl

theorem exec_tblClear (d : Fin 32) (st : State) :
    exec (.tblClear d) st = .next (st.after (st.chip.tblClear d)) :=
  (show exec (.tblClear d) st = execTblClear d st from rfl).trans rfl

theorem exec_flowLearnInsert (d : Fin 32) (st : State) :
    exec (.flowLearnInsert d) st = .next (st.after (st.chip.learnInsert d)) :=
  (show exec (.flowLearnInsert d) st = execFlowLearnInsert d st from rfl).trans rfl

theorem exec_tableScrubDue (d : Fin 32) (st : State) :
    exec (.tableScrubDue d) st = .next (st.after (st.chip.tableScrubDue d)) :=
  (show exec (.tableScrubDue d) st = execTableScrubDue d st from rfl).trans rfl

theorem exec_tableScrubDone (d : Fin 32) (corr : Nat) (bad : List (Nat × Nat)) (st : State) (hw : (bad.all (fun e => decide (e.1 < 3) && decide (e.2 < 2 ^ 20))) = true) :
    exec (.tableScrubDone d corr bad) st = .next (st.after (st.chip.tableScrubDone d corr bad)) :=
  (show exec (.tableScrubDone d corr bad) st = execTableScrubDone d corr bad st from rfl).trans (if_pos hw)

theorem exec_stgOpen (k : Fin 8) (st : State) :
    exec (.stgOpen k) st = .next (st.after (st.chip.stgOpen k)) :=
  (show exec (.stgOpen k) st = execStgOpen k st from rfl).trans rfl

theorem exec_stgClose (k : Fin 8) (st : State) :
    exec (.stgClose k) st = .next (st.after (st.chip.stgClose k)) :=
  (show exec (.stgClose k) st = execStgClose k st from rfl).trans rfl

theorem exec_stgForceClose (k : Fin 8) (st : State) :
    exec (.stgForceClose k) st = .next (st.after (st.chip.stgForceClose k)) :=
  (show exec (.stgForceClose k) st = execStgForceClose k st from rfl).trans rfl

theorem exec_stageRepair (l : Fin 2048) (k : Fin 8) (slot : Fin 4) (src : BitVec 20) (tag : BitVec 32) (first : BitVec 22) (last : BitVec 22) (st : State) :
    exec (.stageRepair l k slot src tag first last) st = .next (st.after ((st.chip.popSwitchMsg 0x0010).stageRepair l k slot src.toNat tag.toNat first.toNat last.toNat)) :=
  (show exec (.stageRepair l k slot src tag first last) st = execStageRepair l k slot src tag first last st from rfl).trans rfl

theorem exec_stageRelease (l : Fin 2048) (k : Fin 8) (slot : Fin 4) (src : BitVec 20) (tag : BitVec 32) (st : State) :
    exec (.stageRelease l k slot src tag) st = .next (st.after ((st.chip.popSwitchMsg 0x0011).stageRelease l k slot src.toNat tag.toNat)) :=
  (show exec (.stageRelease l k slot src tag) st = execStageRelease l k slot src tag st from rfl).trans rfl

theorem exec_synAlloc (k : Fin 8) (st : State) :
    exec (.synAlloc k) st = .next (st.after (st.chip.synAlloc k)) :=
  (show exec (.synAlloc k) st = execSynAlloc k st from rfl).trans rfl

theorem exec_rollLoadDone (n : Fin 4096) (st : State) :
    exec (.rollLoadDone n) st = .next (st.after (st.chip.rollLoadDone n st.read)) :=
  (show exec (.rollLoadDone n) st = execRollLoadDone n st from rfl).trans rfl

theorem exec_synFree (k : Fin 8) (st : State) :
    exec (.synFree k) st = .next (st.after (st.chip.synFree k)) :=
  (show exec (.synFree k) st = execSynFree k st from rfl).trans rfl

theorem exec_dropMember (k : Fin 8) (st : State) :
    exec (.dropMember k) st = .next (st.after (st.chip.dropMember k)) :=
  (show exec (.dropMember k) st = execDropMember k st from rfl).trans rfl

theorem exec_synRead (k : Fin 8) (st : State) :
    exec (.synRead k) st = .next (st.after (st.chip.synRead k)) :=
  (show exec (.synRead k) st = execSynRead k st from rfl).trans rfl

theorem exec_contributionCell (k : Fin 8) (x : Cell) (st : State) :
    exec (.contributionCell k x) st = .next (st.after (st.chip.contributionCell k x)) :=
  (show exec (.contributionCell k x) st = execContributionCell k x st from rfl).trans rfl

theorem exec_pendingRelease (k : Fin 8) (st : State) :
    exec (.pendingRelease k) st = .next (st.after (st.chip.pendingRelease k)) :=
  (show exec (.pendingRelease k) st = execPendingRelease k st from rfl).trans rfl

theorem exec_progressTimeout (n : Fin 4096) (st : State) :
    exec (.progressTimeout n) st = .next (st.after (st.chip.progressTimeout n)) :=
  (show exec (.progressTimeout n) st = execProgressTimeout n st from rfl).trans rfl

theorem exec_collectiveTimeout (n : Fin 4096) (st : State) :
    exec (.collectiveTimeout n) st = .next (st.after (st.chip.collectiveTimeout n)) :=
  (show exec (.collectiveTimeout n) st = execCollectiveTimeout n st from rfl).trans rfl

theorem exec_residueCheckDone (n : Fin 4096) (pos : Nat) (err : CheckErr) (st : State) :
    exec (.residueCheckDone n pos err) st = .next (st.after (st.chip.residueCheckDone n pos err)) :=
  (show exec (.residueCheckDone n pos err) st = execResidueCheckDone n pos err st from rfl).trans rfl

theorem exec_rerunVerdict (n : Fin 4096) (pos : Nat) (err : CheckErr) (differs : Bool) (st : State) :
    exec (.rerunVerdict n pos err differs) st = .next (st.after (st.chip.rerunVerdict n pos err differs)) :=
  (show exec (.rerunVerdict n pos err differs) st = execRerunVerdict n pos err differs st from rfl).trans rfl

theorem exec_sealNoticeGap (n : Fin 4096) (st : State) :
    exec (.sealNoticeGap n) st = .next (st.after (st.chip.sealGap n)) :=
  (show exec (.sealNoticeGap n) st = execSealNoticeGap n st from rfl).trans rfl

theorem exec_abortHoldExpiry (n : Fin 4096) (st : State) :
    exec (.abortHoldExpiry n) st = .next (st.after (st.chip.abortHoldExpiry n)) :=
  (show exec (.abortHoldExpiry n) st = execAbortHoldExpiry n st from rfl).trans rfl

theorem exec_quarantineExpiry (n : Fin 4096) (st : State) :
    exec (.quarantineExpiry n) st = .next (st.after (st.chip.quarantineExpiry n)) :=
  (show exec (.quarantineExpiry n) st = execQuarantineExpiry n st from rfl).trans rfl

theorem exec_homeDieReadmit (k : Fin 8) (st : State) :
    exec (.homeDieReadmit k) st = .next (st.after (st.chip.homeReadmit k)) :=
  (show exec (.homeDieReadmit k) st = execHomeDieReadmit k st from rfl).trans rfl

theorem exec_loadMatrix (k : Fin 8) (st : State) :
    exec (.loadMatrix k) st = .next (st.after (st.chip.loadMatrix k st.read)) :=
  (show exec (.loadMatrix k) st = execLoadMatrix k st from rfl).trans rfl

theorem exec_dropMatrix (k : Fin 8) (st : State) :
    exec (.dropMatrix k) st = .next (st.after (st.chip.dropMatrix k)) :=
  (show exec (.dropMatrix k) st = execDropMatrix k st from rfl).trans rfl

theorem exec_loadRecipe (k : Fin 8) (st : State) :
    exec (.loadRecipe k) st = .next (st.after (st.chip.loadRecipe k st.read)) :=
  (show exec (.loadRecipe k) st = execLoadRecipe k st from rfl).trans rfl

theorem exec_dropRecipe (k : Fin 8) (st : State) :
    exec (.dropRecipe k) st = .next (st.after (st.chip.dropRecipe k)) :=
  (show exec (.dropRecipe k) st = execDropRecipe k st from rfl).trans rfl

theorem exec_bind (k : Fin 8) (st : State) :
    exec (.bind k) st = .next (st.after (st.chip.bindOp k st.read)) :=
  (show exec (.bind k) st = execBind k st from rfl).trans rfl

theorem exec_bindZeroDone (k : Fin 8) (i : Fin 64) (st : State) :
    exec (.bindZeroDone k i) st = .next (st.after (st.chip.bindZeroDone k i)) :=
  (show exec (.bindZeroDone k i) st = execBindZeroDone k i st from rfl).trans rfl

theorem exec_unbind (k : Fin 8) (st : State) :
    exec (.unbind k) st = .next (st.after (st.chip.unbindOp k)) :=
  (show exec (.unbind k) st = execUnbind k st from rfl).trans rfl

theorem exec_stateCopy (k : Fin 8) (st : State) :
    exec (.stateCopy k) st = .next (st.after (st.chip.stateCopy k)) :=
  (show exec (.stateCopy k) st = execStateCopy k st from rfl).trans rfl

theorem exec_stateCopyDone (k : Fin 8) (i : Fin 64) (st : State) :
    exec (.stateCopyDone k i) st = .next ((st.store (st.chip.stateCopyDone k i st.read).1).withChip (st.settled (st.chip.stateCopyDone k i st.read).2)) :=
  (show exec (.stateCopyDone k i) st = execStateCopyDone k i st from rfl).trans rfl

theorem exec_trfRead (k : Fin 8) (st : State) :
    exec (.trfRead k) st = .next (st.after (st.chip.trfRead k)) :=
  (show exec (.trfRead k) st = execTrfRead k st from rfl).trans rfl

theorem exec_quizDue (u : QUnit) (st : State) (hw : (u.exists_) = true) :
    exec (.quizDue u) st = .next (st.after (st.chip.quizDue u)) :=
  (show exec (.quizDue u) st = execQuizDue u st from rfl).trans (if_pos hw)

theorem exec_quizRequest (d : Fin 40) (st : State) :
    exec (.quizRequest d) st = .next (st.after (st.chip.quizRequest d)) :=
  (show exec (.quizRequest d) st = execQuizRequest d st from rfl).trans rfl

theorem exec_quizEnd (u : QUnit) (abort : Bool) (boot : Bool) (runs : List QuizRun) (st : State) (hw : (u.exists_) = true) :
    exec (.quizEnd u abort boot runs) st = .next (st.after (st.chip.quizEnd u abort boot runs)) :=
  (show exec (.quizEnd u abort boot runs) st = execQuizEnd u abort boot runs st from rfl).trans (if_pos hw)

theorem exec_provisionalRerun (u : QUnit) (id : BitVec 16) (st : State) (hw : (u.exists_) = true) :
    exec (.provisionalRerun u id) st = .next (st.after (st.chip.provisionalRerun u id.toNat)) :=
  (show exec (.provisionalRerun u id) st = execProvisionalRerun u id st from rfl).trans (if_pos hw)

theorem exec_ptpMessage (l : Fin 2048) (number : Fin 256) (raw : Int) (st : State) :
    exec (.ptpMessage l number raw) st = .next (st.after ((st.chip.popSwitchMsg 0x0020).ptpMessage l number raw)) :=
  (show exec (.ptpMessage l number raw) st = execPtpMessage l number raw st from rfl).trans rfl

theorem exec_ppsInEdge (pin : Fin 2) (st : State) :
    exec (.ppsInEdge pin) st = .next (st.after (st.chip.ppsInEdge pin)) :=
  (show exec (.ppsInEdge pin) st = execPpsInEdge pin st from rfl).trans rfl

theorem exec_domainHoldover (x : Fin 2) (st : State) :
    exec (.domainHoldover x) st = .next (st.after (st.chip.domainHoldover x)) :=
  (show exec (.domainHoldover x) st = execDomainHoldover x st from rfl).trans rfl

theorem exec_domainFaultClear (x : Fin 2) (st : State) :
    exec (.domainFaultClear x) st = .next (st.after (st.chip.domainFaultClear x)) :=
  (show exec (.domainFaultClear x) st = execDomainFaultClear x st from rfl).trans rfl

theorem exec_slewDone (st : State) :
    exec .slewDone st = .next (st.after (st.chip.slewDone)) :=
  (show exec .slewDone st = execSlewDone st from rfl).trans rfl

theorem exec_ppsOutEdge (st : State) :
    exec .ppsOutEdge st = .next (st.after (st.chip.ppsOutEdge)) :=
  (show exec .ppsOutEdge st = execPpsOutEdge st from rfl).trans rfl

theorem exec_tsqEntry (d : Fin 32) (st : State) :
    exec (.tsqEntry d) st = .next (st.after (st.chip.tsqEntry d)) :=
  (show exec (.tsqEntry d) st = execTsqEntry d st from rfl).trans rfl

theorem exec_tsqTailWrite (d : Fin 32) (tail : Fin 128) (st : State) :
    exec (.tsqTailWrite d tail) st = .next (st.after (st.chip.tsqTail d tail)) :=
  (show exec (.tsqTailWrite d tail) st = execTsqTailWrite d tail st from rfl).trans rfl

theorem exec_bellArm (d : Fin 40) (x : Fin 2) (i : Fin 256) (st : State) :
    exec (.bellArm d x i) st = .next (st.after (st.chip.bellArm d x i)) :=
  (show exec (.bellArm d x i) st = execBellArm d x i st from rfl).trans rfl

theorem exec_bellCancel (d : Fin 40) (x : Fin 2) (i : Fin 256) (st : State) :
    exec (.bellCancel d x i) st = .next (st.after (st.chip.bellCancel d x i)) :=
  (show exec (.bellCancel d x i) st = execBellCancel d x i st from rfl).trans rfl

theorem exec_bellFire (d : Fin 40) (i : Fin 256) (st : State) :
    exec (.bellFire d i) st = .next (st.after (st.chip.bellFire d i)) :=
  (show exec (.bellFire d i) st = execBellFire d i st from rfl).trans rfl

theorem exec_railWarnCrossing (d : Fin 40) (rail : Fin 10) (st : State) :
    exec (.railWarnCrossing d rail) st = .next (st.after (st.chip.railWarn d rail)) :=
  (show exec (.railWarnCrossing d rail) st = execRailWarnCrossing d rail st from rfl).trans rfl

theorem exec_sagPinAssert (st : State) :
    exec .sagPinAssert st = .next (st.after (st.chip.sagPin)) :=
  (show exec .sagPinAssert st = execSagPinAssert st from rfl).trans rfl

theorem exec_sagClear (st : State) :
    exec .sagClear st = .next (st.after (st.chip.sagClear)) :=
  (show exec .sagClear st = execSagClear st from rfl).trans rfl

theorem exec_railResetCrossing (rail : Fin 10) (st : State) :
    exec (.railResetCrossing rail) st = .next (st.after (st.chip.railReset rail)) :=
  (show exec (.railResetCrossing rail) st = execRailResetCrossing rail st from rfl).trans rfl

theorem exec_clk25Loss (st : State) :
    exec .clk25Loss st = .next (st.after (st.chip.clkLoss)) :=
  (show exec .clk25Loss st = execClk25Loss st from rfl).trans rfl

theorem exec_pllLockFail (d : Fin 40) (b : Option (Fin 8)) (st : State) :
    exec (.pllLockFail d b) st = .next (st.after (st.chip.pllLockFail d (b.map (·.val)))) :=
  (show exec (.pllLockFail d b) st = execPllLockFail d b st from rfl).trans rfl

theorem exec_tileIdle (d : Fin 40) (t : Fin 128) (idle : Bool) (st : State) :
    exec (.tileIdle d t idle) st = .next (st.after (st.chip.tileIdle d t idle)) :=
  (show exec (.tileIdle d t idle) st = execTileIdle d t idle st from rfl).trans rfl

theorem exec_recessEntry (d : Fin 40) (b : Fin 8) (st : State) :
    exec (.recessEntry d b) st = .next (st.after (st.chip.recessEntry d b)) :=
  (show exec (.recessEntry d b) st = execRecessEntry d b st from rfl).trans rfl

theorem exec_deepRecessEntry (d : Fin 40) (b : Fin 8) (st : State) :
    exec (.deepRecessEntry d b) st = .next (st.after (st.chip.deepRecessEntry d b)) :=
  (show exec (.deepRecessEntry d b) st = execDeepRecessEntry d b st from rfl).trans rfl

theorem exec_sleepEntry (d : Fin 40) (st : State) :
    exec (.sleepEntry d) st = .next (st.after (st.chip.sleepEntry d)) :=
  (show exec (.sleepEntry d) st = execSleepEntry d st from rfl).trans rfl

theorem exec_recessWake (d : Fin 40) (b : Fin 8) (st : State) :
    exec (.recessWake d b) st = .next (st.after (st.chip.recessWake d b)) :=
  (show exec (.recessWake d b) st = execRecessWake d b st from rfl).trans rfl

theorem exec_blockWake (d : Fin 40) (b : Fin 8) (st : State) :
    exec (.blockWake d b) st = .next (st.after (st.chip.blockWake d b)) :=
  (show exec (.blockWake d b) st = execBlockWake d b st from rfl).trans rfl

theorem exec_dieWake (d : Fin 40) (st : State) :
    exec (.dieWake d) st = .next (st.after (st.chip.dieWake d)) :=
  (show exec (.dieWake d) st = execDieWake d st from rfl).trans rfl

theorem exec_restart (b : BootFacts) (st : State) :
    exec (.restart b) st = .next (st.after (st.chip.restart b)) :=
  (show exec (.restart b) st = execRestart b st from rfl).trans rfl

theorem exec_powerReset (st : State) :
    exec .powerReset st = .next (st.after (st.chip.porReset)) :=
  (show exec .powerReset st = execPowerReset st from rfl).trans rfl

theorem exec_chipReset (st : State) :
    exec .chipReset st = .next (st.after (st.chip.chipReset)) :=
  (show exec .chipReset st = execChipReset st from rfl).trans rfl

theorem exec_planeDataReset (st : State) :
    exec .planeDataReset st = .next (st.after (st.chip.planeDataReset)) :=
  (show exec .planeDataReset st = execPlaneDataReset st from rfl).trans rfl

theorem exec_planeControlReset (st : State) :
    exec .planeControlReset st = .next (st.after (st.chip.planeControlReset)) :=
  (show exec .planeControlReset st = execPlaneControlReset st from rfl).trans rfl

theorem exec_planeMgmtReset (h : Fin 2) (st : State) :
    exec (.planeMgmtReset h) st = .next (st.after (st.chip.planeMgmtReset h)) :=
  (show exec (.planeMgmtReset h) st = execPlaneMgmtReset h st from rfl).trans rfl

theorem exec_regionReset (d : Fin 40) (st : State) :
    exec (.regionReset d) st = .next (st.after (st.chip.regionReset d)) :=
  (show exec (.regionReset d) st = execRegionReset d st from rfl).trans rfl

theorem exec_blockReset (d : Fin 40) (b : Fin 8) (st : State) :
    exec (.blockReset d b) st = .next (st.after (st.chip.blockReset d b)) :=
  (show exec (.blockReset d b) st = execBlockReset d b st from rfl).trans rfl

theorem exec_tileReset (d : Fin 40) (t : Fin 128) (st : State) :
    exec (.tileReset d t) st = .next (st.after (st.chip.tileReset d t)) :=
  (show exec (.tileReset d t) st = execTileReset d t st from rfl).trans rfl

theorem exec_linkReset (h : Fin 2) (st : State) :
    exec (.linkReset h) st = .next (st.after (st.chip.linkReset h)) :=
  (show exec (.linkReset h) st = execLinkReset h st from rfl).trans rfl

theorem exec_tempReading (d : Fin 40) (t : BitVec 16) (st : State) :
    exec (.tempReading d t) st = .next (st.after (st.chip.tempReading d t)) :=
  (show exec (.tempReading d t) st = execTempReading d t st from rfl).trans rfl

theorem exec_thermalShutdown (d : Fin 40) (st : State) :
    exec (.thermalShutdown d) st = .next (st.after (st.chip.thermalShutdown d)) :=
  (show exec (.thermalShutdown d) st = execThermalShutdown d st from rfl).trans rfl

theorem exec_watchdogHalf (h : Fin 2) (which : Fin 3) (st : State) :
    exec (.watchdogHalf h which) st = .next (st.after (st.chip.watchdogHalf h (which + 1))) :=
  (show exec (.watchdogHalf h which) st = execWatchdogHalf h which st from rfl).trans rfl

theorem exec_watchdogExpiry (h : Fin 2) (which : Fin 3) (st : State) :
    exec (.watchdogExpiry h which) st = .next (st.after (st.chip.watchdogExpiry h (which + 1))) :=
  (show exec (.watchdogExpiry h which) st = execWatchdogExpiry h which st from rfl).trans rfl

theorem exec_commandPickup (h : Fin 2) (win : Fin 62) (slot : Fin 64) (cmd : Command) (st : State) (hw : (cmd.wf) = true) :
    exec (.commandPickup h win slot cmd) st = .next (st.after (st.chip.commandPickup h win slot cmd)) :=
  (show exec (.commandPickup h win slot cmd) st = execCommandPickup h win slot cmd st from rfl).trans (if_pos hw)

theorem exec_serialCommandStart (st : State) :
    exec .serialCommandStart st = .next (st.after (st.chip.serialStart)) :=
  (show exec .serialCommandStart st = execSerialCommandStart st from rfl).trans rfl

theorem exec_nop (o : Origin) (st : State) :
    exec (.nop o) st = .next (st.after (st.chip.cmdNop o)) :=
  (show exec (.nop o) st = execNop o st from rfl).trans rfl

theorem exec_loadImage (o : Origin) (img : Image) (st : State) :
    exec (.loadImage o img) st = .next (st.after (st.chip.cmdLoadImage o img (fun x => x.planeDataWipe.planeDataReport))) :=
  (show exec (.loadImage o img) st = execLoadImage o img st from rfl).trans rfl

theorem exec_writeImage (o : Origin) (img : Image) (st : State) :
    exec (.writeImage o img) st = .next (st.after (st.chip.cmdWriteImage o img)) :=
  (show exec (.writeImage o img) st = execWriteImage o img st from rfl).trans rfl

theorem exec_writeRepair (o : Origin) (r : Repair) (st : State) :
    exec (.writeRepair o r) st = .next (st.after (st.chip.cmdWriteRepair o r)) :=
  (show exec (.writeRepair o r) st = execWriteRepair o r st from rfl).trans rfl

theorem exec_loadPack (o : Origin) (p : Pack) (st : State) :
    exec (.loadPack o p) st = .next (st.after (st.chip.cmdLoadPack o p)) :=
  (show exec (.loadPack o p) st = execLoadPack o p st from rfl).trans rfl

theorem exec_enrollKey (o : Origin) (key : KeyCert) (st : State) :
    exec (.enrollKey o key) st = .next (st.after (st.chip.cmdEnrollKey o key)) :=
  (show exec (.enrollKey o key) st = execEnrollKey o key st from rfl).trans rfl

theorem exec_raiseFloor (o : Origin) (st : State) :
    exec (.raiseFloor o) st = .next (st.after (st.chip.cmdRaiseFloor o)) :=
  (show exec (.raiseFloor o) st = execRaiseFloor o st from rfl).trans rfl

theorem exec_writeFirmware (o : Origin) (f : Firmware) (st : State) :
    exec (.writeFirmware o f) st = .next (st.after (st.chip.cmdWriteFirmware o f)) :=
  (show exec (.writeFirmware o f) st = execWriteFirmware o f st from rfl).trans rfl

theorem exec_commission (o : Origin) (powers : List (Nat × BitVec 16)) (st : State) (hw : (powers.all (fun e => decide (e.1 < 2048))) = true) :
    exec (.commission o powers) st = .next (st.after (st.chip.cmdCommission o powers)) :=
  (show exec (.commission o powers) st = execCommission o powers st from rfl).trans (if_pos hw)

theorem exec_setTod (o : Origin) (st : State) :
    exec (.setTod o) st = .next (st.after (st.chip.cmdSetTod o)) :=
  (show exec (.setTod o) st = execSetTod o st from rfl).trans rfl

theorem exec_standby (o : Origin) (st : State) :
    exec (.standby o) st = .next (st.after (st.chip.cmdStandby o)) :=
  (show exec (.standby o) st = execStandby o st from rfl).trans rfl

theorem exec_wake (o : Origin) (st : State) :
    exec (.wake o) st = .next (st.after (st.chip.cmdWake o)) :=
  (show exec (.wake o) st = execWake o st from rfl).trans rfl

theorem exec_readFsig (o : Origin) (st : State) :
    exec (.readFsig o) st = .next ((st.store (st.chip.cmdReadFsig o).1).withChip (st.settled (st.chip.cmdReadFsig o).2)) :=
  (show exec (.readFsig o) st = execReadFsig o st from rfl).trans rfl

theorem exec_readRegs (o : Origin) (st : State) :
    exec (.readRegs o) st = .next (st.after (st.chip.cmdReadRegs o)) :=
  (show exec (.readRegs o) st = execReadRegs o st from rfl).trans rfl

theorem exec_readIdentity (o : Origin) (st : State) :
    exec (.readIdentity o) st = .next ((st.store (st.chip.cmdReadIdentity o).1).withChip (st.settled (st.chip.cmdReadIdentity o).2)) :=
  (show exec (.readIdentity o) st = execReadIdentity o st from rfl).trans rfl

theorem exec_quote (o : Origin) (st : State) :
    exec (.quote o) st = .next ((st.store (st.chip.cmdQuote o).1).withChip (st.settled (st.chip.cmdQuote o).2)) :=
  (show exec (.quote o) st = execQuote o st from rfl).trans rfl

theorem exec_readLog (o : Origin) (st : State) :
    exec (.readLog o) st = .next ((st.store (st.chip.cmdReadLog o).1).withChip (st.settled (st.chip.cmdReadLog o).2)) :=
  (show exec (.readLog o) st = execReadLog o st from rfl).trans rfl

theorem exec_controlOrder (o : Origin) (st : State) :
    exec (.controlOrder o) st = .next (st.after (st.chip.cmdControlOrder o)) :=
  (show exec (.controlOrder o) st = execControlOrder o st from rfl).trans rfl

theorem exec_switchMessageComplete (msg : HubMsg) (forTwin : Bool) (tagOk : Bool) (st : State) (hw : (msg.kind == 5 && decide (msg.body.length ≤ 65000)) = true) :
    exec (.switchMessageComplete msg forTwin tagOk) st = .next (st.after (st.chip.switchMessage msg forTwin tagOk)) :=
  (show exec (.switchMessageComplete msg forTwin tagOk) st = execSwitchMessageComplete msg forTwin tagOk st from rfl).trans (if_pos hw)

theorem exec_order (st : State) :
    exec .order st = .next (st.after (st.chip.order)) :=
  (show exec .order st = execOrder st from rfl).trans rfl

theorem exec_sInit (client : BitVec 20) (cert : KeyCert) (forTwin : Bool) (st : State) :
    exec (.sInit client cert forTwin) st = .next (st.after (st.chip.sInit client.toNat cert forTwin)) :=
  (show exec (.sInit client cert forTwin) st = execSInit client cert forTwin st from rfl).trans rfl

theorem exec_sConfirm (n : BitVec 16) (seq : BitVec 64) (sigOk : Bool) (tagOk : Bool) (st : State) :
    exec (.sConfirm n seq sigOk tagOk) st = .next (st.after (st.chip.sConfirm n.toNat seq.toNat sigOk tagOk)) :=
  (show exec (.sConfirm n seq sigOk tagOk) st = execSConfirm n seq sigOk tagOk st from rfl).trans rfl

theorem exec_sClose (n : BitVec 16) (seq : BitVec 64) (tagOk : Bool) (st : State) :
    exec (.sClose n seq tagOk) st = .next (st.after (st.chip.sClose n.toNat seq.toNat tagOk)) :=
  (show exec (.sClose n seq tagOk) st = execSClose n seq tagOk st from rfl).trans rfl

theorem exec_sessionIdleTimeout (h : Fin 2) (n : BitVec 16) (st : State) :
    exec (.sessionIdleTimeout h n) st = .next (st.after (st.chip.sessionIdle h n.toNat)) :=
  (show exec (.sessionIdleTimeout h n) st = execSessionIdleTimeout h n st from rfl).trans rfl

theorem exec_commandMessage (n : BitVec 16) (seq : BitVec 64) (tagOk : Bool) (cmd : Command) (st : State) (hw : (cmd.wf) = true) :
    exec (.commandMessage n seq tagOk cmd) st = .next (st.after (st.chip.commandMessage n.toNat seq.toNat tagOk cmd)) :=
  (show exec (.commandMessage n seq tagOk cmd) st = execCommandMessage n seq tagOk cmd st from rfl).trans (if_pos hw)

theorem exec_dataMessage (n : BitVec 16) (seq : BitVec 64) (tagOk : Bool) (offset : BitVec 64) (op : DataOp) (st : State) :
    exec (.dataMessage n seq tagOk offset op) st = .next ((st.store (st.chip.dataMessage st.read n.toNat seq.toNat tagOk offset.toNat op).1).withChip (st.settled (st.chip.dataMessage st.read n.toNat seq.toNat tagOk offset.toNat op).2)) :=
  (show exec (.dataMessage n seq tagOk offset op) st = execDataMessage n seq tagOk offset op st from rfl).trans rfl

theorem exec_getSetpoint (st : State) :
    exec .getSetpoint st = .next (st.after (st.chip.getSetpoint)) :=
  (show exec .getSetpoint st = execGetSetpoint st from rfl).trans rfl

theorem exec_getTemp (st : State) :
    exec .getTemp st = .next (st.after (st.chip.getTemp)) :=
  (show exec .getTemp st = execGetTemp st from rfl).trans rfl

theorem exec_getStatus (st : State) :
    exec .getStatus st = .next (st.after (st.chip.getStatus)) :=
  (show exec .getStatus st = execGetStatus st from rfl).trans rfl

theorem exec_getIdentity (st : State) :
    exec .getIdentity st = .next (st.after (st.chip.getIdentity)) :=
  (show exec .getIdentity st = execGetIdentity st from rfl).trans rfl

theorem exec_twBeatSend (st : State) :
    exec .twBeatSend st = .next (st.after (st.chip.twBeatSend)) :=
  (show exec .twBeatSend st = execTwBeatSend st from rfl).trans rfl

theorem exec_twBeat (l : Fin 2048) (sec : BitVec 48) (nsec : BitVec 32) (last : BitVec 64) (st : State) :
    exec (.twBeat l sec nsec last) st = .next (st.after (st.chip.twBeat l sec.toNat nsec.toNat last.toNat)) :=
  (show exec (.twBeat l sec nsec last) st = execTwBeat l sec nsec last st from rfl).trans rfl

theorem exec_twinLoss (beat : Bool) (st : State) :
    exec (.twinLoss beat) st = .next (st.after (st.chip.twinLoss beat)) :=
  (show exec (.twinLoss beat) st = execTwinLoss beat st from rfl).trans rfl

theorem exec_twLoss (l : Fin 2048) (st : State) :
    exec (.twLoss l) st = .next (st.after (st.chip.twLoss l)) :=
  (show exec (.twLoss l) st = execTwLoss l st from rfl).trans rfl

theorem exec_pairingTry (st : State) :
    exec .pairingTry st = .next (st.after (st.chip.pairingTry)) :=
  (show exec .pairingTry st = execPairingTry st from rfl).trans rfl

theorem exec_twHello (l : Fin 2048) (seq : Fin 256) (digest : BitVec 128) (chainOk : Bool) (st : State) :
    exec (.twHello l seq digest chainOk) st = .next (st.after (st.chip.twHello l seq digest chainOk)) :=
  (show exec (.twHello l seq digest chainOk) st = execTwHello l seq digest chainOk st from rfl).trans rfl

theorem exec_twAttest (l : Fin 2048) (seq : Fin 256) (verifies : Bool) (fw : BitVec 32) (img : BitVec 32) (floors : List (BitVec 32)) (st : State) (hw : (floors.length == 3) = true) :
    exec (.twAttest l seq verifies fw img floors) st = .next (st.after (st.chip.twAttest l seq verifies fw.toNat img.toNat (floors.map (·.toNat)))) :=
  (show exec (.twAttest l seq verifies fw img floors) st = execTwAttest l seq verifies fw img floors st from rfl).trans (if_pos hw)

theorem exec_twKem (l : Fin 2048) (seq : Fin 256) (st : State) :
    exec (.twKem l seq) st = .next (st.after (st.chip.twKem l seq)) :=
  (show exec (.twKem l seq) st = execTwKem l seq st from rfl).trans rfl

theorem exec_twIndex (l : Fin 2048) (seq : Fin 256) (entries : List (Nat × Nat × Nat)) (st : State) (hw : (entries.all (fun e => decide (e.1 < 4096))) = true) :
    exec (.twIndex l seq entries) st = .next (st.after (st.chip.twIndex l seq entries)) :=
  (show exec (.twIndex l seq entries) st = execTwIndex l seq entries st from rfl).trans (if_pos hw)

theorem exec_twMirror (l : Fin 2048) (stream : BitVec 64) (tagOk : Bool) (r : MirrorRec) (st : State) :
    exec (.twMirror l stream tagOk r) st = .next (st.after (st.chip.twMirror l stream.toNat tagOk r)) :=
  (show exec (.twMirror l stream tagOk r) st = execTwMirror l stream tagOk r st from rfl).trans rfl

theorem exec_twDetach (l : Fin 2048) (seq : Fin 256) (st : State) :
    exec (.twDetach l seq) st = .next (st.after (st.chip.twDetach l seq)) :=
  (show exec (.twDetach l seq) st = execTwDetach l seq st from rfl).trans rfl

theorem exec_twAck (l : Fin 2048) (seq : Fin 256) (st : State) :
    exec (.twAck l seq) st = .next (st.after (st.chip.twAck l seq)) :=
  (show exec (.twAck l seq) st = execTwAck l seq st from rfl).trans rfl

theorem exec_pairingTimeout (st : State) :
    exec .pairingTimeout st = .next (st.after (st.chip.pairingTimeout)) :=
  (show exec .pairingTimeout st = execPairingTimeout st from rfl).trans rfl

theorem exec_detachTimeout (st : State) :
    exec .detachTimeout st = .next (st.after (st.chip.detachTimeout)) :=
  (show exec .detachTimeout st = execDetachTimeout st from rfl).trans rfl

theorem exec_ledgerRequest (d : Fin 40) (act : Activity) (st : State) (hw : (act.wfOn d) = true) :
    exec (.ledgerRequest d act) st = .next (st.after (st.chip.ledgerRequest d act)) :=
  (show exec (.ledgerRequest d act) st = execLedgerRequest d act st from rfl).trans (if_pos hw)

theorem exec_ledgerTick (d : Fin 40) (st : State) :
    exec (.ledgerTick d) st = .next (st.after (st.chip.ledgerTick d)) :=
  (show exec (.ledgerTick d) st = execLedgerTick d st from rfl).trans rfl

theorem exec_ledgerWaitNotice (d : Fin 40) (i : Fin 64) (st : State) :
    exec (.ledgerWaitNotice d i) st = .next (st.after (st.chip.waitNotice d i)) :=
  (show exec (.ledgerWaitNotice d i) st = execLedgerWaitNotice d i st from rfl).trans rfl

theorem exec_hbmScrubDue (k : Fin 8) (stack : Fin 2) (st : State) :
    exec (.hbmScrubDue k stack) st = .next (st.after (st.chip.hbmScrubDue k stack)) :=
  (show exec (.hbmScrubDue k stack) st = execHbmScrubDue k stack st from rfl).trans rfl

theorem exec_hbmScrubDone (k : Fin 8) (stack : Fin 2) (corr : Nat) (bad : List HbmBad) (st : State) (hw : (bad.all (·.wf)) = true) :
    exec (.hbmScrubDone k stack corr bad) st = .next (st.after (st.chip.hbmScrubDone k stack corr bad)) :=
  (show exec (.hbmScrubDone k stack corr bad) st = execHbmScrubDone k stack corr bad st from rfl).trans (if_pos hw)

theorem exec_pmcLoRead (v : Via) (d : Fin 40) (n : Fin 40) (st : State) :
    exec (.pmcLoRead v d n) st = .next (st.after (st.chip.pmcLoRead v d n)) :=
  (show exec (.pmcLoRead v d n) st = execPmcLoRead v d n st from rfl).trans rfl

theorem exec_pmcHiWrite (d : Fin 40) (n : Fin 32) (w : Word) (st : State) :
    exec (.pmcHiWrite d n w) st = .next (st.after (st.chip.pmcHiWrite d n w)) :=
  (show exec (.pmcHiWrite d n w) st = execPmcHiWrite d n w st from rfl).trans rfl

theorem exec_pmcLoWrite (d : Fin 40) (n : Fin 32) (w : Word) (st : State) :
    exec (.pmcLoWrite d n w) st = .next (st.after (st.chip.pmcLoWrite d n w)) :=
  (show exec (.pmcLoWrite d n w) st = execPmcLoWrite d n w st from rfl).trans rfl

theorem exec_pmcOverflow (d : Fin 40) (n : Fin 32) (events : Nat) (st : State) :
    exec (.pmcOverflow d n events) st = .next (st.after (st.chip.pmcOverflow d n events)) :=
  (show exec (.pmcOverflow d n events) st = execPmcOverflow d n events st from rfl).trans rfl

theorem exec_ringLightAppears (d : Fin 32) (f : Fin 8) (ring : Option (Fin 17)) (st : State) :
    exec (.ringLightAppears d f ring) st = .next (st.after (st.chip.ringLightAppears d f (ring.map (·.val)))) :=
  (show exec (.ringLightAppears d f ring) st = execRingLightAppears d f ring st from rfl).trans rfl

theorem exec_pllLossOfLock (d : Fin 40) (b : Option (Fin 8)) (st : State) :
    exec (.pllLossOfLock d b) st = .next (st.after (st.chip.pllLossOfLock d (b.map (·.val)))) :=
  (show exec (.pllLossOfLock d b) st = execPllLossOfLock d b st from rfl).trans rfl

theorem exec_uplinkSchedulerFault (d : Fin 32) (st : State) :
    exec (.uplinkSchedulerFault d) st = .next (st.after (st.chip.uplinkSchedulerFault d)) :=
  (show exec (.uplinkSchedulerFault d) st = execUplinkSchedulerFault d st from rfl).trans rfl

theorem exec_slotCrossbarFault (k : Fin 8) (st : State) :
    exec (.slotCrossbarFault k) st = .next (st.after (st.chip.slotCrossbarFault k)) :=
  (show exec (.slotCrossbarFault k) st = execSlotCrossbarFault k st from rfl).trans rfl

theorem exec_firmwareGoDark (st : State) :
    exec .firmwareGoDark st = .next (st.after (st.chip.goDark)) :=
  (show exec .firmwareGoDark st = execFirmwareGoDark st from rfl).trans rfl

theorem exec_resetEnd (t : ResetTarget) (st : State) :
    exec (.resetEnd t) st = .next (st.after (st.chip.resetDone t)) :=
  (show exec (.resetEnd t) st = execResetEnd t st from rfl).trans rfl

theorem exec_standbyExitDone (st : State) :
    exec .standbyExitDone st = .next (st.after (st.chip.standbyExitDone)) :=
  (show exec .standbyExitDone st = execStandbyExitDone st from rfl).trans rfl

theorem exec_recipeStepsDone (n : Fin 4096) (pos : Nat) (ecc : Bool) (st : State) :
    exec (.recipeStepsDone n pos ecc) st = .next (st.after (st.chip.recipeStepsDone n pos ecc)) :=
  (show exec (.recipeStepsDone n pos ecc) st = execRecipeStepsDone n pos ecc st from rfl).trans rfl

theorem exec_recordCopyDone (k : Fin 8) (i : Fin 64) (st : State) :
    exec (.recordCopyDone k i) st = .next (st.after (st.chip.recordCopyDone k i)) :=
  (show exec (.recordCopyDone k i) st = execRecordCopyDone k i st from rfl).trans rfl

theorem exec_ptmRequest (h : Fin 2) (st : State) :
    exec (.ptmRequest h) st = .next (st.after (st.chip.ptmRequest h)) :=
  (show exec (.ptmRequest h) st = execPtmRequest h st from rfl).trans rfl

theorem exec_ptpDelayReqSend (x : Fin 2) (dest : BitVec 20) (id : BitVec 16) (body : List Byte) (st : State) (hw : (decide (body.length ≤ 65000)) = true) :
    exec (.ptpDelayReqSend x dest id body) st = .next (st.after (st.chip.ptpDelayReq x dest.toNat id.toNat (body.map (·.toNat)))) :=
  (show exec (.ptpDelayReqSend x dest id body) st = execPtpDelayReqSend x dest id body st from rfl).trans (if_pos hw)

theorem exec_ppsOutFall (st : State) :
    exec .ppsOutFall st = .next (st.after (st.chip.ppsOutFall)) :=
  (show exec .ppsOutFall st = execPpsOutFall st from rfl).trans rfl

theorem exec_badSizeAccess (h : Fin 2) (st : State) :
    exec (.badSizeAccess h) st = .next (st.after (st.chip.badSize h)) :=
  (show exec (.badSizeAccess h) st = execBadSizeAccess h st from rfl).trans rfl

end Sys2Proof.Machine
end

