-- ==== Sys2Proof/Laws/Exec.lean ====
section
/-!
SUPPORT. What a command can do, said once for all of them: a well-formed one changes the chip, and only six write hub memory; any other
faults.
-/

namespace Sys2Proof.Machine

/-- Does the command write hub memory? -/
def storesInHub : Instr → Bool
  | .stateCopyDone .. => true
  | .readFsig .. => true
  | .readIdentity .. => true
  | .quote .. => true
  | .readLog .. => true
  | .dataMessage .. => true
  | _ => false

/-- A well-formed command that does not write hub memory changes the chip; one that does also stores bytes; an ill-formed one faults. -/
theorem exec_forms (i : Instr) (s : State) :
    (i.wf = true ∧ storesInHub i = false ∧ ∃ f, exec i s = s.run f) ∨ (i.wf = true ∧ storesInHub i = true ∧ ∃ f, exec i s = s.runMem f)
      ∨ (i.wf = false ∧ exec i s = .fault .illFormed) := by
  have guard (b : Bool) (f : Chip → Chip) : (b = true ∧ false = false ∧ ∃ g, (if b then s.run f else Host.Outcome.fault Fault.illFormed) = s.run g)
      ∨ (b = true ∧ false = true ∧ ∃ g, (if b then s.run f else Host.Outcome.fault Fault.illFormed) = s.runMem g)
      ∨ (b = false ∧ (if b then s.run f else Host.Outcome.fault Fault.illFormed) = .fault .illFormed) := by
    cases b
    · exact .inr (.inr ⟨rfl, rfl⟩)
    · exact .inl ⟨rfl, rfl, f, rfl⟩
  cases i
  case registerWrite v a w => rw [show exec (.registerWrite v a w) s = execRegisterWrite v a w s from rfl]; exact .inl ⟨rfl, rfl, _, rfl⟩
  case latchedRead v a => rw [show exec (.latchedRead v a) s = execLatchedRead v a s from rfl]; exact .inl ⟨rfl, rfl, _, rfl⟩
  case hubHeartbeatSend h => rw [show exec (.hubHeartbeatSend h) s = execHubHeartbeatSend h s from rfl]; exact .inl ⟨rfl, rfl, _, rfl⟩
  case hubTakeover => rw [show exec .hubTakeover s = execHubTakeover s from rfl]; exact .inl ⟨rfl, rfl, _, rfl⟩
  case heartbeatPathLost path => rw [show exec (.heartbeatPathLost path) s = execHeartbeatPathLost path s from rfl]; exact .inl ⟨rfl, rfl, _, rfl⟩
  case blockFirebreakDrainTimeout d b => rw [show exec (.blockFirebreakDrainTimeout d b) s = execBlockFirebreakDrainTimeout d b s from rfl]; exact .inl ⟨rfl, rfl, _, rfl⟩
  case noticeEntry d q => rw [show exec (.noticeEntry d q) s = execNoticeEntry d q s from rfl]; exact .inl ⟨rfl, rfl, _, rfl⟩
  case nqTailWrite d q tail => rw [show exec (.nqTailWrite d q tail) s = execNqTailWrite d q tail s from rfl]; exact .inl ⟨rfl, rfl, _, rfl⟩
  case csStagingWrite v a w => rw [show exec (.csStagingWrite v a w) s = execCsStagingWrite v a w s from rfl]; exact .inl ⟨rfl, rfl, _, rfl⟩
  case commitApply v d g => rw [show exec (.commitApply v d g) s = execCommitApply v d g s from rfl]; exact .inl ⟨rfl, rfl, _, rfl⟩
  case commitDiscard v d g => rw [show exec (.commitDiscard v d g) s = execCommitDiscard v d g s from rfl]; exact .inl ⟨rfl, rfl, _, rfl⟩
  case commitChecksDone d g => rw [show exec (.commitChecksDone d g) s = execCommitChecksDone d g s from rfl]; exact .inl ⟨rfl, rfl, _, rfl⟩
  case snapshotApply d g => rw [show exec (.snapshotApply d g) s = execSnapshotApply d g s from rfl]; exact .inl ⟨rfl, rfl, _, rfl⟩
  case bootImageLoad => rw [show exec .bootImageLoad s = execBootImageLoad s from rfl]; exact .inl ⟨rfl, rfl, _, rfl⟩
  case partialLoadSwitch d => rw [show exec (.partialLoadSwitch d) s = execPartialLoadSwitch d s from rfl]; exact .inl ⟨rfl, rfl, _, rfl⟩
  case blockReadmit d b => rw [show exec (.blockReadmit d b) s = execBlockReadmit d b s from rfl]; exact .inl ⟨rfl, rfl, _, rfl⟩
  case staleReloadDone d b => rw [show exec (.staleReloadDone d b) s = execStaleReloadDone d b s from rfl]; exact .inl ⟨rfl, rfl, _, rfl⟩
  case fecBlockReceive l no ok corrected tag slots => rw [show exec (.fecBlockReceive l no ok corrected tag slots) s = execFecBlockReceive l no ok corrected tag slots s from rfl]; exact guard _ _
  case cellIngress l x ecc => rw [show exec (.cellIngress l x ecc) s = execCellIngress l x ecc s from rfl]; exact .inl ⟨rfl, rfl, _, rfl⟩
  case fecWindowEnd d => rw [show exec (.fecWindowEnd d) s = execFecWindowEnd d s from rfl]; exact .inl ⟨rfl, rfl, _, rfl⟩
  case blockLockAcquire l => rw [show exec (.blockLockAcquire l) s = execBlockLockAcquire l s from rfl]; exact .inl ⟨rfl, rfl, _, rfl⟩
  case blockLockLoss l => rw [show exec (.blockLockLoss l) s = execBlockLockLoss l s from rfl]; exact .inl ⟨rfl, rfl, _, rfl⟩
  case hello l seq sid lane role => rw [show exec (.hello l seq sid lane role) s = execHello l seq sid lane role s from rfl]; exact .inl ⟨rfl, rfl, _, rfl⟩
  case creditInit l seq limits => rw [show exec (.creditInit l seq limits) s = execCreditInit l seq limits s from rfl]; exact guard _ _
  case creditInitAck l seq => rw [show exec (.creditInitAck l seq) s = execCreditInitAck l seq s from rfl]; exact .inl ⟨rfl, rfl, _, rfl⟩
  case credit l mask limits => rw [show exec (.credit l mask limits) s = execCredit l mask limits s from rfl]; exact guard _ _
  case creditSync l seq mask sents => rw [show exec (.creditSync l seq mask sents) s = execCreditSync l seq mask sents s from rfl]; exact guard _ _
  case syncReq l seq => rw [show exec (.syncReq l seq) s = execSyncReq l seq s from rfl]; exact .inl ⟨rfl, rfl, _, rfl⟩
  case drain l seq => rw [show exec (.drain l seq) s = execDrain l seq s from rfl]; exact .inl ⟨rfl, rfl, _, rfl⟩
  case drainAck l seq => rw [show exec (.drainAck l seq) s = execDrainAck l seq s from rfl]; exact .inl ⟨rfl, rfl, _, rfl⟩
  case resume l seq => rw [show exec (.resume l seq) s = execResume l seq s from rfl]; exact .inl ⟨rfl, rfl, _, rfl⟩
  case drowsy l seq depth => rw [show exec (.drowsy l seq depth) s = execDrowsy l seq depth s from rfl]; exact .inl ⟨rfl, rfl, _, rfl⟩
  case drowsyAck l seq => rw [show exec (.drowsyAck l seq) s = execDrowsyAck l seq s from rfl]; exact .inl ⟨rfl, rfl, _, rfl⟩
  case wakeReq l seq => rw [show exec (.wakeReq l seq) s = execWakeReq l seq s from rfl]; exact .inl ⟨rfl, rfl, _, rfl⟩
  case awake l seq => rw [show exec (.awake l seq) s = execAwake l seq s from rfl]; exact .inl ⟨rfl, rfl, _, rfl⟩
  case retune l seq => rw [show exec (.retune l seq) s = execRetune l seq s from rfl]; exact .inl ⟨rfl, rfl, _, rfl⟩
  case retuneAck l seq status => rw [show exec (.retuneAck l seq status) s = execRetuneAck l seq status s from rfl]; exact .inl ⟨rfl, rfl, _, rfl⟩
  case reservedLcOp l op => rw [show exec (.reservedLcOp l op) s = execReservedLcOp l op s from rfl]; exact .inl ⟨rfl, rfl, _, rfl⟩
  case lcRepeatTimeout l op seq => rw [show exec (.lcRepeatTimeout l op seq) s = execLcRepeatTimeout l op seq s from rfl]; exact .inl ⟨rfl, rfl, _, rfl⟩
  case creditAdvertiseTimer l => rw [show exec (.creditAdvertiseTimer l) s = execCreditAdvertiseTimer l s from rfl]; exact .inl ⟨rfl, rfl, _, rfl⟩
  case creditSyncTimer l => rw [show exec (.creditSyncTimer l) s = execCreditSyncTimer l s from rfl]; exact .inl ⟨rfl, rfl, _, rfl⟩
  case trainingPhaseDone l => rw [show exec (.trainingPhaseDone l) s = execTrainingPhaseDone l s from rfl]; exact .inl ⟨rfl, rfl, _, rfl⟩
  case trainingPhaseTimeout l => rw [show exec (.trainingPhaseTimeout l) s = execTrainingPhaseTimeout l s from rfl]; exact .inl ⟨rfl, rfl, _, rfl⟩
  case helloRetry l => rw [show exec (.helloRetry l) s = execHelloRetry l s from rfl]; exact .inl ⟨rfl, rfl, _, rfl⟩
  case trainRetry l => rw [show exec (.trainRetry l) s = execTrainRetry l s from rfl]; exact .inl ⟨rfl, rfl, _, rfl⟩
  case drainTimeout l => rw [show exec (.drainTimeout l) s = execDrainTimeout l s from rfl]; exact .inl ⟨rfl, rfl, _, rfl⟩
  case wakeBurstDetect l => rw [show exec (.wakeBurstDetect l) s = execWakeBurstDetect l s from rfl]; exact .inl ⟨rfl, rfl, _, rfl⟩
  case searchStart d => rw [show exec (.searchStart d) s = execSearchStart d s from rfl]; exact .inl ⟨rfl, rfl, _, rfl⟩
  case ringSweepDone d f r light dips => rw [show exec (.ringSweepDone d f r light dips) s = execRingSweepDone d f r light dips s from rfl]; exact .inl ⟨rfl, rfl, _, rfl⟩
  case ringLockCapture d f r => rw [show exec (.ringLockCapture d f r) s = execRingLockCapture d f r s from rfl]; exact .inl ⟨rfl, rfl, _, rfl⟩
  case ringCaptureTimeout d f r => rw [show exec (.ringCaptureTimeout d f r) s = execRingCaptureTimeout d f r s from rfl]; exact .inl ⟨rfl, rfl, _, rfl⟩
  case toneCheckWindow d f r amp below above ref => rw [show exec (.toneCheckWindow d f r amp below above ref) s = execToneCheckWindow d f r amp below above ref s from rfl]; exact .inl ⟨rfl, rfl, _, rfl⟩
  case ringRecoveryDone d f r captured => rw [show exec (.ringRecoveryDone d f r captured) s = execRingRecoveryDone d f r captured s from rfl]; exact .inl ⟨rfl, rfl, _, rfl⟩
  case lockSlip d f r => rw [show exec (.lockSlip d f r) s = execLockSlip d f r s from rfl]; exact .inl ⟨rfl, rfl, _, rfl⟩
  case ringLightLoss d f r => rw [show exec (.ringLightLoss d f r) s = execRingLightLoss d f r s from rfl]; exact .inl ⟨rfl, rfl, _, rfl⟩
  case ringLightRestored d f r => rw [show exec (.ringLightRestored d f r) s = execRingLightRestored d f r s from rfl]; exact .inl ⟨rfl, rfl, _, rfl⟩
  case lockLoopUpdate d f r code => rw [show exec (.lockLoopUpdate d f r code) s = execLockLoopUpdate d f r code s from rfl]; exact .inl ⟨rfl, rfl, _, rfl⟩
  case calibrationDue l => rw [show exec (.calibrationDue l) s = execCalibrationDue l s from rfl]; exact .inl ⟨rfl, rfl, _, rfl⟩
  case calibrationDone l us => rw [show exec (.calibrationDone l us) s = execCalibrationDone l us s from rfl]; exact .inl ⟨rfl, rfl, _, rfl⟩
  case fadeReading d powers spares => rw [show exec (.fadeReading d powers spares) s = execFadeReading d powers spares s from rfl]; exact guard _ _
  case swapTrainTimeout l => rw [show exec (.swapTrainTimeout l) s = execSwapTrainTimeout l s from rfl]; exact .inl ⟨rfl, rfl, _, rfl⟩
  case optReturnFromSpare d => rw [show exec (.optReturnFromSpare d) s = execOptReturnFromSpare d s from rfl]; exact .inl ⟨rfl, rfl, _, rfl⟩
  case optCalibrateNow d => rw [show exec (.optCalibrateNow d) s = execOptCalibrateNow d s from rfl]; exact .inl ⟨rfl, rfl, _, rfl⟩
  case optSearchAgain d => rw [show exec (.optSearchAgain d) s = execOptSearchAgain d s from rfl]; exact .inl ⟨rfl, rfl, _, rfl⟩
  case optClearFadeHold d => rw [show exec (.optClearFadeHold d) s = execOptClearFadeHold d s from rfl]; exact .inl ⟨rfl, rfl, _, rfl⟩
  case clearingSetup d => rw [show exec (.clearingSetup d) s = execClearingSetup d s from rfl]; exact .inl ⟨rfl, rfl, _, rfl⟩
  case clearingTeardown d => rw [show exec (.clearingTeardown d) s = execClearingTeardown d s from rfl]; exact .inl ⟨rfl, rfl, _, rfl⟩
  case clearSetSend d r k => rw [show exec (.clearSetSend d r k) s = execClearSetSend d r k s from rfl]; exact .inl ⟨rfl, rfl, _, rfl⟩
  case clearAck l seq handle status => rw [show exec (.clearAck l seq handle status) s = execClearAck l seq handle status s from rfl]; exact .inl ⟨rfl, rfl, _, rfl⟩
  case clearDrained l seq handle lane => rw [show exec (.clearDrained l seq handle lane) s = execClearDrained l seq handle lane s from rfl]; exact .inl ⟨rfl, rfl, _, rfl⟩
  case clearDrainedTimeout d r k => rw [show exec (.clearDrainedTimeout d r k) s = execClearDrainedTimeout d r k s from rfl]; exact .inl ⟨rfl, rfl, _, rfl⟩
  case clearingImageTeardown d r k => rw [show exec (.clearingImageTeardown d r k) s = execClearingImageTeardown d r k s from rfl]; exact .inl ⟨rfl, rfl, _, rfl⟩
  case uplinkSchedule d => rw [show exec (.uplinkSchedule d) s = execUplinkSchedule d s from rfl]; exact .inl ⟨rfl, rfl, _, rfl⟩
  case safHoldExpiry d e cls => rw [show exec (.safHoldExpiry d e cls) s = execSafHoldExpiry d e cls s from rfl]; exact .inl ⟨rfl, rfl, _, rfl⟩
  case envelopeLandCore d k => rw [show exec (.envelopeLandCore d k) s = execEnvelopeLandCore d k s from rfl]; exact .inl ⟨rfl, rfl, _, rfl⟩
  case crossbarArbitrate k => rw [show exec (.crossbarArbitrate k) s = execCrossbarArbitrate k s from rfl]; exact .inl ⟨rfl, rfl, _, rfl⟩
  case envelopeLandEgress d k => rw [show exec (.envelopeLandEgress d k) s = execEnvelopeLandEgress d k s from rfl]; exact .inl ⟨rfl, rfl, _, rfl⟩
  case stalledCellPlace d => rw [show exec (.stalledCellPlace d) s = execStalledCellPlace d s from rfl]; exact .inl ⟨rfl, rfl, _, rfl⟩
  case laneAssign d => rw [show exec (.laneAssign d) s = execLaneAssign d s from rfl]; exact .inl ⟨rfl, rfl, _, rfl⟩
  case laneCellSlot l => rw [show exec (.laneCellSlot l) s = execLaneCellSlot l s from rfl]; exact .inl ⟨rfl, rfl, _, rfl⟩
  case d2dBeatUncorrectable d k up again => rw [show exec (.d2dBeatUncorrectable d k up again) s = execD2dBeatUncorrectable d k up again s from rfl]; exact .inl ⟨rfl, rfl, _, rfl⟩
  case d2dReplayLimit d k up => rw [show exec (.d2dReplayLimit d k up) s = execD2dReplayLimit d k up s from rfl]; exact .inl ⟨rfl, rfl, _, rfl⟩
  case d2dRetrainDone d k => rw [show exec (.d2dRetrainDone d k) s = execD2dRetrainDone d k s from rfl]; exact .inl ⟨rfl, rfl, _, rfl⟩
  case envCreditReturn d k e => rw [show exec (.envCreditReturn d k e) s = execEnvCreditReturn d k e s from rfl]; exact .inl ⟨rfl, rfl, _, rfl⟩
  case landingCreditReturn d k => rw [show exec (.landingCreditReturn d k) s = execLandingCreditReturn d k s from rfl]; exact .inl ⟨rfl, rfl, _, rfl⟩
  case holdMaskSample d => rw [show exec (.holdMaskSample d) s = execHoldMaskSample d s from rfl]; exact .inl ⟨rfl, rfl, _, rfl⟩
  case holdMaskRelay k => rw [show exec (.holdMaskRelay k) s = execHoldMaskRelay k s from rfl]; exact .inl ⟨rfl, rfl, _, rfl⟩
  case holdMaskApply d => rw [show exec (.holdMaskApply d) s = execHoldMaskApply d s from rfl]; exact .inl ⟨rfl, rfl, _, rfl⟩
  case spillUnpark k e => rw [show exec (.spillUnpark k e) s = execSpillUnpark k e s from rfl]; exact .inl ⟨rfl, rfl, _, rfl⟩
  case spillLifetimeExpiry k e cls => rw [show exec (.spillLifetimeExpiry k e cls) s = execSpillLifetimeExpiry k e cls s from rfl]; exact .inl ⟨rfl, rfl, _, rfl⟩
  case spillExpiryWindowEnd k => rw [show exec (.spillExpiryWindowEnd k) s = execSpillExpiryWindowEnd k s from rfl]; exact .inl ⟨rfl, rfl, _, rfl⟩
  case leakAuditDue d pool => rw [show exec (.leakAuditDue d pool) s = execLeakAuditDue d pool s from rfl]; exact guard _ _
  case leakAuditDone d pool linkBad => rw [show exec (.leakAuditDone d pool linkBad) s = execLeakAuditDone d pool linkBad s from rfl]; exact guard _ _
  case levelSatDwell what d u enter us => rw [show exec (.levelSatDwell what d u enter us) s = execLevelSatDwell what d u enter us s from rfl]; exact guard _ _
  case shaperRefill d p sh => rw [show exec (.shaperRefill d p sh) s = execShaperRefill d p sh s from rfl]; exact .inl ⟨rfl, rfl, _, rfl⟩
  case policerRefill d p cls => rw [show exec (.policerRefill d p cls) s = execPolicerRefill d p cls s from rfl]; exact .inl ⟨rfl, rfl, _, rfl⟩
  case launchPrepare d i => rw [show exec (.launchPrepare d i) s = execLaunchPrepare d i s from rfl]; exact .inl ⟨rfl, rfl, _, rfl⟩
  case lateLaunch d p cls => rw [show exec (.lateLaunch d p cls) s = execLateLaunch d p cls s from rfl]; exact .inl ⟨rfl, rfl, _, rfl⟩
  case tblNone d => rw [show exec (.tblNone d) s = execTblNone d s from rfl]; exact .inl ⟨rfl, rfl, _, rfl⟩
  case tblWrite d => rw [show exec (.tblWrite d) s = execTblWrite d s from rfl]; exact .inl ⟨rfl, rfl, _, rfl⟩
  case tblInsert d => rw [show exec (.tblInsert d) s = execTblInsert d s from rfl]; exact .inl ⟨rfl, rfl, _, rfl⟩
  case tblDelete d => rw [show exec (.tblDelete d) s = execTblDelete d s from rfl]; exact .inl ⟨rfl, rfl, _, rfl⟩
  case tblRead d => rw [show exec (.tblRead d) s = execTblRead d s from rfl]; exact .inl ⟨rfl, rfl, _, rfl⟩
  case tblClear d => rw [show exec (.tblClear d) s = execTblClear d s from rfl]; exact .inl ⟨rfl, rfl, _, rfl⟩
  case flowLearnInsert d => rw [show exec (.flowLearnInsert d) s = execFlowLearnInsert d s from rfl]; exact .inl ⟨rfl, rfl, _, rfl⟩
  case tableScrubDue d => rw [show exec (.tableScrubDue d) s = execTableScrubDue d s from rfl]; exact .inl ⟨rfl, rfl, _, rfl⟩
  case tableScrubDone d corr bad => rw [show exec (.tableScrubDone d corr bad) s = execTableScrubDone d corr bad s from rfl]; exact guard _ _
  case stgOpen k => rw [show exec (.stgOpen k) s = execStgOpen k s from rfl]; exact .inl ⟨rfl, rfl, _, rfl⟩
  case stgClose k => rw [show exec (.stgClose k) s = execStgClose k s from rfl]; exact .inl ⟨rfl, rfl, _, rfl⟩
  case stgForceClose k => rw [show exec (.stgForceClose k) s = execStgForceClose k s from rfl]; exact .inl ⟨rfl, rfl, _, rfl⟩
  case stageRepair l k slot src tag first last => rw [show exec (.stageRepair l k slot src tag first last) s = execStageRepair l k slot src tag first last s from rfl]; exact .inl ⟨rfl, rfl, _, rfl⟩
  case stageRelease l k slot src tag => rw [show exec (.stageRelease l k slot src tag) s = execStageRelease l k slot src tag s from rfl]; exact .inl ⟨rfl, rfl, _, rfl⟩
  case synAlloc k => rw [show exec (.synAlloc k) s = execSynAlloc k s from rfl]; exact .inl ⟨rfl, rfl, _, rfl⟩
  case rollLoadDone n => rw [show exec (.rollLoadDone n) s = execRollLoadDone n s from rfl]; exact .inl ⟨rfl, rfl, _, rfl⟩
  case synFree k => rw [show exec (.synFree k) s = execSynFree k s from rfl]; exact .inl ⟨rfl, rfl, _, rfl⟩
  case dropMember k => rw [show exec (.dropMember k) s = execDropMember k s from rfl]; exact .inl ⟨rfl, rfl, _, rfl⟩
  case synRead k => rw [show exec (.synRead k) s = execSynRead k s from rfl]; exact .inl ⟨rfl, rfl, _, rfl⟩
  case contributionCell k x => rw [show exec (.contributionCell k x) s = execContributionCell k x s from rfl]; exact .inl ⟨rfl, rfl, _, rfl⟩
  case pendingRelease k => rw [show exec (.pendingRelease k) s = execPendingRelease k s from rfl]; exact .inl ⟨rfl, rfl, _, rfl⟩
  case progressTimeout n => rw [show exec (.progressTimeout n) s = execProgressTimeout n s from rfl]; exact .inl ⟨rfl, rfl, _, rfl⟩
  case collectiveTimeout n => rw [show exec (.collectiveTimeout n) s = execCollectiveTimeout n s from rfl]; exact .inl ⟨rfl, rfl, _, rfl⟩
  case residueCheckDone n pos err => rw [show exec (.residueCheckDone n pos err) s = execResidueCheckDone n pos err s from rfl]; exact .inl ⟨rfl, rfl, _, rfl⟩
  case rerunVerdict n pos err differs => rw [show exec (.rerunVerdict n pos err differs) s = execRerunVerdict n pos err differs s from rfl]; exact .inl ⟨rfl, rfl, _, rfl⟩
  case sealNoticeGap n => rw [show exec (.sealNoticeGap n) s = execSealNoticeGap n s from rfl]; exact .inl ⟨rfl, rfl, _, rfl⟩
  case abortHoldExpiry n => rw [show exec (.abortHoldExpiry n) s = execAbortHoldExpiry n s from rfl]; exact .inl ⟨rfl, rfl, _, rfl⟩
  case quarantineExpiry n => rw [show exec (.quarantineExpiry n) s = execQuarantineExpiry n s from rfl]; exact .inl ⟨rfl, rfl, _, rfl⟩
  case homeDieReadmit k => rw [show exec (.homeDieReadmit k) s = execHomeDieReadmit k s from rfl]; exact .inl ⟨rfl, rfl, _, rfl⟩
  case loadMatrix k => rw [show exec (.loadMatrix k) s = execLoadMatrix k s from rfl]; exact .inl ⟨rfl, rfl, _, rfl⟩
  case dropMatrix k => rw [show exec (.dropMatrix k) s = execDropMatrix k s from rfl]; exact .inl ⟨rfl, rfl, _, rfl⟩
  case loadRecipe k => rw [show exec (.loadRecipe k) s = execLoadRecipe k s from rfl]; exact .inl ⟨rfl, rfl, _, rfl⟩
  case dropRecipe k => rw [show exec (.dropRecipe k) s = execDropRecipe k s from rfl]; exact .inl ⟨rfl, rfl, _, rfl⟩
  case bind k => rw [show exec (.bind k) s = execBind k s from rfl]; exact .inl ⟨rfl, rfl, _, rfl⟩
  case bindZeroDone k i => rw [show exec (.bindZeroDone k i) s = execBindZeroDone k i s from rfl]; exact .inl ⟨rfl, rfl, _, rfl⟩
  case unbind k => rw [show exec (.unbind k) s = execUnbind k s from rfl]; exact .inl ⟨rfl, rfl, _, rfl⟩
  case stateCopy k => rw [show exec (.stateCopy k) s = execStateCopy k s from rfl]; exact .inl ⟨rfl, rfl, _, rfl⟩
  case stateCopyDone k i => rw [show exec (.stateCopyDone k i) s = execStateCopyDone k i s from rfl]; exact .inr (.inl ⟨rfl, rfl, _, rfl⟩)
  case trfRead k => rw [show exec (.trfRead k) s = execTrfRead k s from rfl]; exact .inl ⟨rfl, rfl, _, rfl⟩
  case quizDue u => rw [show exec (.quizDue u) s = execQuizDue u s from rfl]; exact guard _ _
  case quizRequest d => rw [show exec (.quizRequest d) s = execQuizRequest d s from rfl]; exact .inl ⟨rfl, rfl, _, rfl⟩
  case quizEnd u abort boot runs => rw [show exec (.quizEnd u abort boot runs) s = execQuizEnd u abort boot runs s from rfl]; exact guard _ _
  case provisionalRerun u id => rw [show exec (.provisionalRerun u id) s = execProvisionalRerun u id s from rfl]; exact guard _ _
  case ptpMessage l number raw => rw [show exec (.ptpMessage l number raw) s = execPtpMessage l number raw s from rfl]; exact .inl ⟨rfl, rfl, _, rfl⟩
  case ppsInEdge pin => rw [show exec (.ppsInEdge pin) s = execPpsInEdge pin s from rfl]; exact .inl ⟨rfl, rfl, _, rfl⟩
  case domainHoldover x => rw [show exec (.domainHoldover x) s = execDomainHoldover x s from rfl]; exact .inl ⟨rfl, rfl, _, rfl⟩
  case domainFaultClear x => rw [show exec (.domainFaultClear x) s = execDomainFaultClear x s from rfl]; exact .inl ⟨rfl, rfl, _, rfl⟩
  case slewDone => rw [show exec .slewDone s = execSlewDone s from rfl]; exact .inl ⟨rfl, rfl, _, rfl⟩
  case ppsOutEdge => rw [show exec .ppsOutEdge s = execPpsOutEdge s from rfl]; exact .inl ⟨rfl, rfl, _, rfl⟩
  case tsqEntry d => rw [show exec (.tsqEntry d) s = execTsqEntry d s from rfl]; exact .inl ⟨rfl, rfl, _, rfl⟩
  case tsqTailWrite d tail => rw [show exec (.tsqTailWrite d tail) s = execTsqTailWrite d tail s from rfl]; exact .inl ⟨rfl, rfl, _, rfl⟩
  case bellArm d x i => rw [show exec (.bellArm d x i) s = execBellArm d x i s from rfl]; exact .inl ⟨rfl, rfl, _, rfl⟩
  case bellCancel d x i => rw [show exec (.bellCancel d x i) s = execBellCancel d x i s from rfl]; exact .inl ⟨rfl, rfl, _, rfl⟩
  case bellFire d i => rw [show exec (.bellFire d i) s = execBellFire d i s from rfl]; exact .inl ⟨rfl, rfl, _, rfl⟩
  case railWarnCrossing d rail => rw [show exec (.railWarnCrossing d rail) s = execRailWarnCrossing d rail s from rfl]; exact .inl ⟨rfl, rfl, _, rfl⟩
  case sagPinAssert => rw [show exec .sagPinAssert s = execSagPinAssert s from rfl]; exact .inl ⟨rfl, rfl, _, rfl⟩
  case sagClear => rw [show exec .sagClear s = execSagClear s from rfl]; exact .inl ⟨rfl, rfl, _, rfl⟩
  case railResetCrossing rail => rw [show exec (.railResetCrossing rail) s = execRailResetCrossing rail s from rfl]; exact .inl ⟨rfl, rfl, _, rfl⟩
  case clk25Loss => rw [show exec .clk25Loss s = execClk25Loss s from rfl]; exact .inl ⟨rfl, rfl, _, rfl⟩
  case pllLockFail d b => rw [show exec (.pllLockFail d b) s = execPllLockFail d b s from rfl]; exact .inl ⟨rfl, rfl, _, rfl⟩
  case tileIdle d t idle => rw [show exec (.tileIdle d t idle) s = execTileIdle d t idle s from rfl]; exact .inl ⟨rfl, rfl, _, rfl⟩
  case recessEntry d b => rw [show exec (.recessEntry d b) s = execRecessEntry d b s from rfl]; exact .inl ⟨rfl, rfl, _, rfl⟩
  case deepRecessEntry d b => rw [show exec (.deepRecessEntry d b) s = execDeepRecessEntry d b s from rfl]; exact .inl ⟨rfl, rfl, _, rfl⟩
  case sleepEntry d => rw [show exec (.sleepEntry d) s = execSleepEntry d s from rfl]; exact .inl ⟨rfl, rfl, _, rfl⟩
  case recessWake d b => rw [show exec (.recessWake d b) s = execRecessWake d b s from rfl]; exact .inl ⟨rfl, rfl, _, rfl⟩
  case blockWake d b => rw [show exec (.blockWake d b) s = execBlockWake d b s from rfl]; exact .inl ⟨rfl, rfl, _, rfl⟩
  case dieWake d => rw [show exec (.dieWake d) s = execDieWake d s from rfl]; exact .inl ⟨rfl, rfl, _, rfl⟩
  case restart b => rw [show exec (.restart b) s = execRestart b s from rfl]; exact .inl ⟨rfl, rfl, _, rfl⟩
  case powerReset => rw [show exec .powerReset s = execPowerReset s from rfl]; exact .inl ⟨rfl, rfl, _, rfl⟩
  case chipReset => rw [show exec .chipReset s = execChipReset s from rfl]; exact .inl ⟨rfl, rfl, _, rfl⟩
  case planeDataReset => rw [show exec .planeDataReset s = execPlaneDataReset s from rfl]; exact .inl ⟨rfl, rfl, _, rfl⟩
  case planeControlReset => rw [show exec .planeControlReset s = execPlaneControlReset s from rfl]; exact .inl ⟨rfl, rfl, _, rfl⟩
  case planeMgmtReset h => rw [show exec (.planeMgmtReset h) s = execPlaneMgmtReset h s from rfl]; exact .inl ⟨rfl, rfl, _, rfl⟩
  case regionReset d => rw [show exec (.regionReset d) s = execRegionReset d s from rfl]; exact .inl ⟨rfl, rfl, _, rfl⟩
  case blockReset d b => rw [show exec (.blockReset d b) s = execBlockReset d b s from rfl]; exact .inl ⟨rfl, rfl, _, rfl⟩
  case tileReset d t => rw [show exec (.tileReset d t) s = execTileReset d t s from rfl]; exact .inl ⟨rfl, rfl, _, rfl⟩
  case linkReset h => rw [show exec (.linkReset h) s = execLinkReset h s from rfl]; exact .inl ⟨rfl, rfl, _, rfl⟩
  case tempReading d t => rw [show exec (.tempReading d t) s = execTempReading d t s from rfl]; exact .inl ⟨rfl, rfl, _, rfl⟩
  case thermalShutdown d => rw [show exec (.thermalShutdown d) s = execThermalShutdown d s from rfl]; exact .inl ⟨rfl, rfl, _, rfl⟩
  case watchdogHalf h which => rw [show exec (.watchdogHalf h which) s = execWatchdogHalf h which s from rfl]; exact .inl ⟨rfl, rfl, _, rfl⟩
  case watchdogExpiry h which => rw [show exec (.watchdogExpiry h which) s = execWatchdogExpiry h which s from rfl]; exact .inl ⟨rfl, rfl, _, rfl⟩
  case commandPickup h win slot cmd => rw [show exec (.commandPickup h win slot cmd) s = execCommandPickup h win slot cmd s from rfl]; exact guard _ _
  case serialCommandStart => rw [show exec .serialCommandStart s = execSerialCommandStart s from rfl]; exact .inl ⟨rfl, rfl, _, rfl⟩
  case nop o => rw [show exec (.nop o) s = execNop o s from rfl]; exact .inl ⟨rfl, rfl, _, rfl⟩
  case loadImage o img => rw [show exec (.loadImage o img) s = execLoadImage o img s from rfl]; exact .inl ⟨rfl, rfl, _, rfl⟩
  case writeImage o img => rw [show exec (.writeImage o img) s = execWriteImage o img s from rfl]; exact .inl ⟨rfl, rfl, _, rfl⟩
  case writeRepair o r => rw [show exec (.writeRepair o r) s = execWriteRepair o r s from rfl]; exact .inl ⟨rfl, rfl, _, rfl⟩
  case loadPack o p => rw [show exec (.loadPack o p) s = execLoadPack o p s from rfl]; exact .inl ⟨rfl, rfl, _, rfl⟩
  case enrollKey o key => rw [show exec (.enrollKey o key) s = execEnrollKey o key s from rfl]; exact .inl ⟨rfl, rfl, _, rfl⟩
  case raiseFloor o => rw [show exec (.raiseFloor o) s = execRaiseFloor o s from rfl]; exact .inl ⟨rfl, rfl, _, rfl⟩
  case writeFirmware o f => rw [show exec (.writeFirmware o f) s = execWriteFirmware o f s from rfl]; exact .inl ⟨rfl, rfl, _, rfl⟩
  case commission o powers => rw [show exec (.commission o powers) s = execCommission o powers s from rfl]; exact guard _ _
  case setTod o => rw [show exec (.setTod o) s = execSetTod o s from rfl]; exact .inl ⟨rfl, rfl, _, rfl⟩
  case standby o => rw [show exec (.standby o) s = execStandby o s from rfl]; exact .inl ⟨rfl, rfl, _, rfl⟩
  case wake o => rw [show exec (.wake o) s = execWake o s from rfl]; exact .inl ⟨rfl, rfl, _, rfl⟩
  case readFsig o => rw [show exec (.readFsig o) s = execReadFsig o s from rfl]; exact .inr (.inl ⟨rfl, rfl, _, rfl⟩)
  case readRegs o => rw [show exec (.readRegs o) s = execReadRegs o s from rfl]; exact .inl ⟨rfl, rfl, _, rfl⟩
  case readIdentity o => rw [show exec (.readIdentity o) s = execReadIdentity o s from rfl]; exact .inr (.inl ⟨rfl, rfl, _, rfl⟩)
  case quote o => rw [show exec (.quote o) s = execQuote o s from rfl]; exact .inr (.inl ⟨rfl, rfl, _, rfl⟩)
  case readLog o => rw [show exec (.readLog o) s = execReadLog o s from rfl]; exact .inr (.inl ⟨rfl, rfl, _, rfl⟩)
  case controlOrder o => rw [show exec (.controlOrder o) s = execControlOrder o s from rfl]; exact .inl ⟨rfl, rfl, _, rfl⟩
  case switchMessageComplete msg forTwin tagOk => rw [show exec (.switchMessageComplete msg forTwin tagOk) s = execSwitchMessageComplete msg forTwin tagOk s from rfl]; exact guard _ _
  case order => rw [show exec .order s = execOrder s from rfl]; exact .inl ⟨rfl, rfl, _, rfl⟩
  case sInit client cert forTwin => rw [show exec (.sInit client cert forTwin) s = execSInit client cert forTwin s from rfl]; exact .inl ⟨rfl, rfl, _, rfl⟩
  case sConfirm n seq sigOk tagOk => rw [show exec (.sConfirm n seq sigOk tagOk) s = execSConfirm n seq sigOk tagOk s from rfl]; exact .inl ⟨rfl, rfl, _, rfl⟩
  case sClose n seq tagOk => rw [show exec (.sClose n seq tagOk) s = execSClose n seq tagOk s from rfl]; exact .inl ⟨rfl, rfl, _, rfl⟩
  case sessionIdleTimeout h n => rw [show exec (.sessionIdleTimeout h n) s = execSessionIdleTimeout h n s from rfl]; exact .inl ⟨rfl, rfl, _, rfl⟩
  case commandMessage n seq tagOk cmd => rw [show exec (.commandMessage n seq tagOk cmd) s = execCommandMessage n seq tagOk cmd s from rfl]; exact guard _ _
  case dataMessage n seq tagOk offset op => rw [show exec (.dataMessage n seq tagOk offset op) s = execDataMessage n seq tagOk offset op s from rfl]; exact .inr (.inl ⟨rfl, rfl, _, rfl⟩)
  case getSetpoint => rw [show exec .getSetpoint s = execGetSetpoint s from rfl]; exact .inl ⟨rfl, rfl, _, rfl⟩
  case getTemp => rw [show exec .getTemp s = execGetTemp s from rfl]; exact .inl ⟨rfl, rfl, _, rfl⟩
  case getStatus => rw [show exec .getStatus s = execGetStatus s from rfl]; exact .inl ⟨rfl, rfl, _, rfl⟩
  case getIdentity => rw [show exec .getIdentity s = execGetIdentity s from rfl]; exact .inl ⟨rfl, rfl, _, rfl⟩
  case twBeatSend => rw [show exec .twBeatSend s = execTwBeatSend s from rfl]; exact .inl ⟨rfl, rfl, _, rfl⟩
  case twBeat l sec nsec last => rw [show exec (.twBeat l sec nsec last) s = execTwBeat l sec nsec last s from rfl]; exact .inl ⟨rfl, rfl, _, rfl⟩
  case twinLoss beat => rw [show exec (.twinLoss beat) s = execTwinLoss beat s from rfl]; exact .inl ⟨rfl, rfl, _, rfl⟩
  case twLoss l => rw [show exec (.twLoss l) s = execTwLoss l s from rfl]; exact .inl ⟨rfl, rfl, _, rfl⟩
  case pairingTry => rw [show exec .pairingTry s = execPairingTry s from rfl]; exact .inl ⟨rfl, rfl, _, rfl⟩
  case twHello l seq digest chainOk => rw [show exec (.twHello l seq digest chainOk) s = execTwHello l seq digest chainOk s from rfl]; exact .inl ⟨rfl, rfl, _, rfl⟩
  case twAttest l seq verifies fw img floors => rw [show exec (.twAttest l seq verifies fw img floors) s = execTwAttest l seq verifies fw img floors s from rfl]; exact guard _ _
  case twKem l seq => rw [show exec (.twKem l seq) s = execTwKem l seq s from rfl]; exact .inl ⟨rfl, rfl, _, rfl⟩
  case twIndex l seq entries => rw [show exec (.twIndex l seq entries) s = execTwIndex l seq entries s from rfl]; exact guard _ _
  case twMirror l stream tagOk r => rw [show exec (.twMirror l stream tagOk r) s = execTwMirror l stream tagOk r s from rfl]; exact .inl ⟨rfl, rfl, _, rfl⟩
  case twDetach l seq => rw [show exec (.twDetach l seq) s = execTwDetach l seq s from rfl]; exact .inl ⟨rfl, rfl, _, rfl⟩
  case twAck l seq => rw [show exec (.twAck l seq) s = execTwAck l seq s from rfl]; exact .inl ⟨rfl, rfl, _, rfl⟩
  case pairingTimeout => rw [show exec .pairingTimeout s = execPairingTimeout s from rfl]; exact .inl ⟨rfl, rfl, _, rfl⟩
  case detachTimeout => rw [show exec .detachTimeout s = execDetachTimeout s from rfl]; exact .inl ⟨rfl, rfl, _, rfl⟩
  case ledgerRequest d act => rw [show exec (.ledgerRequest d act) s = execLedgerRequest d act s from rfl]; exact guard _ _
  case ledgerTick d => rw [show exec (.ledgerTick d) s = execLedgerTick d s from rfl]; exact .inl ⟨rfl, rfl, _, rfl⟩
  case ledgerWaitNotice d i => rw [show exec (.ledgerWaitNotice d i) s = execLedgerWaitNotice d i s from rfl]; exact .inl ⟨rfl, rfl, _, rfl⟩
  case hbmScrubDue k stack => rw [show exec (.hbmScrubDue k stack) s = execHbmScrubDue k stack s from rfl]; exact .inl ⟨rfl, rfl, _, rfl⟩
  case hbmScrubDone k stack corr bad => rw [show exec (.hbmScrubDone k stack corr bad) s = execHbmScrubDone k stack corr bad s from rfl]; exact guard _ _
  case pmcLoRead v d n => rw [show exec (.pmcLoRead v d n) s = execPmcLoRead v d n s from rfl]; exact .inl ⟨rfl, rfl, _, rfl⟩
  case pmcHiWrite d n w => rw [show exec (.pmcHiWrite d n w) s = execPmcHiWrite d n w s from rfl]; exact .inl ⟨rfl, rfl, _, rfl⟩
  case pmcLoWrite d n w => rw [show exec (.pmcLoWrite d n w) s = execPmcLoWrite d n w s from rfl]; exact .inl ⟨rfl, rfl, _, rfl⟩
  case pmcOverflow d n events => rw [show exec (.pmcOverflow d n events) s = execPmcOverflow d n events s from rfl]; exact .inl ⟨rfl, rfl, _, rfl⟩
  case ringLightAppears d f ring => rw [show exec (.ringLightAppears d f ring) s = execRingLightAppears d f ring s from rfl]; exact .inl ⟨rfl, rfl, _, rfl⟩
  case pllLossOfLock d b => rw [show exec (.pllLossOfLock d b) s = execPllLossOfLock d b s from rfl]; exact .inl ⟨rfl, rfl, _, rfl⟩
  case uplinkSchedulerFault d => rw [show exec (.uplinkSchedulerFault d) s = execUplinkSchedulerFault d s from rfl]; exact .inl ⟨rfl, rfl, _, rfl⟩
  case slotCrossbarFault k => rw [show exec (.slotCrossbarFault k) s = execSlotCrossbarFault k s from rfl]; exact .inl ⟨rfl, rfl, _, rfl⟩
  case firmwareGoDark => rw [show exec .firmwareGoDark s = execFirmwareGoDark s from rfl]; exact .inl ⟨rfl, rfl, _, rfl⟩
  case resetEnd t => rw [show exec (.resetEnd t) s = execResetEnd t s from rfl]; exact .inl ⟨rfl, rfl, _, rfl⟩
  case standbyExitDone => rw [show exec .standbyExitDone s = execStandbyExitDone s from rfl]; exact .inl ⟨rfl, rfl, _, rfl⟩
  case recipeStepsDone n pos ecc => rw [show exec (.recipeStepsDone n pos ecc) s = execRecipeStepsDone n pos ecc s from rfl]; exact .inl ⟨rfl, rfl, _, rfl⟩
  case recordCopyDone k i => rw [show exec (.recordCopyDone k i) s = execRecordCopyDone k i s from rfl]; exact .inl ⟨rfl, rfl, _, rfl⟩
  case ptmRequest h => rw [show exec (.ptmRequest h) s = execPtmRequest h s from rfl]; exact .inl ⟨rfl, rfl, _, rfl⟩
  case ptpDelayReqSend x dest id body => rw [show exec (.ptpDelayReqSend x dest id body) s = execPtpDelayReqSend x dest id body s from rfl]; exact guard _ _
  case ppsOutFall => rw [show exec .ppsOutFall s = execPpsOutFall s from rfl]; exact .inl ⟨rfl, rfl, _, rfl⟩
  case badSizeAccess h => rw [show exec (.badSizeAccess h) s = execBadSizeAccess h s from rfl]; exact .inl ⟨rfl, rfl, _, rfl⟩

/-- A well-formed command completes, and leaves the queue as it is. -/
theorem exec_completes (i : Instr) (s : State) (h : i.wf = true) : ∃ t, exec i s = .next t ∧ t.pending = s.pending := by
  rcases exec_forms i s with ⟨_, _, f, e⟩ | ⟨_, _, f, e⟩ | ⟨w, _⟩
  · exact ⟨_, e, by simp⟩
  · exact ⟨_, e, by simp⟩
  · rw [h] at w; cases w

end Sys2Proof.Machine
end

