-- ==== Sys2Proof/Laws/Steps.lean ====
section
/-!
SUPPORT. Laws of shared operations, each saying once what the operation can do: notices and the host event ring, hub roles, the slot
crossbar's matching, and the relay of hold masks. Provers cite them instead of unfolding the operations.
-/

namespace Sys2Proof.Machine

/-! ### From a meaning to the next state -/

/-- A command whose chip leaves no trigger waiting answers a next state that differs from it in lanes, twin and draws at most. -/
theorem State.next_calm {i : Instr} {s : State} {c' c : Chip} (he : exec i s = .next (s.after c')) (hcc : c' = c) (hd : c.integ.due = []) :
    ∃ t, exec i s = .next t ∧ t.pending = s.pending ∧ ∃ x tw n, t.chip = { c with lanes := x, twin := tw, draws := n } := by
  subst hcc
  obtain ⟨x, tw, n, h⟩ := State.settled_eq s c' hd
  exact ⟨_, he, State.after_pending _ _, x, tw, n, by rw [State.after_chip, h]⟩

/-- The same for a chip that is not PAIRED: the next state holds exactly that chip. -/
theorem State.next_solo {i : Instr} {s : State} {c' c : Chip} (he : exec i s = .next (s.after c')) (hcc : c' = c) (hd : c.integ.due = []) (ht : s.chip.twinSt ≠ 2) :
    ∃ t, exec i s = .next t ∧ t.pending = s.pending ∧ t.chip = c := by
  subst hcc
  exact ⟨_, he, State.after_pending _ _, by rw [State.after_chip, State.settled_solo s c' hd ht]⟩

/-! ### Notices and the host event ring -/

/-- Staging a notice leaves firebreaks and ledgers alone. -/
theorem Chip.nqStage_integ (c : Chip) (d q : Nat) (e : BitVec 128) : (c.nqStage d q e).integ = c.integ := by
  unfold Chip.nqStage Chip.nqTurnAway; dsimp only; split <;> simp
theorem Chip.post_integ (c : Chip) (d ty sev die level block tile detail : Nat) : (c.post d ty sev die level block tile detail).integ = c.integ := by
  unfold Chip.post; split
  · rfl
  · dsimp only; split <;> split <;> simp [Chip.nqStage_integ]

/-- A vector signalled changes only its hub. -/
theorem Chip.signal_nq (c : Chip) (h v : Nat) : (c.signal h v).nq = c.nq ∧ (c.signal h v).integ = c.integ ∧ ∀ a, (c.signal h v).rd a = c.rd a := ⟨rfl, rfl, fun _ => rfl⟩

/-- An entry in the host event ring changes its hub and the ring's two registers. -/
theorem Chip.evqPush_frame (c : Chip) (h : Nat) (e : BitVec 128) : (c.evqPush h e).nq = c.nq ∧ (c.evqPush h e).integ = c.integ ∧
    ∀ a, a ≠ R.MGT_EVQ_PTR (hubDie h) → a ≠ R.MGT_EVQ_STAT (hubDie h) → (c.evqPush h e).rd a = c.rd a := by
  unfold Chip.evqPush; dsimp only
  generalize R.MGT_EVQ_PTR (hubDie h) = P; generalize R.MGT_EVQ_STAT (hubDie h) = S
  split
  · refine ⟨by simp, by simp, ?_⟩; intro a h1 h2; rw [Chip.incSat, Chip.rd_set_other _ _ _ h2]
  · split
    · obtain ⟨s1, s2, s3⟩ := Chip.signal_nq ((c.modHub h (fun x => { x with events := SMap.set (fun _ => 0) x.events (c.get P F.MGT_EVQ_PTR_HEAD % 4096) e })).set P F.MGT_EVQ_PTR_HEAD (c.get P F.MGT_EVQ_PTR_HEAD + 1)) h 62
      refine ⟨?_, ?_, ?_⟩
      · rw [s1, Chip.set_nq]; rfl
      · rw [s2, Chip.set_integ]; rfl
      · intro a h1 h2; rw [s3, Chip.rd_set_other _ _ _ h1]; rfl
    · refine ⟨?_, ?_, ?_⟩
      · rw [Chip.set_nq]; rfl
      · rw [Chip.set_integ]; rfl
      · intro a h1 h2; rw [Chip.rd_set_other _ _ _ h1]; rfl

/-- HOST_EVENT_ENTRY changes a hub and the registers of its ring. -/
theorem Chip.copyToHost_frame (c : Chip) (e : BitVec 128) : (c.copyToHost e).nq = c.nq ∧ (c.copyToHost e).integ = c.integ ∧
    ∀ a, (∀ h, a ≠ R.MGT_EVQ_PTR (hubDie h)) → (∀ h, a ≠ R.MGT_EVQ_STAT (hubDie h)) → (c.copyToHost e).rd a = c.rd a := by
  unfold Chip.copyToHost; split
  · exact ⟨rfl, rfl, fun _ _ _ => rfl⟩
  · split
    · rename_i h _ _
      obtain ⟨a1, a2, a3⟩ := Chip.evqPush_frame c h e
      exact ⟨a1, a2, fun a h1 h2 => a3 a (h1 _) (h2 _)⟩
    · exact ⟨rfl, rfl, fun _ _ _ => rfl⟩

/-- A queue signalled keeps its entries. -/
theorem Chip.nqSignal_frame (c : Chip) (d q : Nat) : (c.nqSignal d q).nq.entries = c.nq.entries ∧ (c.nqSignal d q).nq.staged = c.nq.staged ∧
    (c.nqSignal d q).nq.next = c.nq.next ∧ (c.nqSignal d q).integ = c.integ ∧ ∀ a, (c.nqSignal d q).rd a = c.rd a := ⟨rfl, rfl, rfl, rfl, fun _ => rfl⟩

/-- A notice that its queue takes: the entry at HEAD, and HEAD moves on. -/
theorem Chip.nqTake_enters (c : Chip) (d q : Nat) (e : BitVec 128)
    (hn : c.nqCount d q ≤ 960 ∨ (c.nqCount d q < 1024 ∧ entrySev e = 2)) :
    (c.nqTake d q e).nq.entries = SMap.set (fun _ => 0) c.nq.entries ((d * 2 + q) * 1024 + c.get (nqPtr d q) nqHead % 1024) e ∧
    (c.nqTake d q e).nq.staged = c.nq.staged ∧ (c.nqTake d q e).nq.next = c.nq.next ∧ (c.nqTake d q e).integ = c.integ ∧
    (c.nqTake d q e).rd (nqPtr d q) = (c.set (nqPtr d q) nqHead (c.get (nqPtr d q) nqHead + 1)).rd (nqPtr d q) := by
  have p1 : ∀ h, nqPtr d q ≠ R.MGT_EVQ_PTR (hubDie h) := by
    intro h; unfold nqPtr hubDie R.MGT_EVQ_PTR R.FLT_NQ_CTL_PTR R.FLT_NQ_MGT_PTR dieBase; split <;> split <;> omega
  have p2 : ∀ h, nqPtr d q ≠ R.MGT_EVQ_STAT (hubDie h) := by
    intro h; unfold nqPtr hubDie R.MGT_EVQ_STAT R.FLT_NQ_CTL_PTR R.FLT_NQ_MGT_PTR dieBase; split <;> split <;> omega
  have p3 : nqPtr d q ≠ R.FLT_NQ_STATUS d := by
    simp only [nqPtr, R.FLT_NQ_CTL_PTR, R.FLT_NQ_MGT_PTR, R.FLT_NQ_STATUS]; split <;> omega
  unfold Chip.nqTake; dsimp only
  rw [if_neg (by omega), if_neg (by omega)]
  unfold Chip.showReserve
  generalize hP : nqPtr d q = P at *
  generalize hS : R.FLT_NQ_STATUS d = S at *
  have fr : ∀ u : Chip, (u.nq.entries = SMap.set (fun _ => 0) c.nq.entries ((d * 2 + q) * 1024 + c.get P nqHead % 1024) e ∧ u.nq.staged = c.nq.staged ∧ u.nq.next = c.nq.next ∧ u.integ = c.integ ∧ u.rd P = (c.set P nqHead (c.get P nqHead + 1)).rd P) →
      (let c3 := u; (if q = 1 then match c3.primary with | some h => if (c3.hub h).mgmtUp then c3.copyToHost e else c3 | none => c3 else c3).nq.entries = SMap.set (fun _ => 0) c.nq.entries ((d * 2 + q) * 1024 + c.get P nqHead % 1024) e ∧
        (if q = 1 then match c3.primary with | some h => if (c3.hub h).mgmtUp then c3.copyToHost e else c3 | none => c3 else c3).nq.staged = c.nq.staged ∧
        (if q = 1 then match c3.primary with | some h => if (c3.hub h).mgmtUp then c3.copyToHost e else c3 | none => c3 else c3).nq.next = c.nq.next ∧
        (if q = 1 then match c3.primary with | some h => if (c3.hub h).mgmtUp then c3.copyToHost e else c3 | none => c3 else c3).integ = c.integ ∧
        (if q = 1 then match c3.primary with | some h => if (c3.hub h).mgmtUp then c3.copyToHost e else c3 | none => c3 else c3).rd P = (c.set P nqHead (c.get P nqHead + 1)).rd P) := by
    intro u hu; dsimp only
    have cp : ((u.copyToHost e).nq.entries = SMap.set (fun _ => 0) c.nq.entries ((d * 2 + q) * 1024 + c.get P nqHead % 1024) e ∧ (u.copyToHost e).nq.staged = c.nq.staged ∧ (u.copyToHost e).nq.next = c.nq.next ∧ (u.copyToHost e).integ = c.integ ∧ (u.copyToHost e).rd P = (c.set P nqHead (c.get P nqHead + 1)).rd P) := by
      obtain ⟨a1, a2, a3⟩ := Chip.copyToHost_frame u e
      rw [a1, a2, a3 P p1 p2]; exact hu
    split
    · split
      · split
        · exact cp
        · exact hu
      · exact hu
    · exact hu
  apply fr
  have base : ∀ n v, ((({ c with nq := { c.nq with entries := n } } : Chip).set P nqHead (c.get P nqHead + 1)).set S (nqReserve q) v).rd P = (c.set P nqHead (c.get P nqHead + 1)).rd P := by
    intro n v; rw [Chip.rd_set_other _ _ _ p3]; rfl
  split
  · refine ⟨?_, ?_, ?_, ?_, ?_⟩
    · rw [(Chip.nqSignal_frame _ _ _).1, Chip.set_nq, Chip.set_nq]
    · rw [(Chip.nqSignal_frame _ _ _).2.1, Chip.set_nq, Chip.set_nq]
    · rw [(Chip.nqSignal_frame _ _ _).2.2.1, Chip.set_nq, Chip.set_nq]
    · rw [(Chip.nqSignal_frame _ _ _).2.2.2.1, Chip.set_integ, Chip.set_integ]
    · rw [(Chip.nqSignal_frame _ _ _).2.2.2.2, base]
  · refine ⟨?_, ?_, ?_, ?_, ?_⟩
    · rw [Chip.set_nq, Chip.set_nq]
    · rw [Chip.set_nq, Chip.set_nq]
    · rw [Chip.set_nq, Chip.set_nq]
    · rw [Chip.set_integ, Chip.set_integ]
    · rw [base]

/-! ### Hub roles -/

/-- The chip v has the hub roles, fences, sessions and heartbeat paths of c, and its triggers. -/
structure KeepsHub (c v : Chip) : Prop where
  f : ∀ j, (v.hub j).fenced = (c.hub j).fenced
  s : ∀ j, (v.hub j).sessions = (c.hub j).sessions
  p : ∀ j, (v.hub j).pathLost = (c.hub j).pathLost
  i : v.integ = c.integ
  r1 : v.rd (R.MGT_ROLE 32) = c.rd (R.MGT_ROLE 32)
  r2 : v.rd (R.MGT_ROLE 39) = c.rd (R.MGT_ROLE 39)
theorem KeepsHub.trans {a b c : Chip} (h : KeepsHub a b) (g : KeepsHub b c) : KeepsHub a c :=
  ⟨fun j => (g.f j).trans (h.f j), fun j => (g.s j).trans (h.s j), fun j => (g.p j).trans (h.p j), g.i.trans h.i, g.r1.trans h.r1, g.r2.trans h.r2⟩
theorem keeps_modHub (c : Chip) (h : Nat) (f : Hub → Hub) (hf : ∀ x, (f x).fenced = x.fenced ∧ (f x).sessions = x.sessions ∧ (f x).pathLost = x.pathLost) :
    KeepsHub c (c.modHub h f) := by
  have hh : ∀ j, (c.modHub h f).hub j = if j = h then f (c.hub h) else c.hub j := by
    intro j; unfold Chip.modHub Chip.setHub Chip.hub; dsimp only
    by_cases e : j = h
    · subst e; rw [if_pos rfl, SMap.get_set_same]
    · rw [if_neg e, SMap.get_set_other _ _ _ e]
  refine ⟨?_, ?_, ?_, rfl, rfl, rfl⟩ <;> intro j <;> rw [hh] <;> split
  · rename_i e; subst e; exact (hf _).1
  · rfl
  · rename_i e; subst e; exact (hf _).2.1
  · rfl
  · rename_i e; subst e; exact (hf _).2.2
  · rfl
theorem keeps_set (c : Chip) (a : Nat) (f : Fld) (v : Nat) (h1 : R.MGT_ROLE 32 ≠ a) (h2 : R.MGT_ROLE 39 ≠ a) : KeepsHub c (c.set a f v) :=
  ⟨fun j => by rw [Chip.set_hub], fun j => by rw [Chip.set_hub], fun j => by rw [Chip.set_hub], Chip.set_integ .., Chip.rd_set_other _ _ _ h1, Chip.rd_set_other _ _ _ h2⟩
theorem keeps_signal (c : Chip) (h v : Nat) : KeepsHub c (c.signal h v) := by
  unfold Chip.signal; apply keeps_modHub; intro x; split
  · exact ⟨rfl, rfl, rfl⟩
  · split <;> exact ⟨rfl, rfl, rfl⟩
theorem role_ne (h : Nat) : R.MGT_ROLE 32 ≠ R.MGT_EVQ_PTR (hubDie h) ∧ R.MGT_ROLE 39 ≠ R.MGT_EVQ_PTR (hubDie h) ∧ R.MGT_ROLE 32 ≠ R.MGT_EVQ_STAT (hubDie h) ∧ R.MGT_ROLE 39 ≠ R.MGT_EVQ_STAT (hubDie h) := by
  unfold hubDie; split <;> decide
theorem keeps_evqPush (c : Chip) (h : Nat) (e : BitVec 128) : KeepsHub c (c.evqPush h e) := by
  obtain ⟨q1, q2, q3, q4⟩ := role_ne h
  unfold Chip.evqPush; dsimp only
  generalize R.MGT_EVQ_PTR (hubDie h) = P at *; generalize R.MGT_EVQ_STAT (hubDie h) = S at *
  split
  · rw [Chip.incSat]; exact keeps_set _ _ _ _ q3 q4
  · have k := (keeps_modHub c h (fun x => { x with events := SMap.set (fun _ => 0) x.events (c.get P F.MGT_EVQ_PTR_HEAD % 4096) e }) (fun x => ⟨rfl, rfl, rfl⟩)).trans
      (keeps_set _ P F.MGT_EVQ_PTR_HEAD (c.get P F.MGT_EVQ_PTR_HEAD + 1) q1 q2)
    split
    · exact k.trans (keeps_signal _ _ _)
    · exact k
theorem keeps_hubRole (c : Chip) (h x : Nat) : KeepsHub c (c.hubRole h x) := by
  unfold Chip.hubRole Chip.hostEvent; dsimp only
  rw [if_neg (by decide)]; exact keeps_evqPush _ _ _
theorem keeps_post (c : Chip) (d ty sev die level block tile detail : Nat) (hd : d = 32 ∨ d = 39) : KeepsHub c (c.post d ty sev die level block tile detail) := by
  obtain ⟨r, n, h, hr⟩ := Chip.post_eq c d ty sev die level block tile detail
  have st : ∀ (u : Chip) (q : Nat) (e : BitVec 128), KeepsHub u (u.nqStage d q e) := by
    intro u q e; unfold Chip.nqStage Chip.nqTurnAway; dsimp only
    have ne : ∀ b, (b = 32 ∨ b = 39) → R.MGT_ROLE b ≠ R.FLT_NQ_LOST d ∧ R.MGT_ROLE b ≠ R.FLT_NQ_STATUS d := by
      intro b hb; rcases hb with rfl | rfl <;> rcases hd with rfl | rfl <;> decide
    obtain ⟨a1, a2⟩ := ne 32 (.inl rfl); obtain ⟨b1, b2⟩ := ne 39 (.inr rfl)
    generalize R.FLT_NQ_LOST d = L at *; generalize R.FLT_NQ_STATUS d = S at *
    split
    · rw [if_pos rfl, Chip.incSat]; exact (keeps_set _ _ _ _ a1 b1).trans (keeps_set _ _ _ _ a2 b2)
    · exact ⟨fun _ => rfl, fun _ => rfl, fun _ => rfl, rfl, rfl, rfl⟩
  have rf : ∀ u : Chip, KeepsHub u u := fun u => ⟨fun _ => rfl, fun _ => rfl, fun _ => rfl, rfl, rfl, rfl⟩
  clear h hr
  unfold Chip.post; split
  · exact rf c
  · dsimp only; split <;> split
    · exact (st _ _ _).trans (st _ _ _)
    · exact st _ _ _
    · exact st _ _ _
    · exact rf c
theorem primary_of (c v : Chip) (h : KeepsHub c v) : v.primary = c.primary := by
  unfold Chip.primary Chip.flag Chip.get; rw [h.r1, h.r2]
theorem State.settled_primary (s : State) (v : Chip) (h : v.integ.due = []) : (s.settled v).primary = v.primary := by
  obtain ⟨x, tw, n, e⟩ := State.settled_eq s v h; rw [e]; rfl

/-! ### The slot crossbar (R207) -/

theorem bestBy_mem {α : Type} (m : α → Nat) : ∀ (l : List α) (x : α), bestBy m l = some x → x ∈ l := by
  intro l; induction l with
  | nil => intro x h; cases h
  | cons a t ih =>
    intro x h; rw [bestBy] at h; split at h
    · cases h; exact List.mem_cons_self
    · rename_i y hy; split at h
      · cases h; exact List.mem_cons_self
      · cases h; exact List.mem_cons_of_mem _ (ih _ hy)
/-- What a list of picks by distinct keys gives: picks of distinct keys. -/
theorem filterMap_key_nodup {α : Type} (key : α → Nat) (pick : Nat → Option α) (hk : ∀ i x, pick i = some x → key x = i) :
    ∀ l : List Nat, l.Nodup → ((l.filterMap pick).map key).Nodup := by
  intro l; induction l with
  | nil => intro _; simp
  | cons a t ih =>
    intro h; rw [List.nodup_cons] at h; rw [List.filterMap_cons]; split
    · exact ih h.2
    · rename_i x hx; rw [List.map_cons, List.nodup_cons]; refine ⟨?_, ih h.2⟩
      rw [hk _ _ hx]; intro hm; rw [List.mem_map] at hm; obtain ⟨y, hy, hya⟩ := hm
      rw [List.mem_filterMap] at hy; obtain ⟨b, hb, hyb⟩ := hy
      rw [hk _ _ hyb] at hya; subst hya; exact h.1 hb

/-- One iteration matches requests, each output and each input once. -/
theorem arbIterate_matches (g a : Nat → Nat) (reqs : List Req) :
    (∀ r ∈ arbIterate g a reqs, r ∈ reqs) ∧ ((arbIterate g a reqs).map (·.o)).Nodup ∧ ((arbIterate g a reqs).map (·.i)).Nodup := by
  unfold arbIterate; dsimp only
  generalize hg : (List.range 32).filterMap (fun o => bestBy (fun (r : Req) => r.rank ((r.i + 33 - g o) % 33)) (reqs.filter (fun r => r.o == o))) = grants
  have g1 : ∀ r ∈ grants, r ∈ reqs := by
    intro r hr; rw [← hg, List.mem_filterMap] at hr; obtain ⟨o, -, h⟩ := hr
    exact (List.mem_filter.1 (bestBy_mem _ _ _ h)).1
  have g2 : (grants.map (·.o)).Nodup := by
    rw [← hg]; apply filterMap_key_nodup _ _ _ _ List.nodup_range
    intro o r h; simpa using (List.mem_filter.1 (bestBy_mem _ _ _ h)).2
  have inj : ∀ x ∈ grants, ∀ y ∈ grants, x.o = y.o → x = y := by
    intro x hx y hy h; exact List.inj_on_of_nodup_map g2 hx hy h
  have a1 : ∀ i r, bestBy (fun (r : Req) => r.rank ((r.o + 32 - a i) % 32)) (grants.filter (fun r => r.i == i)) = some r → r.i = i ∧ r ∈ grants := by
    intro i r h; have := List.mem_filter.1 (bestBy_mem _ _ _ h); exact ⟨by simpa using this.2, this.1⟩
  have n1 : (((List.range 33).filterMap (fun i => bestBy (fun (r : Req) => r.rank ((r.o + 32 - a i) % 32)) (grants.filter (fun r => r.i == i)))).map (·.i)).Nodup :=
    filterMap_key_nodup _ _ (fun i r h => (a1 i r h).1) _ List.nodup_range
  refine ⟨?_, ?_, n1⟩
  · intro r hr; rw [List.mem_filterMap] at hr; obtain ⟨i, -, h⟩ := hr; exact g1 _ (a1 i r h).2
  · apply List.Nodup.map_on
    · intro x hx y hy h
      rw [List.mem_filterMap] at hx hy; obtain ⟨i, -, hx⟩ := hx; obtain ⟨j, -, hy⟩ := hy
      exact inj _ (a1 _ _ hx).2 _ (a1 _ _ hy).2 h
    · exact List.Nodup.of_map _ n1

/-- Matches among what is unmatched add to a matching. -/
theorem unmatched_adds (m reqs n : List Req) (hm : (∀ r ∈ m, r ∈ reqs) ∧ (m.map (·.o)).Nodup ∧ (m.map (·.i)).Nodup)
    (hn : (∀ r ∈ n, r ∈ unmatched m reqs) ∧ (n.map (·.o)).Nodup ∧ (n.map (·.i)).Nodup) :
    (∀ r ∈ m ++ n, r ∈ reqs) ∧ ((m ++ n).map (·.o)).Nodup ∧ ((m ++ n).map (·.i)).Nodup := by
  have hu : ∀ r ∈ n, r ∈ reqs ∧ ∀ x ∈ m, x.i ≠ r.i ∧ x.o ≠ r.o := by
    intro r hr; have := hn.1 r hr; unfold unmatched at this; rw [List.mem_filter] at this
    refine ⟨this.1, ?_⟩; intro x hx; have h2 := this.2
    simp only [Bool.not_eq_true', List.any_eq_false] at h2
    have := h2 x hx; simpa using this
  refine ⟨?_, ?_, ?_⟩
  · intro r hr; rcases List.mem_append.1 hr with h | h
    · exact hm.1 r h
    · exact (hu r h).1
  · rw [List.map_append, List.nodup_append]; refine ⟨hm.2.1, hn.2.1, ?_⟩
    intro a ha b hb; rw [List.mem_map] at ha hb; obtain ⟨x, hx, rfl⟩ := ha; obtain ⟨y, hy, rfl⟩ := hb
    exact ((hu y hy).2 x hx).2
  · rw [List.map_append, List.nodup_append]; refine ⟨hm.2.2, hn.2.2, ?_⟩
    intro a ha b hb; rw [List.mem_map] at ha hb; obtain ⟨x, hx, rfl⟩ := ha; obtain ⟨y, hy, rfl⟩ := hb
    exact ((hu y hy).2 x hx).1

/-- CROSSBAR_ARBITRATE: a matching of requests, whose heads are switched in turn. -/
theorem Chip.arbitrate_matches (c : Chip) (k : Nat) (h1 : c.planeRuns (32 + k) = true) (h2 : c.isolated (32 + k) = false) (h3 : c.dieRuns (32 + k) = true) :
    ∃ m : List Req, (m.map (·.o)).Nodup ∧ (m.map (·.i)).Nodup ∧ (∀ r ∈ m, r ∈ c.allReqs k) ∧
      ∃ g a, c.arbitrate k = m.foldl (fun c r => c.switchHead k r) (c.modSw (fun w => { w with gptr := g, aptr := a })) := by
  unfold Chip.arbitrate; rw [if_neg (by rw [h1, h2, h3]; decide)]; dsimp only
  generalize c.allReqs k = reqs
  generalize hm1 : arbIterate (fun o => sget c.sw.gptr (k * 32 + o)) (fun i => sget c.sw.aptr (k * 33 + i)) reqs = m1
  have p1 := arbIterate_matches (fun o => sget c.sw.gptr (k * 32 + o)) (fun i => sget c.sw.aptr (k * 33 + i)) reqs
  rw [hm1] at p1
  generalize (fun o => match m1.find? (fun r => r.o == o) with | some r => (r.i + 1) % 33 | none => sget c.sw.gptr (k * 32 + o)) = g'
  generalize (fun i => match m1.find? (fun r => r.i == i) with | some r => (r.o + 1) % 32 | none => sget c.sw.aptr (k * 33 + i)) = a'
  have p2 := unmatched_adds m1 reqs _ p1 (arbIterate_matches g' a' (unmatched m1 reqs))
  generalize m1 ++ arbIterate g' a' (unmatched m1 reqs) = m2 at *
  have p3 := unmatched_adds m2 reqs _ p2 (arbIterate_matches g' a' (unmatched m2 reqs))
  refine ⟨_, p3.2.1, p3.2.2, p3.1, ?_⟩
  have fw : ∀ (l : List Req) (w : Switch), ∃ g a, l.foldl (fun w r => { w with gptr := sset w.gptr (k * 32 + r.o) ((r.i + 1) % 33), aptr := sset w.aptr (k * 33 + r.i) ((r.o + 1) % 32) }) w = { w with gptr := g, aptr := a } := by
    intro l; induction l with
    | nil => intro w; exact ⟨w.gptr, w.aptr, rfl⟩
    | cons x t ih => intro w; rw [List.foldl_cons]; obtain ⟨g, a, h⟩ := ih { w with gptr := sset w.gptr (k * 32 + x.o) ((x.i + 1) % 33), aptr := sset w.aptr (k * 33 + x.i) ((x.o + 1) % 32) }; exact ⟨g, a, by rw [h]⟩
  obtain ⟨g, a, h⟩ := fw m1 c.sw
  refine ⟨g, a, ?_⟩
  have : c.modSw (fun w => m1.foldl (fun w r => { w with gptr := sset w.gptr (k * 32 + r.o) ((r.i + 1) % 33), aptr := sset w.aptr (k * 33 + r.i) ((r.o + 1) % 32) }) w) = c.modSw (fun w => { w with gptr := g, aptr := a }) := by
    unfold Chip.modSw; dsimp only; rw [h]
  rw [this]

/-! ### Hold masks (R227) -/

theorem holdRelay_inner (f : Nat → Nat) (d : Nat) : ∀ (L : List Nat) (w : Switch) (x y : Nat), (∀ e ∈ L, e < 32) → y < 32 →
    SMap.get (fun _ => none) (L.foldl (fun w e => { w with holdRelay := SMap.set (fun _ => none) w.holdRelay (d * 32 + e) (some (f e)) }) w).holdRelay (x * 32 + y) =
      if x = d ∧ y ∈ L then some (f y) else SMap.get (fun _ => none) w.holdRelay (x * 32 + y) := by
  intro L; induction L with
  | nil => intro w x y _ _; simp
  | cons a t ih =>
    intro w x y hL hy; rw [List.foldl_cons, ih _ _ _ (fun e he => hL e (List.mem_cons_of_mem _ he)) hy]
    have ha := hL a List.mem_cons_self
    by_cases h1 : x = d ∧ y ∈ t
    · rw [if_pos h1, if_pos ⟨h1.1, List.mem_cons_of_mem _ h1.2⟩]
    · rw [if_neg h1]
      by_cases h2 : x = d ∧ y = a
      · obtain ⟨rfl, rfl⟩ := h2; rw [if_pos ⟨rfl, List.mem_cons_self⟩]; dsimp only; rw [SMap.get_set_same]
      · have hne : x * 32 + y ≠ d * 32 + a := by intro h; apply h2; omega
        dsimp only; rw [SMap.get_set_other _ _ _ hne, if_neg]
        rintro ⟨h3, h4⟩; rcases List.mem_cons.1 h4 with h5 | h5
        · exact h2 ⟨h3, h5⟩
        · exact h1 ⟨h3, h5⟩
theorem holdRelay_fold (f : Nat → Nat) (S : List Nat) (hS : ∀ e ∈ S, e < 32) : ∀ (D : List Nat) (w : Switch) (x y : Nat), y < 32 →
    SMap.get (fun _ => none) (D.foldl (fun w d => S.foldl (fun w e => { w with holdRelay := SMap.set (fun _ => none) w.holdRelay (d * 32 + e) (some (f e)) }) w) w).holdRelay (x * 32 + y) =
      if x ∈ D ∧ y ∈ S then some (f y) else SMap.get (fun _ => none) w.holdRelay (x * 32 + y) := by
  intro D; induction D with
  | nil => intro w x y _; simp
  | cons a t ih =>
    intro w x y hy; rw [List.foldl_cons, ih _ _ _ hy, holdRelay_inner f a S w x y hS hy]
    by_cases h1 : x ∈ t ∧ y ∈ S
    · rw [if_pos h1, if_pos ⟨List.mem_cons_of_mem _ h1.1, h1.2⟩]
    · rw [if_neg h1]
      by_cases h2 : x = a ∧ y ∈ S
      · rw [if_pos h2, if_pos ⟨by rw [h2.1]; exact List.mem_cons_self, h2.2⟩]
      · rw [if_neg h2, if_neg]; rintro ⟨h3, h4⟩; rcases List.mem_cons.1 h3 with h5 | h5
        · exact h2 ⟨h5, h4⟩
        · exact h1 ⟨h5, h4⟩
theorem holdSample_key (d : Nat) (m : Nat) (P : Nat → Prop) [DecidablePred P] : ∀ (L : List Nat) (w : Switch) (j : Nat),
    sget (L.foldl (fun w k => if P k then w else { w with holdSample := sset w.holdSample (k * 32 + d) m }) w).holdSample (j * 32 + d) =
      if j ∈ L ∧ ¬ P j then m else sget w.holdSample (j * 32 + d) := by
  intro L; induction L with
  | nil => intro w j; simp
  | cons a t ih =>
    intro w j; simp only [List.foldl_cons]; rw [ih]
    by_cases hP : P a
    · simp only [hP, if_true]; by_cases hj : j = a
      · subst hj; simp [hP]
      · simp [hj]
    · simp only [hP, if_false]
      by_cases hj : j = a
      · subst hj; simp [hP, sset, sget, SMap.get_set_same]
      · have : j * 32 + d ≠ a * 32 + d := by omega
        simp only [sset, sget, SMap.get_set_other _ _ _ this, List.mem_cons, hj, false_or]
theorem holdApply_key (d : Nat) : ∀ (L : List Nat) (w : Switch) (e : Nat),
    let r := L.foldl (fun w e => match SMap.get (fun _ => none) w.holdRelay (d * 32 + e) with
      | none => w
      | some m => { w with holdApplied := sset w.holdApplied (d * 32 + e) m, holdRelay := SMap.set (fun _ => none) w.holdRelay (d * 32 + e) none }) w
    SMap.get (fun _ => none) r.holdRelay (d * 32 + e) = (if e ∈ L then none else SMap.get (fun _ => none) w.holdRelay (d * 32 + e)) ∧
    sget r.holdApplied (d * 32 + e) = if e ∈ L then (SMap.get (fun _ => none) w.holdRelay (d * 32 + e)).getD (sget w.holdApplied (d * 32 + e)) else sget w.holdApplied (d * 32 + e) := by
  intro L; induction L with
  | nil => intro w e; simp
  | cons a t ih =>
    intro w e; simp only [List.foldl_cons]
    cases ha : SMap.get (fun _ => none) w.holdRelay (d * 32 + a) with
    | none =>
      obtain ⟨h1, h2⟩ := ih w e
      dsimp only at h1 h2 ⊢; rw [h1, h2]
      by_cases he : e = a
      · subst he; simp [ha]
      · simp [he]
    | some m =>
      obtain ⟨h1, h2⟩ := ih { w with holdApplied := sset w.holdApplied (d * 32 + a) m, holdRelay := SMap.set (fun _ => none) w.holdRelay (d * 32 + a) none } e
      dsimp only at h1 h2 ⊢; rw [h1, h2]
      by_cases he : e = a
      · subst he; simp [ha, sset, sget, SMap.get_set_same]
      · have : d * 32 + e ≠ d * 32 + a := by omega
        simp [he, sset, sget, SMap.get_set_other _ _ _ this]

end Sys2Proof.Machine
end

