-- ==== Sys2Proof/Tests/Slice0.lean ====
section
/-!
SUPPORT. Tests: well-formedness refuses what is ill formed, the spec's worked values, and a witness for the hypotheses of each statement.
-/

namespace Sys2Proof.Tests

open Sys2Proof Sys2Proof.Machine

set_option maxRecDepth 100000

/-- A hub whose complexes run and whose PCIe link is up. -/
def hubUp : Hub := { ctlUp := true, mgmtUp := true, linkUp := true, fw := some ⟨0, true, 0⟩ }

/-- A chip out of reset, both hubs running, the data plane released. -/
def up : Chip := { pw := { chipReset := 0, dataHeld := false, repaired := true }, hubs := [(0, hubUp), (1, hubUp)] }

/-- A state of the chip `up` with hub A's memory and a queue. -/
def upAt (m : List Host.Cell) (q : List Instr) : State := { chip := up, lpddrA := m, pending := q }

/-- A state of a chip. -/
def at_ (c : Chip) : State := { chip := c }

/-! ### What is ill formed is refused -/

theorem test_ill_fecBlockReceive : (Instr.fecBlockReceive 0 0 true 0 0 (List.replicate 31 none)).wf = false := by decide
theorem test_ill_creditInit : (Instr.creditInit 0 0 [1, 2, 3, 4, 5, 6, 7]).wf = false := by decide
theorem test_ill_credit : (Instr.credit 0 0 [1, 2, 3, 4, 5, 6, 7, 8, 9]).wf = false := by decide
theorem test_ill_creditSync : (Instr.creditSync 0 0 0 []).wf = false := by decide
theorem test_ill_fadeReading : (Instr.fadeReading 0 (List.replicate 64 0) (List.replicate 7 0)).wf = false := by decide
theorem test_ill_leakAuditDue : (Instr.leakAuditDue 0 8).wf = false := by decide
theorem test_ill_leakAuditDone : (Instr.leakAuditDone 32 0 true).wf = false := by decide
theorem test_ill_levelSatDwell : (Instr.levelSatDwell 1 32 0 true 0).wf = false := by decide
theorem test_ill_tableScrubDone : (Instr.tableScrubDone 0 0 [(3, 0)]).wf = false := by decide
theorem test_ill_hbmScrubDone : (Instr.hbmScrubDone 0 0 0 [.spill 32 0 0]).wf = false := by decide
theorem test_ill_quizDue : (Instr.quizDue ⟨1, 0, 0, 8⟩).wf = false := by decide
theorem test_ill_quizEnd : (Instr.quizEnd ⟨4, 31, 0, 0⟩ true false []).wf = false := by decide
theorem test_ill_provisionalRerun : (Instr.provisionalRerun ⟨5, 39, 1, 64⟩ 0).wf = false := by decide
theorem test_ill_commandPickup : (Instr.commandPickup 0 0 0 { opcode := 2 ^ 16 }).wf = false := by decide
theorem test_ill_commandMessage : (Instr.commandMessage 0 0 true { inline := [256] }).wf = false := by decide
theorem test_ill_twAttest : (Instr.twAttest 0 0 true 0 0 [1, 2]).wf = false := by decide
theorem test_ill_twIndex : (Instr.twIndex 0 0 [(4096, 0, 0)]).wf = false := by decide
theorem test_ill_ledgerRequest : (Instr.ledgerRequest 32 .tableScrub).wf = false := by decide
theorem test_ill_commission : (Instr.commission (.slot 0 0 0) [(2048, 0)]).wf = false := by decide
theorem test_ill_switchMessageComplete : (Instr.switchMessageComplete ⟨6, 0, 0, 0, 0, []⟩ false true).wf = false := by decide
theorem test_ill_ptpDelayReqSend : (Instr.ptpDelayReqSend 0 0 0 (List.replicate 65001 0)).wf = false := by
  simp only [Instr.wf, List.length_replicate]; decide

/-- An ill-formed command stops with the fault that says so. -/
theorem test_ill_stops : exec (.quizDue ⟨1, 0, 0, 8⟩) (at_ up) = .fault .illFormed := rfl

/-! ### Worked values of the spec -/

/-- Chapter 5, the example of route 2, channel 1: CLR_REQ 0x0190_0019 and the two lanes it joins. -/
theorem test_clearing_example : getBits 0x01900019 F.CLR_REQ_OP = 1 ∧ getBits 0x01900019 F.CLR_REQ_ROUTE = 2 ∧ getBits 0x01900019 F.CLR_REQ_CHANNEL = 1 ∧
    (Activity.clearing 2 1).lanesOut = [17, 49] ∧ 18 * 64 + 17 = 1169 := by decide

/-- Chapter 12, the example of one chunk: recipe slot 5 is valid; with MCAST before QUANT it is not. -/
theorem test_recipe_example : recipeValid [0x0107000000000000, 0x0202010000000000, 0x0403070300000000, 0x030000003E3504F3, 0x0600010000000000,
      0x0703000000000000, 0x0800000000000000, 0x0000000000000000] false = true ∧
    recipeValid [0x0107000000000000, 0x0202010000000000, 0x0403070300000000, 0x030000003E3504F3, 0x0600010000000000,
      0x0800000000000000, 0x0703000000000000, 0x0000000000000000] false = false := by decide

/-- The same: RN(1/√32) is 0x3E35_04F3. -/
theorem test_scale_example : f32Div f32One (f32Sqrt 0x42000000) = 0x3E3504F3 := by decide

/-- The same: 51,904,512 elements of MXFP8 E4M3 in chunks of 2^18 bytes are 396 chunks of 131,072 elements on the one spine. -/
theorem test_geometry_example : let g := geoOf ⟨1, 7, 3, 0, 51904512, 18, 0, 1, 4, 0, 5, 0, 0, 0⟩ 0; (g.chunks, g.count, g.elemsAt 0, g.elemsAt 395) = (396, 396, 131072, 131072) := by decide

/-- Chapter 11, the example of a compressed sum: scale byte 113 and the largest E4M3 value, 448, give 448 · 2^−14. -/
theorem test_mx_example : elemVal 7 (113 + 0x7E * 256) 0 = .fin false (448 * 2 ^ (149 - 14)) := by decide

/-- Chapter 13, the example of a transient fault: object 777 is homed on C1, its position 6 is held by K2, and its rerun goes to K3. -/
theorem test_rerun_example : objCore 777 = 1 ∧ up.clusterFor 1 6 = 2 ∧ up.nextCluster 1 2 = 3 := by decide

/-- The CRC-32C of R273 over 32 bytes of zeros, as RFC 3720 (iSCSI), which R273 names, lists it. -/
theorem test_crc32c : ((List.replicate 32 0).foldl crc32cByte 0xFFFFFFFF) ^^^ 0xFFFFFFFF = 0x8A9136AA := by decide


theorem witness_StepRunsTheFrontCommand : ({ State.reset with pending := [.powerReset, .chipReset] } : State).pending = .powerReset :: [.chipReset] := by
  decide

theorem witness_EmptyQueueIsOneCoreCycle : State.reset.calm = true ∧ State.reset.pending = [] := by decide

theorem witness_EveryStepKeepsHubMemoryCanonical :
    (upAt [(0x20, 7)] [.nop (.slot 0 1 1)]).memOk = true ∧ ∃ t, step (upAt [(0x20, 7)] [.nop (.slot 0 1 1)]) = .next t :=
  ⟨by decide, _, rfl⟩

theorem witness_WellFormedQueueNeverStops : (upAt [] [.tblRead 31, .collectiveTimeout 4095]).queueOk = true := by decide

theorem witness_IllFormedCommandFaults : (Instr.creditInit 5 0 []).wf = false ∧ (Instr.creditInit 5 0 (List.replicate 8 0)).wf = true := by
  decide

theorem witness_OnlySixCommandsWriteHubMemory :
    ∃ t, exec .firmwareGoDark (upAt [(0x20, 7)] []) = .next t := ⟨_, rfl⟩

theorem witness_RegisterWriteFollowsAccessCodes :
    (at_ up).calm = true ∧ up.viaLive (.ctl 0) = true ∧ (regRow (R.FLT_NQ_STATUS 39)).isSome = true ∧
    ((regRow (R.FLT_NQ_STATUS 39)).map (fun x => writable x.1 && !x.1.isCommit)) = some true ∧ isCs (R.FLT_NQ_STATUS 39) = false ∧
    (R.FLT_NQ_STATUS 39) / 0x04000000 < 40 ∧ (R.FLT_NQ_STATUS 39) % 0x04000000 / 0x1000 ≠ 0x03D00 := by decide

theorem witness_RegisterWriteSpecialForms :
    (up.viaLive (.mgmt 0) = true ∧ isCs (R.FLT_NQ_STATUS 0) = false ∧ isCs (R.PRT_SWITCH_ID 31) = true ∧ R.PRT_SWITCH_ID 31 / 0x04000000 < 40 ∧
      ((regRow (R.PRT_SWITCH_ID 31)).map (fun x => x.1.isCommit)) = some false) ∧
    (((regRow (R.PRT_LINK_ID_COMMIT 0)).map (fun x => x.1.isCommit && writable x.1)) = some true ∧ (groupOf (R.PRT_LINK_ID_COMMIT 0)).isSome = true ∧
      bitOf 2 1 = true ∧ bitOf 1 1 = false ∧ bitOf 1 0 = true) ∧
    (((regRow (nqPtr 39 1)).map (fun x => !x.1.isCommit && writable x.1)) = some true ∧ isCs (nqPtr 39 1) = false ∧ getBits 0x07FF0000 nqTail = 2047) ∧
    (up.viaLive (.host 0) = true ∧ regRow 0x03FFFFFC = none) ∧ (at_ up).calm = true := by decide

/-- Group 2 of die 31 staged and DIRTY. -/
def dirtyChip : Chip := (up.wrS (R.PRT_SWITCH_ID 31) 5).setDirty 31 2 true

/-- The same with the snapshot of an APPLY. -/
def snapChip (ok : Bool) : Chip := (dirtyChip.setDirty 31 2 false).setSnap 31 2 (some ⟨[(R.PRT_SWITCH_ID 31, 5)], false, ok, false, 0⟩)

theorem witness_CommitGroups_staging : (at_ up).calm = true ∧ up.viaLive (.host 0) = true ∧ isCs (R.PRT_SWITCH_ID 31) = true ∧
    (regRow (R.PRT_SWITCH_ID 31)).isSome = true ∧ groupOf (R.PRT_SWITCH_ID 31) = some 2 := by decide

theorem witness_CommitGroups_apply : (at_ dirtyChip).calm = true ∧ dirtyChip.viaLive (.ctl 0) = true ∧ groupHere 31 2 = true ∧
    dirtyChip.frozen = false ∧ dirtyChip.regionLoading 31 = false ∧ dirtyChip.snap 31 2 = none ∧ dirtyChip.applyBells 31 2 = [] ∧
    dirtyChip.dirty 31 2 = true ∧ dirtyChip.holdsFields 31 2 = true := by decide

theorem witness_CommitGroups_checks : (at_ (snapChip false)).calm = true ∧ (snapChip false).orders = [] ∧
    (snapChip false).snap 31 2 = some ⟨[(R.PRT_SWITCH_ID 31, 5)], false, false, false, 0⟩ ∧
    (((snapChip false).groupChecks ((snapChip false).viewOf [(R.PRT_SWITCH_ID 31, 5)]) 31 2).all (fun b => b)) = true := by decide

theorem witness_CommitGroups_snapshot : (at_ (snapChip true)).calm = true ∧
    (snapChip true).snap 31 2 = some ⟨[(R.PRT_SWITCH_ID 31, 5)], false, true, false, 0⟩ ∧
    SMap.get (fun _ => none) (snapChip true).bellApply (snapKey 31 2) = none ∧ SMap.get (fun _ => []) (snapChip true).bellWaits (snapKey 31 2) = [] ∧
    (∀ a ∈ [(R.PRT_SWITCH_ID 31, (5 : Word))], a.1 ≠ R.CFG_GEN 31) ∧ 2 ∈ [0x001, 0x002, 0x004, 0x005, 0x009] := by decide

/-- A chip with one notice staged for queue 1 of die 39, its queue holding n entries. -/
def noticeChip (n : Nat) : Chip :=
  { (up.set (nqPtr 39 1) nqHead n) with nq := { staged := [(79, [⟨0, mkNotice 5 2 39 3 0 0 0 7⟩])] }, cycle := 9 }

theorem witness_NoticesEnterTheirQueue :
    ((at_ (noticeChip 1023)).calm = true ∧ orderBy stagedRank (SMap.get (fun _ => []) (noticeChip 1023).nq.staged 79) = [⟨0, mkNotice 5 2 39 3 0 0 0 7⟩] ∧
      SMap.get (fun _ => 0) (noticeChip 1023).nq.next 79 ≤ (noticeChip 1023).cycle ∧ (noticeChip 1023).nqCount 39 1 = 1023 ∧
      entrySev (mkNotice 5 2 39 3 0 0 0 7) = 2) ∧
    (noticeChip 960).nqCount 39 1 = 960 ∧ (noticeChip 961).nqCount 39 1 = 961 ∧ entrySev (mkNotice 5 1 39 3 0 0 0 7) = 1 ∧ (noticeChip 1024).nqCount 39 1 = 1024 := by decide

/-- A counter of die 39 about to pass its end. -/
def fullCounter : Chip := { up with pmc := { prog := [(39 * 32 + 31, { sel := 0x808FF001 ||| 0x10000000 ||| 0x40000000 ||| 0x20000000, count := 2 ^ 48 - 1, period := 5 })] } }

theorem witness_CountersAreReadAndWrittenWhole : (at_ fullCounter).calm = true ∧ fullCounter.isolated 39 = false ∧
    getBits (SMap.get (fun _ => {}) fullCounter.pmc.prog (39 * 32 + 31)).sel F.PMC_SEL_ENABLE = 1 ∧
    2 ^ 48 ≤ (SMap.get (fun _ => {}) fullCounter.pmc.prog (39 * 32 + 31)).count + 1 := by decide

theorem witness_LatchedReadsAndBadSizes :
    (at_ (up.latchAt 0x03800004 9)).calm = true ∧ SMap.get (fun _ => none) (up.latchAt 0x03800004 9).latch 0x03800004 = some 9 ∧
    (at_ up).calm = true ∧ SMap.get (fun _ => none) up.latch (R.MGT_EVQ_PTR 32) = none ∧
    (pmcLoAt 0x03E00024 = none ∧ regExists (39 * 0x04000000 + 0x03E00024) = true ∧ highParts 0x03E00024 = [0x03E00028]) ∧
    (pmcLoAt 0x03F00000 = none ∧ highParts 0x03F00000 = []) ∧ (up.hub 1).linkUp = true := by decide

theorem witness_HubsBeatAndAnswerTheBoard : (up.hub 1).mgmtUp = true ∧ up.dogRuns 1 1 = true ∧ up.dogRuns 0 2 = true ∧ up.primary = some 0 ∧
    (up.hub 0).mgmtUp = true := by decide

theorem witness_TheStandbyHubTakesOver : (at_ up).calm = true ∧ up.primary = some 0 ∧ up.isolated (hubDie 1) = false ∧ (up.hub 1).fenced = false ∧
    (up.hub 1).idOk = true ∧ (up.hub 0).pathLost = 0 ∧ up.dogRuns 1 1 = true ∧ up.dogRuns 0 2 = true ∧
    (up.set (R.MGT_WDOG 32) F.MGT_WDOG_CHIP_EN 1).dogRuns 0 3 = true := by decide

/-- Block 7 of die 31 behind a firebreak with its last lane still ACTIVE. -/
def drainLate : Chip := (up.setBlockFb 31 7 true).set (lstat 2047) F.PRT_LSTAT_STATE LS.active

theorem witness_FaultsRaiseTheirFirebreakTriggers : drainLate.blockFb 31 7 = true ∧ 2047 ∈ blockLanes 31 7 ∧ drainLate.laneState 2047 = LS.active ∧
    (at_ up).calm = true ∧ up.darkChip = false := by decide

/-- Lane 2047 (die 31, local lane 63) of ROLE 1 in a state, in lock, with block 65,535 its last. -/
def laneChip (st : Nat) : Chip :=
  (({ up with cfg := [(31, { lanes := List.replicate 64 1, units := List.replicate 8 16 })] } : Chip).set (lstat 2047) F.PRT_LSTAT_STATE st).modLane 2047
    (fun x => { x with lock := true, blockNo := some 65535 })

theorem witness_FecBlocksAndBlockLock : (laneChip LS.active).lcOpen 2047 = true ∧ ((laneChip LS.active).lane 2047).lock = true ∧
    ((laneChip LS.active).lane 2047).blockNo = some 65535 ∧ (0 : Fin 65536).val = (65535 + 1) % 65536 ∧
    (laneChip LS.active).flag (R.PRT_LPARTNER (laneDie 2047) (laneLocal 2047)) F.PRT_LPARTNER_VALID = false ∧
    (List.replicate 32 (none : Option Cell)).length = 32 ∧ (at_ up).calm = true ∧
    (∀ i, i < 64 → up.get (R.PRT_FEC_UNCORR 31 i) F.PRT_FEC_UNCORR_WINDOW ≤ up.get (R.PRT_FEC_LIMIT 31) F.PRT_FEC_LIMIT_LIMIT) ∧
    receives ((laneChip LS.active).laneState 2047) = true ∧ (laneChip LS.training).lcOpen 2047 = true ∧
    (laneChip LS.training).laneState 2047 = LS.training ∧ ((laneChip LS.training).lane 2047).lock = true := by decide

/-- Lane 2047 ACTIVE with a request out. -/
def reqChip (op : Nat) : Chip := (laneChip LS.active).modLane 2047 (fun x => { x with reqs := [⟨op, 255, 0, []⟩] })

theorem witness_LinkControlExchangesIdentityAndCredits : (reqChip 1).lcOpen 2047 = true ∧ (reqChip 1).laneState 2047 ≠ LS.training ∧
    ((reqChip 1).lane 2047).waits 0x01 255 = true ∧ ((reqChip 1).lane 2047).waits 0x01 0 = false ∧
    ((reqChip 1).lane 2047).acted? 0x02 255 = false ∧
    (((reqChip 1).lcActed 2047 0x02 255).lane 2047).acted? 0x02 255 = true ∧ ((reqChip 1).lcActed 2047 0x02 255).lcOpen 2047 = true ∧
    (reqChip 2).lcOpen 2047 = true ∧ ((reqChip 2).lane 2047).waits 0x02 255 = true ∧ (List.replicate 8 (0 : BitVec 24)).length = 8 ∧
    ((reqChip 6).lane 2047).drain = none ∧ (reqChip 6).twinSt ≠ 2 ∧ (at_ (reqChip 6)).calm = true ∧
    (reqChip 1).lossless (laneDie 2047) 7 = true ∧
    (((reqChip 1).modLane 2047 (fun x => { x with released := [(7, 1)], advertised := [(7, (reqChip 1).alloc 31 7)] })).creditAdvance 2047 7 = 1) ∧
    (((reqChip 1).modLane 2047 (fun x => { x with syncDue := true })).lane 2047).syncDue = true ∧ knownOp 255 = false ∧ knownOp 0x12 = false := by decide

theorem witness_DrainsAndResumes : (laneChip LS.active).lcOpen 2047 = true ∧ (laneChip LS.active).laneState 2047 = LS.active ∧
    ((laneChip LS.active).lane 2047).acted? 0x07 255 = false ∧ ((reqChip 7).lane 2047).waits 0x07 255 = true ∧ (reqChip 7).lcOpen 2047 = true ∧
    ((reqChip 9).lane 2047).waits 0x09 255 = true ∧ ((reqChip 9).lane 2047).waits 0x07 255 = false ∧ (reqChip 9).laneState 2047 ≠ LS.training ∧
    (laneChip LS.active).mayResume 2047 = false ∧ (laneChip LS.drained).laneState 2047 = LS.drained ∧ (laneChip LS.drained).lcOpen 2047 = true ∧
    (((((laneChip LS.drained).set (sprayReg 2047) ⟨23, 1⟩ 1).set (sprayReg 2047) ⟨31, 1⟩ 1).set (R.PRT_RING 31 7 7) F.PRT_RING_STATE 4).set (R.PRT_RING 31 7 15)
      F.PRT_RING_STATE 4).mayResume 2047 = true ∧ ((((laneChip LS.drained).set (sprayReg 2047) ⟨23, 1⟩ 1).set (sprayReg 2047) ⟨31, 1⟩ 1).set
      (R.PRT_RING 31 7 7) F.PRT_RING_STATE 4).mayResume 2047 = false ∧
    ((reqChip 255).lane 2047).reqs.find? (fun r => r.op == 255 && r.seq == 255) = some ⟨255, 255, 0, []⟩ ∧
    (laneChip LS.draining).laneState 2047 = LS.draining ∧ (laneChip LS.draining).planeRuns (laneDie 2047) = true := by decide

theorem witness_DrowsyWakeAndRetune : (laneChip LS.active).lcOpen 2047 = true ∧ ((laneChip LS.active).lane 2047).waitsOp 0x07 = false ∧
    ((laneChip LS.active).lane 2047).acted? 0x0A 255 = false ∧
    ((reqChip 10).lane 2047).reqs.find? (fun r => r.op == 0x0A && r.seq == 255) = some ⟨10, 255, 0, []⟩ ∧ (reqChip 10).lcOpen 2047 = true ∧
    (laneChip LS.drowsy).lcOpen 2047 = true ∧ (laneChip LS.drowsy).laneState 2047 = LS.drowsy ∧
    (laneChip LS.drowsy).blkSt (laneDie 2047) (laneBlock 2047) = 0 ∧ ((laneChip LS.drowsy).lane 2047).mine = false ∧
    ((laneChip LS.active).lane 2047).waitsOp 0x0A = false ∧ ((reqChip 14).lane 2047).waitsOp 0x0E = true ∧ ((reqChip 14).lane 2047).waits 0x0E 255 = true ∧
    (laneChip LS.active).laneState 2047 ≠ LS.drained ∧ ((laneChip LS.active).lane 2047).waitsOp 0x0E = false := by decide

/-- Lane 2047 in TRAINING at a phase, its partner known, both directions' credits open. -/
def trainChip (p : Nat) : Chip :=
  (((((laneChip LS.training).setPhase 2047 p).set (R.PRT_LPARTNER 31 63) F.PRT_LPARTNER_VALID 1).set (R.PRT_LPARTNER 31 63)
    F.PRT_LPARTNER_ROLE 1)).modLane 2047 (fun x => { x with txInit := true, rxInit := true })

theorem witness_TrainingGoesThroughItsPhases : (trainChip 1).lcOpen 2047 = true ∧ (trainChip 1).laneState 2047 = LS.training ∧ (trainChip 1).phase 2047 = 1 ∧
    (trainChip 2).phase 2047 = 2 ∧ (trainChip 3).phase 2047 = 3 ∧ ((trainChip 3).lane 2047).lock = true ∧ (trainChip 4).phase 2047 = 4 ∧
    ((trainChip 4).lane 2047).waitsOp 0x01 = false ∧ (trainChip 4).flag (R.PRT_LPARTNER (laneDie 2047) (laneLocal 2047)) F.PRT_LPARTNER_VALID = true ∧
    (trainChip 4).helloOk 2047 = true ∧ (trainChip 5).phase 2047 = 5 ∧ ((trainChip 5).lane 2047).txInit = true ∧ ((trainChip 5).lane 2047).rxInit = true ∧
    ((trainChip 5).lane 2047).held = false ∧ ((trainChip 5).lane 2047).wait = false ∧
    (((trainChip 4).modLane 2047 (fun x => { x with held := true, fails := 2 })).lane 2047).held = true := by decide

theorem witness_UnitsGoToSleepByStages : up.tileFb 39 127 = false ∧ (up.setTileFb 39 127 true).tileFb 39 127 = true ∧ up.mayRest 39 3 = true ∧
    up.blkSt 39 3 = 0 ∧ (up.set (R.PWR_POL_MAX 39) ⟨9, 3⟩ 2).blkMax 39 3 ≠ 0 ∧ up.unitQuiet 39 3 = true ∧ up.twinActive 39 3 = false := by decide

/-- Cluster 3 of die 39 in a low-power state, DEEP_RECESS allowed. -/
def restChip (st : Nat) : Chip := (up.set (R.PWR_POL_MAX 39) ⟨9, 3⟩ 2).setBlkSt 39 3 st

theorem witness_UnitsGoToSleepByStages_entries : (restChip 1).mayRest 39 3 = true ∧ (restChip 1).blkSt 39 3 = 1 ∧ (restChip 1).deepOk 39 3 = true ∧
    (restChip 3).mayRest 39 3 = true ∧ (restChip 3).blkSt 39 3 = 3 := by decide

/-- Every block of die 31 in DEEP_RECESS, SLEEP allowed. -/
def sleepyChip : Chip := (List.range 8).foldl (fun c b => c.setBlkSt 31 b 2) (up.set (R.PWR_POL_MAX 31) F.PWR_POL_MAX_DIE_MAX 1)

theorem witness_UnitsGoToSleepByStages_sleep : sleepyChip.dieSt 31 ≠ 3 ∧ sleepyChip.dieRuns 31 = true ∧ sleepyChip.planeRuns 31 = true ∧
    sleepyChip.isolated 31 = false ∧ sleepyChip.flag (R.PWR_POL_MAX 31) F.PWR_POL_MAX_DIE_MAX = true ∧
    (List.range (blocksOf 31)).all (fun b => sleepyChip.blkSt 31 b == 2) = true ∧ sleepyChip.creditsHome 31 = true ∧
    (dieLanes 31).all sleepyChip.laneRests = true := by decide

/-- Block 3 of die 39 wakes from a state. -/
def wakingChip (from_ : Nat) : Chip := (up.setBlkSt 39 3 4).modPw (fun p => { p with wake := [(39 * 8 + 3, some ⟨from_, 4, 0⟩)] })

/-- Block 3 of die 39 with a shadow of the present generation, waiting for re-admission. -/
def shadowChip (c : Chip) : Chip := (c.storeShadow 39 3).modPw (fun p => { p with readmit := [(39 * 8 + 3, true)] })

/-- Block 3 of die 39 is being reloaded at a generation. -/
def reloadChip (c : Chip) (v : Nat) : Chip := c.modPw (fun p => { p with reload := [(39 * 8 + 3, some v)] })

theorem witness_UnitsWakeAndAreReadmitted : (wakingChip 1).wokenFrom 39 3 1 = true ∧ (wakingChip 2).wokenFrom 39 3 2 = true ∧
    SMap.get (fun _ => none) (wakingChip 2).pw.reload (39 * 8 + 3) = none ∧ (wakingChip 2).shadowFresh 39 3 = false ∧
    (shadowChip (wakingChip 2)).shadowFresh 39 3 = true ∧ (shadowChip (wakingChip 2)).wokenFrom 39 3 2 = true ∧
    SMap.get (fun _ => none) (shadowChip up).pw.reload (39 * 8 + 3) = none ∧ SMap.get (fun _ => false) (shadowChip up).pw.readmit (39 * 8 + 3) = true ∧
    SMap.get (fun _ => false) (up.modPw (fun p => { p with readmit := [(39 * 8 + 3, true)] })).pw.readmit (39 * 8 + 3) = true ∧
    SMap.get (fun _ => none) (reloadChip up 7).pw.reload (39 * 8 + 3) = some 7 ∧ 7 ≠ ((reloadChip up 7).rd (R.CFG_GEN 39)).toNat ∧
    SMap.get (fun _ => none) (reloadChip (wakingChip 2) 0).pw.reload (39 * 8 + 3) = some 0 ∧ 0 = ((reloadChip (wakingChip 2) 0).rd (R.CFG_GEN 39)).toNat ∧
    SMap.get (fun _ => false) (reloadChip (wakingChip 2) 0).pw.readmit (39 * 8 + 3) = false ∧ (reloadChip (wakingChip 2) 0).blkSt 39 3 = 4 ∧
    SMap.get (fun _ => false) (reloadChip (shadowChip up) 0).pw.readmit (39 * 8 + 3) = true := by decide

/-- Die 31 in a power state, a wake of it with a source. -/
def dieStChip (st : Nat) : Chip := (up.setDieSt 31 st).modPw (fun p => { p with dieWake := [(31, some ⟨1, 4, 0x80⟩)] })

/-- Lane 2047 DROWSY at depth 3, its die in a power state. -/
def deepLane (st : Nat) : Chip := ((up.setDieSt 31 st).set (lstat 2047) F.PRT_LSTAT_STATE LS.drowsy).set (lstat 2047) F.PRT_LSTAT_DEPTH 3

/-- STANDBY, port 63 of die 31 enabled. -/
def standbyChip : Chip := (up.modPw (fun p => { p with standby := true })).set (sprayReg 2047) ⟨31, 1⟩ 1

theorem witness_UnitsWakeAndAreReadmitted_dies : (dieStChip 4).dieSt 31 = 4 ∧ SMap.get (fun _ => none) (dieStChip 4).pw.dieWake 31 = some ⟨1, 4, 0x80⟩ ∧
    (deepLane 0).pw.standby = false ∧ (deepLane 0).laneState 2047 = LS.drowsy ∧ (deepLane 0).get (lstat 2047) F.PRT_LSTAT_DEPTH = 3 ∧
    (deepLane 0).dieSt (laneDie 2047) = 0 ∧ (deepLane 1).dieSt (laneDie 2047) ≠ 0 ∧ standbyChip.pw.standby = true ∧
    (standbyChip).portEnabled 2047 = true := by decide

/-- Slot 63 of window 61 of hub B holds a command that runs. -/
def cmdAt (c : Chip) (x : Command) : Chip := c.modHub 1 (fun h => { h with slots := [(61 * 64 + 63, { owner := 2, cmd := x, order := 1 })] })

/-- The origin of that command. -/
def slot1 : Origin := .slot 1 61 63

theorem witness_StandbyIsEnteredAndLeft : (cmdAt up { opcode := 0x40, arg0 := 2 }).cmdOf slot1 0x40 = some { opcode := 0x40, arg0 := 2 } ∧
    (cmdAt (up.modPw (fun p => { p with standbyExit := true })) { opcode := 0x40 }).wakeRuns = true ∧
    (cmdAt (up.modPw (fun p => { p with standbyExit := true })) { opcode := 0x40 }).cmdOf slot1 0x40 = some { opcode := 0x40 } ∧
    (cmdAt up { opcode := 0x40, arg0 := 1 }).cmdOf slot1 0x40 = some { opcode := 0x40, arg0 := 1 } ∧ (cmdAt up { opcode := 0x40, arg0 := 1 }).wakeRuns = false ∧
    (cmdAt up { opcode := 0x40 }).cmdOf slot1 0x40 = some { opcode := 0x40 } ∧ (cmdAt up { opcode := 0x40 }).wakeRuns = false ∧
    (cmdAt up { opcode := 0x40 }).twinSt = 0 ∧ (cmdAt up { opcode := 0x40 }).pw.standby = false := by decide

theorem witness_StandbyIsEnteredAndLeft_wake : (cmdAt up { opcode := 0x41, arg0 := 40 }).cmdOf slot1 0x41 = some { opcode := 0x41, arg0 := 40 } ∧
    (cmdAt standbyChip { opcode := 0x41, arg0 := 39, arg1 := 0x1FF }).cmdOf slot1 0x41 = some { opcode := 0x41, arg0 := 39, arg1 := 0x1FF } ∧
    bitOf 0x1FF 8 = true ∧ (cmdAt standbyChip { opcode := 0x41, arg0 := 39, arg1 := 0x1FF }).pw.standby = true ∧
    (cmdAt up { opcode := 0x41, arg0 := 39, arg1 := 0x1FF }).pw.standby = false ∧
    (standbyChip.modPw (fun p => { p with standbyExit := true })).pw.standby = true ∧
    (standbyChip.modPw (fun p => { p with standbyExit := true })).pw.standbyExit = true := by decide

/-- A whole image with no section beside one lane map: it lacks the others. -/
def thinImage : Image := { keyId := 9 }

/-- The data plane held, a repair record in force; hub A primary. -/
def heldChip : Chip := (up.modPw (fun p => { p with dataHeld := true })).set (R.MGT_ROLE 32) F.MGT_ROLE_PRIMARY 1

theorem witness_ImagesAreChecked : heldChip.pw.chipReset = 0 ∧ heldChip.pw.dataHeld = true ∧ heldChip.primary = some 0 ∧ (heldChip.hub 0).mgmtUp = true ∧
    heldChip.inRecovery 0 = false ∧ (heldChip.modPw (fun p => { p with repaired := false })).pw.repaired = false ∧ heldChip.pw.repaired = true ∧
    heldChip.bootPick 0 (heldChip.bootSlots 0) (1, 0xFFFF) = .inl (1, 0xFFFF) := by decide

/-- Window 61 of hub B enabled. -/
def winChip : Chip := up.wr (R.MGT_WIN_EN_HI 39) 0x20000000

/-- Slot 5 of window 2 of hub h waits for a serial command. -/
def waitingAt (c : Chip) (h : Nat) : Chip := c.modHub h (fun x => { x with slots := [(133, { owner := 2, cmd := { opcode := 0x10 }, waiting := true })] })

theorem witness_SlotsArePickedUp : ({ opcode := 0x10 } : Command).wf = true ∧ (winChip.hub 1).mgmtUp = true ∧ winChip.windowOn 1 61 = true ∧
    winChip.inRecovery 1 = false ∧ (winChip.cmdSlot 1 (slotKey 61 63)).owner = 0 ∧ up.windowOn 1 61 = false ∧
    ((cmdAt up {}).cmdSlot 1 (slotKey 61 63)).owner = 2 ∧ (cmdAt up { opcode := 0x10 }).serialRuns = true ∧ (waitingAt up 0).serialRuns = false ∧
    orderBy (fun e : Nat × Slot => e.2.order) (((waitingAt up 0).hub 0).slots.filter (fun e => e.2.owner == 2 && e.2.waiting)) =
      [(133, { owner := 2, cmd := { opcode := 0x10 }, waiting := true })] ∧
    orderBy (fun e : Nat × Slot => e.2.order) (((waitingAt up 1).hub 0).slots.filter (fun e => e.2.owner == 2 && e.2.waiting)) = [] ∧
    orderBy (fun e : Nat × Slot => e.2.order) (((waitingAt up 1).hub 1).slots.filter (fun e => e.2.owner == 2 && e.2.waiting)) =
      [(133, { owner := 2, cmd := { opcode := 0x10 }, waiting := true })] ∧ (waitingAt up 1).serialRuns = false ∧
    (cmdAt up { opcode := 0x01 }).cmdOf slot1 0x01 = some { opcode := 0x01 } ∧ (cmdAt up { opcode := 0x70 }).cmdOf slot1 0x70 = some { opcode := 0x70 } ∧
    (cmdAt up { opcode := 0x70 }).orders.any (fun y => decide (y.src = .command slot1)) = false ∧
    ({ cmdAt up { opcode := 0x70 } with orders := [⟨.command slot1, [], 0, none⟩] } : Chip).cmdOf slot1 0x70 = some { opcode := 0x70 } ∧
    ({ cmdAt up { opcode := 0x70 } with orders := [⟨.command slot1, [], 0, none⟩] } : Chip).orders.any (fun y => decide (y.src = .command slot1)) = true := by
  decide

theorem witness_CommandsKeepFlashItems : (cmdAt up { opcode := 0x12 }).cmdOf slot1 0x12 = some { opcode := 0x12 } ∧
    (cmdAt up { opcode := 0x16, arg0 := 2 }).cmdOf slot1 0x16 = some { opcode := 0x16, arg0 := 2 } ∧
    (cmdAt up { opcode := 0x16, arg0 := 1 }).cmdOf slot1 0x16 = some { opcode := 0x16, arg0 := 1 } ∧
    (cmdAt (up.wr (R.SEC_FLOOR 39 0) 3) { opcode := 0x16, arg0 := 1 }).floor slot1.hub 0 = 3 ∧
    (cmdAt up { opcode := 0x14 }).cmdOf slot1 0x14 = some { opcode := 0x14 } ∧
    ((cmdAt up { opcode := 0x14 }).hub slot1.hub).flash.keys.length < 16 ∧
    (cmdAt up { opcode := 0x14 }).chainOk slot1.hub ⟨1, 4, 0, 0, true, true⟩ = true ∧
    (cmdAt up { opcode := 0x14 }).chainOk slot1.hub ⟨1, 4, 0, 0, true, false⟩ = false ∧
    (cmdAt up { opcode := 0x15, arg0 := 3 }).cmdOf slot1 0x15 = some { opcode := 0x15, arg0 := 3 } ∧
    (cmdAt up { opcode := 0x15, arg0 := 2, arg1 := 1 }).cmdOf slot1 0x15 = some { opcode := 0x15, arg0 := 2, arg1 := 1 } ∧
    (cmdAt up { opcode := 0x15, arg0 := 2, arg1 := 1 }).runningVersion slot1.hub 2 = 0 ∧
    (cmdAt up { opcode := 0x15, arg0 := 2 }).cmdOf slot1 0x15 = some { opcode := 0x15, arg0 := 2 } ∧
    (cmdAt up { opcode := 0x13 }).cmdOf slot1 0x13 = some { opcode := 0x13 } := by decide

/-- A quiz pack whose signing key is enrolled, over cores with no region carved. -/
def goodPack : Pack := ⟨true, true, true, 40, 0xA1, 100, 9, true, 1, 0, true, 100, []⟩

theorem witness_CommandsKeepFlashItems_pack :
    (cmdAt (up.modHub 1 (fun h => { h with flash := { keys := [⟨9, 2, 0, 0, true, true⟩] } })) { opcode := 0x13 }).packCheck 1 goodPack = 0 ∧
    (cmdAt up { opcode := 0x13 }).packCheck 1 goodPack = 4 := by decide

theorem witness_CommandsReadAndRecord : (cmdAt up { opcode := 0x20, arg0 := 1, arg1 := 1 }).cmdOf slot1 0x20 = some { opcode := 0x20, arg0 := 1, arg1 := 1 } ∧
    ([(2047, 7)] : List (Nat × BitVec 16)).all (fun e => decide (e.1 < 2048)) = true ∧
    (cmdAt up { opcode := 0x30, arg0 := 2 }).cmdOf slot1 0x30 = some { opcode := 0x30, arg0 := 2 } ∧
    (cmdAt up { opcode := 0x30, arg0 := 1, arg1 := 5 }).cmdOf slot1 0x30 = some { opcode := 0x30, arg0 := 1, arg1 := 5 } ∧
    (cmdAt up { opcode := 0x51, arg0 := 40 }).cmdOf slot1 0x51 = some { opcode := 0x51, arg0 := 40 } ∧
    (cmdAt up { opcode := 0x51, arg0 := 39, arg1 := 0x03FFFFFC, arg2 := 1 }).cmdOf slot1 0x51 = some { opcode := 0x51, arg0 := 39, arg1 := 0x03FFFFFC, arg2 := 1 } ∧
    (cmdAt up { opcode := 0x50, arg1 := 2 }).cmdOf slot1 0x50 = some { opcode := 0x50, arg1 := 2 } ∧
    (cmdAt up { opcode := 0x50, arg1 := 1 }).cmdOf slot1 0x50 = some { opcode := 0x50, arg1 := 1 } ∧
    (cmdAt up { opcode := 0x60 }).cmdOf slot1 0x60 = some { opcode := 0x60 } ∧ (cmdAt up { opcode := 0x61 }).cmdOf slot1 0x61 = some { opcode := 0x61 } ∧
    (cmdAt up { opcode := 0x62 }).cmdOf slot1 0x62 = some { opcode := 0x62 } := by decide

/-- Hub B primary, both hubs running, with one session of hub B, number 1. -/
def sessChip (open_ : Bool) (rights : Nat) : Chip :=
  ((up.set (R.MGT_ROLE 32) F.MGT_ROLE_PRIMARY 0).set (R.MGT_ROLE 39) F.MGT_ROLE_PRIMARY 1).modHub 1 (fun h => { h with sessions := [(1, some { rights := rights, client := 77, open_ := open_ })] })

theorem witness_SessionsOpenAndClose : (sessChip false 3).messageHub = some 1 ∧ (sessChip false 3).inRecovery 1 = false ∧ (sessChip false 3).answersFor false = true ∧
    (sessChip false 3).answersFor true = false ∧ (sessChip false 3).chainOk 1 ⟨5, 3, 3, 0, true, true⟩ = true ∧ ((sessChip false 3).hub 1).sessions.length < 32 ∧
    (sessChip false 3).session 1 2 = none ∧ (sessChip true 3).session 1 1 = some { rights := 3, client := 77, open_ := true } ∧
    (sessChip false 3).session 1 1 = some { rights := 3, client := 77, open_ := false } ∧ ((sessChip false 3).hub 1).mgmtUp = true := by decide

/-- The session chip with an ORDER message waiting. -/
def inboxChip (alias_ : Bool) : Chip := (sessChip true 3).modHub 1 (fun h => { h with
  inbox := [⟨5, 77, 1, 1, 4, []⟩], sessions := [(1, some { rights := 3, client := 77, open_ := true, alias_ := alias_ })] })

theorem witness_MessagesReachTheirComplex : (sessChip true 3).messageHub = some 1 ∧ typeNeeds 0x0005 = none ∧ typeNeeds 1 = some true ∧ typeNeeds 0x20 = some false ∧
    ((sessChip true 3).takeMsg 1 1 4 true).1 = true ∧ ((sessChip true 3).takeMsg 1 1 4 false).1 = false ∧
    ((sessChip true 1).takeMsg 1 1 4 true).2.rightsOf 1 1 = 1 ∧ ((sessChip true 3).takeMsg 1 1 4 true).2.rightsOf 1 1 = 3 ∧
    ((inboxChip true).hub 1).inbox.find? (fun m => m.ty == 0x0001) = some ⟨5, 77, 1, 1, 4, []⟩ ∧
    ((inboxChip true).popMsg 1 1).session 1 1 = some { rights := 3, client := 77, open_ := true, alias_ := true } ∧
    ((inboxChip false).popMsg 1 1).session 1 1 = some { rights := 3, client := 77, open_ := true } ∧ ((inboxChip false).popMsg 1 1).session 1 0 = none ∧
    ((sessChip true 3).takeMsg 1 1 4 true).2.refusedAt 1 0x99 = some 1 ∧ ((sessChip true 3).takeMsg 1 1 4 true).2.refusedAt 1 0x10 = none ∧
    rightFor 0x10 = 3 ∧ ((sessChip true 3).takeMsg 1 1 4 true).2.session 1 1 = some { rights := 3, client := 77, lastIn := 4, open_ := true } ∧
    ((inboxChip true).takeMsg 1 1 4 true).2.session 1 1 = some { rights := 3, client := 77, lastIn := 4, open_ := true, alias_ := true } := by decide

/-- Block 2 of P0 and of P16 ACTIVE with ROLE 2, the twin in a state with steps complete, the rule for pairing set. -/
def twinChip (st steps : Nat) : Chip :=
  let map := (List.range 64).map (fun i => if i / 8 = 2 then 2 else 0)
  let lanes := (List.range 8).flatMap (fun i => [16 + i, 16 * 64 + 16 + i])
  let c : Chip := { up with cfg := [(0, { lanes := map }), (16, { lanes := map })] }
  let c1 := lanes.foldl (fun s l => (s.set (lstat l) F.PRT_LSTAT_STATE LS.active).modLane l (fun x => { x with lock := true })) c
  let c2 := ((c1.set (R.MGT_ROLE 32) F.MGT_ROLE_PRIMARY 1).set (R.TWN_CFG 32) F.TWN_CFG_ENABLE 1).set (R.TWN_STATE 32) F.TWN_STATE_STATE st
  c2.modTwin (fun t => { t with steps := steps })

theorem witness_PairingRuns_try : (twinChip 0 0).messageHub = some 0 ∧ (twinChip 0 0).darkChip = false ∧ (twinChip 0 0).twinSt = 0 ∧
    (twinChip 0 0).flag (R.TWN_CFG (twinChip 0 0).primaryDie) F.TWN_CFG_ENABLE = true ∧ (twinChip 0 0).stepDone 0 = false ∧
    (twinChip 0 1).stepDone 0 = true ∧ (twinChip 0 0).stepDone 4 = false ∧ (twinChip 0 1).stepDone 4 = false ∧ (twinChip 0 16).stepDone 4 = true := by decide

theorem witness_PairingRuns_lanes : 8 ≤ (twinChip 0 0).weferActive.length := by decide

theorem witness_PairingRuns : (twinChip 1 1).weferIn 16 = true ∧ ((twinChip 1 1).twinAck 16 0x21 9).1 = true ∧
    (((twinChip 1 1).lcActed 16 0x21 9).twinAck 16 0x21 9).1 = false ∧ ((twinChip 1 1).lcActed 16 0x21 9).weferIn 16 = true ∧
    ((twinChip 1 1).twinAck 16 0x21 9).2.twinSt = 1 ∧ ((twinChip 1 1).twinAck 16 0x21 9).2.flag (R.TWN_CFG 32) F.TWN_CFG_MATCH = false ∧
    ((twinChip 1 1).twinAck 16 0x22 9).2.stepDone 0 = true ∧ ((twinChip 1 3).twinAck 16 0x23 9).2.stepDone 1 = true ∧
    ((twinChip 1 3).twinAck 16 0x25 9).2.stepDone 2 = false ∧ (twinChip 1 0).twinSt = 1 ∧
    ((twinChip 1 1).twinAck 16 0x22 9).2.runningVersion 0 0 ≠ 5 := by decide

theorem witness_ThePairedTwin : (twinChip 2 0).darkChip = false ∧ (twinChip 2 0).weferIn 16 = true ∧ (twinChip 2 0).twinSt = 2 ∧
    (twinChip 2 0).twin.recvSeq < (5 : BitVec 64).toNat ∧ (twinChip 2 0).twin.early.any (fun e => e.1 == 5) = false ∧
    ((twinChip 2 0).twinAck 16 0x27 9).2.twinSt = 2 ∧ ((twinChip 1 0).twinAck 16 0x27 9).2.twinSt ≠ 2 ∧ (twinChip 3 0).twinSt = 3 ∧
    (((twinChip 3 0).modLane 16 (fun x => { x with reqs := [⟨0x27, 9, 0, []⟩] })).lane 16).reqs.find? (fun q => decide (0x20 ≤ q.op) && q.seq == 9) =
      some ⟨0x27, 9, 0, []⟩ ∧
    (((twinChip 3 0).modLane 16 (fun x => { x with reqs := [⟨0x21, 9, 0, []⟩] })).lane 16).reqs.find? (fun q => decide (0x20 ≤ q.op) && q.seq == 9) =
      some ⟨0x21, 9, 0, []⟩ := by decide

/-- P0's lane 16 and P16's lane 16 alone are Wefer lanes, ACTIVE. -/
def beatChip : Chip :=
  let map := (List.range 64).map (fun i => if i = 16 then 2 else 0)
  [16, 1040].foldl (fun s l => (s.set (lstat l) F.PRT_LSTAT_STATE LS.active).modLane l (fun x => { x with lock := true })) { up with cfg := [(0, { lanes := map }), (16, { lanes := map })] }

theorem witness_ThePairedTwin_beat : beatChip.darkChip = false ∧ beatChip.weferOf 0 = [16] ∧ beatChip.weferOf 16 = [1040] ∧
    (beatChip.modTwin (fun t => { t with beats := 1 })).weferOf 0 = [16] ∧
    ((beatChip.modTwin (fun t => { t with beats := 1 })).lcSend 16 0x20 0 []).weferOf 16 = [1040] := by decide

theorem witness_ThePairedTwin_none : up.weferActive = [] := by decide

/-- A sag warning holds. -/
def sagChip : Chip := up.set (R.PWR_STATE 32) F.PWR_STATE_SAG 1

theorem witness_SagWarnings : up.pw.chipReset = 0 ∧ up.sag = false ∧ sagChip.sag = true ∧ sagChip.pw.setpoint = none ∧
    ({ up with sagN := false } : Chip).sagN = false ∧ up.sagN = true ∧
    toSigned 16 (up.get (R.PWR_TEMP 39) F.PWR_TEMP_PEAK) < (5 : BitVec 16).toInt ∧
    (-1 : BitVec 16).toInt ≤ toSigned 16 ((up.set (R.PWR_TEMP 39) F.PWR_TEMP_PEAK 5).get (R.PWR_TEMP 39) F.PWR_TEMP_PEAK) ∧ up.tempNow 39 < 920 ∧
    920 ≤ (up.set (R.PWR_TEMP 39) F.PWR_TEMP_NOW 920).tempNow 39 := by decide

theorem witness_SagWarnings_clear :
    ((((List.range 8).foldl Chip.pendingRelease sagChip.sagEnd).sagSignal).chipPower 0 (powerDetail 6 0 0 0 0 0 0 0)).pw.setpoint = none ∧
    ((((List.range 8).foldl Chip.pendingRelease (sagChip.modPw (fun p => { p with setpoint := some 750 })).sagEnd).sagSignal).chipPower 0
      (powerDetail 6 0 0 0 0 0 0 0)).pw.setpoint = some 750 := by decide

theorem witness_ResetsOfTheChip : up.pw.chipReset ≠ 1 ∧ up.pw.chipReset = 0 ∧ (9 : Fin 10) ≠ 0 ∧ (5 : Nat) ≠ R.PWR_RST_STAT 32 ∧ (5 : Nat) ≠ R.PWR_RST_STAT 39 := by
  decide

theorem witness_NarrowerResets : State.reset.chip.pw.chipReset ≠ 0 ∧ up.pw.chipReset = 0 ∧ up.pw.planeReset = false ∧ up.pw.dataHeld = false ∧
    (7 : Nat) < blocksOf 31 ∧ (3 : Nat) < blocksOf 39 ∧ (up.modPw (fun p => { p with planeReset := true })).pw.planeReset = true ∧
    ((up.modHub 1 (fun x => { x with mgmtUp := false, linkUp := false })).hub 1).mgmtUp = false ∧
    ((up.modHub 1 (fun x => { x with mgmtUp := false, linkUp := false })).hub 1).linkUp = false ∧
    SMap.get (fun _ => false) (up.modPw (fun p => { p with regionReset := [(39, true)] })).pw.regionReset 39 = true ∧
    SMap.get (fun _ => false) (up.modPw (fun p => { p with tileReset := [(39 * 128 + 111, true)] })).pw.tileReset (39 * 128 + 111) = true ∧
    SMap.get (fun _ => false) (up.modPw (fun p => { p with blockReset := [(39 * 8 + 3, true)] })).pw.blockReset (39 * 8 + 3) = true := by decide

theorem witness_Restart : up.pw.chipReset = 0 ∧ (up.modPw (fun p => { p with hot := [(39, true)] })).pw.hot.any (fun e => e.2) = true ∧
    State.reset.chip.pw.chipReset ≠ 0 ∧ State.reset.chip.pw.hot.any (fun e => e.2) = false := by decide

/-- The spare monitor ring of F7 of die 31 in a state. -/
def ringChip (st : Nat) : Chip := up.setRingSt 31 7 16 st

/-- The dips of nine channels evenly spaced. -/
def nineDips : List (BitVec 12) := [100, 200, 300, 400, 500, 600, 700, 800, 900]

theorem witness_RingsSearchAndLock : up.get (R.PRT_OPT_STAT 31) F.PRT_OPT_STAT_SEARCH = 0 ∧ up.pw.dataHeld = false ∧
    (up.set (R.PRT_OPT_STAT 31) F.PRT_OPT_STAT_SEARCH 1).get (R.PRT_OPT_STAT 31) F.PRT_OPT_STAT_SEARCH ≠ 0 ∧
    (ringChip RS.search).ringSt 31 7 16 = RS.search ∧ sweepRecord (nineDips.map (·.toNat)) = some [900, 800, 700, 600, 500, 400, 300, 200, 100] ∧
    sweepRecord [] = none ∧ (ringChip RS.locking).ringSt 31 7 16 = RS.locking ∧ ((ringChip RS.locking).ring 31 7 16).waits = 0 ∧
    ((ringChip RS.locking).ring 31 7 16).fromHeld = false ∧ (((ringChip RS.locking).modRing 31 7 16 (fun x => { x with fromHeld := true })).ring 31 7 16).fromHeld = true ∧
    (ringChip RS.confirm).ringSt 31 7 16 = RS.confirm ∧ (ringChip RS.locked).ringSt 31 7 16 = RS.locked ∧ toneOk 0 100 0 0 100 = true ∧ toneOk 0 0 0 0 100 = false ∧
    ((ringChip RS.locked).ring 31 7 16).badTones < 3 ∧ 3 ≤ (((ringChip RS.locked).modRing 31 7 16 (fun x => { x with badTones := 3 })).ring 31 7 16).badTones ∧
    (ringChip RS.recover).ringSt 31 7 16 = RS.recover ∧ ((ringChip RS.recover).ring 31 7 16).waits = 0 := by decide

/-- An applied optical request. -/
def optReqChip (op : Nat) : Chip := (up.set (R.PRT_OPT_REQ 31) F.PRT_OPT_REQ_OP op).set (R.PRT_OPT_REQ 31) F.PRT_OPT_REQ_RING 135

theorem witness_RingsLoseAndRegainLight : (ringChip RS.locked).ringSt 31 7 16 = RS.locked ∧ (ringChip RS.parked).ringSt 31 7 16 ≠ RS.locked ∧
    (ringChip RS.held).pw.standby = false ∧ (ringChip RS.held).flag (R.PRT_FP 31 7) F.PRT_FP_FEED_LOST = false ∧ (ringChip RS.held).ringSt 31 7 16 = RS.held ∧
    (ringChip RS.parked).ringSt 31 7 16 ≠ RS.held ∧ (ringChip RS.parked).ringSt 31 7 16 ≠ RS.locking ∧ (ringChip RS.confirm).ringSt 31 7 16 = RS.confirm ∧
    (4094 : BitVec 12).toNat < 4095 ∧ (3890 : BitVec 12).toNat ≤ 3890 ∧ (optReqChip 3).get (R.PRT_OPT_REQ 31) F.PRT_OPT_REQ_OP = 3 ∧
    (optReqChip 2).get (R.PRT_OPT_REQ 31) F.PRT_OPT_REQ_OP ≠ 3 ∧ (optReqChip 3).get (R.PRT_OPT_REQ 31) F.PRT_OPT_REQ_RING = 135 ∧
    (optReqChip 3).ringSt 31 (135 / 17) (135 % 17) = RS.parked ∧
    ((optReqChip 3).setRingSt 31 7 16 RS.locked).ringSt 31 (135 / 17) (135 % 17) ≠ RS.parked := by decide

/-- Lane 2047 with ROLE 1 as the only lane of its port, in a state, its move as given. -/
def moveChip (st : Nat) (m : Option Move) : Chip := (laneChip st).modLaneOpt 2047 (fun x => { x with move := m })

theorem witness_LanesAreCalibrated : (moveChip LS.active none).role 2047 = 1 ∧ (moveChip LS.active none).laneState 2047 ≠ LS.cleared ∧
    (moveChip LS.active none).portWidth 2047 = 1 ∧ (moveChip LS.active none).flag (R.PRT_OPT_POL 31) F.PRT_OPT_POL_CAL_SOLO = false ∧
    (moveChip LS.active none).laneState 2047 ≠ LS.drained ∧ (moveChip LS.drained none).laneState 2047 = LS.drained ∧
    ((moveChip LS.drained (some { kind := 3, acted := true })).laneOpt 2047).move = some { kind := 3, acted := true } ∧
    ((moveChip LS.drained (some { kind := 1, acted := true })).laneOpt 2047).move = some { kind := 1, acted := true } ∧
    (optReqChip 1).optReqOp 31 = 1 ∧ (optReqChip 1).onSpare ((optReqChip 1).optReqLane 31) = false ∧ (optReqChip 2).optReqOp 31 = 2 ∧
    ((optReqChip 1).set (optPwr 1984) F.PRT_OPT_PWR_ON_SPARE 1).onSpare ((optReqChip 1).optReqLane 31) = true ∧
    -50 < ((optReqChip 1).set (optPwr 1984) F.PRT_OPT_PWR_ON_SPARE 1).spareFade ((optReqChip 1).optReqLane 31) ∧
    (optReqChip 4).optReqOp 31 = 4 ∧ (optReqChip 4).fadeHold ((optReqChip 4).optReqLane 31) = false ∧
    ((optReqChip 4).setHold 1984 true).fadeHold ((optReqChip 4).optReqLane 31) = true ∧ (List.replicate 64 (0 : Int)).length = 64 := by decide

theorem witness_LanesAreCalibrated_ledger : (moveChip LS.active none).hasEntry (laneDie 2047) (isCal 2047) = none := by decide

/-- The clearing of route 3, channel 7 of die 31 in a state and phase, its lanes in a lane state. -/
def clrChip (st phase ls : Nat) : Chip :=
  ((((up.setClr 31 3 7 { phase := phase }).setClrSt 31 3 7 st).set (R.CLR_CHAN 31 3 7) F.CLR_CHAN_HANDLE 9).set (lstat 2015) F.PRT_LSTAT_STATE ls).set
    (lstat 2047) F.PRT_LSTAT_STATE ls

/-- An applied clearing request. -/
def clrReqChip (op : Nat) : Chip := ((up.set (R.CLR_REQ 31) F.CLR_REQ_OP op).set (R.CLR_REQ 31) F.CLR_REQ_ROUTE 3).set (R.CLR_REQ 31) F.CLR_REQ_CHANNEL 7

theorem witness_Clearings : (clrReqChip 1).clrReqOp 31 = 1 ∧ (clrReqChip 2).clrReqOp 31 = 2 ∧ (clrReqChip 1).clrAllowed 31 3 7 = false ∧
    (clrChip 2 0 LS.drained).clrSt 31 3 7 = 2 ∧ (clrLanes 31 3 7).all (fun l => (clrChip 2 0 LS.drained).laneState l == LS.drained) = true ∧
    ((clrChip 2 0 LS.drained).clr 31 3 7).bell < (clrChip 2 0 LS.drained).now + 100 * tuUs ∧ (up.clrSt 31 3 7 ≠ 2) ∧
    (up.lane 2047).reqs.find? (fun q => (q.op == 0x18 || q.op == 0x19) && q.seq == 255) = none ∧ (laneChip LS.active).lcOpen 2047 = true ∧
    (laneChip LS.active).clrHandle 31 3 7 ≠ 9 ∧ (clrChip 5 0 LS.active).clrHandle 31 3 7 = 9 ∧ (clrChip 5 0 LS.active).clrSt 31 3 7 = 5 ∧
    (clrChip 6 1 LS.active).clrSt 31 3 7 = 6 ∧ ((clrChip 6 1 LS.active).clr 31 3 7).phase = 1 ∧
    (clrLanes 31 3 7).all (fun l => (clrChip 5 0 LS.cleared).clearCap l) = false := by decide

/-- Lane 2047 open for link control, with CLEAR_DRAINED 255 acted on, its clearing CLEARED. -/
def clrOpenChip : Chip := ((((laneChip LS.active).setClrSt 31 3 7 5).set (R.CLR_CHAN 31 3 7) F.CLR_CHAN_HANDLE 9)).lcActed 2047 0x1B 255

theorem witness_Clearings_open : clrOpenChip.lcOpen 2047 = true ∧ clrOpenChip.clrHandle 31 3 7 = (9 : BitVec 16).toNat ∧ clrOpenChip.clrSt 31 3 7 = 5 ∧
    (clrOpenChip.lane 2047).acted? 0x1B 255 = true ∧ laneDie 2047 = 31 ∧ laneBlock 2047 % 4 = 3 := by decide

/-- A cell of KIND 0, TC 0 or TC 4 (which KIND 0 may not use), or a link control cell. -/
def goodCell : Cell := ({ dest := 512, first := true, last := true } : Cell).seal
def headBadCell : Cell := ({ kind := 0, tc := 4 } : Cell).seal

/-- Lane 2047 ACTIVE on a plane that runs. -/
def activeChip : Chip := laneChip LS.active

/-- Port die 31 with one queued key, one class policer. -/
def policedChip : Chip := activeChip.set (R.SCH_POL_CIR 31 63 3) F.SCH_POL_CIR_ENABLE 1

theorem witness_CellsEnterTheChip : (activeChip.takeRx 2047 goodCell).planeRuns 31 = true ∧ (activeChip.takeRx 2047 goodCell).isolated 31 = false ∧
    (activeChip.takeRx 2047 goodCell).role 2047 = 1 ∧ (activeChip.takeRx 2047 goodCell).laneState 2047 = LS.active ∧
    (activeChip.takeRx 2047 goodCell).blkSt 31 7 = 0 ∧ goodCell.crcOk = true ∧ goodCell.isLc = false ∧ ({ crc := 1 } : Cell).crcOk = false ∧
    (lcCell 63 ⟨1, 0, []⟩).crcOk = true ∧ (lcCell 63 ⟨1, 0, []⟩).isLc = true ∧ headBadCell.crcOk = true ∧ headBadCell.isLc = false ∧
    activeChip.headerOk 31 headBadCell = false ∧ activeChip.headerOk 31 goodCell = true ∧ activeChip.blockFb 31 7 = false := by decide

theorem witness_CellsEnterTheChip_rest : policedChip.flag (R.SCH_POL_CIR 31 63 3) F.SCH_POL_CIR_ENABLE = true ∧ policedChip.pw.clkHalf = false ∧
    activeChip.flag (R.SCH_POL_CIR 31 63 3) F.SCH_POL_CIR_ENABLE = false ∧ SMap.get (fun _ => []) activeChip.tb.learnQ 31 = [] ∧
    (activeChip.flowLookup 31 5).1 = none := by decide

/-- An envelope of one cell for port die 0 on uplink (31, 7) and on downlink (7, 31), with credits out. -/
def envOf (dst : Nat) (spill : Bool) : Env := { src := 31, dst := dst, seq := 0, cells := [⟨goodCell, 0, false, false, none, none⟩], spill := spill }
def envChip (dst : Nat) (spill : Bool) : Chip := activeChip.modSw (fun w =>
  { w with up := [(255, [envOf dst spill])], down := [(255, [envOf dst spill])], envSpent := [(pairKey 31 7 39, 2)], envReturn := [(pairKey 31 7 39, 1)],
           landSpent := [(255, 2)], landReturn := [(255, 1)] })

theorem witness_EnvelopesCrossTheChip : (envChip 0 false).planeRuns 31 = true ∧ (envChip 0 false).isolated 31 = false ∧ (envChip 0 false).dieRuns 31 = true ∧
    SMap.get (fun _ => []) (envChip 0 false).sw.up (31 * 8 + 7) = [envOf 0 false] ∧ SMap.get (fun _ => []) (envChip 0 true).sw.up (31 * 8 + 7) = [envOf 0 true] ∧
    (envChip 0 false).isolated 39 = false ∧ (envChip 0 false).isolated 0 = false ∧ (envChip 0 false).tileFb 39 0 = false ∧ (envChip 0 false).tileFb 39 31 = false ∧
    (envChip 0 false).planeRuns 39 = true ∧ (envChip 0 false).dieRuns 39 = true ∧ SMap.get (fun _ => []) (envChip 0 false).sw.down (7 * 32 + 31) = [envOf 0 false] ∧
    sget (envChip 0 false).sw.envReturn (pairKey 31 7 39) ≠ 0 ∧ sget (envChip 0 false).sw.envLowered 7 ≤ sget (envChip 0 false).sw.envWithheld (pairKey 31 7 39) ∧
    0 < sget (envChip 0 false).sw.envSpent (pairKey 31 7 39) ∧ sget (envChip 0 false).sw.landReturn (7 * 32 + 31) ≠ 0 ∧
    sget (envChip 0 false).sw.landSpent (7 * 32 + 31) ≤ 32 ∧ 0 < sget (envChip 0 false).sw.landSpent (7 * 32 + 31) := by decide

theorem witness_EnvelopesCrossTheChip_lost : (activeChip.set (R.FLT_FB_STATE 31) F.FLT_FB_STATE_REGION_ISO 1).isolated 31 = true ∧
    (activeChip.set (R.FLT_FB_STATE 39) F.FLT_FB_STATE_REGION_ISO 1).isolated (32 + 7) = true ∧ (envOf 39 false).dst = 32 + 7 ∧
    sget ((envChip 0 false).modSw (fun w => { w with envLowered := [(7, 1)] })).sw.envWithheld (pairKey 31 7 39) <
      sget ((envChip 0 false).modSw (fun w => { w with envLowered := [(7, 1)] })).sw.envLowered 7 := by decide

/-- Core die 39 with a cell parked for die 31, class 3, and one expired in the window. -/
def parkChip : Chip := activeChip.modSw (fun w => { w with parked := [(parkKey 7 31 3, [⟨goodCell, 0, false, none, 0⟩])], expiredWin := [(7, 1)] })

theorem witness_HoldMasksAndSpillPools : parkChip.isolated 31 = false ∧ parkChip.planeRuns 31 = true ∧ parkChip.isolated 39 = false ∧ parkChip.planeRuns 39 = true ∧
    parkChip.landHeld 7 31 ≠ 0 ∧ parkChip.tileFb (32 + 7) 31 = false ∧ parkChip.tileFb (32 + 7) 30 = false ∧ (parkChip.modSw (fun w => { w with landSpent := [(255, 32)] })).landHeld 7 31 = 0 ∧ (parkChip.unparkCells 7 31 12).1 ≠ [] ∧
    (parkChip.unparkCells 7 30 12).1 = [] ∧ parkChip.landHeld 7 30 ≠ 0 ∧ parkChip.parked 7 31 3 = [⟨goodCell, 0, false, none, 0⟩] ∧ parkChip.parked 7 31 4 = [] ∧
    sget parkChip.sw.expiredWin 7 ≠ 0 ∧ sget activeChip.sw.expiredWin 7 = 0 := by decide

/-- An ACTIVE lane 2047 that has to send a link control message, or has class k staged. -/
def sendChip (k : Nat) : Chip := activeChip.setStq 2047 k [{ buf := 0, saf := false, ts := none, tag := some 5 }]

/-- A release bell 255 of die 31 for port 56, class 7, whose queue is held, with a head and a late cell. -/
def bellChip (action : Nat) : Chip := (({ activeChip with bells := [(31 * 256 + 255, some { action := action, arg := 56 + 64 * 7, time := 0, ts := false, tag := 0, notify := false, owner := 0 })] } : Chip).setPq 31 56 7
  [{ buf := 0, saf := false, ts := none }]).set (R.SCH_HOLD 31 56) F.SCH_HOLD_HOLD 0x80

theorem witness_LanesSendAndDieToDieLinksRecover : activeChip.dieRuns 31 = true ∧ activeChip.darkChip = false ∧ activeChip.transmits 2047 = true ∧
    activeChip.laneState 2047 = LS.active ∧ ((activeChip.modLane 2047 (fun x => { x with lcOut := [⟨1, 0, []⟩] })).lane 2047).txLc < 2 ∧
    (activeChip.lane 2047).lcOut = [] ∧ (activeChip.lane 2047).launch = none ∧ activeChip.strictReady 2047 = none ∧ activeChip.wfqReady 2047 = none ∧
    (sendChip 0).strictReady 2047 = none ∧ (sendChip 0).wfqReady 2047 = some (0, 5) := by decide

theorem witness_LanesSend_launch : activeChip.shaped 31 63 8 = false ∧ (activeChip.set (R.SCH_SHP_RATE 31 63 8) F.SCH_SHP_RATE_ENABLE 1).shaped 31 63 8 = true ∧
    SMap.get (fun _ => none) activeChip.bells (31 * 256 + 255) = none ∧ (bellChip 1).queueHeld 31 (504 % 64) (504 / 64 % 8) = true ∧
    (bellChip 1).pq 31 56 7 = [{ buf := 0, saf := false, ts := none }] ∧ SMap.get (fun _ => none) activeChip.sw.late (pqKey 31 63 7) = none := by decide

theorem witness_LinksRecover : satUnit 4 39 0 = true ∧ sget activeChip.sw.satSince ((4 * 64 + 39) * 64) = (false).toNat ∧ activeChip.planeRuns 39 = true ∧
    activeChip.saturated 3 31 0 true = true ∧ satUnit 3 31 0 = true ∧
    activeChip.d2dDown 31 7 = false ∧ sget (activeChip.modSw (fun w => { w with d2dWindow := [(511, 1)], slotReplays := [(511, 8)] })).sw.d2dWindow 511 = activeChip.now / tuMs + 1 ∧
    8 < sget (activeChip.modSw (fun w => { w with slotReplays := [(511, 8)] })).sw.slotReplays 511 + 1 ∧
    1024 < (activeChip.set (replayReg 31 7 true) F.PRT_D2D_REPLAY_WINDOW 1025).get (replayReg 31 7 true) F.PRT_D2D_REPLAY_WINDOW ∧
    (activeChip.modSw (fun w => { w with linkDown := [(255, true)] })).d2dDown 31 7 = true := by decide

/-- Port die 31 with an applied table operation on a table. -/
def tblChip (op table : Nat) : Chip := (up.set (R.TBL_OP 31) F.TBL_OP_OP op).set (R.TBL_OP 31) F.TBL_OP_TABLE table

/-- The same with a valid flow entry and a valid group for the key 0. -/
def tblFull (op table : Nat) : Chip :=
  ((tblChip op table).setFlow 31 ((tblChip op table).flowBucket 31 0 * 4) (BitVec.ofNat 128 (2 ^ 127 + 2 ^ 101))).setMc 31 ((tblChip op table).mcBucket 31 0 * 4) (BitVec.ofNat 256 (2 ^ 255))

theorem witness_TableOperations : (tblChip 0 0).get (R.TBL_OP 31) F.TBL_OP_OP = 0 ∧ (tblChip 1 0).get (R.TBL_OP 31) F.TBL_OP_OP = 1 ∧
    (tblChip 2 1).get (R.TBL_OP 31) F.TBL_OP_OP = 2 ∧ (tblChip 2 1).tblTable 31 = 1 ∧ (tblChip 2 2).tblTable 31 ≠ 1 ∧ (tblChip 3 1).get (R.TBL_OP 31) F.TBL_OP_OP = 3 ∧
    (tblChip 4 0).get (R.TBL_OP 31) F.TBL_OP_OP = 4 ∧ (tblChip 4 0).tblTable 31 = 0 ∧ 2 ≤ (tblChip 4 2).tblTable 31 ∧ (tblChip 5 1).get (R.TBL_OP 31) F.TBL_OP_OP = 5 ∧
    (at_ (tblChip 5 1)).calm = true := by decide

theorem witness_TableOperations_found : ((tblChip 3 1).flowLookup 31 ((tblChip 3 1).tblKey 31)).1 = none ∧ (tblChip 3 2).mcFind 31 ((tblChip 3 2).tblKey 31) = none ∧
    ((tblFull 3 1).flowLookup 31 ((tblFull 3 1).tblKey 31)).1 = some ((tblChip 3 1).flowBucket 31 0 * 4) ∧
    (tblFull 3 2).mcFind 31 ((tblFull 3 2).tblKey 31) = some ((tblChip 3 2).mcBucket 31 0 * 4) := by decide

/-- A chip with an activity running in the ledger of a die. -/
def runChip (d : Nat) (a : Activity) : Chip := { up with ledger := [(d * 64 + 63, some ⟨a, false, true, 0, 0, false⟩)] }

theorem witness_ScrubsAndAuditsRun : up.hasEntry 31 isTableScrub = none ∧ up.running 31 isTableScrub = false ∧ poolOf 31 7 = true ∧ poolOf 39 8 = true ∧
    up.hasEntry 31 (isAudit 7) = none ∧ up.running 31 (isAudit 7) = false ∧ up.flag (R.FLT_LDG_CFG 39) F.FLT_LDG_CFG_HSC_ENABLE = true ∧
    up.hasEntry 39 (isHbmScrub 1) = none ∧ up.running 39 (isHbmScrub 1) = false ∧ (runChip 31 .tableScrub).running 31 isTableScrub = true ∧
    ((runChip 31 .tableScrub).hasEntry 31 isTableScrub).isSome = true ∧ (runChip 31 (.audit 7)).running 31 (isAudit 7) = true ∧
    ((runChip 31 (.audit 7)).hasEntry 31 (isAudit 7)).isSome = true ∧ (runChip 39 (.hbmScrub 1)).running 39 (isHbmScrub 1) = true ∧
    (up.set (R.FLT_LDG_CFG 39) F.FLT_LDG_CFG_HSC_ENABLE 0).flag (R.FLT_LDG_CFG 39) F.FLT_LDG_CFG_HSC_ENABLE = false ∧ [HbmBad.quiz].all (·.wf) = true := by decide

/-- Core die 39 with an applied staging request for slot 3, whose slot is in a state. -/
def stgChip (op st : Nat) : Chip := (((activeChip.set (R.TBL_STG_REQ 39) F.TBL_STG_REQ_OP op).set (R.TBL_STG_REQ 39) F.TBL_STG_REQ_SLOT 3).setStg 7 3
  { group := 1, dieMap := 2 ^ 31, reserve := 1, extents := [{ src := 5, tc := 0, tag := some 9, count := some 0, cells := [], refs := 1, complete := true, released := [], bad := false }] }).setSlotSt 7 3 st

theorem witness_StagingSlotsOpenServeAndClose : (stgChip 1 0).stgOp 7 = 1 ∧ (stgChip 1 0).stgSlot 7 = 3 ∧ (stgChip 1 0).slotSt 7 3 = 0 ∧ (stgChip 1 1).slotSt 7 3 ≠ 0 ∧
    (stgChip 2 1).stgOp 7 = 2 ∧ (stgChip 2 1).slotSt 7 3 = 1 ∧ (stgChip 3 1).stgOp 7 = 3 ∧ ((stgChip 0 1).popSwitchMsg 0x0010).laneState 2047 = LS.active ∧
    ((stgChip 0 1).popSwitchMsg 0x0010).isolated 39 = false ∧ ((stgChip 0 1).popSwitchMsg 0x0010).slotSt 7 3 ≠ 0 ∧
    ((((stgChip 0 1).popSwitchMsg 0x0010).stg 7 3).extents.find? (fun e => e.isFor 5 9)).isSome = true ∧
    (((stgChip 0 1).popSwitchMsg 0x0010).stg 7 3).extents.find? (fun e => e.isFor 6 9) = none ∧
    bitOf (((stgChip 0 1).popSwitchMsg 0x0011).stg 7 3).dieMap 31 = true ∧ bitOf (((stgChip 0 1).popSwitchMsg 0x0011).stg 7 3).dieMap 30 = false := by decide

/-- Core die 39 with an applied operation on object 4095, whose state is as given. -/
def synChip (op st : Nat) : Chip := ((({ up with cfg := [(39, { groups := List.replicate 8 { enable := true } })] } : Chip).set (R.SYN_OP 39) F.SYN_OP_OP op).set
  (R.SYN_OP 39) F.SYN_OP_OBJECT 4095).set (objReg 4095) F.SYN_OBJ_STATE st

/-- The same with a roll of one member loading, or a roll of two. -/
def rollChip (fanout : Nat) : Chip := (synChip 0 0).modObj 4095 (fun o => { o with loading := some { members := 1, spines := 1, spine := 0, timeout := 1, early := false, window := 1, maxChunk := 0, thresh := 0, nextSeq := 5, addr := 0, hub := 0, fanout := fanout } })

theorem witness_SyncObjectOperations : (synChip 1 0).synOp 7 = 1 ∧ (synChip 1 0).synObj 7 = 4095 ∧ (synChip 1 0).objState 4095 = 0 ∧ ((synChip 1 0).obj 4095).loading = none ∧
    (((synChip 1 0).synDone 7).syncGroup 4095).enable = true ∧ ((synChip 1 0).synDone 7).isolated (objDie 4095) = false ∧ (synChip 1 7).objState 4095 = 7 ∧
    ((synChip 1 7).set (R.SYN_OP 39) F.SYN_OP_QUEUE 1).flag (R.SYN_OP 39) F.SYN_OP_QUEUE = true ∧ ((synChip 1 7).obj 4095).queued = none ∧
    (synChip 1 1).objState 4095 ≠ 0 ∧ (synChip 1 1).objState 4095 ≠ 7 := by decide

theorem witness_SyncObjectOperations_rest : ((rollChip 1).obj 4095).loading.isSome = true ∧ rollValid [⟨0, 0, 0⟩] 1 = true ∧ rollValid [⟨0, 0, 0⟩] 2 = false ∧
    (at_ (rollChip 1)).calm = true ∧ (synChip 2 1).synOp 7 = 2 ∧ (synChip 3 1).synOp 7 = 3 ∧ (synChip 4 1).synOp 7 = 4 ∧ (synChip 4 1).objState ((synChip 4 1).synObj 7) ≠ 0 ∧
    ((synChip 3 1).modObj 4095 (fun o => { o with roll := [⟨0, 0, 0⟩] })).get (R.SYN_RANK 39) F.SYN_RANK_RANK < ((((synChip 3 1).modObj 4095 (fun o => { o with roll := [⟨0, 0, 0⟩] })).obj 4095).roll).length ∧
    (synChip 0 0).syncGroup 0 = {} := by decide

/-- Object 4095, state st, with one member 9 and the sequence number 5. -/
def memChip (st : Nat) : Chip := (synChip 0 st).modObj 4095 (fun o => { o with roll := [⟨9, 0, 0⟩], nextSeq := 5, mark := 1, gap := true })

/-- A KIND 2 cell of object 4095, epoch 0, from an end-point. -/
def contribCell (src : Nat) (seq : Nat) : Cell := { kind := 2, tc := 4, dest := BitVec.ofNat 20 (4095 * 256), src := BitVec.ofNat 20 src, seq := BitVec.ofNat 22 seq }

theorem witness_CollectivesCollectAbortAndRest : (contribCell 9 0).kind = 2 ∧ objCore ((contribCell 9 0).dest.toNat / 256) = 7 ∧ (memChip 1).isolated 39 = false ∧
    (memChip 1).planeRuns 39 = true ∧ ((memChip 1).takeLanded 7 (contribCell 9 0)).objState 4095 = 1 ∧ ((memChip 0).takeLanded 7 (contribCell 9 0)).objState 4095 = 0 ∧
    (contribCell 9 0).dest.toNat % 256 = ((memChip 1).takeLanded 7 (contribCell 9 0)).objEpoch 4095 % 256 ∧
    (((memChip 1).takeLanded 7 (contribCell 9 0)).obj 4095).rank 9 = some 0 ∧ (((memChip 1).takeLanded 7 (contribCell 8 0)).obj 4095).rank 8 = none ∧
    (((memChip 1).takeLanded 7 (contribCell 9 1)).obj 4095).desc = none ∧ (contribCell 9 1).seq ≠ 0 ∧ ((memChip 1).takeLanded 7 (contribCell 9 0)).sag = false := by decide

theorem witness_CollectivesRest : (memChip 2).objBusy 4095 = true ∧ (memChip 1).objBusy 4095 = false ∧ ((memChip 2).obj 4095).gap = true ∧
    ((memChip 2).obj 4095).told < ((memChip 2).obj 4095).mark ∧ (memChip 6).objState 4095 = 6 ∧ (memChip 7).objState 4095 = 7 ∧ ((memChip 7).obj 4095).queued = none := by decide

/-- Object 4095 COLLECTING with the chunk of position 0 as given; binding 63 of core die 39 belongs to it. -/
def chunkChip (x : Chunk) : Chip := ((memChip 2).modObj 4095 (fun o => { o with desc := some (List.replicate 52 0), chunks := [(0, x)] })).setBind 7 63
  (some { object := 4095, rule := 0, ep := 0, chunks := 1, base := 0, step := 0, b1t := 0, b2t := 0, elements := 0, cur := resetParams, next := none, commits := [(0, 0, 1)] })

theorem witness_ChecksAndStepsEndAChunk : (chunkChip { complete := true }).checkOpen 4095 0 false = true ∧ (chunkChip { complete := true }).checkOpen 4095 0 true = false ∧
    (chunkChip { complete := true, rerun := true, first := some ⟨0, 0, 0, 0⟩ }).checkOpen 4095 0 true = true ∧
    (chunkChip { complete := true }).objBusy 4095 = true ∧ (((chunkChip { complete := true }).obj 4095).chunk 0).complete = true ∧
    (((chunkChip { complete := true }).obj 4095).chunk 0).wanted = 0 ∧ ((chunkChip { complete := true }).obj 4095).isSealed 0 = false ∧
    ((chunkChip {}).bind 7 63).isSome = true ∧ up.bind 7 63 = none ∧ (progSteps ((chunkChip { complete := true }).obj 4095).prog).any (fun t => t.1.op == 6) = false := by decide

theorem witness_ChecksMatch : (passResidues 0 ({} : Chunk) ⟨0, 0, 0, 0, []⟩).raA = (passResidues 0 ({} : Chunk) ⟨0, 0, 0, 0, []⟩).cA ∧
    (passResidues 0 ({} : Chunk) ⟨0, 0, 0, 0, []⟩).chk = (⟨0, 0, 0, 0⟩ : Residues).chk ∧ (passResidues 0 ({} : Chunk) ⟨0, 0, 0, 0, []⟩).chk ≠ (⟨0, 0, 1, 0⟩ : Residues).chk := by decide

/-- Core die 39 with an applied operation on number i. -/
def trfChip (op i : Nat) : Chip := (({ up with cfg := [(39, { trf := 16, opt := 1 })] } : Chip).set (R.TRF_OP 39) F.TRF_OP_OP op).set (R.TRF_OP 39) F.TRF_OP_ID i

theorem witness_TransformOperations : (trfChip 1 127).trfOp 7 = 1 ∧ (trfChip 1 127).trfId 7 = 127 ∧ ((trfChip 1 127).wr (R.TRF_ARG_A 39) 3).trfArgA 7 % 256 = 3 ∧
    ((trfChip 1 127).wr (R.TRF_ARG_A 39) 3).trfFits 7 127 3 = true ∧ up.trfFits 7 127 3 = false ∧ (trfChip 2 127).trfOp 7 = 2 ∧ (trfChip 2 127).matAt 7 127 = none ∧
    (((trfChip 2 127).setMat 7 127 (some ⟨3, []⟩)).matAt 7 127).isSome = true ∧ (trfChip 3 255).trfOp 7 = 3 ∧ (trfChip 3 255).trfId 7 ≠ 0 ∧ (trfChip 3 255).recipeInUse 7 255 = false ∧
    (trfChip 4 255).recAt 7 255 = none ∧ (((trfChip 4 255).setRec 7 255 (some [])).recAt 7 255).isSome = true ∧ (trfChip 8 63).trfOp 7 = 8 ∧ (trfChip 8 63).trfArgA 7 % 4 = 0 ∧
    ((trfChip 8 63).wr (R.TRF_ARG_A 39) 2).trfArgA 7 % 4 = 2 := by decide

/-- The recipe is that of chapter 12's worked example, slot 5. -/
theorem witness_TransformOperations_recipe : recipeValid (recipeWords [0x0107000000000000, 0x0202010000000000, 0x0403070300000000, 0x030000003E3504F3, 0x0600010000000000, 0x0703000000000000, 0x0800000000000000, 0]) false = true ∧
    recipeValid [] false = false := by decide

/-- A binding of object 4095 on core die 39, and the chip that holds it as number 63 with an applied operation. -/
def someBind (busy : Bool) (copy : Option (Nat × Nat × Nat × Nat × Nat)) : Binding :=
  { object := 4095, rule := 1, ep := 16, chunks := 1, base := 0, step := 7, b1t := 0, b2t := 0, elements := 16, cur := resetParams, next := none, busy := busy, copy := copy }
def bindChip (op st : Nat) (b : Binding) : Chip := ((trfChip op 63).set (objReg 4095) F.SYN_OBJ_STATE st).setBind 7 63 (some b)

theorem witness_BindingsBindCopyAndEnd : (bindChip 6 1 (someBind false none)).trfOp 7 = 6 ∧ (bindChip 6 1 (someBind false none)).bind 7 63 = some (someBind false none) ∧
    (bindChip 6 1 (someBind false none)).trfId 7 = 63 ∧ (bindChip 6 1 (someBind false none)).objBusy 4095 = false ∧ (bindChip 6 2 (someBind false none)).objBusy 4095 = true ∧
    (bindChip 7 1 (someBind false none)).objState 4095 = 1 ∧ (bindChip 7 2 (someBind false none)).objState 4095 = 2 ∧ (trfChip 7 63).bind 7 63 = none ∧
    (bindChip 0 1 (someBind true none)).bind 7 63 = some (someBind true none) ∧ (someBind true (some (1, 0, 1, 1, 4096))).copy = some (1, 0, 1, 1, 4096) := by decide

theorem witness_BindingsBind : (trfChip 5 63).trfOp 7 = 5 ∧ (readBinding (fun a => if a = 0 then 255 else if a = 1 then 15 else 0) 0).object = 4095 ∧
    objCore 4095 = 7 ∧ ((trfChip 5 63).set (objReg 4095) F.SYN_OBJ_STATE 1).objState 4095 = 1 ∧ (trfChip 5 63).bindOf 4095 = none ∧
    (trfChip 5 63).bindFits 7 (someBind false none) = true ∧ up.bindFits 7 (someBind false none) = false := by decide

/-- Die 0 with entry 0 of its ledger as given, its optics running. -/
def ledgerChip (x : LedgerEnt) : Chip := { up with ledger := [(0, some x)] }

/-- A QUEUED or RUNNING audit of pool 7. -/
def auditEnt (run told : Bool) : LedgerEnt := ⟨.audit 7, false, run, 1, 0, told⟩

/-- A QUEUED quiz. -/
def quizEnt : LedgerEnt := ⟨.quiz ⟨2, 0, 7, 0⟩ 3, false, false, 1, 0, false⟩

theorem witness_TheLedgerQueuesAndAdmits : (Activity.audit 7).wfOn 31 = true ∧ up.freeEntry 31 = some 0 ∧ 4 < 64 - (up.entries 31).length ∧
    up.ledgerQueue 0 = [] ∧ (ledgerChip (auditEnt false false)).ledgerQueue 0 = [(0, auditEnt false false)] ∧
    (ledgerChip (auditEnt false false)).capacityOk 0 (.audit 7) = true ∧ (ledgerChip (auditEnt false false)).unitsOk 0 (.audit 7) = true ∧
    (ledgerChip (auditEnt false false)).sag = false ∧ (ledgerChip (auditEnt true false)).entry 0 0 = some (auditEnt true false) ∧
    (ledgerChip (auditEnt false true)).entry 0 0 = some (auditEnt false true) ∧ up.entry 0 63 = none := by decide

/-- Die 0 with all of its entries but n QUEUED. -/
def fullLedger (n : Nat) : Chip := { up with ledger := (List.range (64 - n)).map (fun i => (i, some (auditEnt false false))) }

theorem witness_TheLedgerQueuesAndAdmits_rest : (fullLedger 0).freeEntry 0 = none ∧ (fullLedger 4).freeEntry 0 = some 60 ∧
    64 - ((fullLedger 4).entries 0).length = 4 ∧ (Activity.audit 7).headBand = false ∧ (Activity.swap false 1 []).headBand = true ∧
    ((auditEnt true false).act.conflicts (auditEnt false false).act = true) ∧
    quizEnt.act.act = 3 ∧ ((ledgerChip quizEnt).set (R.PWR_STATE 32) F.PWR_STATE_SAG 1).sag = true := by decide

/-- The port crossbar of block 7 of die 0, and die 0 with a RUNNING quiz of it. -/
def quizUnit : QUnit := ⟨2, 0, 7, 0⟩
def quizChip : Chip := ledgerChip { quizEnt with running := true }

theorem witness_QuizzesAreAskedForRunAndRerun : quizUnit.exists_ = true ∧ up.hasEntry 0 (isQuizOf quizUnit) = none ∧
    (quizChip.hasEntry 0 (isQuizOf quizUnit)).isSome = true ∧ (up.set (R.FLT_QUIZ_REQ 39) F.FLT_QUIZ_REQ_OP 1).get (R.FLT_QUIZ_REQ 39) F.FLT_QUIZ_REQ_OP = 1 ∧
    up.get (R.FLT_QUIZ_REQ 39) F.FLT_QUIZ_REQ_OP ≠ 1 ∧ up.pw.dataHeld = false ∧
    (up.entries 0).find? (fun e => e.2.running && isQuizOf quizUnit e.2.act) = none ∧
    (quizChip.entries 0).find? (fun e => e.2.running && isQuizOf quizUnit e.2.act) = some (0, { quizEnt with running := true }) ∧
    quizEnt.act = .quiz quizUnit 3 ∧ (⟨0x3FF, 1, 1⟩ : QuizRun).ok = true ∧ (⟨0x3FF, 1, 2⟩ : QuizRun).ok = false ∧
    0x3FF ∉ quizChip.integ.suspended ∧ quizChip.integ.due = [] ∧ (0x400, quizUnit) ∉ up.integ.reruns ∧
    (0x400, quizUnit) ∈ (up.modInteg (fun g => { g with reruns := [(0x400, quizUnit)] })).integ.reruns := by decide

/-- Port die 31 with a stamp waiting, HEAD at h and TAIL at 0. -/
def stampChip (h : Nat) : Chip := ({ up with stamps := [(31, [⟨5, 63, 2, 7⟩])] } : Chip).set (R.TIM_TSQ_PTR 31) F.TIM_TSQ_PTR_HEAD h

theorem witness_TransmitTimestampsQueueUp : SMap.get (fun _ => []) (stampChip 64).stamps 31 = [⟨5, 63, 2, 7⟩] ∧ SMap.get (fun _ => []) up.stamps 0 = [] ∧
    (stampChip 63).get (R.TIM_TSQ_PTR 31) F.TIM_TSQ_PTR_HEAD = 63 ∧ (stampChip 64).get (R.TIM_TSQ_PTR 31) F.TIM_TSQ_PTR_HEAD % 64 = 0 ∧
    (stampChip 64).get (R.TIM_TSQ_PTR 31) F.TIM_TSQ_PTR_HEAD ≠ 0 ∧ (stampChip 64).get (R.TIM_TSQ_PTR 31) F.TIM_TSQ_PTR_TAIL = 0 ∧
    SMap.get (fun _ => false) (stampChip 64).tsqLost 31 = false ∧ SMap.get (fun _ => false) ({ stampChip 64 with tsqLost := [(31, true)] } : Chip).tsqLost 31 = true ∧
    (at_ ({ stampChip 64 with tsqLost := [(31, true)] } : Chip)).calm = true ∧ (stampChip 64).isolated 31 = false := by decide

/-- A chip with device time valid, interface M of die 39 holding a QUIZ of its cluster 3's lane group 0, NSEC as given. -/
def armChip (nsec : Nat) : Chip := (((((up.set (R.TIM_STAT 32) F.TIM_STAT_VALID 1).set (R.TIM_STAT 39) F.TIM_STAT_VALID 1).set (bellAct 39 1) F.TIM_BELL_ACT_C_ACTION 5).set (bellAct 39 1)
  F.TIM_BELL_ACT_C_ARG 0x38)).set (R.TIM_BELL_NSEC_M 39) F.TIM_BELL_NSEC_C_NSEC nsec

/-- Bell 191 of die 39, armed through interface M for a QUIZ. -/
def armedChip (action : Nat) : Chip := { up with bells := [(39 * 256 + 191, some ⟨9, action, 0x38, 7, true, false, 1⟩)] }

theorem witness_BellsArmCancelAndAct : (armChip 1000).bell 39 191 = none ∧ (armChip 1000).timValid = true ∧ (armChip 1000).faceNsec 39 1 = 1000 ∧
    (armChip 1000000000).faceNsec 39 1 = 1000000000 ∧ (armChip 999).bellActionOk 39 5 0x38 = true ∧ (armChip 999).bellActionOk 39 4 0x38 = false ∧
    (armChip 1000).get (bellAct 39 1) F.TIM_BELL_ACT_C_ACTION = 5 ∧ (armChip 1000).get (bellAct 39 1) F.TIM_BELL_ACT_C_ARG = 0x38 ∧
    (armChip 1000).now + tuUs ≤ timeOf ((armChip 1000).faceSec 39 1) ((armChip 1000).faceNsec 39 1) ∧
    timeOf ((armChip 999).faceSec 39 1) ((armChip 999).faceNsec 39 1) < (armChip 999).now + tuUs ∧
    (armedChip 5).bell 39 191 = some ⟨9, 5, 0x38, 7, true, false, 1⟩ ∧ up.timValid = false ∧
    (((armedChip 5).timeTo 9).setBell 39 191 none).bellDown 39 ⟨9, 5, 0x38, 7, true, false, 1⟩ = false ∧
    (((armedChip 3).timeTo 9).setBell 39 191 none).bellDown 39 ⟨9, 3, 0x38, 7, true, false, 1⟩ = false := by decide

/-- The primary hub's die with domain B of a source, in a state. -/
def domChip (src st : Nat) : Chip := (up.set (R.TIM_DOM_CFG 32 1) F.TIM_DOM_CFG_SOURCE src).set (R.TIM_STAT 32) F.TIM_STAT_STATE_B st

/-- The same with measurements that agree. -/
def agreeChip : Chip := (domChip 1 1).setDom 1 { hist := [3, -40, 5, 6, 7, 8, 9] }

theorem witness_TimeDomainsAndTimePins : up.primary = some 0 ∧ (domChip 1 1).domSource 1 = 1 ∧ (domChip 1 1).domState 1 = 1 ∧ (domChip 1 2).domState 1 = 2 ∧ (domChip 2 3).domState 1 = 3 ∧
    (domChip 1 4).domState 1 = 4 ∧ (domChip 1 1).get (R.TIM_DOM_CFG 32 1) F.TIM_DOM_CFG_LANE = 0 ∧ (domChip 1 1).get (R.TIM_DOM_CFG 32 1) F.TIM_DOM_CFG_DOMAIN = 0 ∧
    (domChip 1 1).popSwitchMsg 0x0020 = domChip 1 1 ∧ (domChip 1 1).domSource 0 ≠ 1 ∧ agree (10 :: (agreeChip.dom 1).hist) = true ∧ agree (100 :: (agreeChip.dom 1).hist) = false ∧
    (agreeChip.dom 1).hist.head?.any (fun p => decide (1000000 < ((10 : Int) - p).natAbs)) = false ∧
    (agreeChip.dom 1).hist.head?.any (fun p => decide (1000000 < ((2000000 : Int) - p).natAbs)) = true ∧ (up.hub 1).linkUp = true ∧ (up.hub 0).mgmtUp = true ∧ up.timValid = false ∧
    (up.set (R.TIM_CFG 32) F.TIM_CFG_PPS_FORCE 1).flag (R.TIM_CFG 32) F.TIM_CFG_PPS_FORCE = true := by decide

/-- Port die 1 with a TC7 cell for port die 31 waiting. -/
def tc7Chip : Chip := { up with sw := { up.sw with voqs := [(voqKey 1 7 31 7, [⟨0, 0, 0, false, 0, some 3, true⟩])] } }

theorem witness_OneCoreDieCarriesTC7 : up.isolated 32 = false ∧ (up.set (R.FLT_FB_STATE 32) F.FLT_FB_STATE_REGION_ISO 1).isolated 32 = true ∧
    ((tc7Chip.candsFor 1 0).map (fun x => (x.cls, x.dest))) = [(7, 31)] ∧ tc7Chip.candsFor 1 7 = [] ∧ (tc7Chip.dieVoqs 1).map (fun v => (voqClass v.1, voqDest v.1)) = [(7, 31)] ∧
    tc7Chip.dieRuns 31 = true ∧ tc7Chip.heldAt 1 31 7 = false ∧ tc7Chip.pathOpen 1 0 31 = true := by decide

/-- Rule 0 with parameters of zero and an element whose contribution is infinite. -/
def infCtx : OptCtx := { rule := 0, p := ⟨0, 0, 0, 0, 0, f32One, 0, 0, false⟩, c1 := f32One, c2 := f32One, w := [f32One, f32One], m1 := [0, 0], m2 := [] }

theorem witness_AnUpdateThatIsNotFiniteIsSkippedOrAborts : (optimize infCtx true [f32One, 0x7F800000]).skipped = 1 ∧ (optimize infCtx true [f32One, 0x7F800000]).abort = false ∧
    (optimize infCtx false [f32One, 0x7F800000]).abort = true ∧ (optimize infCtx true [f32One, 0x7F800000]).work = [f32One, f32One] := by decide


end Sys2Proof.Tests
end

section
/-!
PROOFS. REGISTER_WRITE of a register of the table (R8, R9): the bits its Access codes let it change, and what it leaves alone.
-/

namespace Sys2Proof.Machine

/-! ### Registers under a write (R9) -/

/-- Does one of the fields fs with Access code a hold bit i? -/
def accBit (fs : List RegField) (a : Access) (i : Nat) : Bool :=
  fs.any (fun f => f.acc = a && decide (f.lo ≤ i) && decide (i < f.lo + f.width))

/-- Masks gathered over a list of fields hold the bits of each field. -/
theorem getLsbD_foldl_mask (fs : List RegField) (m : Word) {i : Nat} (hi : i < 32) :
    (fs.foldl (fun m f => m ||| Fld.mask ⟨f.lo, f.width⟩) m).getLsbD i =
      (m.getLsbD i || fs.any (fun f => decide (f.lo ≤ i) && decide (i < f.lo + f.width))) := by
  induction fs generalizing m with
  | nil => simp
  | cons f t ih =>
    have hf : (Fld.mask ⟨f.lo, f.width⟩).getLsbD i = (decide (f.lo ≤ i) && decide (i < f.lo + f.width)) := by
      rw [getLsbD_mask _ _ hi, Bool.eq_iff_iff]
      simp only [Bool.and_eq_true, decide_eq_true_eq]
      omega
    rw [List.foldl_cons, ih, BitVec.getLsbD_or, hf, List.any_cons, Bool.or_assoc]

/-- The mask of an Access code holds the bits of its fields. -/
theorem getLsbD_accMask (fs : List RegField) (a : Access) {i : Nat} (hi : i < 32) : (accMask fs a).getLsbD i = accBit fs a i := by
  rw [accMask, namedMask, getLsbD_foldl_mask _ _ hi, accBit, List.any_filter]
  simp only [BitVec.ofNat_eq_ofNat, BitVec.getLsbD_zero, Bool.false_or, Bool.and_assoc]

/-- R9, bit by bit: an RW bit takes the value written, a W1C bit written 1 clears. -/
theorem getLsbD_accessWrite (fs : List RegField) (w v : Word) {i : Nat} (hi : i < 32) :
    (accessWrite fs w v).getLsbD i =
      (((w.getLsbD i && !accBit fs .rw i) || (v.getLsbD i && accBit fs .rw i)) && !(v.getLsbD i && accBit fs .w1c i)) := by
  simp only [accessWrite, BitVec.getLsbD_and, BitVec.getLsbD_or, BitVec.getLsbD_not, getLsbD_accMask _ _ hi, hi, decide_true, Bool.true_and]

/-- A live writer's write goes ahead. -/
theorem Chip.writeVia_live {c : Chip} {v : Via} (h : c.viaLive v = true) (f : Chip → Chip) : c.writeVia v f = f c := if_pos h

/-- BAR0 splits into the windows of the dies. -/
theorem dieBase_window (a : Nat) : dieBase (a / 0x04000000) + a % 0x04000000 = a := by
  rw [dieBase]; omega

/-- Offsets of a die window at which a write is a command of its own: queue pointers, bell commands, the tail of the event ring, the
reset command. -/
def commandOffsets : List Nat := [0x03E00000, 0x03E00004, 0x03800100, 0x03820014, 0x03820034, 0x03A00010, 0x03900030]

/-- A write to a register that is no command, no COMMIT and no CS register: R9's table is all it does. -/
theorem Chip.writeAt_plain (c : Chip) (v : Via) (r : RegRow) (d o : Nat) (w : Word) (hc : r.isCommit = false)
    (hs : isCs (dieBase d + o) = false) (ho : o ∉ commandOffsets) (hp : o / 0x1000 ≠ 0x03D00) :
    c.writeAt v r d o w = c.wr (dieBase d + o) (accessWrite r.fields (c.rd (dieBase d + o)) w) := by
  simp only [commandOffsets, List.mem_cons, List.not_mem_nil, or_false, not_or] at ho
  obtain ⟨h1, h2, h3, h4, h5, h6, h7⟩ := ho
  simp only [Chip.writeAt, hc, hs, h1, h2, h3, h4, h5, h6, h7, hp, Bool.false_eq_true, if_false]

/-- REGISTER_WRITE of such a register by a live writer is R9's table at its address. -/
theorem Chip.registerWrite_plain (c : Chip) (v : Via) (a : Nat) (w : Word) {r : RegRow} {is : List Nat} (hl : c.viaLive v = true)
    (hd : a / 0x04000000 < 40) (hr : regRow a = some (r, is)) (hw : writable r = true) (hc : r.isCommit = false) (hs : isCs a = false)
    (ho : a % 0x04000000 ∉ commandOffsets) (hp : a % 0x04000000 / 0x1000 ≠ 0x03D00) :
    c.registerWrite v a w = c.wr a (accessWrite r.fields (c.rd a) w) := by
  have base := dieBase_window a
  rw [Chip.registerWrite, Chip.writeVia_live hl, if_neg (Nat.not_le.2 hd)]
  simp only [hr, hw, Bool.true_or, if_true]
  rw [Chip.writeAt_plain c v r _ _ w hc (by rw [base]; exact hs) ho hp, base]

/-- A command that leaves no trigger waiting and no reset of the chip in progress leaves the registers of the chip it makes, both copies, and
hub memory as it was. -/
theorem State.after_frame (s : State) (c : Chip) (hd : c.integ.due = []) (hp : c.pw.chipReset = 0) :
    (∀ b, (s.after c).chip.rd b = c.rd b) ∧ (∀ b, (s.after c).chip.rdS b = c.rdS b) ∧
      (s.after c).lpddrA = s.lpddrA ∧ (s.after c).lpddrB = s.lpddrB := by
  have hz : (s.settled c).pw.chipReset = 0 := by rw [State.settled_pw s c hd]; exact hp
  refine ⟨fun b => ?_, fun b => ?_, ?_, ?_⟩
  · rw [State.after_chip, State.settled_rd s c hd]
  · rw [State.after_chip, Chip.rdS, State.settled_staged s c hd, Chip.rdS]
  · rw [State.after, State.withChip_up s _ hz]
  · rw [State.after, State.withChip_up s _ hz]

end Sys2Proof.Machine

open Sys2Proof Sys2Proof.Machine

/-- Settles O8: such a write is R9's table at its own address, and settling changes no register. -/
theorem registerWriteFollowsAccessCodes : Obligations.RegisterWriteFollowsAccessCodes := by
  unfold Obligations.RegisterWriteFollowsAccessCodes
  intro v a w s r is hcalm hlive hdie hrow hwr hcom hcs hup hcmd hpmc
  have hop := Chip.registerWrite_plain s.chip v a.toNat w hlive hdie hrow hwr hcom hcs hcmd hpmc
  have hex : exec (.registerWrite v a w) s = .next (s.after (s.chip.wr a.toNat (accessWrite r.fields (s.chip.rd a.toNat) w))) := by
    rw [exec_registerWrite, hop]
  obtain ⟨hrd, hrdS, hA, hB⟩ := State.after_frame s (s.chip.wr a.toNat (accessWrite r.fields (s.chip.rd a.toNat) w))
    (by rw [Chip.wr_integ]; exact State.calm_due s hcalm) (by rw [Chip.wr_pw]; exact hup)
  refine ⟨_, hex, ?_, ?_, ?_, hA, hB⟩
  · intro i hi
    have hbit := getLsbD_accessWrite r.fields (s.chip.rd a.toNat) w hi
    simp only [hrd, Chip.rd_wr_same]
    refine ⟨fun hrw hwc => ?_, fun hwc hrw => ?_, fun hrw hwc => ?_⟩
    · simp [hbit, accBit, hrw, hwc]
    · simp [hbit, accBit, hrw, hwc]
    · simp [hbit, accBit, hrw, hwc]
  · intro b hb
    rw [hrd, Chip.rd_wr_other _ _ hb]
  · exact hrdS

end

section
/-!
PROOFS. POWER, SAG and CHIP resets (R10 to R12, R419 to R421, R429, R430, R433): what each leaves.
-/

namespace Sys2Proof.Machine

/-! ### Resets of the whole chip (R10, R419, R429, R430, R433) -/

/-- POWER: a reset of class 1 is in progress. -/
@[simp] theorem Chip.powerReset_chipReset (c : Chip) (cause : Nat) (fault : Bool) : (c.powerReset cause fault).pw.chipReset = 1 := by
  simp [Chip.powerReset]

/-- POWER: FAULT_N is as given. -/
@[simp] theorem Chip.powerReset_faultN (c : Chip) (cause : Nat) (fault : Bool) : (c.powerReset cause fault).faultN = fault := by
  simp [Chip.powerReset]

/-- POWER: of a hub its flash stands, and nothing else. -/
theorem Chip.powerReset_hub (c : Chip) (cause : Nat) (fault : Bool) (h : Fin 2) :
    (c.powerReset cause fault).hub h = { flash := (c.hub h).flash } := by
  simp only [Chip.powerReset, List.foldl_cons, List.foldl_nil, Chip.set_hub]
  fin_cases h
  · exact (Chip.hub_setHub_other _ _ Nat.zero_ne_one).trans (Chip.hub_setHub_same _ _ _)
  · exact Chip.hub_setHub_same _ _ _

/-- POWER: every register but the two PWR_RST_STAT that record its cause reads its Reset value (R10). -/
theorem Chip.powerReset_rd (c : Chip) (cause : Nat) (fault : Bool) {a : Nat} (hA : a ≠ R.PWR_RST_STAT 32) (hB : a ≠ R.PWR_RST_STAT 39) :
    (c.powerReset cause fault).rd a = regReset a := by
  simp only [Chip.powerReset, List.foldl_cons, List.foldl_nil]
  rw [Chip.rd_set_other _ _ _ hB, Chip.rd_set_other _ _ _ hA]
  rfl

/-- RAIL_RESET_CROSSING of rail 0, VDD_AON, is a POWER reset with CAUSE 0x10 (log 44). -/
theorem Chip.railReset_aon (c : Chip) : c.railReset 0 = c.powerReset 0x10 c.faultN := if_pos rfl

/-- RAIL_RESET_CROSSING of a rail other than VDD_AON, outside a POWER reset, is a SAG reset. -/
theorem Chip.railReset_sag (c : Chip) {rail : Nat} (hr : rail ≠ 0) (hp : c.pw.chipReset ≠ 1) : c.railReset rail = c.sagReset (rail + 0x10) := by
  rw [Chip.railReset, if_neg hr, if_neg hp]

/-- While a reset of the whole chip lasts the hubs' memories are empty (log 2). -/
theorem State.withChip_down (s : State) (c : Chip) (h : c.pw.chipReset ≠ 0) : s.withChip c = { s with chip := c, lpddrA := [], lpddrB := [] } :=
  if_neg h

/-- What a SAG or CHIP reset leaves: its class in progress, the data plane held, no image, collective or switching state. -/
theorem Chip.chipWipe_fields (c : Chip) (n : Nat) : (c.chipWipe n).pw.chipReset = n ∧ (c.chipWipe n).pw.dataHeld = true ∧
    (c.chipWipe n).image = none ∧ (c.chipWipe n).coll = {} ∧ (c.chipWipe n).sw = {} := by
  unfold Chip.chipWipe
  exact ⟨rfl, rfl, rfl, rfl, rfl⟩

end Sys2Proof.Machine

open Sys2Proof Sys2Proof.Machine

/-- Settles O34: each command is its reset by definition; POWER keeps the flash alone, and the wiped chip empties hub memory. -/
theorem resetsOfTheChipEmptyIt : Obligations.ResetsOfTheChipEmptyIt := by
  unfold Obligations.ResetsOfTheChipEmptyIt
  intro s
  refine ⟨⟨exec_powerReset s, exec_clk25Loss s, ?_⟩, fun cause fault => ⟨?_, ?_, fun h => ?_, fun a hA hB => ?_⟩, fun rail hr hp => ?_,
    fun hp => ?_, fun c n hn => ?_⟩
  · rw [exec_railResetCrossing, Fin.val_zero, Chip.railReset_aon]
  · exact Chip.powerReset_chipReset ..
  · exact Chip.powerReset_faultN ..
  · rw [Chip.powerReset_hub]
  · exact Chip.powerReset_rd _ _ _ hA hB
  · have hr' : rail.val ≠ 0 := fun h => hr (Fin.ext h)
    rw [exec_railResetCrossing, Chip.railReset_sag _ hr' hp, Chip.sagReset]
  · rw [exec_chipReset, Chip.chipReset, if_neg (not_not_intro hp)]
  · obtain ⟨hreset, hheld, himage, hcoll, hsw⟩ := Chip.chipWipe_fields c n
    have hdown := State.withChip_down s (c.chipWipe n) (by rw [hreset]; exact hn)
    exact ⟨hreset, hheld, himage, hcoll, hsw, by rw [hdown], by rw [hdown], by rw [hdown]⟩

end

section
/-!
PROOFS. RESTART (R17, R430, R457, R506): when it waits, and how the hubs come back.
-/

namespace Sys2Proof.Machine

/-! ### RESTART (R17, R430, R457, R506) -/

/-- With no reset of the chip in progress, or a die still hot, RESTART waits. -/
theorem Chip.restart_waits (c : Chip) (b : BootFacts) (h : c.pw.chipReset = 0 ∨ c.pw.hot.any (fun e => e.2) = true) : c.restart b = c :=
  if_pos h

/-- The chip of a restart once the reset is over, the roles are set, the floor records are known and both hubs have booted. -/
def Chip.hubsBooted (c : Chip) (b : BootFacts) : Chip :=
  let on : Chip := { c.modPw (fun p => { p with chipReset := 0, dataHeld := true }) with sagN := true }
  let found := ((on.bootRoles b.idA b.idB).modHub 0 (fun x => { x with flash := { x.flash with floorOk := b.floorA } })).modHub 1
    (fun x => { x with flash := { x.flash with floorOk := b.floorB } })
  (found.bootHub 0 b.idA).bootHub 1 b.idB

/-- What a primary hub with firmware does on top of its boot, after a reset of class n. -/
def Chip.bootOn (c : Chip) (n setpoint : Nat) : Chip :=
  match c.primary with
  | some h => if (c.hub h).fw.isSome then c.bootPrimary h n setpoint else c
  | none => c

/-- A primary with firmware boots on. -/
theorem Chip.bootOn_firmware (c : Chip) (n setpoint : Nat) {h : Nat} (hp : c.primary = some h) (hf : (c.hub h).fw.isSome = true) :
    c.bootOn n setpoint = c.bootPrimary h n setpoint := by
  simp only [Chip.bootOn, hp, hf, if_true]

/-- Without a primary no hub boots on. -/
theorem Chip.bootOn_noPrimary (c : Chip) (n setpoint : Nat) (hp : c.primary = none) : c.bootOn n setpoint = c := by
  simp only [Chip.bootOn, hp]

/-- What a restart of class n reports once the boot is done: the RESET notice, and what each die lost. -/
def Chip.restartReport (c : Chip) (n : Nat) : Chip := (List.range 40).foldl Chip.reportLost (c.resetNotice c.primaryDie n 4)

/-- With a reset of the chip in progress and no die hot, RESTART is the boot of both hubs, what the primary does on top, and the report. -/
theorem Chip.restart_boots (c : Chip) (b : BootFacts) (hn : c.pw.chipReset ≠ 0) (hot : c.pw.hot.any (fun e => e.2) = false) :
    c.restart b = ((c.hubsBooted b).bootOn c.pw.chipReset b.setpoint.toNat).restartReport c.pw.chipReset := by
  have goes : ¬ (c.pw.chipReset = 0 ∨ c.pw.hot.any (fun e => e.2) = true) := by simp [hn, hot]
  rw [Chip.restart]
  exact if_neg goes

/-- Hub A is primary when its identity passed, hub B when only its own did (R17, R457). -/
theorem Chip.bootRoles_primary (c : Chip) (idA idB : Bool) :
    (c.bootRoles idA idB).primary = if idA = true then some 0 else if idB = true then some 1 else none := by
  have hne : R.MGT_ROLE 32 ≠ R.MGT_ROLE 39 := by decide
  have hA : (c.bootRoles idA idB).flag (R.MGT_ROLE 32) F.MGT_ROLE_PRIMARY = idA := by
    rw [Chip.bootRoles, Chip.flag, Chip.get_set_other _ _ _ _ hne]
    exact Chip.flag_set_bool c _ _ idA rfl (by decide)
  have hB : (c.bootRoles idA idB).flag (R.MGT_ROLE 39) F.MGT_ROLE_PRIMARY = (!idA && idB) :=
    Chip.flag_set_bool _ _ _ _ rfl (by decide)
  rw [Chip.primary, hA, hB]
  cases idA <;> simp

end Sys2Proof.Machine

open Sys2Proof Sys2Proof.Machine

/-- Settles O36: RESTART waits, or is the boot of both hubs, what a primary with firmware does on top, and the report. -/
theorem restartBringsTheHubsBack : Obligations.RestartBringsTheHubsBack := by
  unfold Obligations.RestartBringsTheHubsBack
  intro s
  refine ⟨fun b hwait => ?_, fun b hn hot => ⟨fun h hp hf => ?_, fun hp => ?_⟩, Chip.bootRoles_primary s.chip⟩
  · rw [exec_restart, Chip.restart_waits _ _ hwait]
  · rw [exec_restart, Chip.restart_boots _ _ hn hot, Chip.bootOn_firmware (s.chip.hubsBooted b) _ _ hp hf]
    rfl
  · rw [exec_restart, Chip.restart_boots _ _ hn hot, Chip.bootOn_noPrimary (s.chip.hubsBooted b) _ _ hp]
    rfl

end

section
/-!
PROOFS. Heartbeats (R17), watchdogs (R463) and the requests of the board controller (R464): what each does while its complex runs.
-/

namespace Sys2Proof.Machine

/-! ### Heartbeats, watchdogs and MCTP answers (R17, R463, R464) -/

/-- A hub whose management complex runs sends a heartbeat. -/
theorem Chip.heartbeat_up (c : Chip) {h : Nat} (hup : (c.hub h).mgmtUp = true) :
    c.heartbeat h = c.modHub h (fun x => { x with beatsSent := x.beatsSent + 1 }) := if_pos hup

/-- A running watchdog at half its time signals vector 67. -/
theorem Chip.watchdogHalf_runs (c : Chip) {h which : Nat} (hrun : c.dogRuns h which = true) : c.watchdogHalf h which = c.signal h 67 :=
  if_pos hrun

/-- A primary hub whose management complex runs answers with what its window shows. -/
theorem Chip.mctpAnswer_primary (c : Chip) (f : Nat → List Nat) {h : Nat} (hp : c.primary = some h) (hup : (c.hub h).mgmtUp = true) :
    c.mctpAnswer f = c.modHub h (fun x => { x with mctp := x.mctp ++ [f (hubDie h)] }) := by
  simp only [Chip.mctpAnswer, hp, hup, if_true]

end Sys2Proof.Machine

open Sys2Proof Sys2Proof.Machine

/-- Settles O14: each of the four requests is answered by the primary hub; beat and half-time act while their complex runs. -/
theorem hubsBeatAndAnswerTheBoard : Obligations.HubsBeatAndAnswerTheBoard := by
  unfold Obligations.HubsBeatAndAnswerTheBoard
  refine ⟨fun h s hup => ?_, fun h w s hrun => ?_, fun s h hp hup => ⟨?_, ?_, ?_, ?_⟩⟩
  · rw [exec_hubHeartbeatSend, Chip.heartbeat_up _ hup]
  · rw [exec_watchdogHalf, Chip.watchdogHalf_runs _ hrun]
  · rw [exec_getSetpoint, Chip.getSetpoint, Chip.mctpAnswer_primary _ _ hp hup]
  · rw [exec_getTemp, Chip.getTemp, Chip.mctpAnswer_primary _ _ hp hup]
  · rw [exec_getStatus, Chip.getStatus, Chip.mctpAnswer_primary _ _ hp hup]
  · rw [exec_getIdentity, Chip.getIdentity, Chip.mctpAnswer_primary _ _ hp hup]

end

section
/-!
PROOFS. Triggers that hardware and firmware report (R19, R21, R26): what raises which, and that a chip trigger makes the chip dark.
-/

namespace Sys2Proof.Machine

/-! ### A trigger of the chip (R21, R26) -/

/-- A fold of steps that leave the firebreaks and their triggers alone leaves them alone. -/
theorem Chip.integ_foldl {β : Type} (f : Chip → β → Chip) (hf : ∀ c b, (f c b).integ = c.integ) (l : List β) (c : Chip) :
    (l.foldl f c).integ = c.integ := by
  induction l generalizing c with
  | nil => rfl
  | cons b t ih => exact (ih (f c b)).trans (hf c b)

/-- A link control message sent leaves the firebreaks and their triggers alone. -/
theorem Chip.lcSend_integ (c : Chip) (l op seq : Nat) (body : List Nat) : (c.lcSend l op seq body).integ = c.integ := rfl

/-- A chip firebreak makes the chip dark with FAULT_N low, and raises no trigger itself. -/
theorem Chip.raiseChip_dark (c : Chip) (trigger : Nat) (h : c.darkChip = false) :
    (c.raiseChip trigger).darkChip = true ∧ (c.raiseChip trigger).faultN = false ∧ (c.raiseChip trigger).integ = c.integ := by
  rw [Chip.raiseChip, if_neg (by simp [h])]
  refine ⟨rfl, rfl, ?_⟩
  dsimp only
  rw [Chip.integ_foldl _ (fun s l => Chip.integ_foldl _ (fun s _ => Chip.lcSend_integ s l _ _ _) _ s),
    Chip.integ_foldl _ (fun s l => Chip.lcSend_integ s l _ _ _)]
  split
  · exact Chip.post_integ ..
  · rfl

/-- With no trigger waiting a pass raises nothing. -/
theorem Chip.raisePass_nil (c : Chip) (h : c.integ.due = []) : c.raisePass = c := by
  have same : c.modInteg (fun g => { g with due := [] }) = c := by rw [Chip.modInteg, ← h]
  simp only [Chip.raisePass, h, List.filter_nil, List.append_nil, List.foldl_nil, same]

/-- A trigger of the chip noted by a command is what the command's first pass raises. -/
theorem Chip.raisePass_fbDue_chip (c : Chip) (d u trigger : Nat) (h : c.integ.due = []) :
    (c.fbDue ⟨4, d, u, trigger⟩).raisePass = c.raiseChip trigger := by
  have due : (c.fbDue ⟨4, d, u, trigger⟩).integ.due = [⟨4, d, u, trigger⟩] := by
    rw [Chip.fbDue, Chip.modInteg_integ, h, List.nil_append]
  have same : (c.fbDue ⟨4, d, u, trigger⟩).modInteg (fun g => { g with due := [] }) = c := by
    rw [Chip.fbDue, Chip.modInteg, Chip.modInteg, ← h]
  rw [Chip.raisePass, due, same]
  rfl

/-- A trigger of the chip noted by a command raises the chip firebreak, and nothing follows from it. -/
theorem Chip.raiseDue_fbDue_chip (c : Chip) (d u trigger : Nat) (h : c.integ.due = []) (hdark : c.darkChip = false) :
    (c.fbDue ⟨4, d, u, trigger⟩).raiseDue = c.raiseChip trigger := by
  have rest : (c.raiseChip trigger).integ.due = [] := by rw [(Chip.raiseChip_dark c trigger hdark).2.2, h]
  have waits : ¬ (c.fbDue ⟨4, d, u, trigger⟩).integ.due.isEmpty = true := by simp [Chip.fbDue]
  rw [Chip.raiseDue, if_neg waits, Chip.raisePass_fbDue_chip c d u trigger h]
  simp only [Chip.raisePass_nil _ rest]

/-- FIRMWARE_GO_DARK outside a dark chip: the chip is dark and FAULT_N is low once the command has settled. -/
theorem State.settled_goDark (s : State) (hcalm : s.calm = true) (hdark : s.chip.darkChip = false) :
    (s.settled s.chip.goDark).darkChip = true ∧ (s.settled s.chip.goDark).faultN = false := by
  obtain ⟨dark, fault, -⟩ := Chip.raiseChip_dark s.chip 0x12 hdark
  rw [State.settled, Chip.goDark, Chip.raiseDue_fbDue_chip _ _ _ _ (State.calm_due s hcalm) hdark]
  obtain ⟨x, tw, n, heq⟩ := Chip.mirrorChanges_eq s.chip (s.chip.raiseChip 0x12)
  rw [heq]
  exact ⟨dark, fault⟩

/-- A block firebreak with a lane still ACTIVE or DRAINING 200 µs later raises the region trigger 0x0E. -/
theorem Chip.fbDrainTimeout_raises (c : Chip) {d b l : Nat} (hd : d < 32) (hfb : c.blockFb d b = true) (hl : l ∈ blockLanes d b)
    (hst : c.laneState l = LS.active ∨ c.laneState l = LS.draining) : c.fbDrainTimeout d b = c.fbDue ⟨3, d, 0, 0x0E⟩ := by
  have late : (blockLanes d b).any (fun l => c.laneState l == LS.active || c.laneState l == LS.draining) = true :=
    List.any_eq_true.2 ⟨l, hl, by simpa using hst⟩
  exact if_pos ⟨hd, hfb, late⟩

end Sys2Proof.Machine

open Sys2Proof Sys2Proof.Machine

/-- Settles O16: the triggers are those the operations note, and the chip trigger acts before the command ends. -/
theorem faultsRaiseTheirFirebreakTriggers : Obligations.FaultsRaiseTheirFirebreakTriggers := by
  unfold Obligations.FaultsRaiseTheirFirebreakTriggers
  refine ⟨fun d s => ⟨?_, ?_⟩, fun d b s => ⟨?_, ?_⟩, fun d s => ?_, fun k s => ?_, fun d b l s hfb hl hst => ?_, fun s hcalm hdark => ?_⟩
  · rw [exec_pllLossOfLock, Option.map_none, Chip.pllLossOfLock, Chip.pllLoss]
  · rw [exec_pllLockFail, Option.map_none, Chip.pllLockFail, Chip.pllLoss]
  · rw [exec_pllLossOfLock, Option.map_some, Chip.pllLossOfLock, Chip.pllLoss]
  · rw [exec_pllLockFail, Option.map_some, Chip.pllLockFail, Chip.pllLoss]
  · rw [exec_uplinkSchedulerFault, Chip.uplinkSchedulerFault]
  · rw [exec_slotCrossbarFault, Chip.slotCrossbarFault]
  · rw [exec_blockFirebreakDrainTimeout, Chip.fbDrainTimeout_raises _ d.isLt hfb hl hst]
  · refine ⟨_, exec_firmwareGoDark s, ?_⟩
    rw [State.after_chip]
    exact State.settled_goDark s hcalm hdark

end

section
/-!
PROOFS. Wakes from RECESS, DEEP_RECESS and SLEEP (R121, R423, R424, R427, R428) and re-admission (R25, R69 to R71).
-/

namespace Sys2Proof.Machine

section
variable (c : Chip) {d b : Nat}

/-! ### Blocks that wake or wait for re-admission (R25, R71, R428) -/

/-- A block woken from RECESS runs. -/
theorem Chip.recessWake_runs (hw : c.wokenFrom d b 1 = true) : c.recessWake d b = c.blockRuns d b false := if_pos hw

/-- A block woken from DEEP_RECESS that is not being reloaded runs from a fresh shadow, and is reloaded from a stale one. -/
theorem Chip.blockWake_woken (hw : c.wokenFrom d b 2 = true) (hr : SMap.get (fun _ => none) c.pw.reload (d * 8 + b) = none) :
    c.blockWake d b = if c.shadowFresh d b then c.blockRuns d b false else c.reloadStart d b := by
  rw [Chip.blockWake, if_neg (by simp [hw, hr])]

/-- A block that waits for re-admission and is not being reloaded is re-admitted from a fresh shadow, and reloaded from a stale one. -/
theorem Chip.blockReadmit_waiting (hw : SMap.get (fun _ => false) c.pw.readmit (d * 8 + b) = true)
    (hr : SMap.get (fun _ => none) c.pw.reload (d * 8 + b) = none) :
    c.blockReadmit d b = if c.shadowFresh d b then c.readmitted d b else c.reloadStart d b := by
  rw [Chip.blockReadmit, if_neg (by simp [hw, hr])]

/-- A reload of generation v that is complete: one of another generation than the present starts again, one of the present re-admits a
block that waits for that, or lets a waking block run. -/
theorem Chip.staleReloadDone_of (v : Nat) (hr : SMap.get (fun _ => none) c.pw.reload (d * 8 + b) = some v) :
    c.staleReloadDone d b =
      if v ≠ (c.rd (R.CFG_GEN d)).toNat then
        c.modPw (fun p => { p with reload := SMap.set (fun _ => none) p.reload (d * 8 + b) (some (c.rd (R.CFG_GEN d)).toNat) })
      else if SMap.get (fun _ => false) c.pw.readmit (d * 8 + b) then c.readmitted d b
      else if c.blkSt d b = 4 then c.blockRuns d b true else c := by
  rw [Chip.staleReloadDone, hr]

/-! ### Dies that wake, and wake bursts (R121, R424, R427) -/

/-- A waking die runs: its wake is counted and reported, and the blocks its source needs wake. -/
theorem Chip.dieWake_waking {w : Waking} (hd : c.dieSt d = 4) (hw : SMap.get (fun _ => none) c.pw.dieWake d = some w) :
    c.dieWake d = (setBitsOf (blocksOf d) w.mask).foldl (fun s b => s.wakeBlock d b w.source)
      ((((c.setDieSt d 0).modPw (fun p => { p with dieWake := SMap.set (fun _ => none) p.dieWake d none })).incWrap (R.PWR_WAKE_CNT d)
        F.PWR_WAKE_CNT_WAKES 1).powerNotice d 0 3 0 (powerDetail 2 0 3 w.source 0 0 0 (c.asleepUs (d * 16 + 8)))) := by
  rw [Chip.dieWake, if_neg (not_not_intro hd), hw]

/-- Outside STANDBY a wake burst on a lane DROWSY at depth 3 wakes its block, or its die when that sleeps. -/
theorem Chip.wakeBurstDetect_lane {l : Nat} (hs : c.pw.standby = false) (hl : c.laneState l = LS.drowsy)
    (hdepth : c.get (lstat l) F.PRT_LSTAT_DEPTH = 3) :
    c.wakeBurstDetect l = if c.dieSt (laneDie l) = 0 then c.wakeBlock (laneDie l) (laneBlock l) 4
      else c.wakeDie (laneDie l) (2 ^ laneBlock l) 4 := by
  rw [Chip.wakeBurstDetect, if_neg (by simp [hs]), Chip.wakeBurst, if_pos ⟨hl, hdepth⟩]

/-- In STANDBY a wake burst on a lane of an enabled port starts the exit. -/
theorem Chip.wakeBurstDetect_standby {l : Nat} (hs : c.pw.standby = true) (hp : c.portEnabled l = true) :
    c.wakeBurstDetect l = c.standbyLeave 4 := by
  rw [Chip.wakeBurstDetect, if_pos hs, if_pos hp]

end

end Sys2Proof.Machine

open Sys2Proof Sys2Proof.Machine

/-- Settles O23: each wake by its case, the shadow and the reload's generation deciding between running and reloading. -/
theorem unitsWakeAndAreReadmitted : Obligations.UnitsWakeAndAreReadmitted := by
  unfold Obligations.UnitsWakeAndAreReadmitted
  intro s
  refine ⟨fun d b hw => ?_, fun d b hw hr => ?_, fun d b hw hr => ?_, fun d b v hr => ?_, fun d w hd hw => ?_, fun l hs hl hdepth => ?_,
    fun l hs hp => ?_⟩
  · rw [exec_recessWake, Chip.recessWake_runs _ hw]
  · rw [exec_blockWake, Chip.blockWake_woken _ hw hr]
    exact ⟨fun fresh => by rw [if_pos fresh], fun stale => by rw [stale, if_neg Bool.false_ne_true]⟩
  · rw [exec_blockReadmit, Chip.blockReadmit_waiting _ hw hr]
    exact ⟨fun fresh => by rw [if_pos fresh], fun stale => by rw [stale, if_neg Bool.false_ne_true]⟩
  · rw [exec_staleReloadDone, Chip.staleReloadDone_of _ v hr]
    refine ⟨fun old => ?_, fun present waits => ?_, fun present free wakes => ?_⟩
    · rw [if_pos old]
    · rw [if_neg (not_not_intro present), if_pos waits]
    · rw [if_neg (not_not_intro present), free, if_neg Bool.false_ne_true, if_pos wakes]
  · rw [exec_dieWake, Chip.dieWake_waking _ hd hw]
  · rw [exec_wakeBurstDetect, Chip.wakeBurstDetect_lane _ hs hl hdepth]
    exact ⟨fun up => by rw [if_pos up], fun asleep => by rw [if_neg asleep]⟩
  · rw [exec_wakeBurstDetect, Chip.wakeBurstDetect_standby _ hs hp]

end

section
/-!
PROOFS. Commands of the host that read and record (R40, R148, R386, R400, R448, R457, R460, R461): what each completes with.
-/

namespace Sys2Proof.Machine

section
variable (c : Chip) {o : Origin} {x : Command}

/-! ### COMMISSION (R148) -/

/-- The power a lane's monitor reads is kept in the optical record of both hubs and in PRT_OPT_COMM. -/
def Chip.recordPower (c : Chip) (e : Nat × BitVec 16) : Chip :=
  ((c.modHub 0 (fun u => { u with flash := { u.flash with optical := SMap.set (fun _ => 0) u.flash.optical e.1 (e.2.toNat + 1) } })).modHub 1
    (fun u => { u with flash := { u.flash with optical := SMap.set (fun _ => 0) u.flash.optical e.1 (e.2.toNat + 1) } })).set
    (R.PRT_OPT_COMM (laneDie e.1) (laneLocal e.1)) F.PRT_OPT_COMM_POWER e.2.toNat

/-- The lanes the command names whose rings are LOCKED and whose power is read, each with its reading. -/
def Chip.powersRead (c : Chip) (x : Command) (ps : List (Nat × BitVec 16)) : List (Nat × BitVec 16) :=
  ((List.range 2048).filter (fun l => bitOf x.arg0 (laneDie l) && bitOf x.arg1 (laneLocal l) && c.ringsLocked l)).filterMap
    (fun l => ((ps.find? (fun e => e.1 == l)).map (·.2)).map (fun v => (l, v)))

/-- COMMISSION records each of them; RESULT0 is their number. -/
theorem Chip.cmdCommission_of (ps : List (Nat × BitVec 16)) (hx : c.cmdOf o 0x20 = some x) :
    c.cmdCommission o ps = ((c.powersRead x ps).foldl Chip.recordPower c).complete o 0 (c.powersRead x ps).length [] := by
  rw [Chip.cmdCommission, hx]
  rfl

/-! ### SET_TOD (R400) and READ_REGS (R40) -/

/-- SET_TOD: BAD_ARG, or the domain holds the seconds. -/
theorem Chip.cmdSetTod_of (hx : c.cmdOf o 0x30 = some x) :
    c.cmdSetTod o = if 1 < x.arg0 ∨ 2 ^ 48 ≤ x.arg1 then c.complete o 2 0 []
      else (c.setDom x.arg0 { c.dom x.arg0 with tod := some x.arg1 }).complete o 0 0 [] := by
  rw [Chip.cmdSetTod, hx]

/-- READ_REGS: BAD_ARG, or the words' bytes inline. -/
theorem Chip.cmdReadRegs_of (hx : c.cmdOf o 0x51 = some x) :
    c.cmdReadRegs o = if 39 < x.arg0 ∨ x.arg1 % 4 ≠ 0 ∨ 0x04000000 < x.arg1 + 4 * x.arg2 ∨ 1008 < x.arg2 then c.complete o 2 0 []
      else c.complete o 0 x.arg2 ((List.range x.arg2).flatMap (fun i =>
        leBytes 4 (c.readReg (.mgmt (if o.hub = 0 then 0 else 1)) (dieBase x.arg0 + x.arg1 + 4 * i)).toNat)) := by
  rw [Chip.cmdReadRegs, hx]
  simp only [List.flatMap_map]

/-! ### Commands that leave bytes at DATA_ADDR (R386, R457, R460, R461) -/

/-- READ_FSIG with ARG1 above 1: BAD_ARG, and no bytes. -/
theorem Chip.cmdReadFsig_badArg (hx : c.cmdOf o 0x50 = some x) (h : 1 < x.arg1) : c.cmdReadFsig o = ([], c.complete o 2 0 []) := by
  simp only [Chip.cmdReadFsig, hx, if_pos h]

/-- READ_FSIG of the flash log: at most ARG0 records. -/
theorem Chip.cmdReadFsig_flash (hx : c.cmdOf o 0x50 = some x) (h : x.arg1 = 1) :
    c.cmdReadFsig o = c.completeData o x ((c.hub o.hub).flash.fsig.take x.arg0).length ((c.hub o.hub).flash.fsig.take x.arg0).flatten := by
  simp only [Chip.cmdReadFsig, hx, h, Nat.lt_irrefl, if_false, if_true]

/-- READ_IDENTITY: the certificate. -/
theorem Chip.cmdReadIdentity_of (hx : c.cmdOf o 0x60 = some x) :
    c.cmdReadIdentity o = c.completeData o x certificate.length certificate := by
  rw [Chip.cmdReadIdentity, hx]

/-- QUOTE: the quote over the first 32 inline bytes. -/
theorem Chip.cmdQuote_of (hx : c.cmdOf o 0x61 = some x) :
    c.cmdQuote o = (c.quote o.hub (x.inline.take 32)).2.completeData o x 1432 (c.quote o.hub (x.inline.take 32)).1 := by
  rw [Chip.cmdQuote, hx]

/-- READ_LOG: the kept entries from ARG0 on. -/
theorem Chip.cmdReadLog_of (hx : c.cmdOf o 0x62 = some x) :
    c.cmdReadLog o = c.completeData o x ((c.hub o.hub).log.drop (max x.arg0 (firstKept (c.hub o.hub).log))).length
      (((c.hub o.hub).log.drop (max x.arg0 (firstKept (c.hub o.hub).log))).flatMap LogEntry.bytes) := by
  rw [Chip.cmdReadLog, hx]

end

/-- No bytes stored leave the state as it is. -/
@[simp] theorem State.store_nil (s : State) : s.store [] = s := rfl

end Sys2Proof.Machine

open Sys2Proof Sys2Proof.Machine

/-- Settles O28: each command by what it completes with, its arguments deciding between BAD_ARG and its output. -/
theorem commandsReadAndRecord : Obligations.CommandsReadAndRecord := by
  unfold Obligations.CommandsReadAndRecord
  intro s
  refine ⟨fun o x hx ps hps => ?_, fun o x hx => ?_, fun o x hx => ?_, fun o x hx => ⟨fun bad => ?_, fun flash => ?_⟩, fun o x hx => ?_,
    fun o x hx => ?_, fun o x hx => ?_⟩
  · rw [exec_commission o ps s hps, Chip.cmdCommission_of _ ps hx]
    rfl
  · rw [exec_setTod, Chip.cmdSetTod_of _ hx]
    exact ⟨fun bad => by rw [if_pos bad], fun h0 h1 => by rw [if_neg (by omega)]⟩
  · rw [exec_readRegs, Chip.cmdReadRegs_of _ hx]
    exact ⟨fun bad => by rw [if_pos bad], fun h0 h1 h2 h3 => by rw [if_neg (by omega)]⟩
  · rw [exec_readFsig, Chip.cmdReadFsig_badArg _ hx bad, State.store_nil, State.after]
  · rw [exec_readFsig, Chip.cmdReadFsig_flash _ hx flash]
  · rw [exec_readIdentity, Chip.cmdReadIdentity_of _ hx]
  · rw [exec_quote, Chip.cmdQuote_of _ hx]
  · rw [exec_readLog, Chip.cmdReadLog_of _ hx]

end

section
/-!
PROOFS. Notice queues (R35 to R37): how a staged notice enters its queue or is turned away, and what a tail write changes.
-/

namespace Sys2Proof.Machine

/-! ### The registers of a notice queue -/

/-- The pointer of a queue, the lost counters and FLT_NQ_STATUS of a die stand at three addresses. -/
theorem nqPtr_ne_status (d q : Nat) : nqPtr d q ≠ R.FLT_NQ_STATUS d := by
  simp only [nqPtr, R.FLT_NQ_CTL_PTR, R.FLT_NQ_MGT_PTR, R.FLT_NQ_STATUS]; split <;> omega

theorem nqPtr_ne_lost (d q : Nat) : nqPtr d q ≠ R.FLT_NQ_LOST d := by
  simp only [nqPtr, R.FLT_NQ_CTL_PTR, R.FLT_NQ_MGT_PTR, R.FLT_NQ_LOST]; split <;> omega

theorem nqStatus_ne_lost (d : Nat) : R.FLT_NQ_STATUS d ≠ R.FLT_NQ_LOST d := by
  simp only [R.FLT_NQ_STATUS, R.FLT_NQ_LOST]; omega

/-- A lost counter is 16 bits wide, an overflow bit one; both lie within their register. -/
theorem nqLost_field (q : Nat) : (nqLost q).lo + (nqLost q).width ≤ 32 ∧ (nqLost q).top = 65535 := by
  unfold nqLost; split <;> decide

theorem nqOvf_field (q : Nat) : (nqOvf q).width = 1 ∧ (nqOvf q).lo ≤ 31 := by
  unfold nqOvf; split <;> decide

section
variable (c : Chip) (d q : Nat)

/-! ### Notices that are turned away (R36) -/

/-- A notice turned away leaves the queues and the triggers alone. -/
theorem Chip.nqTurnAway_keeps (full : Bool) : (c.nqTurnAway d q full).nq = c.nq ∧ (c.nqTurnAway d q full).integ = c.integ := by
  obtain ⟨r, heq, -⟩ := Chip.nqTurnAway_eq c d q full
  rw [heq]
  exact ⟨rfl, rfl⟩

/-- A notice turned away leaves the pointer of its queue alone. -/
theorem Chip.nqTurnAway_ptr (full : Bool) : (c.nqTurnAway d q full).rd (nqPtr d q) = c.rd (nqPtr d q) := by
  obtain ⟨r, heq, keeps⟩ := Chip.nqTurnAway_eq c d q full
  rw [heq]
  exact keeps _ (nqPtr_ne_lost d q) (nqPtr_ne_status d q)

/-- A notice turned away counts in the lost counter of its queue. -/
theorem Chip.nqTurnAway_lost (full : Bool) :
    (c.nqTurnAway d q full).get (R.FLT_NQ_LOST d) (nqLost q) = min 65535 (c.get (R.FLT_NQ_LOST d) (nqLost q) + 1) := by
  obtain ⟨fits, top⟩ := nqLost_field q
  have counted := Chip.get_incSat_same c (R.FLT_NQ_LOST d) (nqLost q) 1 fits
  rw [top] at counted
  cases full with
  | false => exact counted
  | true => exact (Chip.get_set_other _ _ _ _ (nqStatus_ne_lost d).symm).trans counted

/-- A notice turned away by a full queue sets the queue's overflow bit, one turned away in reserve leaves it. -/
theorem Chip.nqTurnAway_ovf (full : Bool) :
    (c.nqTurnAway d q full).flag (R.FLT_NQ_STATUS d) (nqOvf q) = (full || c.flag (R.FLT_NQ_STATUS d) (nqOvf q)) := by
  obtain ⟨one, fits⟩ := nqOvf_field q
  cases full with
  | false =>
    rw [Chip.flag, Chip.nqTurnAway, if_neg Bool.false_ne_true, Chip.incSat, Chip.get_set_other _ _ _ _ (nqStatus_ne_lost d)]
    rfl
  | true => exact Chip.flag_set_bool _ _ _ true one fits

/-- A full queue, and one in reserve when the notice is no FAULT, turns a notice away. -/
theorem Chip.nqTake_refuses (e : BitVec 128) (hn : 960 < c.nqCount d q) (he : c.nqCount d q < 1024 → entrySev e ≠ 2) :
    c.nqTake d q e = c.nqTurnAway d q (decide (1024 ≤ c.nqCount d q)) := by
  by_cases full : 1024 ≤ c.nqCount d q
  · rw [Chip.nqTake, if_pos full, decide_eq_true full]
  · rw [Chip.nqTake, if_neg full, if_pos ⟨hn, he (Nat.lt_of_not_le full)⟩, decide_eq_false full]

/-! ### NOTICE_ENTRY (R35) -/

/-- The first staged notice of a queue has left the staging buffer, where l is left; the next entry waits two cycles. -/
def Chip.nqPop (l : List Staged) : Chip :=
  { c with nq := { c.nq with staged := SMap.set (fun _ => []) c.nq.staged (d * 2 + q) l,
                             next := SMap.set (fun _ => 0) c.nq.next (d * 2 + q) (c.cycle + 2) } }

@[simp] theorem Chip.nqPop_rd (l : List Staged) (a : Nat) : (c.nqPop d q l).rd a = c.rd a := rfl
@[simp] theorem Chip.nqPop_get (l : List Staged) (a : Nat) (f : Fld) : (c.nqPop d q l).get a f = c.get a f := rfl
@[simp] theorem Chip.nqPop_flag (l : List Staged) (a : Nat) (f : Fld) : (c.nqPop d q l).flag a f = c.flag a f := rfl
@[simp] theorem Chip.nqPop_nqCount (l : List Staged) : (c.nqPop d q l).nqCount d q = c.nqCount d q := rfl
@[simp] theorem Chip.nqPop_integ (l : List Staged) : (c.nqPop d q l).integ = c.integ := rfl
@[simp] theorem Chip.nqPop_entries (l : List Staged) : (c.nqPop d q l).nq.entries = c.nq.entries := rfl
@[simp] theorem Chip.nqPop_staged (l : List Staged) : SMap.get (fun _ => []) (c.nqPop d q l).nq.staged (d * 2 + q) = l :=
  SMap.get_set_same ..
@[simp] theorem Chip.nqPop_next (l : List Staged) : SMap.get (fun _ => 0) (c.nqPop d q l).nq.next (d * 2 + q) = c.cycle + 2 := by
  rw [Chip.nqPop, SMap.get_set_same]

/-- Two cycles after the last entry the first staged notice, in the order of R35, is taken or turned away. -/
theorem Chip.noticeEntry_first {x : Staged} {l : List Staged}
    (hx : orderBy stagedRank (SMap.get (fun _ => []) c.nq.staged (d * 2 + q)) = x :: l)
    (hc : SMap.get (fun _ => 0) c.nq.next (d * 2 + q) ≤ c.cycle) : c.noticeEntry d q = (c.nqPop d q l).nqTake d q x.entry := by
  simp only [Chip.noticeEntry, hx, if_neg (Nat.not_lt.2 hc)]
  rfl

/-! ### NQ_TAIL_WRITE (R36, R37) -/

/-- FLT_NQ_STATUS shows the reserve: only that register changes. -/
theorem Chip.showReserve_rd {a : Nat} (h : a ≠ R.FLT_NQ_STATUS d) : (c.showReserve d q).rd a = c.rd a := Chip.rd_set_other _ _ _ h
@[simp] theorem Chip.showReserve_nq : (c.showReserve d q).nq = c.nq := Chip.set_nq ..
@[simp] theorem Chip.showReserve_integ : (c.showReserve d q).integ = c.integ := Chip.set_integ ..

/-- A tail write gives TAIL, and otherwise changes FLT_NQ_STATUS and signals at most. -/
theorem Chip.nqTailWrite_frame (tail : Nat) : (c.nqTailWrite d q tail).nq.entries = c.nq.entries ∧
    (c.nqTailWrite d q tail).integ = c.integ ∧
    ∀ a, a ≠ R.FLT_NQ_STATUS d → (c.nqTailWrite d q tail).rd a = (c.set (nqPtr d q) nqTail tail).rd a := by
  have shown (a : Nat) (ha : a ≠ R.FLT_NQ_STATUS d) := Chip.showReserve_rd (c.set (nqPtr d q) nqTail tail) d q ha
  rw [Chip.nqTailWrite]
  split
  · obtain ⟨entries, -, -, integ, rd⟩ := Chip.nqSignal_frame ((c.set (nqPtr d q) nqTail tail).showReserve d q) d q
    exact ⟨by rw [entries, Chip.showReserve_nq, Chip.set_nq], by rw [integ, Chip.showReserve_integ, Chip.set_integ],
      fun a ha => (rd a).trans (shown a ha)⟩
  · exact ⟨by rw [Chip.showReserve_nq, Chip.set_nq], by rw [Chip.showReserve_integ, Chip.set_integ], shown⟩

end

end Sys2Proof.Machine

open Sys2Proof Sys2Proof.Machine

/-- Settles O11: the first staged notice leaves the staging buffer, and its queue takes it or turns it away. -/
theorem noticesEnterTheirQueue : Obligations.NoticesEnterTheirQueue := by
  unfold Obligations.NoticesEnterTheirQueue
  refine ⟨fun d q s x l hcalm hx hc hroom => ?_, fun d q s x l hcalm hx hc hn hsev => ?_, fun d q tail s hcalm => ?_⟩
  · obtain ⟨entries, staged, next, integ, ptr⟩ := Chip.nqTake_enters (s.chip.nqPop d q l) d q x.entry hroom
    have due : ((s.chip.nqPop d q l).nqTake d q x.entry).integ.due = [] := by
      rw [integ, Chip.nqPop_integ, State.calm_due s hcalm]
    have head : ((s.chip.nqPop d q l).nqTake d q x.entry).get (nqPtr d q) nqHead = (s.chip.get (nqPtr d q) nqHead + 1) % 2048 := by
      rw [Chip.get, ptr]
      exact Chip.get_set_same _ _ _ _ (by decide)
    refine ⟨_, (exec_noticeEntry d q s).trans (by rw [Chip.noticeEntry_first _ _ _ hx hc]), ?_⟩
    rw [State.after_chip, State.settled_nq s _ due, State.settled_get s _ due, entries, staged, next]
    refine ⟨?_, fun k hk => ?_, head, ?_, ?_⟩
    · exact SMap.get_set_same ..
    · exact SMap.get_set_other _ _ _ hk
    · exact Chip.nqPop_staged ..
    · exact Chip.nqPop_next ..
  · have taken := Chip.nqTake_refuses (s.chip.nqPop d q l) d q x.entry hn hsev
    obtain ⟨nq, integ⟩ := Chip.nqTurnAway_keeps (s.chip.nqPop d q l) d q (decide (1024 ≤ s.chip.nqCount d q))
    have due : ((s.chip.nqPop d q l).nqTurnAway d q (decide (1024 ≤ s.chip.nqCount d q))).integ.due = [] := by
      rw [integ, Chip.nqPop_integ, State.calm_due s hcalm]
    refine ⟨_, (exec_noticeEntry d q s).trans (by rw [Chip.noticeEntry_first _ _ _ hx hc, taken, Chip.nqPop_nqCount]), ?_⟩
    rw [State.after_chip, State.settled_nq s _ due, State.settled_get s _ due, State.settled_flag s _ due, State.settled_rd s _ due, nq]
    refine ⟨?_, ?_, ?_, ?_, ?_⟩
    · exact Chip.nqPop_staged ..
    · exact Chip.nqPop_entries ..
    · rw [Chip.nqTurnAway_ptr, Chip.nqPop_rd]
    · rw [Chip.nqTurnAway_lost, Chip.nqPop_get]
    · rw [Chip.nqTurnAway_ovf, Chip.nqPop_flag]
  · obtain ⟨entries, integ, rd⟩ := Chip.nqTailWrite_frame s.chip d q tail
    have due : (s.chip.nqTailWrite d q tail).integ.due = [] := by rw [integ, State.calm_due s hcalm]
    have ptr := rd (nqPtr d q) (nqPtr_ne_status d q)
    refine ⟨_, exec_nqTailWrite d q tail s, ?_⟩
    simp only [State.after_chip, State.settled_nq s _ due, State.settled_rd s _ due, Chip.get, ptr]
    refine ⟨?_, ?_, entries, fun a hptr hstatus => ?_⟩
    · exact (Chip.get_set_same _ _ _ _ (by decide)).trans (Nat.mod_eq_of_lt tail.isLt)
    · exact Chip.get_set_field _ _ _ _ _ (by decide) (by decide)
    · rw [rd a hstatus, Chip.rd_set_other _ _ _ hptr]

end

section
/-!
PROOFS. The hubs' roles (R17, R454, R457) and watchdogs that expire (R463): takeovers, lost heartbeat paths, resets by a watchdog.
-/

namespace Sys2Proof.Machine

section
variable (c : Chip) {h : Nat}

/-! ### Takeovers (R17, R454) -/

/-- The primary hub is A or B. -/
theorem Chip.primary_cases (hp : c.primary = some h) : h = 0 ∨ h = 1 := by
  rw [Chip.primary] at hp
  split at hp
  · exact .inl (Option.some.inj hp).symm
  · split at hp
    · exact .inr (Option.some.inj hp).symm
    · cases hp

/-- A hub that loses the primary role: fenced, its sessions closed, the commands of its windows that have not completed lost. -/
def Hub.deposed (x : Hub) : Hub :=
  { x with fenced := true, sessions := [], slots := x.slots.filter (fun e => e.2.owner != 1 && e.2.owner != 2) }

/-- Hub h is deposed, and the other hub is primary. -/
def Chip.roleMoved (h : Nat) : Chip :=
  ((c.modHub h Hub.deposed).set (R.MGT_ROLE (hubDie h)) F.MGT_ROLE_PRIMARY 0).set (R.MGT_ROLE (hubDie (1 - h))) F.MGT_ROLE_PRIMARY 1

/-- A write of a register other than the roles keeps the roles. -/
theorem keeps_wr (a : Nat) (w : Word) (h1 : R.MGT_ROLE 32 ≠ a) (h2 : R.MGT_ROLE 39 ≠ a) : KeepsHub c (c.wr a w) :=
  ⟨fun _ => rfl, fun _ => rfl, fun _ => rfl, rfl, Chip.rd_wr_other _ _ h1, Chip.rd_wr_other _ _ h2⟩

/-- The roles stand apart from the pointers of the FSIG ring. -/
theorem role_ne_fsigPtr (h : Nat) : R.MGT_ROLE 32 ≠ R.FLT_FSIG_PTR (hubDie h) ∧ R.MGT_ROLE 39 ≠ R.FLT_FSIG_PTR (hubDie h) := by
  unfold hubDie; split <;> decide

/-- A hub's die is C0 or C7 (R13). -/
theorem hubDie_cases (h : Nat) : hubDie h = 32 ∨ hubDie h = 39 := by
  unfold hubDie; split
  · exact .inl rfl
  · exact .inr rfl

/-- A takeover moves the role, fences the old hub and closes its sessions; its events, vectors and notice change no role. -/
theorem Chip.hubTakeover_keeps (hp : c.primary = some h) (hiso : c.isolated (hubDie (1 - h)) = false)
    (hfence : (c.hub (1 - h)).fenced = false) (hid : (c.hub (1 - h)).idOk = true) : KeepsHub (c.roleMoved h) c.hubTakeover := by
  have may : ¬ (c.isolated (hubDie (1 - h)) = true ∨ (c.hub (1 - h)).fenced = true ∨ (!(c.hub (1 - h)).idOk) = true) := by
    simp [hiso, hfence, hid]
  obtain ⟨a1, a2⟩ := role_ne_fsigPtr (1 - h)
  simp only [Chip.hubTakeover, Chip.takeRole, hp, if_neg may, if_true]
  exact (keeps_wr (c.roleMoved h) _ _ a1 a2).trans <| (keeps_hubRole _ _ _).trans <| (keeps_hubRole _ _ _).trans <|
    (keeps_signal _ _ _).trans <| (keeps_signal _ _ _).trans <| keeps_post _ _ _ _ _ _ _ _ _ (hubDie_cases _)

/-- Once the role has moved PRIMARY is clear at hub h and set at the other hub. -/
theorem Chip.roleMoved_flags (hh : h = 0 ∨ h = 1) :
    (c.roleMoved h).flag (R.MGT_ROLE (hubDie h)) F.MGT_ROLE_PRIMARY = false ∧
      (c.roleMoved h).flag (R.MGT_ROLE (hubDie (1 - h))) F.MGT_ROLE_PRIMARY = true := by
  have hne : R.MGT_ROLE (hubDie h) ≠ R.MGT_ROLE (hubDie (1 - h)) := by
    rcases hh with rfl | rfl
    · decide
    · decide
  refine ⟨?_, Chip.flag_set_bool _ _ _ true rfl (by decide)⟩
  rw [Chip.roleMoved, Chip.flag, Chip.get_set_other _ _ _ _ hne]
  exact Chip.flag_set_bool _ _ _ false rfl (by decide)

/-- Once the role has moved the other hub is primary. -/
theorem Chip.roleMoved_primary (hh : h = 0 ∨ h = 1) : (c.roleMoved h).primary = some (1 - h) := by
  obtain ⟨off, on⟩ := Chip.roleMoved_flags c hh
  rcases hh with rfl | rfl
  · simp only [hubDie, if_true, Nat.sub_zero, Nat.one_ne_zero, if_false] at off on
    rw [Chip.primary, off, on, if_neg Bool.false_ne_true, if_pos rfl]
  · simp only [hubDie, if_true, Nat.sub_self] at on
    rw [Chip.primary, on, if_pos rfl]

/-- The move of the role raises no trigger. -/
theorem Chip.roleMoved_integ (h : Nat) : (c.roleMoved h).integ = c.integ := by
  rw [Chip.roleMoved, Chip.set_integ, Chip.set_integ, Chip.modHub_integ]

/-- Hub h is deposed once the role has moved. -/
theorem Chip.roleMoved_hub_same (h : Nat) : (c.roleMoved h).hub h = (c.hub h).deposed := by
  rw [Chip.roleMoved, Chip.set_hub, Chip.set_hub, Chip.hub_modHub_same]

/-- The hub that takes over stays as it was, but for its role. -/
theorem Chip.roleMoved_hub_other {j : Nat} (hj : j ≠ h) : (c.roleMoved h).hub j = c.hub j := by
  rw [Chip.roleMoved, Chip.set_hub, Chip.set_hub, Chip.hub_modHub_other _ _ hj]

/-! ### Lost heartbeat paths (R17) -/

/-- Hub h holds the path lost and reports it. -/
def Chip.pathLostAt (p path h : Nat) : Chip := (c.modHub h (fun x => { x with pathLost := 2 ^ path })).hubRole h (p + 2)

/-- With a primary hub, a lost path is held and reported by both hubs. -/
theorem Chip.pathLost_primary {p : Nat} (path : Nat) (hp : c.primary = some p) :
    c.pathLost path = (c.pathLostAt p path 0).pathLostAt p path 1 := by
  rw [Chip.pathLost, hp]
  rfl

/-- The report of a hub leaves what the hubs hold of roles and paths. -/
theorem Chip.pathLostAt_keeps (p path h : Nat) :
    KeepsHub (c.modHub h (fun x => { x with pathLost := 2 ^ path })) (c.pathLostAt p path h) := keeps_hubRole _ _ _

/-- Hub h holds the path lost, the other hub what it held. -/
theorem Chip.pathLostAt_pathLost (p path h j : Nat) :
    ((c.pathLostAt p path h).hub j).pathLost = if j = h then 2 ^ path else (c.hub j).pathLost := by
  rw [(Chip.pathLostAt_keeps c p path h).p]
  split
  · next e => rw [e, Chip.hub_modHub_same]
  · next e => rw [Chip.hub_modHub_other _ _ e]

/-- A lost path fences no hub, moves no role and raises no trigger. -/
theorem Chip.pathLostAt_fenced (p path h j : Nat) : ((c.pathLostAt p path h).hub j).fenced = (c.hub j).fenced := by
  rw [(Chip.pathLostAt_keeps c p path h).f]
  by_cases e : j = h
  · rw [e, Chip.hub_modHub_same]
  · rw [Chip.hub_modHub_other _ _ e]

theorem Chip.pathLostAt_primary (p path h : Nat) : (c.pathLostAt p path h).primary = c.primary := by
  rw [primary_of _ _ (Chip.pathLostAt_keeps c p path h)]
  simp only [Chip.primary, Chip.modHub_flag]

theorem Chip.pathLostAt_integ (p path h : Nat) : (c.pathLostAt p path h).integ = c.integ := by
  rw [(Chip.pathLostAt_keeps c p path h).i, Chip.modHub_integ]

/-! ### Watchdogs (R463) -/

/-- A running watchdog that expires: the reset of its class, its count, and a WATCHDOG event. -/
theorem Chip.watchdogExpiry_runs {which : Nat} (hrun : c.dogRuns h which = true) :
    c.watchdogExpiry h which =
      ((if which = 1 then c.planeMgmtReset h else if which = 2 then c.planeControlReset else c.chipReset).incSat
        (R.MGT_WDOG (hubDie h)) F.MGT_WDOG_EXPIRED 1).hostEvent h 0x83 which := by
  rw [Chip.watchdogExpiry, if_neg (by simp [hrun])]

end

end Sys2Proof.Machine

open Sys2Proof Sys2Proof.Machine

/-- Settles O15: what a takeover and a lost path report changes no role, so the roles are those the move left. -/
theorem theStandbyHubTakesOver : Obligations.TheStandbyHubTakesOver := by
  unfold Obligations.TheStandbyHubTakesOver
  refine ⟨fun s h hcalm hp hiso hfence hid => ?_, fun s h path hcalm hp => ?_, fun s h w hrun => ?_⟩
  · have hh := Chip.primary_cases _ hp
    have other : 1 - h ≠ h := by omega
    have keeps := Chip.hubTakeover_keeps _ hp hiso hfence hid
    have due : s.chip.hubTakeover.integ.due = [] := by
      rw [keeps.i, Chip.roleMoved_integ, State.calm_due s hcalm]
    refine ⟨_, exec_hubTakeover s, ?_⟩
    simp only [State.after_chip, State.settled_primary s _ due, State.settled_hub s _ due, primary_of _ _ keeps, keeps.f, keeps.s]
    refine ⟨Chip.roleMoved_primary _ hh, ?_, ?_, ?_⟩
    · rw [Chip.roleMoved_hub_same, Hub.deposed]
    · rw [Chip.roleMoved_hub_same, Hub.deposed]
    · rw [Chip.roleMoved_hub_other _ other, hfence]
  · have lost := Chip.pathLost_primary _ path hp
    have due : (s.chip.pathLost path).integ.due = [] := by
      rw [lost, Chip.pathLostAt_integ, Chip.pathLostAt_integ, State.calm_due s hcalm]
    refine ⟨_, exec_heartbeatPathLost path s, ?_⟩
    simp only [State.after_chip, State.settled_primary s _ due, State.settled_hub s _ due]
    simp [lost, Chip.pathLostAt_primary, Chip.pathLostAt_fenced, Chip.pathLostAt_pathLost, hp]
  · have first : w.val + 1 = 1 ↔ w = 0 := by omega
    have second : w.val + 1 = 2 ↔ w = 1 := by omega
    rw [exec_watchdogExpiry, Chip.watchdogExpiry_runs _ hrun]
    simp only [first, second]

end

section
/-!
PROOFS. Commands of the host that keep items in flash and quiz packs (R59, R389, R448, R458 to R460, R462): what each completes with.
-/

namespace Sys2Proof.Machine

section
variable (c : Chip) {o : Origin} {x : Command}

/-! ### Records and firmware (R56, R59) -/

/-- A record in a hub's flash. -/
def Hub.keepRepair (r : Repair) (h : Hub) : Hub := { h with flash := { h.flash with repair := some r } }

/-- WRITE_REPAIR: a record that is not this chip's fails; any other goes to the flash of both hubs. -/
theorem Chip.cmdWriteRepair_of (r : Repair) (hx : c.cmdOf o 0x12 = some x) :
    c.cmdWriteRepair o r = if r.sigOk = true ∧ r.identity = identityDigest
      then ((c.modHub 0 (Hub.keepRepair r)).modHub 1 (Hub.keepRepair r)).complete o 0 0 [] else c.complete o 6 0x0A [] := by
  have refused : (!r.sigOk) = true ∨ r.identity ≠ identityDigest ↔ ¬(r.sigOk = true ∧ r.identity = identityDigest) := by
    rw [Bool.not_eq_true', ← Bool.not_eq_true, not_and_or]
  simp only [Chip.cmdWriteRepair, hx, refused, ite_not]
  rfl

/-- WRITE_FIRMWARE: its checks in turn (R59), then the item in a flash slot of the command's hub. -/
theorem Chip.cmdWriteFirmware_of (f : Firmware) (hx : c.cmdOf o 0x16 = some x) :
    c.cmdWriteFirmware o f = if 1 < x.arg0 then c.complete o 2 0 []
      else if f.sigOk = false then c.complete o 6 5 []
      else if f.version < c.floor o.hub 0 then c.complete o 6 8 []
      else (c.modHub o.hub (fun u => { u with flash := { u.flash with
        firmware := SMap.set (fun _ => none) u.flash.firmware x.arg0 (some f) } })).complete o 0 0 [] := by
  simp only [Chip.cmdWriteFirmware, hx, Bool.not_eq_true']

/-! ### Keys (R458, R460) -/

/-- What stands against an enrolment: all 16 slots are held, the chain does not verify, or the use is unknown. -/
def Chip.keyRefused (c : Chip) (h : Nat) (k : KeyCert) : Prop :=
  16 ≤ (c.hub h).flash.keys.length ∨ c.chainOk h k = false ∨ k.use = 0 ∨ 4 < k.use

/-- A key in the next slot of a hub's flash. -/
def Hub.keepKey (k : KeyCert) (h : Hub) : Hub := { h with flash := { h.flash with keys := h.flash.keys ++ [k] } }

/-- An ENROLL_KEY that may not take its slot completes REFUSED. -/
theorem Chip.cmdEnrollKey_refused (k : KeyCert) (hx : c.cmdOf o 0x14 = some x) (h : c.keyRefused o.hub k) :
    c.cmdEnrollKey o k = c.complete o 4 0 [] := by
  simp only [Chip.cmdEnrollKey, hx, Bool.not_eq_true']
  exact if_pos h

/-- ENROLL_KEY: both hubs hold the key, it is logged and shown, the host hears of it, and RESULT0 is its slot. -/
theorem Chip.cmdEnrollKey_taken (k : KeyCert) (hx : c.cmdOf o 0x14 = some x) (h : ¬c.keyRefused o.hub k) :
    c.cmdEnrollKey o k = ((((((c.modHub 0 (Hub.keepKey k)).modHub 1 (Hub.keepKey k)).logItem o.hub 5 0 k.keyId).showKeys 0).showKeys 1).hostEvent
      o.hub 0x84 2).complete o 0 (c.hub o.hub).flash.keys.length [] := by
  simp only [Chip.cmdEnrollKey, hx, Bool.not_eq_true']
  exact if_neg h

/-! ### Floors (R462) -/

/-- RAISE_FLOOR: BAD_ARG, REFUSED above the running item's version, or the floor rises. -/
theorem Chip.cmdRaiseFloor_of (hx : c.cmdOf o 0x15 = some x) :
    c.cmdRaiseFloor o = if 2 < x.arg0 ∨ 2 ^ 32 ≤ x.arg1 then c.complete o 2 0 []
      else if c.runningVersion o.hub x.arg0 < x.arg1 then c.complete o 4 0 []
      else (c.raiseFloor x.arg0 x.arg1).complete o 0 ((c.raiseFloor x.arg0 x.arg1).floor o.hub x.arg0) [] := by
  simp only [Chip.cmdRaiseFloor, hx]

/-! ### Quiz packs (R389) -/

/-- LOAD_PACK of a pack that fails a check shows its code; one that passes is in force, is logged and is the floor. -/
theorem Chip.cmdLoadPack_of (p : Pack) (hx : c.cmdOf o 0x13 = some x) :
    c.cmdLoadPack o p = if c.packCheck o.hub p ≠ 0 then (c.packStat (c.packCheck o.hub p) none).complete o 6 (c.packCheck o.hub p) []
      else ((((c.modInteg (fun g => { g with pack := some p, ran := [], provFails := [], suspended := [], reruns := [] })).packStat 0
        (some p.version)).logItem o.hub 8 p.version p.digest).raiseFloor 2 p.version).complete o 0 0 [] := by
  simp only [Chip.cmdLoadPack, hx]

end

end Sys2Proof.Machine

open Sys2Proof Sys2Proof.Machine

/-- Settles O27: each command by what it completes with, its checks taken in the order of the model. -/
theorem commandsKeepFlashItems : Obligations.CommandsKeepFlashItems := by
  unfold Obligations.CommandsKeepFlashItems
  intro s
  refine ⟨fun o x hx r => ?_, fun o x hx f => ?_, fun o x hx k => ?_, fun o x hx => ?_, fun o x hx p => ?_⟩
  · rw [exec_writeRepair, Chip.cmdWriteRepair_of _ r hx]
    exact ⟨fun bad => by rw [if_neg bad], fun sig mine => by rw [if_pos ⟨sig, mine⟩]; rfl⟩
  · rw [exec_writeFirmware, Chip.cmdWriteFirmware_of _ f hx]
    refine ⟨fun bad => by rw [if_pos bad], fun slot sig => ?_, fun slot sig old => ?_, fun slot sig fresh => ?_⟩
    · rw [if_neg (Nat.not_lt.2 slot), if_pos sig]
    · rw [if_neg (Nat.not_lt.2 slot), if_neg (by rw [sig]; decide), if_pos old]
    · rw [if_neg (Nat.not_lt.2 slot), if_neg (by rw [sig]; decide), if_neg (Nat.not_lt.2 fresh)]
  · rw [exec_enrollKey]
    refine ⟨fun refused => ?_, fun free chain known use => ?_⟩
    · rw [Chip.cmdEnrollKey_refused _ k hx refused]
    · have taken : ¬s.chip.keyRefused o.hub k := by
        simp only [Chip.keyRefused, chain, Bool.true_eq_false, false_or]
        omega
      rw [Chip.cmdEnrollKey_taken _ k hx taken]
      rfl
  · rw [exec_raiseFloor, Chip.cmdRaiseFloor_of _ hx]
    refine ⟨fun bad => by rw [if_pos bad], fun kind small ahead => ?_, fun kind small behind => ?_⟩
    · rw [if_neg (by omega), if_pos ahead]
    · rw [if_neg (by omega), if_neg (Nat.not_lt.2 behind)]
  · rw [exec_loadPack, Chip.cmdLoadPack_of _ p hx]
    exact ⟨fun fails => by rw [if_pos fails], fun passes => by rw [if_neg (not_not_intro passes)]⟩

end

section
/-!
PROOFS. Images (R58 to R63, R480): which the boot puts in force, what LOAD_IMAGE and WRITE_IMAGE complete with, and how a partial load ends.
-/

namespace Sys2Proof.Machine

section
variable (c : Chip)

/-! ### BOOT_IMAGE_LOAD (R58, R60): a primary hub that runs, over a data plane held with no reset in progress -/

section
variable {h : Nat} (up : c.pw.chipReset = 0) (held : c.pw.dataHeld = true) (hp : c.primary = some h) (runs : (c.hub h).mgmtUp = true)
  (normal : c.inRecovery h = false)
include up held hp runs normal

/-- Without a repair record no image loads. -/
theorem Chip.bootImageLoad_bare (bare : c.pw.repaired = false) : c.bootImageLoad = c.loadState 4 0x0A 0xFFFF := by
  simp [Chip.bootImageLoad, up, held, hp, runs, normal, bare]

/-- The first image that passes is put in force. -/
theorem Chip.bootImageLoad_passes {m : Image} (repaired : c.pw.repaired = true)
    (pick : c.bootPick h (c.bootSlots h) (1, 0xFFFF) = .inr m) : c.bootImageLoad = c.loadFull h m := by
  simp [Chip.bootImageLoad, up, held, hp, runs, normal, repaired, pick]

/-- When none passes the last failure is shown. -/
theorem Chip.bootImageLoad_fails {r : Nat × Nat} (repaired : c.pw.repaired = true)
    (pick : c.bootPick h (c.bootSlots h) (1, 0xFFFF) = .inl r) : c.bootImageLoad = c.loadState 4 r.1 r.2 := by
  simp [Chip.bootImageLoad, up, held, hp, runs, normal, repaired, pick]

end

variable {o : Origin} {x : Command} (m : Image)

/-! ### LOAD_IMAGE (R59, R60, R61, R480) -/

/-- A load that fails a check: its code and section are shown, a refusal of the ledger is counted and noticed, and the command FAILED. -/
def Chip.loadFails (o : Origin) (r : Nat × Nat) : Chip :=
  ((if r.1 = 0x0C then c.ledgerRefuse m.region (.partialLoad m.region) else c).loadState 4 r.1 r.2).complete o 6 r.1 []

/-- A partial load in progress: its region is held, and entry i of the region's ledger runs. -/
def Chip.loadRuns (o : Origin) (i : Nat) : Chip :=
  ({ c with loading := SMap.set (fun _ => none) c.loading m.region (some { image := m, origin := o }), ledgerNext := c.ledgerNext + 1 }.setEntry
    m.region i (some ⟨.partialLoad m.region, false, true, c.ledgerNext, c.now, false⟩)).loadState 2 0 0xFFFF

variable (reset : Chip → Chip)

/-- LOAD_IMAGE with ARG0 above 1: BAD_ARG. -/
theorem Chip.cmdLoadImage_badArg (hx : c.cmdOf o 0x10 = some x) (h : 1 < x.arg0) : c.cmdLoadImage o m reset = c.complete o 2 0 [] := by
  simp only [Chip.cmdLoadImage, hx, if_pos h]

/-- LOAD_IMAGE of a full image: it fails its checks, or is put in force over a data plane that is reset. -/
theorem Chip.cmdLoadImage_full (hx : c.cmdOf o 0x10 = some x) (h : x.arg0 = 0) :
    c.cmdLoadImage o m reset = if (c.loadCheck o.hub 0 m).1 ≠ 0 then c.loadFails m o (c.loadCheck o.hub 0 m)
      else ((reset c).loadFull o.hub m).complete o 0 0 [] := by
  simp only [Chip.cmdLoadImage, hx, h, Nat.not_lt_zero, zero_ne_one, false_and, if_false, if_true]
  rfl

/-- LOAD_IMAGE of a partial image, when no load holds its region: it fails its checks, finds the ledger full, or runs. -/
theorem Chip.cmdLoadImage_partial (hx : c.cmdOf o 0x10 = some x) (h : x.arg0 = 1) (free : SMap.get (fun _ => none) c.loading m.region = none) :
    c.cmdLoadImage o m reset = if (c.loadCheck o.hub 1 m).1 ≠ 0 then c.loadFails m o (c.loadCheck o.hub 1 m)
      else (c.freeEntry m.region).elim (c.complete o 6 0x0C []) (c.loadRuns m o) := by
  simp only [Chip.cmdLoadImage, hx, h, Nat.lt_irrefl, free, Option.isSome_none, Bool.false_eq_true, and_false, one_ne_zero, if_false]
  cases c.freeEntry m.region with
  | none => rfl
  | some i => rfl

/-! ### WRITE_IMAGE (R59) -/

/-- WRITE_IMAGE: BAD_ARG, the code of a failing check, or the image in the flash slot named. -/
theorem Chip.cmdWriteImage_of (hx : c.cmdOf o 0x11 = some x) :
    c.cmdWriteImage o m = if 1 < x.arg0 ∨ 1 < x.arg1 then c.complete o 2 0 []
      else if (c.imageCheck o.hub 0 m).1 ≠ 0 then c.complete o 6 (c.imageCheck o.hub 0 m).1 []
      else (c.modHub x.arg1 (fun u => { u with flash := { u.flash with
        images := SMap.set (fun _ => none) u.flash.images x.arg0 (some m) } })).complete o 0 0 [] := by
  simp only [Chip.cmdWriteImage, hx]

/-! ### PARTIAL_LOAD_SWITCH (R61, R63) -/

/-- Without a load of the region nothing switches. -/
theorem Chip.partialLoadSwitch_none {d : Nat} (h : SMap.get (fun _ => none) c.loading d = none) : c.partialLoadSwitch d = c := by
  simp only [Chip.partialLoadSwitch, h]

/-- The load of region d is over: no load holds the region. -/
def Chip.loadOver (d : Nat) : Chip := { c with loading := SMap.set (fun _ => none) c.loading d none }

/-- A load that was interrupted ends with the ledger's code; any other switches the region's masters. -/
theorem Chip.partialLoadSwitch_of {d : Nat} {y : Loading} (h : SMap.get (fun _ => none) c.loading d = some y) :
    c.partialLoadSwitch d = if y.dead = true then ((c.loadOver d).loadState 4 0x0C 0xFFFF).finishLoad y 6 0x0C
      else (((c.loadOver d).switchMasters d y).loadState 3 0 0xFFFF).finishLoad y 0 0 := by
  simp only [Chip.partialLoadSwitch, h]
  rfl

end

end Sys2Proof.Machine

open Sys2Proof Sys2Proof.Machine

/-- Settles O25: each command by what it completes with, its checks taken in the order of the model. -/
theorem imagesAreCheckedAndPutInForce : Obligations.ImagesAreCheckedAndPutInForce := by
  unfold Obligations.ImagesAreCheckedAndPutInForce
  intro s
  refine ⟨fun h up held hp runs normal => ?_, fun o x hx m => ?_, fun o x hx m => ?_, fun d idle => ?_, fun d y load => ?_⟩
  · rw [exec_bootImageLoad]
    refine ⟨fun bare => ?_, fun m repaired pick => ?_, fun r repaired pick => ?_⟩
    · rw [Chip.bootImageLoad_bare _ up held hp runs normal bare]
    · rw [Chip.bootImageLoad_passes _ up held hp runs normal repaired pick]
    · rw [Chip.bootImageLoad_fails _ up held hp runs normal repaired pick]
  · rw [exec_loadImage]
    refine ⟨fun bad => ?_, fun full fails => ?_, fun full passes => ?_, fun part free => ⟨fun fails => ?_, fun i passes entry => ?_⟩⟩
    · rw [Chip.cmdLoadImage_badArg _ m _ hx bad]
    · rw [Chip.cmdLoadImage_full _ m _ hx full, if_pos fails, Chip.loadFails]
    · rw [Chip.cmdLoadImage_full _ m _ hx full, if_neg (not_not_intro passes)]
    · rw [Chip.cmdLoadImage_partial _ m _ hx part free, if_pos fails, Chip.loadFails]
    · rw [Chip.cmdLoadImage_partial _ m _ hx part free, if_neg (not_not_intro passes), entry, Option.elim_some, Chip.loadRuns]
  · rw [exec_writeImage, Chip.cmdWriteImage_of _ m hx]
    refine ⟨fun bad => by rw [if_pos bad], fun slot hub fails => ?_, fun slot hub passes => ?_⟩
    · rw [if_neg (by omega), if_pos fails]
    · rw [if_neg (by omega), if_neg (not_not_intro passes)]
  · rw [exec_partialLoadSwitch, Chip.partialLoadSwitch_none _ idle]
  · rw [exec_partialLoadSwitch, Chip.partialLoadSwitch_of _ load]
    exact ⟨fun dead => by rw [if_pos dead, Chip.loadOver], fun live => by rw [if_neg (by rw [live]; decide), Chip.loadOver]⟩

end

section
/-!
PROOFS. Commit groups (R66, R67, R69, R70, R74): what staging, APPLY, DISCARD, the checks and the apply of a snapshot change.
-/

namespace Sys2Proof.Machine

/-- The status of a group, the generation and the shadow tags of a die stand at different addresses. -/
theorem cfgGen_ne_cstat (d g : Nat) : R.CFG_GEN d ≠ R.CFG_CSTAT d g := by
  simp only [R.CFG_GEN, R.CFG_CSTAT]; omega

theorem cfgGen_ne_blkTag (d k : Nat) : R.CFG_GEN d ≠ R.CFG_BLK_TAG d k := by
  simp only [R.CFG_GEN, R.CFG_BLK_TAG]; omega

/-- A word with the bits of a mask replaced, bit by bit. -/
theorem getLsbD_masked (x v m : Word) {i : Nat} (hi : i < 32) :
    ((x &&& ~~~m) ||| (v &&& m)).getLsbD i = if m.getLsbD i then v.getLsbD i else x.getLsbD i := by
  simp only [BitVec.getLsbD_or, BitVec.getLsbD_and, BitVec.getLsbD_not, hi, decide_true, Bool.true_and]
  cases m.getLsbD i <;> simp

/-- Checks that all pass have no first failure. -/
theorem firstFail_all : ∀ (l : List Bool) (n : Nat), l.all (fun b => b) = true → firstFail n l = 0
  | [], _, _ => rfl
  | b :: t, n, h => by
    obtain ⟨hb, ht⟩ := Bool.and_eq_true_iff.1 h
    rw [firstFail, if_pos hb, firstFail_all t (n + 1) ht]

section
variable (c : Chip)

/-! ### Staged copies and snapshots -/

@[simp] theorem Chip.wrS_rd (a : Nat) (w : Word) (b : Nat) : (c.wrS a w).rd b = c.rd b := (rfl)
@[simp] theorem Chip.wrS_integ (a : Nat) (w : Word) : (c.wrS a w).integ = c.integ := (rfl)
@[simp] theorem Chip.set_rdS (a : Nat) (f : Fld) (v b : Nat) : (c.set a f v).rdS b = c.rdS b := (rfl)
@[simp] theorem Chip.set_snap (a : Nat) (f : Fld) (v d g : Nat) : (c.set a f v).snap d g = c.snap d g := (rfl)
@[simp] theorem Chip.setSnap_rd (d g : Nat) (x : Option Snapshot) (b : Nat) : (c.setSnap d g x).rd b = c.rd b := (rfl)
@[simp] theorem Chip.setSnap_integ (d g : Nat) (x : Option Snapshot) : (c.setSnap d g x).integ = c.integ := (rfl)
@[simp] theorem Chip.setSnap_bellApply (d g : Nat) (x : Option Snapshot) : (c.setSnap d g x).bellApply = c.bellApply := (rfl)
@[simp] theorem Chip.setSnap_bellWaits (d g : Nat) (x : Option Snapshot) : (c.setSnap d g x).bellWaits = c.bellWaits := (rfl)
@[simp] theorem Chip.setSnap_orders (d g : Nat) (x : Option Snapshot) : (c.setSnap d g x).orders = c.orders := (rfl)

/-- Settling without a trigger changes no staged copy, no snapshot and no DIRTY bit. -/
theorem State.settled_rdS (s : State) (v : Chip) (h : v.integ.due = []) (a : Nat) : (s.settled v).rdS a = v.rdS a := by
  simp only [Chip.rdS, State.settled_staged s v h]

theorem State.settled_snap (s : State) (v : Chip) (h : v.integ.due = []) (d g : Nat) : (s.settled v).snap d g = v.snap d g := by
  simp only [Chip.snap, State.settled_snaps s v h]

theorem State.settled_dirty (s : State) (v : Chip) (h : v.integ.due = []) (d g : Nat) : (s.settled v).dirty d g = v.dirty d g := by
  simp only [Chip.dirty, State.settled_flag s v h]

/-! ### The status of a group (R67) -/

variable (d g : Nat)

@[simp] theorem Chip.setDirty_integ (b : Bool) : (c.setDirty d g b).integ = c.integ := Chip.set_integ ..
@[simp] theorem Chip.setDirty_rdS (b : Bool) (a : Nat) : (c.setDirty d g b).rdS a = c.rdS a := Chip.set_rdS ..
@[simp] theorem Chip.setDirty_snap (b : Bool) : (c.setDirty d g b).snap d g = c.snap d g := Chip.set_snap ..
@[simp] theorem Chip.setPendingBit_integ (b : Bool) : (c.setPendingBit d g b).integ = c.integ := Chip.set_integ ..
@[simp] theorem Chip.setPendingBit_snap (b : Bool) : (c.setPendingBit d g b).snap d g = c.snap d g := Chip.set_snap ..
@[simp] theorem Chip.setPendingBit_bellApply (b : Bool) : (c.setPendingBit d g b).bellApply = c.bellApply := Chip.set_bellApply ..
@[simp] theorem Chip.setPendingBit_bellWaits (b : Bool) : (c.setPendingBit d g b).bellWaits = c.bellWaits := Chip.set_bellWaits ..
@[simp] theorem Chip.setPendingBit_orders (b : Bool) : (c.setPendingBit d g b).orders = c.orders := Chip.set_orders ..

@[simp] theorem Chip.dirty_setDirty (b : Bool) : (c.setDirty d g b).dirty d g = b := Chip.flag_set_bool _ _ _ b rfl (by decide)

@[simp] theorem Chip.dirty_setPendingBit (b : Bool) : (c.setPendingBit d g b).dirty d g = c.dirty d g := by
  rw [Chip.dirty, Chip.flag, Chip.setPendingBit, Chip.get_set_field _ _ _ _ _ (by decide) (by decide)]
  rfl

/-- PENDING reads what was written to it. -/
@[simp] theorem Chip.pending_setPendingBit (b : Bool) :
    (c.setPendingBit d g b).flag (R.CFG_CSTAT d g) F.CFG_CSTAT_PENDING = b := Chip.flag_set_bool _ _ _ b rfl (by decide)

theorem Chip.setDirty_rd {a : Nat} (b : Bool) (h : a ≠ R.CFG_CSTAT d g) : (c.setDirty d g b).rd a = c.rd a := Chip.rd_set_other _ _ _ h
theorem Chip.setPendingBit_rd {a : Nat} (b : Bool) (h : a ≠ R.CFG_CSTAT d g) : (c.setPendingBit d g b).rd a = c.rd a :=
  Chip.rd_set_other _ _ _ h

section
variable (status check : Nat) (byBell : Bool)

@[simp] theorem Chip.outcome_integ : (c.outcome d g status check byBell).integ = c.integ := by simp only [Chip.outcome, Chip.set_integ]
@[simp] theorem Chip.outcome_bellApply : (c.outcome d g status check byBell).bellApply = c.bellApply := by
  simp only [Chip.outcome, Chip.set_bellApply]
@[simp] theorem Chip.outcome_bellWaits : (c.outcome d g status check byBell).bellWaits = c.bellWaits := by
  simp only [Chip.outcome, Chip.set_bellWaits]
@[simp] theorem Chip.outcome_orders : (c.outcome d g status check byBell).orders = c.orders := by simp only [Chip.outcome, Chip.set_orders]
@[simp] theorem Chip.outcome_rdS (a : Nat) : (c.outcome d g status check byBell).rdS a = c.rdS a := by simp only [Chip.outcome, Chip.set_rdS]

/-- An outcome leaves every register but the group's status alone. -/
theorem Chip.outcome_rd {a : Nat} (h : a ≠ R.CFG_CSTAT d g) : (c.outcome d g status check byBell).rd a = c.rd a := by
  simp only [Chip.outcome, Chip.rd_set_other _ _ _ h]

/-- An outcome leaves DIRTY alone. -/
@[simp] theorem Chip.outcome_dirty : (c.outcome d g status check byBell).dirty d g = c.dirty d g := by
  simp only [Chip.dirty, Chip.flag, Chip.outcome]
  rw [Chip.get_set_field _ _ _ _ _ (by decide) (by decide), Chip.get_set_field _ _ _ _ _ (by decide) (by decide),
    Chip.get_set_field _ _ _ _ _ (by decide) (by decide)]

/-- STATUS shows the outcome. -/
theorem Chip.outcome_status (h : status < 256) : (c.outcome d g status check byBell).get (R.CFG_CSTAT d g) F.CFG_CSTAT_STATUS = status := by
  simp only [Chip.outcome]
  rw [Chip.get_set_field _ _ _ _ _ (by decide) (by decide), Chip.get_set_field _ _ _ _ _ (by decide) (by decide),
    Chip.get_set_same _ _ _ _ (by decide)]
  exact Nat.mod_eq_of_lt h

end

/-! ### CS_STAGING_WRITE (R66) -/

/-- A write to a CS register puts its CS bits in the staged copy, and its group is DIRTY. -/
theorem Chip.stagingWrite_of {a : Nat} (v : Word) {r : RegRow} {is : List Nat} (hr : regRow a = some (r, is)) (hg : groupOf a = some g) :
    c.stagingWrite a v =
      (c.wrS a ((c.rdS a &&& ~~~(accMask r.fields .cs)) ||| (v &&& accMask r.fields .cs))).setDirty (a / 0x04000000) g true := by
  simp only [Chip.stagingWrite, hr, hg]

/-! ### COMMIT_APPLY and COMMIT_DISCARD (R67, R69, R74) -/

/-- An APPLY of a group against which nothing of R67 stands takes the snapshot. -/
theorem Chip.commitApply_takes (ctl : Bool) (here : groupHere d g = true) (runs : c.frozen = false) (idle : c.regionLoading d = false)
    (free : c.snap d g = none) (bells : c.applyBells d g = []) (dirty : c.dirty d g = true) (acts : c.holdsFields d g = true) :
    c.commitApply d g ctl = c.takeSnap d g false ctl := by
  have refusal : c.applyRefusal d g = 0 := by simp [Chip.applyRefusal, runs, idle, free, bells, dirty, acts]
  simp [Chip.commitApply, here, refusal]

@[simp] theorem Chip.takeSnap_integ (byBell ctl : Bool) : (c.takeSnap d g byBell ctl).integ = c.integ := by
  simp only [Chip.takeSnap, Chip.setPendingBit_integ, Chip.setDirty_integ, Chip.setSnap_integ]

@[simp] theorem Chip.takeSnap_snap (byBell ctl : Bool) :
    (c.takeSnap d g byBell ctl).snap d g = some ⟨c.stagedVals d g, byBell, false, ctl, c.slot⟩ := by
  simp only [Chip.takeSnap, Chip.setPendingBit_snap, Chip.setDirty_snap, Chip.snap_setSnap_same]

@[simp] theorem Chip.takeSnap_dirty (byBell ctl : Bool) : (c.takeSnap d g byBell ctl).dirty d g = false := by
  simp only [Chip.takeSnap, Chip.dirty_setPendingBit, Chip.dirty_setDirty]

@[simp] theorem Chip.takeSnap_pending (byBell ctl : Bool) :
    (c.takeSnap d g byBell ctl).flag (R.CFG_CSTAT d g) F.CFG_CSTAT_PENDING = true := Chip.pending_setPendingBit ..

theorem Chip.takeSnap_rd (byBell ctl : Bool) {a : Nat} (h : a ≠ R.CFG_CSTAT d g) : (c.takeSnap d g byBell ctl).rd a = c.rd a := by
  rw [Chip.takeSnap, Chip.setPendingBit_rd _ _ _ _ h, Chip.setDirty_rd _ _ _ _ h, Chip.setSnap_rd]

/-- The applied values of the registers as, copied to the staged copy. -/
def Chip.copyBack (c : Chip) (as : List Nat) : Chip := as.foldl (fun s a => s.wrS a (s.rd a)) c

/-- Copying back changes the staged copy only. -/
theorem Chip.copyBack_eq (as : List Nat) : ∃ m, c.copyBack as = { c with staged := m } := by
  induction as generalizing c with
  | nil => exact ⟨_, rfl⟩
  | cons a t ih =>
    obtain ⟨m, h⟩ := ih (c.wrS a (c.rd a))
    exact ⟨m, h⟩

theorem Chip.copyBack_rd (as : List Nat) (b : Nat) : (c.copyBack as).rd b = c.rd b := by
  obtain ⟨m, h⟩ := c.copyBack_eq as
  rw [h]; rfl

theorem Chip.copyBack_integ (as : List Nat) : (c.copyBack as).integ = c.integ := by
  obtain ⟨m, h⟩ := c.copyBack_eq as
  rw [h]

/-- A register copied back, or staged at its applied value before, is staged at its applied value. -/
theorem Chip.copyBack_rdS (as : List Nat) {a : Nat} (h : a ∈ as ∨ c.rdS a = c.rd a) : (c.copyBack as).rdS a = c.rd a := by
  induction as generalizing c with
  | nil => exact h.resolve_left List.not_mem_nil
  | cons b t ih =>
    refine ih (c.wrS b (c.rd b)) ?_
    by_cases hb : a = b
    · subst hb
      exact .inr (Chip.rdS_wrS_same ..)
    · rw [Chip.rdS_wrS_other _ _ hb, Chip.wrS_rd]
      exact h.imp_left (fun hm => (List.mem_cons.1 hm).resolve_left hb)

/-- DISCARD: the staged copy of the group is the applied one, and the outcome is DISCARDED. -/
theorem Chip.commitDiscard_here (here : groupHere d g = true) :
    c.commitDiscard d g = ((c.copyBack (groupAddrs d g)).setDirty d g false).outcome d g 7 0 false := by
  rw [Chip.commitDiscard, here, Bool.not_true, if_neg Bool.false_ne_true]
  rfl

/-! ### COMMIT_CHECKS_DONE (R69) -/

/-- An order waits for nothing when there is none. -/
theorem Chip.orderAdvance_nil (h : c.orders = []) : c.orderAdvance = c := by simp only [Chip.orderAdvance, h]

/-- Checks that all pass mark the snapshot as checked. -/
theorem Chip.checksDone_pass {x : Snapshot} (hx : c.snap d g = some x) (new : x.checked = false)
    (pass : (c.groupChecks (c.viewOf x.vals) d g).all (fun b => b) = true) :
    c.checksDone d g = c.setSnap d g (some { x with checked := true }) := by
  simp only [Chip.checksDone, hx, new, Bool.false_eq_true, if_false, firstFail_all _ 1 pass, if_true]

/-! ### SNAPSHOT_APPLY (R69, R70) -/

/-- A fold of steps that change the registers only changes the registers only. -/
theorem Chip.fold_regs {β : Type} (l : List β) (f : Chip → β → Chip) (hf : ∀ c b, ∃ r, f c b = { c with regs := r }) :
    ∃ r, l.foldl f c = { c with regs := r } := by
  induction l generalizing c with
  | nil => exact ⟨_, rfl⟩
  | cons b t ih =>
    obtain ⟨r, h⟩ := hf c b
    obtain ⟨u, h'⟩ := ih (f c b)
    exact ⟨u, by rw [List.foldl_cons, h', h]⟩

/-- The values of a snapshot change the registers only. -/
theorem Chip.viewOf_eq (vals : List (Nat × Word)) : ∃ r, c.viewOf vals = { c with regs := r } :=
  c.fold_regs vals _ (fun s x => Chip.wr_eq s x.1 x.2)

/-- A register the snapshot does not hold keeps its value. -/
theorem Chip.viewOf_rd (vals : List (Nat × Word)) {a : Nat} (h : ∀ x ∈ vals, x.1 ≠ a) : (c.viewOf vals).rd a = c.rd a := by
  induction vals generalizing c with
  | nil => rfl
  | cons x t ih =>
    exact (ih (c.wr x.1 x.2) (fun y hy => h y (List.mem_cons_of_mem _ hy))).trans
      (Chip.rd_wr_other _ _ (h x List.mem_cons_self).symm)

/-- The shadows of blocks bs of die d are STALE. -/
def Chip.staleTags (c : Chip) (d : Nat) (bs : List Nat) : Chip := bs.foldl (fun s b => s.set (R.CFG_BLK_TAG d b) F.CFG_BLK_TAG_STALE 1) c

/-- Beside their tags no register changes. -/
theorem Chip.staleTags_rd (bs : List Nat) {a : Nat} (h : ∀ b ∈ bs, a ≠ R.CFG_BLK_TAG d b) : (c.staleTags d bs).rd a = c.rd a := by
  induction bs generalizing c with
  | nil => rfl
  | cons b t ih =>
    exact (ih (c.set (R.CFG_BLK_TAG d b) F.CFG_BLK_TAG_STALE 1) (fun k hk => h k (List.mem_cons_of_mem _ hk))).trans
      (Chip.rd_set_other _ _ _ (h b List.mem_cons_self))

/-- A die has at most eight blocks. -/
theorem blocksOf_le (d : Nat) : blocksOf d ≤ 8 := by
  unfold blocksOf; split <;> decide

/-- The next generation is one higher, with every shadow of the die STALE. -/
theorem Chip.nextGen_staleTags : c.nextGen d = (c.wr (R.CFG_GEN d) (c.rd (R.CFG_GEN d) + 1)).staleTags d (List.range (blocksOf d)) := rfl

/-- The next generation changes the registers only. -/
theorem Chip.nextGen_eq : ∃ r, c.nextGen d = { c with regs := r } := by
  obtain ⟨r, h⟩ := Chip.wr_eq c (R.CFG_GEN d) (c.rd (R.CFG_GEN d) + 1)
  obtain ⟨u, h'⟩ := Chip.fold_regs (c.wr (R.CFG_GEN d) (c.rd (R.CFG_GEN d) + 1)) (List.range (blocksOf d)) _
    (fun s b => Chip.set_eq s (R.CFG_BLK_TAG d b) F.CFG_BLK_TAG_STALE 1)
  exact ⟨u, by rw [Chip.nextGen, h', h]⟩

/-- The generation rises by 1. -/
theorem Chip.nextGen_gen : (c.nextGen d).rd (R.CFG_GEN d) = c.rd (R.CFG_GEN d) + 1 := by
  rw [Chip.nextGen_staleTags, Chip.staleTags_rd _ _ _ (fun b _ => cfgGen_ne_blkTag d b), Chip.rd_wr_same]

/-- Beside the generation and the shadow tags no register changes. -/
theorem Chip.nextGen_rd {a : Nat} (gen : a ≠ R.CFG_GEN d) (tags : ∀ k, k < 8 → a ≠ R.CFG_BLK_TAG d k) : (c.nextGen d).rd a = c.rd a := by
  have others : ∀ b ∈ List.range (blocksOf d), a ≠ R.CFG_BLK_TAG d b :=
    fun b hb => tags b (Nat.lt_of_lt_of_le (List.mem_range.1 hb) (blocksOf_le d))
  rw [Chip.nextGen_staleTags, Chip.staleTags_rd _ _ _ others, Chip.rd_wr_other _ _ gen]

/-- Groups whose apply is the new values and the next generation, and nothing else (R70). -/
def plainGroups : List Nat := [0x001, 0x002, 0x004, 0x005, 0x009]

theorem Chip.applyVals_plain (vals : List (Nat × Word)) (h : g ∈ plainGroups) : c.applyVals d g vals = (c.viewOf vals).nextGen d := by
  have nothing : c.applied (c.viewOf vals) d g = c.viewOf vals := by
    simp only [plainGroups, List.mem_cons, List.not_mem_nil, or_false] at h
    rcases h with rfl | rfl | rfl | rfl | rfl <;> simp [Chip.applied]
  have gen : generational g = true := (by decide : ∀ x ∈ plainGroups, generational x = true) g h
  rw [Chip.applyVals, nothing, gen, if_pos rfl]

/-- The values of a snapshot and the next generation change the registers only. -/
theorem Chip.viewOf_nextGen_eq (vals : List (Nat × Word)) : ∃ r, (c.viewOf vals).nextGen d = { c with regs := r } := by
  obtain ⟨r, h⟩ := c.viewOf_eq vals
  obtain ⟨u, h'⟩ := (c.viewOf vals).nextGen_eq d
  exact ⟨u, by rw [h', h]⟩

/-- No bell waits to apply the group. -/
def Chip.dropWaits (c : Chip) (d g : Nat) : Chip := { c with bellWaits := SMap.set (fun _ => []) c.bellWaits (snapKey d g) [] }

@[simp] theorem Chip.dropWaits_integ : (c.dropWaits d g).integ = c.integ := (rfl)
@[simp] theorem Chip.dropWaits_orders : (c.dropWaits d g).orders = c.orders := (rfl)
@[simp] theorem Chip.dropWaits_snap : (c.dropWaits d g).snap d g = c.snap d g := (rfl)
@[simp] theorem Chip.dropWaits_rd (a : Nat) : (c.dropWaits d g).rd a = c.rd a := (rfl)
@[simp] theorem Chip.dropWaits_get (a : Nat) (f : Fld) : (c.dropWaits d g).get a f = c.get a f := (rfl)
@[simp] theorem Chip.dropWaits_flag (a : Nat) (f : Fld) : (c.dropWaits d g).flag a f = c.flag a f := (rfl)

/-- The snapshot of a group is gone, its outcome is shown, and PENDING is clear. -/
def Chip.groupDone (c : Chip) (d g code check : Nat) (byBell : Bool) : Chip :=
  ((c.outcome d g code check byBell).setSnap d g none).setPendingBit d g false

section
variable (code check : Nat) (byBell : Bool)

@[simp] theorem Chip.groupDone_integ : (c.groupDone d g code check byBell).integ = c.integ := by simp [Chip.groupDone]
@[simp] theorem Chip.groupDone_orders : (c.groupDone d g code check byBell).orders = c.orders := by simp [Chip.groupDone]
@[simp] theorem Chip.groupDone_snap : (c.groupDone d g code check byBell).snap d g = none := by simp [Chip.groupDone]

@[simp] theorem Chip.groupDone_pending : (c.groupDone d g code check byBell).flag (R.CFG_CSTAT d g) F.CFG_CSTAT_PENDING = false :=
  Chip.pending_setPendingBit ..

theorem Chip.groupDone_status (h : code < 256) : (c.groupDone d g code check byBell).get (R.CFG_CSTAT d g) F.CFG_CSTAT_STATUS = code := by
  rw [Chip.groupDone, Chip.setPendingBit, Chip.get_set_field _ _ _ _ _ (by decide) (by decide), Chip.get, Chip.setSnap_rd]
  exact Chip.outcome_status c d g code check byBell h

theorem Chip.groupDone_rd {a : Nat} (h : a ≠ R.CFG_CSTAT d g) : (c.groupDone d g code check byBell).rd a = c.rd a := by
  rw [Chip.groupDone, Chip.setPendingBit_rd _ _ _ _ h, Chip.setSnap_rd, Chip.outcome_rd _ _ _ _ _ _ h]

end

/-- A snapshot that no bell asked for or waits for is done with its outcome alone. -/
theorem Chip.snapDone_alone (code check : Nat) (x : Snapshot) (bell : SMap.get (fun _ => none) c.bellApply (snapKey d g) = none)
    (waits : SMap.get (fun _ => []) c.bellWaits (snapKey d g) = []) :
    c.snapDone d g code check x = (c.groupDone d g code check x.byBell).dropWaits d g := by
  simp only [Chip.snapDone, Chip.setPendingBit_bellApply, Chip.setSnap_bellApply, Chip.outcome_bellApply, bell,
    Chip.setPendingBit_bellWaits, Chip.setSnap_bellWaits, Chip.outcome_bellWaits, waits, List.foldl_nil,
    Chip.groupDone, Chip.dropWaits]

/-- The apply of a checked snapshot of such a group, not taken through the control complex and with no bell: the new values, the next
generation and the outcome. -/
theorem Chip.snapshotApply_plain {x : Snapshot} (hx : c.snap d g = some x) (checked : x.checked = true) (ctl : x.ctl = false)
    (h : g ∈ plainGroups) (bell : SMap.get (fun _ => none) c.bellApply (snapKey d g) = none)
    (waits : SMap.get (fun _ => []) c.bellWaits (snapKey d g) = []) :
    c.snapshotApply d g = (((c.viewOf x.vals).nextGen d).groupDone d g 0 0 x.byBell).dropWaits d g := by
  obtain ⟨r, keeps⟩ := c.viewOf_nextGen_eq d x.vals
  have done := ((c.viewOf x.vals).nextGen d).snapDone_alone d g 0 0 x (by rw [keeps]; exact bell) (by rw [keeps]; exact waits)
  simp only [Chip.snapshotApply, hx, checked, ctl, Bool.not_true, Bool.false_eq_true, if_false, Chip.applyVals_plain c d g x.vals h, done]

end

end Sys2Proof.Machine

open Sys2Proof Sys2Proof.Machine

/-- Settles O10: each command by the chip it makes, and settling changes none of what is read of it. -/
theorem commitGroupsStageCheckAndApply : Obligations.CommitGroupsStageCheckAndApply := by
  unfold Obligations.CommitGroupsStageCheckAndApply
  refine ⟨fun v a w s r is g hcalm live cs hr hg => ?_, fun v d g s hcalm live here runs idle free bells dirty acts => ?_,
    fun v d g s hcalm live here => ?_, fun d g s x hcalm orders hx new pass => ?_,
    fun d g s x hcalm orders hx checked ctl hg bell waits gen => ?_⟩
  all_goals have due := State.calm_due s hcalm
  · have hex : exec (.csStagingWrite v a w) s = .next (s.after (s.chip.stagingWrite a.toNat w)) := by
      rw [exec_csStagingWrite, Chip.writeVia_live live, if_pos cs]
    rw [Chip.stagingWrite_of s.chip g w hr hg] at hex
    refine ⟨_, hex, ?_⟩
    rw [State.after_chip]
    simp only [State.settled_rdS, State.settled_dirty, State.settled_rd, Chip.setDirty_integ, Chip.wrS_integ, due]
    refine ⟨fun i hi => ?_, fun b hb => ?_, ?_, fun b hb => ?_⟩
    · rw [Chip.setDirty_rdS, Chip.rdS_wrS_same, getLsbD_masked _ _ _ hi]
    · rw [Chip.setDirty_rdS, Chip.rdS_wrS_other _ _ hb]
    · rw [Chip.dirty_setDirty]
    · rw [Chip.setDirty_rd _ _ _ _ hb, Chip.wrS_rd]
  · have hex : exec (.commitApply v d g) s = .next (s.after (s.chip.takeSnap d g false v.isCtl)) := by
      rw [exec_commitApply, Chip.writeVia_live live, Chip.commitApply_takes _ _ _ _ here runs idle free bells dirty acts]
    refine ⟨_, hex, ?_⟩
    rw [State.after_chip]
    simp only [State.settled_snap, State.settled_dirty, State.settled_flag, State.settled_rd, Chip.takeSnap_integ, due]
    exact ⟨Chip.takeSnap_snap .., Chip.takeSnap_dirty .., Chip.takeSnap_pending .., fun b hb => Chip.takeSnap_rd _ _ _ _ _ hb⟩
  · have hex : exec (.commitDiscard v d g) s =
        .next (s.after (((s.chip.copyBack (groupAddrs d g)).setDirty d g false).outcome d g 7 0 false)) := by
      rw [exec_commitDiscard, Chip.writeVia_live live, Chip.commitDiscard_here _ _ _ here]
    refine ⟨_, hex, ?_⟩
    rw [State.after_chip]
    simp only [State.settled_rdS, State.settled_dirty, State.settled_get, State.settled_rd, Chip.outcome_integ, Chip.setDirty_integ,
      Chip.copyBack_integ, due]
    refine ⟨fun a ha => ?_, ?_, ?_, fun b hb => ?_⟩
    · rw [Chip.outcome_rdS, Chip.setDirty_rdS, Chip.copyBack_rdS _ _ (.inl ha)]
    · rw [Chip.outcome_dirty, Chip.dirty_setDirty]
    · exact Chip.outcome_status _ _ _ _ _ _ (by decide)
    · rw [Chip.outcome_rd _ _ _ _ _ _ hb, Chip.setDirty_rd _ _ _ _ hb, Chip.copyBack_rd]
  · have hex : exec (.commitChecksDone d g) s = .next (s.after (s.chip.setSnap d g (some { x with checked := true }))) := by
      rw [exec_commitChecksDone, Chip.checksDone_pass _ _ _ hx new pass, Chip.orderAdvance_nil _ ((Chip.setSnap_orders ..).trans orders)]
    refine ⟨_, hex, ?_⟩
    rw [State.after_chip]
    simp only [State.settled_snap, State.settled_rd, Chip.setSnap_integ, due]
    exact ⟨Chip.snap_setSnap_same .., fun b => Chip.setSnap_rd ..⟩
  · obtain ⟨r, keeps⟩ := s.chip.viewOf_nextGen_eq d x.vals
    have hex : exec (.snapshotApply d g) s =
        .next (s.after ((((s.chip.viewOf x.vals).nextGen d).groupDone d g 0 0 x.byBell).dropWaits d g)) := by
      rw [exec_snapshotApply, Chip.snapshotApply_plain _ _ _ hx checked ctl hg bell waits, Chip.orderAdvance_nil]
      rw [Chip.dropWaits_orders, Chip.groupDone_orders, keeps, orders]
    have due' : ((s.chip.viewOf x.vals).nextGen d).integ.due = [] := by rw [keeps, due]
    refine ⟨_, hex, ?_⟩
    rw [State.after_chip]
    simp only [State.settled_snap, State.settled_get, State.settled_flag, State.settled_rd, Chip.dropWaits_integ, Chip.groupDone_integ, due',
      Chip.dropWaits_rd, Chip.dropWaits_snap, Chip.dropWaits_get, Chip.dropWaits_flag]
    refine ⟨fun b hb hgen tags => ?_, ?_, ?_, ?_, ?_⟩
    · rw [Chip.groupDone_rd _ _ _ _ _ _ hb, Chip.nextGen_rd _ _ hgen tags]
    · rw [Chip.groupDone_rd _ _ _ _ _ _ (cfgGen_ne_cstat d g), Chip.nextGen_gen, Chip.viewOf_rd _ _ gen]
    · exact Chip.groupDone_snap ..
    · exact Chip.groupDone_status _ _ _ _ _ _ (by decide)
    · exact Chip.groupDone_pending ..

end

section
/-!
PROOFS. Commands that are not well formed: the model's fault, and the only one.
-/

open Sys2Proof Sys2Proof.Machine

/-- Settles O6: by the three forms a command can take, an ill-formed one faults; a well-formed one completes. -/
theorem illFormedCommandFaults : Obligations.IllFormedCommandFaults := by
  unfold Obligations.IllFormedCommandFaults
  refine fun i s => ⟨fun ill => ?_, exec_completes i s⟩
  rcases exec_forms i s with ⟨wf, -⟩ | ⟨wf, -⟩ | ⟨-, fault⟩
  · exact absurd wf (ill ▸ Bool.false_ne_true)
  · exact absurd wf (ill ▸ Bool.false_ne_true)
  · exact fault

end

section
/-!
PROOFS. Lanes open for link control: what updates of a lane leave of its registers, and the branch every message takes.
-/

namespace Sys2Proof.Machine

variable (c : Chip)

/-! ### What updates of a lane leave alone -/

@[simp] theorem Chip.modLane_laneState (l : Nat) (f : Lane → Lane) (y : Nat) : (c.modLane l f).laneState y = c.laneState y := by
  simp only [Chip.laneState, Chip.modLane_get]

@[simp] theorem Chip.modLane_blkSt (l : Nat) (f : Lane → Lane) (d b : Nat) : (c.modLane l f).blkSt d b = c.blkSt d b := by
  simp only [Chip.blkSt, Chip.modLane_get]

@[simp] theorem Chip.lcAnswered_laneState (l op seq y : Nat) : (c.lcAnswered l op seq).laneState y = c.laneState y := by
  rw [Chip.lcAnswered, Chip.modLane_laneState]

@[simp] theorem Chip.lcSend_laneState (l op seq : Nat) (body : List Nat) (y : Nat) : (c.lcSend l op seq body).laneState y = c.laneState y := by
  rw [Chip.lcSend, Chip.modLane_laneState]

/-- A request answered is out no longer; the lane otherwise stays as it was. -/
theorem Chip.lcAnswered_lane (l op seq : Nat) :
    (c.lcAnswered l op seq).lane l = { c.lane l with reqs := (c.lane l).reqs.filter (fun r => !(r.op == op && r.seq == seq)) } := by
  rw [Chip.lcAnswered, Chip.lane_modLane_same]

@[simp] theorem Chip.pmcEvent_get (d ev : Nat) (u k : Option Nat) (n a : Nat) (f : Fld) : (c.pmcEvent d ev u k n).get a f = c.get a f := (rfl)
@[simp] theorem Chip.pmcEvent_flag (d ev : Nat) (u k : Option Nat) (n a : Nat) (f : Fld) : (c.pmcEvent d ev u k n).flag a f = c.flag a f := (rfl)

/-- A lane open for link control does not take the branch of a closed one. -/
theorem Chip.lcOpen_goes {c : Chip} {l : Nat} (h : c.lcOpen l = true) : ¬ (!c.lcOpen l) = true := by simp [h]

end Sys2Proof.Machine

end

section
/-!
PROOFS. FEC blocks, FEC windows and block lock (R96, R98 to R100).
-/

namespace Sys2Proof.Machine

/-! ### The registers of a lane's receive side stand at addresses of their own -/

theorem lpartner_ne_fecCorr (d i : Nat) : R.PRT_LPARTNER d i ≠ R.PRT_FEC_CORR d i := by
  simp only [R.PRT_LPARTNER, R.PRT_FEC_CORR]; omega

theorem fecUncorr_inj {d i j : Nat} (h : i ≠ j) : R.PRT_FEC_UNCORR d i ≠ R.PRT_FEC_UNCORR d j := by
  simp only [R.PRT_FEC_UNCORR]; omega

theorem fecLimit_ne_fecUncorr (d i : Nat) : R.PRT_FEC_LIMIT d ≠ R.PRT_FEC_UNCORR d i := by
  simp only [R.PRT_FEC_LIMIT, R.PRT_FEC_UNCORR]; omega

/-- Lane i of die d has the local number i. -/
theorem laneLocal_of (d : Nat) {i : Nat} (h : i < 64) : laneLocal (d * 64 + i) = i := by
  rw [laneLocal]; omega

section
variable (c : Chip) {l : Nat}

/-! ### FEC_BLOCK_RECEIVE (R96, R98) -/

/-- An open lane in block lock does not take the branch of a lane that is closed or out of lock. -/
theorem Chip.locked_goes {c : Chip} {l : Nat} (ho : c.lcOpen l = true) (lock : (c.lane l).lock = true) :
    ¬ ((!c.lcOpen l) = true ∨ (!(c.lane l).lock) = true) := by
  simp [ho, lock]

/-- A block whose LANE_TAG is the partner's, or of a partner not yet known, clears the misses. -/
theorem Chip.tagCheck_right {tag : Nat} (h : c.flag (R.PRT_LPARTNER (laneDie l) (laneLocal l)) F.PRT_LPARTNER_VALID = false ∨
    tag % 64 = c.get (R.PRT_LPARTNER (laneDie l) (laneLocal l)) F.PRT_LPARTNER_LANE) :
    c.tagCheck l tag = c.modLane l (fun x => { x with tagMiss := 0 }) :=
  if_pos (h.imp_left (fun off => by rw [off]; rfl))

/-- A decoded block in its turn: its number, its corrected symbols, its cells, its tag. -/
theorem Chip.fecBlock_decoded (ho : c.lcOpen l = true) (lock : (c.lane l).lock = true) {no : Nat} (hno : no < 65536)
    (turn : (c.lane l).blockNo = none ∨ ∃ p, (c.lane l).blockNo = some p ∧ no = (p + 1) % 65536) (corrected tag : Nat)
    (slots : List (Option Cell)) :
    c.fecBlock l no true corrected tag slots =
      ((((c.modLane l (fun y => { y with blockNo := some no })).incSat (R.PRT_FEC_CORR (laneDie l) (laneLocal l)) F.PRT_FEC_CORR_COUNT
        corrected).pmcEvent (laneDie l) 0x012 (some (laneLocal l)) none corrected).modLane l
        (fun y => { y with rx := y.rx ++ (slots.filterMap id).filter (fun v => !v.isLc) })).tagCheck l tag := by
  have whole : no % 2 ^ 16 = no := Nat.mod_eq_of_lt hno
  rcases turn with first | ⟨p, last, next⟩
  · simp only [Chip.fecBlock, if_neg (Chip.locked_goes ho lock), first, whole, Bool.not_true, Bool.false_eq_true,
      ne_eq, not_true_eq_false, or_self, if_true, if_false]
  · have wanted : (p + 1) % 2 ^ 16 = no := next.symm
    simp only [Chip.fecBlock, if_neg (Chip.locked_goes ho lock), last, whole, wanted, Bool.not_true,
      Bool.false_eq_true, ne_eq, not_true_eq_false, or_self, if_true, if_false]

/-- An uncorrectable block takes the number of its turn, and none of its slots is taken. -/
theorem Chip.fecBlock_uncorrectable (ho : c.lcOpen l = true) (lock : (c.lane l).lock = true) {p : Nat} (last : (c.lane l).blockNo = some p)
    (no corrected tag : Nat) (slots : List (Option Cell)) :
    c.fecBlock l no false corrected tag slots = (c.modLane l (fun y => { y with blockNo := some ((p + 1) % 65536) })).fecBad l := by
  simp only [Chip.fecBlock, if_neg (Chip.locked_goes ho lock), last, Bool.not_false, true_or, if_true, Bool.false_eq_true, if_false, Nat.reducePow]

/-! ### FEC_WINDOW_END (R99) -/

/-- The WINDOW counts of lanes is of die d start again from 0. -/
def Chip.clearWindows (c : Chip) (d : Nat) (is : List Nat) : Chip :=
  is.foldl (fun s i => s.set (R.PRT_FEC_UNCORR d i) F.PRT_FEC_UNCORR_WINDOW 0) c

/-- Clearing windows changes the registers only. -/
theorem Chip.clearWindows_integ (d : Nat) (is : List Nat) : (c.clearWindows d is).integ = c.integ := by
  induction is generalizing c with
  | nil => rfl
  | cons i t ih => exact (ih (c.set (R.PRT_FEC_UNCORR d i) F.PRT_FEC_UNCORR_WINDOW 0)).trans (Chip.set_integ ..)

/-- One WINDOW count cleared: that one is 0, any other stays. -/
theorem Chip.window_after_clear (d i j : Nat) :
    (c.set (R.PRT_FEC_UNCORR d i) F.PRT_FEC_UNCORR_WINDOW 0).get (R.PRT_FEC_UNCORR d j) F.PRT_FEC_UNCORR_WINDOW =
      if j = i then 0 else c.get (R.PRT_FEC_UNCORR d j) F.PRT_FEC_UNCORR_WINDOW := by
  split
  · next same => rw [same, Chip.get_set_same _ _ _ _ (by decide), Nat.zero_mod]
  · next other => exact Chip.get_set_other _ _ _ _ (fecUncorr_inj other)

/-- One WINDOW count cleared: no TOTAL changes. -/
theorem Chip.total_after_clear (d i j : Nat) :
    (c.set (R.PRT_FEC_UNCORR d i) F.PRT_FEC_UNCORR_WINDOW 0).get (R.PRT_FEC_UNCORR d j) F.PRT_FEC_UNCORR_TOTAL =
      c.get (R.PRT_FEC_UNCORR d j) F.PRT_FEC_UNCORR_TOTAL := by
  by_cases same : j = i
  · rw [same]; exact Chip.get_set_field _ _ _ _ _ (by decide) (by decide)
  · exact Chip.get_set_other _ _ _ _ (fecUncorr_inj same)

/-- Windows cleared: those lanes' WINDOW counts are 0, the others' stay. -/
theorem Chip.clearWindows_window (d : Nat) (is : List Nat) (j : Nat) :
    (c.clearWindows d is).get (R.PRT_FEC_UNCORR d j) F.PRT_FEC_UNCORR_WINDOW =
      if j ∈ is then 0 else c.get (R.PRT_FEC_UNCORR d j) F.PRT_FEC_UNCORR_WINDOW := by
  induction is generalizing c with
  | nil => rfl
  | cons i t ih =>
    refine (ih (c.set (R.PRT_FEC_UNCORR d i) F.PRT_FEC_UNCORR_WINDOW 0)).trans ?_
    rw [Chip.window_after_clear]
    by_cases inTail : j ∈ t
    · simp [inTail]
    · simp [inTail]

/-- Windows cleared: no TOTAL changes. -/
theorem Chip.clearWindows_total (d : Nat) (is : List Nat) (j : Nat) :
    (c.clearWindows d is).get (R.PRT_FEC_UNCORR d j) F.PRT_FEC_UNCORR_TOTAL = c.get (R.PRT_FEC_UNCORR d j) F.PRT_FEC_UNCORR_TOTAL := by
  induction is generalizing c with
  | nil => rfl
  | cons i t ih => exact (ih (c.set (R.PRT_FEC_UNCORR d i) F.PRT_FEC_UNCORR_WINDOW 0)).trans (c.total_after_clear d i j)

/-- What the end of a window does at lane l of die d: its WINDOW count starts again, and one above LIMIT triggers a block firebreak. -/
def Chip.windowEndAt (c : Chip) (d l : Nat) : Chip :=
  let s1 := c.set (R.PRT_FEC_UNCORR d (laneLocal l)) F.PRT_FEC_UNCORR_WINDOW 0
  if c.get (R.PRT_FEC_LIMIT d) F.PRT_FEC_LIMIT_LIMIT < c.get (R.PRT_FEC_UNCORR d (laneLocal l)) F.PRT_FEC_UNCORR_WINDOW then
    s1.fbDue ⟨1, d, laneLocal l, 0x01⟩ else s1

/-- FEC_WINDOW_END does that at every lane of the die in turn. -/
theorem Chip.fecWindowEnd_lanes (d : Nat) :
    c.fecWindowEnd d = ((List.range 64).map (fun i => d * 64 + i)).foldl (fun s l => s.windowEndAt d l) c := rfl

/-- With no count above LIMIT the end of the window at lanes is clears their counts. -/
theorem Chip.windowEnd_clears (d : Nat) (is : List Nat) (his : ∀ i ∈ is, i < 64)
    (hle : ∀ i, i < 64 → c.get (R.PRT_FEC_UNCORR d i) F.PRT_FEC_UNCORR_WINDOW ≤ c.get (R.PRT_FEC_LIMIT d) F.PRT_FEC_LIMIT_LIMIT) :
    (is.map (fun i => d * 64 + i)).foldl (fun s l => s.windowEndAt d l) c = c.clearWindows d is := by
  induction is generalizing c with
  | nil => rfl
  | cons i t ih =>
    have hi : i < 64 := his i List.mem_cons_self
    have here : c.windowEndAt d (d * 64 + i) = c.set (R.PRT_FEC_UNCORR d i) F.PRT_FEC_UNCORR_WINDOW 0 := by
      rw [Chip.windowEndAt, laneLocal_of d hi, if_neg (Nat.not_lt.2 (hle i hi))]
    rw [List.map_cons, List.foldl_cons, here, ih _ (fun j hj => his j (List.mem_cons_of_mem _ hj)), Chip.clearWindows, Chip.clearWindows,
      List.foldl_cons]
    intro j hj
    rw [Chip.window_after_clear, Chip.get_set_other _ _ _ _ (fecLimit_ne_fecUncorr d i)]
    split
    · exact Nat.zero_le _
    · exact hle j hj

/-! ### BLOCK_LOCK_ACQUIRE and BLOCK_LOCK_LOSS (R99, R100) -/

/-- An open lane that finds block lock takes the next block number it sees. -/
theorem Chip.lockAcquire_open (ho : c.lcOpen l = true) :
    c.lockAcquire l = c.modLane l (fun x => { x with lock := true, blockNo := none }) := if_pos ho

/-- Lock lost in TRAINING: the lane is out of lock, its requests void. -/
theorem Chip.blockLockLoss_training (ho : c.lcOpen l = true) (lock : (c.lane l).lock = true) (st : c.laneState l = LS.training) :
    c.blockLockLoss l = c.modLane l (fun x => { x with lock := false, blockNo := none, reqs := [] }) := by
  have trains : receives (c.laneState l) ≠ true := by rw [st]; decide
  have awake : c.laneState l ≠ LS.drowsy := by rw [st]; decide
  simp only [Chip.blockLockLoss, if_neg (Chip.locked_goes ho lock), if_neg trains, if_pos awake]

/-- Lock lost on a trained lane: TRAINING from T3 with cause 0x02, and what hangs on the link follows. -/
theorem Chip.blockLockLoss_trained (ho : c.lcOpen l = true) (lock : (c.lane l).lock = true) (st : receives (c.laneState l) = true) :
    c.blockLockLoss l = (c.lockLost l).linkLost l := by
  simp only [Chip.blockLockLoss, if_neg (Chip.locked_goes ho lock), if_pos st]

end

end Sys2Proof.Machine

open Sys2Proof Sys2Proof.Machine

/-- Settles O17: each event by its case; at the end of a window within LIMIT no firebreak is due, so settling changes no count. -/
theorem fecBlocksAndBlockLock : Obligations.FecBlocksAndBlockLock := by
  unfold Obligations.FecBlocksAndBlockLock
  refine ⟨fun l no corrected tag slots s len ho lock turn partner => ?_, fun l no corrected tag slots p s len ho lock last => ?_,
    fun d s hcalm within => ?_, fun l s ho => ?_, fun l s ho lock => ⟨fun st => ?_, fun st => ?_⟩⟩
  · rw [exec_fecBlockReceive _ _ _ _ _ _ _ (beq_iff_eq.2 len), Chip.fecBlock_decoded _ ho lock no.isLt turn, Chip.tagCheck_right]
    simpa only [Chip.modLane_flag, Chip.modLane_get, Chip.pmcEvent_flag, Chip.pmcEvent_get, Chip.flag, Chip.incSat,
      Chip.get_set_other _ _ _ _ (lpartner_ne_fecCorr _ _)] using partner
  · rw [exec_fecBlockReceive _ _ _ _ _ _ _ (beq_iff_eq.2 len), Chip.fecBlock_uncorrectable _ ho lock last, Chip.fecBad]
  · have ends : s.chip.fecWindowEnd d = s.chip.clearWindows d (List.range 64) := by
      rw [Chip.fecWindowEnd_lanes, Chip.windowEnd_clears _ _ _ (fun i hi => List.mem_range.1 hi) within]
    have due : (s.chip.clearWindows d (List.range 64)).integ.due = [] := by rw [Chip.clearWindows_integ, State.calm_due s hcalm]
    refine ⟨_, (exec_fecWindowEnd d s).trans (by rw [ends]), fun i hi => ?_⟩
    rw [State.after_chip, State.settled_get s _ due, State.settled_get s _ due, Chip.clearWindows_window, Chip.clearWindows_total,
      if_pos (List.mem_range.2 hi)]
    exact ⟨rfl, rfl⟩
  · rw [exec_blockLockAcquire, Chip.lockAcquire_open _ ho]
  · rw [exec_blockLockLoss, Chip.blockLockLoss_training _ ho lock st]
  · rw [exec_blockLockLoss, Chip.blockLockLoss_trained _ ho lock st, Chip.lockLost]

end

section
/-!
PROOFS. HELLO, the credit messages and their timers on an open lane (R101, R103, R105, R107, R109 to R111, R117).
-/

namespace Sys2Proof.Machine

theorem lstat_ne_lpartner (l : Nat) : lstat l ≠ R.PRT_LPARTNER (laneDie l) (laneLocal l) := by
  simp only [lstat, R.PRT_LSTAT, R.PRT_LPARTNER]; omega

section
variable (c : Chip) {l seq : Nat}

/-! ### HELLO (R101, R117) -/

/-- The partner a HELLO names is recorded as valid. -/
def Chip.partnerSeen (c : Chip) (l sid lane role : Nat) : Chip :=
  (((c.set (R.PRT_LPARTNER (laneDie l) (laneLocal l)) F.PRT_LPARTNER_SWITCH_ID sid).set (R.PRT_LPARTNER (laneDie l) (laneLocal l))
    F.PRT_LPARTNER_LANE lane).set (R.PRT_LPARTNER (laneDie l) (laneLocal l)) F.PRT_LPARTNER_ROLE role).set
    (R.PRT_LPARTNER (laneDie l) (laneLocal l)) F.PRT_LPARTNER_VALID 1

/-- The partner's record leaves the lane's state alone. -/
theorem Chip.partnerSeen_laneState (sid lane role : Nat) : (c.partnerSeen l sid lane role).laneState l = c.laneState l := by
  simp only [Chip.laneState, Chip.partnerSeen, Chip.get_set_other _ _ _ _ (lstat_ne_lpartner l)]

/-- HELLO outside TRAINING: the partner is recorded, and the message answers the M40's own or is answered. -/
theorem Chip.hello_trained (ho : c.lcOpen l = true) (st : c.laneState l ≠ LS.training) (sid lane role : Nat) :
    c.hello l seq sid lane role =
      if (c.lane l).waits 0x01 seq then (c.partnerSeen l sid lane role).lcAnswered l 0x01 seq
      else (c.partnerSeen l sid lane role).lcSend l 0x01 seq ((c.partnerSeen l sid lane role).helloBody l) := by
  rw [Chip.hello, if_neg (Chip.lcOpen_goes ho)]
  refine if_neg (fun trains => st ?_)
  have kept := trains.1
  split at kept
  · exact (c.partnerSeen_laneState sid lane role).symm.trans ((Chip.lcAnswered_laneState ..).symm.trans kept)
  · exact (c.partnerSeen_laneState sid lane role).symm.trans ((Chip.lcSend_laneState ..).symm.trans kept)

/-! ### CREDIT_INIT, CREDIT_INIT_ACK and CREDIT (R107, R109) -/

/-- CREDIT_INIT is answered each time and acted on once. -/
theorem Chip.creditInitRx_open (ho : c.lcOpen l = true) (limits : List Nat) :
    c.creditInitRx l seq limits =
      (if (c.lane l).acted? 0x02 seq then c
        else (c.lcActed l 0x02 seq).modLane l (fun x =>
          { x with sent := [], txLimit := (List.range 8).foldl (fun m k => cntSet m k (nth limits k)) [], txInit := true })).lcSend
        l 0x03 seq [] := if_neg (Chip.lcOpen_goes ho)

/-- CREDIT_INIT_ACK of the M40's own CREDIT_INIT opens the receive direction. -/
theorem Chip.creditInitAck_own (ho : c.lcOpen l = true) (own : (c.lane l).waits 0x02 seq = true) :
    c.creditInitAck l seq = (c.lcAnswered l 0x02 seq).modLane l (fun x => { x with rxInit := true }) := if_pos ⟨ho, own⟩

/-- CREDIT moves the limits of its classes forward. -/
theorem Chip.creditRx_open (ho : c.lcOpen l = true) (mask : Nat) (limits : List Nat) :
    c.creditRx l mask limits = c.modLane l (fun x =>
      { x with txMask := mask,
               txLimit := (setBitsOf 8 mask).foldl (fun m k => cntSet m k (limitForward (cnt m k) (nth limits k))) x.txLimit }) :=
  if_neg (Chip.lcOpen_goes ho)

/-! ### CREDIT_SYNC and SYNC_REQ (R110, R111) -/

/-- A lane that drains nothing has no drain to go on with. -/
theorem Chip.drainStep_idle (idle : (c.lane l).drain = none) : c.drainStep l = c := by
  have check : c.drainCheck l = c := by simp only [Chip.drainCheck, idle]
  have apart : ¬ (c.laneState l = LS.draining ∧ c.laneState l = LS.drained) := fun ⟨h, g⟩ => by
    rw [h] at g; exact absurd g (by decide)
  simp only [Chip.drainStep, check, if_neg apart]

/-- The request a CREDIT_SYNC answers ends, and a drain under way is in step once acknowledged. -/
def Chip.syncAnswered (c : Chip) (l seq : Nat) : Chip :=
  (c.lcAnswered l 0x06 seq).modLane l (fun x => { x with drain := x.drain.map (fun v => { v with synced := v.acked }) })

/-- CREDIT_SYNC with an empty mask on a lane that drains nothing only answers. -/
theorem Chip.creditSync_empty (ho : c.lcOpen l = true) (idle : (c.lane l).drain = none) (sents : List Nat) :
    c.creditSync l seq 0 sents = c.syncAnswered l seq := by
  have still : ((c.syncAnswered l seq).lane l).drain = none := by
    rw [Chip.syncAnswered, Chip.lane_modLane_same, Chip.lcAnswered_lane, idle]; rfl
  have classes : setBitsOf 8 0 = [] := by decide
  rw [← Chip.drainStep_idle _ still, Chip.creditSync, if_neg (Chip.lcOpen_goes ho), classes, List.foldl_nil, Chip.syncAnswered]

/-- Beside the lane's requests and drain an answer changes nothing. -/
theorem Chip.syncAnswered_frame (c : Chip) (l seq : Nat) : (c.syncAnswered l seq).integ = c.integ ∧
    (∀ a, (c.syncAnswered l seq).rd a = c.rd a) ∧ ((c.syncAnswered l seq).lane l).received = (c.lane l).received ∧
    ((c.syncAnswered l seq).lane l).reqs = (c.lane l).reqs.filter (fun r => !(r.op == 0x06 && r.seq == seq)) := by
  refine ⟨?_, fun a => ?_, ?_, ?_⟩
  · rw [Chip.syncAnswered, Chip.modLane_integ, Chip.lcAnswered, Chip.modLane_integ]
  · rw [Chip.syncAnswered, Chip.modLane_rd, Chip.lcAnswered, Chip.modLane_rd]
  · rw [Chip.syncAnswered, Chip.lane_modLane_same, Chip.lcAnswered_lane]
  · rw [Chip.syncAnswered, Chip.lane_modLane_same, Chip.lcAnswered_lane]

/-- SYNC_REQ is answered by CREDIT_SYNC with its LC_SEQ. -/
theorem Chip.syncReq_open (ho : c.lcOpen l = true) :
    c.syncReq l seq = (c.lcSend l 0x05 seq (creditBody (c.losslessMask (laneDie l)) ((List.range 8).map (cnt (c.lane l).sent)))).modLane l
      (fun x => { x with syncDue := false }) := if_neg (Chip.lcOpen_goes ho)

/-! ### CREDIT_ADVERTISE_TIMER, CREDIT_SYNC_TIMER and RESERVED_LC_OP (R103, R107, R111) -/

/-- An advance of a lossless class not yet sent is advertised. -/
theorem Chip.creditTimer_due (ho : c.lcOpen l = true) {k : Nat} (hk : k < 8) (lossless : c.lossless (laneDie l) k = true)
    (due : 1 ≤ c.creditAdvance l k) (ahead : c.creditAdvance l k < 2 ^ 23) : c.creditTimer l = c.sendCredit l := by
  refine if_pos ⟨ho, List.any_eq_true.2 ⟨k, List.mem_range.2 hk, ?_⟩⟩
  simp only [lossless, decide_eq_true due, decide_eq_true ahead, Bool.and_self]

/-- A lossless cell sent since the last one makes CREDIT_SYNC due. -/
theorem Chip.syncTimer_due (ho : c.lcOpen l = true) (due : (c.lane l).syncDue = true) : c.syncTimer l = c.sendCreditSync l := if_pos ⟨ho, due⟩

/-- An op that no rule gives is a header error. -/
theorem Chip.reservedOp_unknown (ho : c.lcOpen l = true) {op : Nat} (h : knownOp op = false) :
    c.reservedOp l op = c.incSat (R.PRT_RX_ERR (laneDie l) (laneLocal l)) F.PRT_RX_ERR_HDR_ERR 1 := if_pos ⟨ho, by rw [h]; rfl⟩

end

end Sys2Proof.Machine

open Sys2Proof Sys2Proof.Machine

/-- Settles O18: each message by its case on an open lane; with the chip not PAIRED settling changes no lane. -/
theorem linkControlExchangesIdentityAndCredits : Obligations.LinkControlExchangesIdentityAndCredits := by
  unfold Obligations.LinkControlExchangesIdentityAndCredits
  intro l seq s ho
  refine ⟨fun sid lane role st => ⟨fun own => ?_, fun foreign => ?_⟩, fun limits len => ⟨fun new => ?_, fun again => ?_⟩, fun own => ?_,
    fun mask limits len => ?_, fun old new => ?_, fun sents len idle solo hcalm => ?_, ?_, fun k hk lossless due ahead => ?_,
    fun owed => ?_, fun op unknown => ?_⟩
  · rw [exec_hello, Chip.hello_trained _ ho st, if_pos own]
    rfl
  · rw [exec_hello, Chip.hello_trained _ ho st, foreign, if_neg Bool.false_ne_true]
    rfl
  · rw [exec_creditInit _ _ _ _ (beq_iff_eq.2 len), Chip.creditInitRx_open _ ho, new, if_neg Bool.false_ne_true]
  · rw [exec_creditInit _ _ _ _ (beq_iff_eq.2 len), Chip.creditInitRx_open _ ho, if_pos again]
  · rw [exec_creditInitAck, Chip.creditInitAck_own _ ho own]
  · rw [exec_credit _ _ _ _ (beq_iff_eq.2 len), Chip.creditRx_open _ ho]
  · rw [limitForward]
  · obtain ⟨integ, rd, received, reqs⟩ := Chip.syncAnswered_frame s.chip l seq
    have due : (s.chip.syncAnswered l seq).integ.due = [] := by rw [integ, State.calm_due s hcalm]
    obtain ⟨t, next, -, chip⟩ := State.next_solo (exec_creditSync l seq 0 sents s (beq_iff_eq.2 len))
      (Chip.creditSync_empty _ ho idle _) due solo
    exact ⟨t, next, by rw [chip, received], by rw [chip, reqs], fun a => by rw [chip, rd]⟩
  · rw [exec_syncReq, Chip.syncReq_open _ ho]
  · rw [exec_creditAdvertiseTimer, Chip.creditTimer_due _ ho hk lossless due ahead]
  · rw [exec_creditSyncTimer, Chip.syncTimer_due _ ho owed]
  · rw [exec_reservedLcOp, Chip.reservedOp_unknown _ ho unknown]

end

section
/-!
PROOFS. DRAIN, RESUME, their answers, repeats and limits (R104 to R106, R119, R511).
-/

namespace Sys2Proof.Machine

section
variable (c : Chip) {l seq : Nat}

/-! ### DRAIN and DRAIN_ACK (R106, R119) -/

/-- DRAIN of a lane that is not ACTIVE, or acted on before, is only answered (log 34). -/
theorem Chip.drainRx_answers (ho : c.lcOpen l = true) (h : c.laneState l ≠ LS.active ∨ (c.lane l).acted? 0x07 seq = true) :
    c.drainRx l seq = (c.lcActed l 0x07 seq).lcSend l 0x08 seq [] := by
  rw [Chip.drainRx, if_neg (Chip.lcOpen_goes ho), if_pos h]

/-- DRAIN of an ACTIVE lane, not acted on before, starts the drain. -/
theorem Chip.drainRx_drains (ho : c.lcOpen l = true) (st : c.laneState l = LS.active) (new : (c.lane l).acted? 0x07 seq = false) :
    c.drainRx l seq = ((((((((c.lcActed l 0x07 seq).modLane l (fun x => { x with reqs := x.reqs.filter (fun r => r.op != 0x0A) })).laneTo l
      LS.draining 4).modLane l (fun x => { x with drain := some ⟨0, true, false⟩ })).lcSend l 0x08 seq []).sendCreditSync l).clrPortCheck
      l).entryCheck (laneDie l) (laneBlock l)) := by
  rw [Chip.drainRx, if_neg (Chip.lcOpen_goes ho), if_neg (by simp [st, new])]

/-- DRAIN_ACK of the M40's own DRAIN: the drain is acknowledged and goes on. -/
theorem Chip.drainAck_own (ho : c.lcOpen l = true) (own : (c.lane l).waits 0x07 seq = true) :
    c.drainAck l seq = (((c.lcAnswered l 0x07 seq).modLane l (fun x =>
      { x with drain := x.drain.map (fun v => { v with acked := true }) })).sendCreditSync l).drainStep l := by
  rw [Chip.drainAck, if_neg (Chip.lcOpen_goes ho), if_pos own]

/-- DRAIN_ACK of the M40's RESUME on a lane out of TRAINING refuses it, and the lane waits no longer. -/
theorem Chip.drainAck_refuses (ho : c.lcOpen l = true) (own : (c.lane l).waits 0x07 seq = false) (resume : (c.lane l).waits 0x09 seq = true)
    (st : c.laneState l ≠ LS.training) :
    c.drainAck l seq = (c.lcAnswered l 0x09 seq).modLane l (fun x => { x with wait := false }) := by
  rw [Chip.drainAck, if_neg (Chip.lcOpen_goes ho), own, if_neg Bool.false_ne_true, if_pos resume]
  exact if_neg (by rwa [Chip.modLane_laneState, Chip.lcAnswered_laneState])

/-! ### RESUME (R106) -/

/-- RESUME that answers the M40's own: the lane resumes. -/
theorem Chip.resumeRx_own (ho : c.lcOpen l = true) (own : (c.lane l).waits 0x09 seq = true) :
    c.resumeRx l seq = (c.lcAnswered l 0x09 seq).resumed l := by
  simp only [Chip.resumeRx, if_neg (Chip.lcOpen_goes ho), if_pos own]

/-- RESUME of the leaf on a lane ACTIVE or DRAINED: granted when the lane may resume, else refused. -/
theorem Chip.resumeRx_asked (ho : c.lcOpen l = true) (own : (c.lane l).waits 0x09 seq = false)
    (st : c.laneState l = LS.active ∨ c.laneState l = LS.drained) :
    c.resumeRx l seq = if c.mayResume l then (c.lcSend l 0x09 seq []).resumed l else c.lcSend l 0x08 seq [] := by
  have out : ¬ (c.laneState l = LS.training ∧ (!(c.lane l).wait) = true) := fun ⟨trains, _⟩ => by
    rcases st with h | h
    · rw [h] at trains; exact absurd trains (by decide)
    · rw [h] at trains; exact absurd trains (by decide)
  have able : (c.mayResume l = true ∧ (c.laneState l = LS.active ∨ c.laneState l = LS.drained ∨ c.laneState l = LS.training)) ↔
      c.mayResume l = true := and_iff_left (st.imp_right .inl)
  simp only [Chip.resumeRx, if_neg (Chip.lcOpen_goes ho), own, Bool.false_eq_true, if_false, if_neg out, able]

/-! ### LC_REPEAT_TIMEOUT and DRAIN_TIMEOUT (R104, R105, R511) -/

/-- A request unanswered: sent again with the same LC_SEQ up to 8 times, then it fails. -/
theorem Chip.lcRepeat_open (ho : c.lcOpen l = true) {op : Nat} {q : LcReq}
    (hq : (c.lane l).reqs.find? (fun r => r.op == op && r.seq == seq) = some q) :
    c.lcRepeat l op seq =
      if q.repeats < 8 then
        ((c.modLane l (fun x =>
          { x with reqs := x.reqs.map (fun r => if r.op = op ∧ r.seq = seq then { r with repeats := r.repeats + 1 } else r) })).incSat
          (R.PRT_LC_STAT (laneDie l) (laneLocal l)) F.PRT_LC_STAT_RETRIES 1).lcSend l op seq q.body
      else ((c.incSat (R.PRT_LC_STAT (laneDie l) (laneLocal l)) F.PRT_LC_STAT_FAILURES 1).lcAnswered l op seq).lcFailure l q := by
  simp only [Chip.lcRepeat, if_neg (Chip.lcOpen_goes ho), hq]

/-- The drain limit: a DRAINING lane of a running plane is DRAINED with cause 0x06, its DRAIN void. -/
theorem Chip.drainTimeout_draining (st : c.laneState l = LS.draining) (runs : c.planeRuns (laneDie l) = true) :
    c.drainTimeout l = ((c.laneTo l LS.drained 6).modLane l (fun x =>
      { x with drain := none, reqs := x.reqs.filter (fun r => r.op != 0x07) })).afterDrained l := if_pos ⟨st, runs⟩

end

end Sys2Proof.Machine

open Sys2Proof Sys2Proof.Machine

/-- Settles O19: each message and limit by its case on an open lane. -/
theorem drainsAndResumesAnswerEachOther : Obligations.DrainsAndResumesAnswerEachOther := by
  unfold Obligations.DrainsAndResumesAnswerEachOther
  intro l seq s ho
  refine ⟨fun st new => ?_, fun h => ?_, fun own => ?_, fun own resume st => ?_, fun own => ?_, fun own st => ⟨fun may => ?_, fun may => ?_⟩,
    fun op q hq => ⟨fun few => ?_, fun many => ?_⟩, fun st runs => ?_⟩
  · rw [exec_drain, Chip.drainRx_drains _ ho st new]
  · rw [exec_drain, Chip.drainRx_answers _ ho h]
  · rw [exec_drainAck, Chip.drainAck_own _ ho own]
  · rw [exec_drainAck, Chip.drainAck_refuses _ ho own resume st]
  · rw [exec_resume, Chip.resumeRx_own _ ho own]
  · rw [exec_resume, Chip.resumeRx_asked _ ho own st, if_pos may]
  · rw [exec_resume, Chip.resumeRx_asked _ ho own st, may, if_neg Bool.false_ne_true]
  · rw [exec_lcRepeatTimeout, Chip.lcRepeat_open _ ho hq, if_pos few]
  · rw [exec_lcRepeatTimeout, Chip.lcRepeat_open _ ho hq, if_neg (Nat.not_lt.2 many)]
  · rw [exec_drainTimeout, Chip.drainTimeout_draining _ st runs]

end

section
/-!
PROOFS. DROWSY, WAKE_REQ, AWAKE and RETUNE with their answers (R106, R120 to R122).
-/

namespace Sys2Proof.Machine

section
variable (c : Chip) {l seq : Nat}

/-! ### DROWSY and DROWSY_ACK (R120) -/

/-- DROWSY of the leaf on an ACTIVE lane with no DRAIN out, not acted on before: the lane rests, not by the M40. -/
theorem Chip.drowsyRx_rests (ho : c.lcOpen l = true) (st : c.laneState l = LS.active) (quiet : (c.lane l).waitsOp 0x07 = false)
    (new : (c.lane l).acted? 0x0A seq = false) {depth : Nat} (lo : 1 ≤ depth) (hi : depth ≤ 3) :
    c.drowsyRx l seq depth = ((((c.lcActed l 0x0A seq).laneMove l LS.drowsy).set (lstat l) F.PRT_LSTAT_DEPTH depth).modLane l
      (fun x => { x with mine := false })).lcSend l 0x0B seq [] := by
  have goes : ¬ ((!c.lcOpen l) = true ∨ (c.lane l).waitsOp 0x07 = true ∨ (c.laneState l ≠ LS.active ∧ c.laneState l ≠ LS.drowsy) ∨
      depth = 0 ∨ 3 < depth) := by
    simp only [ho, quiet, st, Bool.not_true, Bool.false_eq_true, ne_eq, not_true_eq_false, false_and, false_or]
    omega
  simp only [Chip.drowsyRx, if_neg goes, new, Bool.false_eq_true, if_false, if_pos st]

/-- DROWSY_ACK of the M40's own DROWSY: the lane rests at the depth asked, by the M40, and what waits for it is checked. -/
theorem Chip.drowsyAck_own (ho : c.lcOpen l = true) {r : LcReq}
    (hr : (c.lane l).reqs.find? (fun r => r.op == 0x0A && r.seq == seq) = some r) :
    c.drowsyAck l seq = ((((((c.lcAnswered l 0x0A seq).laneMove l LS.drowsy).set (lstat l) F.PRT_LSTAT_DEPTH (nth r.body 0)).modLane l
      (fun x => { x with mine := true })).entryCheck (laneDie l) (laneBlock l)).sleepCheck (laneDie l)) := by
  simp only [Chip.drowsyAck, if_neg (Chip.lcOpen_goes ho), hr]

/-! ### WAKE_REQ and AWAKE (R121) -/

/-- WAKE_REQ on a DROWSY lane whose block is awake: AWAKE follows. -/
theorem Chip.wakeReq_drowsy (ho : c.lcOpen l = true) (st : c.laneState l = LS.drowsy) (up : c.blkSt (laneDie l) (laneBlock l) = 0) :
    c.wakeReq l seq = (c.modLane l (fun x => { x with wakeSeq := some seq })).sendAwake l := by
  simp only [Chip.wakeReq, if_neg (Chip.lcOpen_goes ho), if_pos st, Chip.modLane_blkSt, if_pos up]

/-- WAKE_REQ on an ACTIVE lane with no DROWSY out is answered at once. -/
theorem Chip.wakeReq_active (ho : c.lcOpen l = true) (st : c.laneState l = LS.active) (quiet : (c.lane l).waitsOp 0x0A = false) :
    c.wakeReq l seq = c.lcSend l 0x0D seq [] := by
  have awake : c.laneState l ≠ LS.drowsy := by rw [st]; decide
  simp only [Chip.wakeReq, if_neg (Chip.lcOpen_goes ho), if_neg awake, if_pos st, quiet, Bool.false_eq_true, if_false]

/-- AWAKE answers the M40's WAKE_REQ, and a lane the leaf has made DROWSY wakes. -/
theorem Chip.awakeRx_open (ho : c.lcOpen l = true) :
    c.awakeRx l seq = if c.laneState l = LS.drowsy ∧ (!(c.lane l).mine) = true then (c.lcAnswered l 0x0C seq).laneAwake l
      else c.lcAnswered l 0x0C seq := by
  simp only [Chip.awakeRx, if_neg (Chip.lcOpen_goes ho), Chip.lcAnswered_laneState, Chip.lcAnswered_lane]

/-! ### RETUNE and RETUNE_ACK (R122) -/

/-- RETUNE that meets one of the M40 is answered CROSSED. -/
theorem Chip.retuneRx_crossed (ho : c.lcOpen l = true) (out : (c.lane l).waitsOp 0x0E = true) :
    c.retuneRx l seq = c.lcSend l 0x0F seq [3] := by
  rw [Chip.retuneRx, if_neg (Chip.lcOpen_goes ho), if_pos out]

/-- RETUNE on a lane that is not DRAINED is answered NOT_DRAINED. -/
theorem Chip.retuneRx_notDrained (ho : c.lcOpen l = true) (quiet : (c.lane l).waitsOp 0x0E = false) (st : c.laneState l ≠ LS.drained) :
    c.retuneRx l seq = c.lcSend l 0x0F seq [1] := by
  rw [Chip.retuneRx, if_neg (Chip.lcOpen_goes ho), quiet, if_neg Bool.false_ne_true, if_pos st]

/-- RETUNE_ACK of the M40's own RETUNE: status 0 lets the move go on, any other refuses it. -/
theorem Chip.retuneAck_own (ho : c.lcOpen l = true) (own : (c.lane l).waits 0x0E seq = true) (status : Nat) :
    c.retuneAck l seq status = if status = 0 then (c.lcAnswered l 0x0E seq).retuneAccept l
      else (c.lcAnswered l 0x0E seq).retuneRefused l status := if_pos ⟨ho, own⟩

end

end Sys2Proof.Machine

open Sys2Proof Sys2Proof.Machine

/-- Settles O20: each message by its case on an open lane. -/
theorem drowsyWakeAndRetuneExchanges : Obligations.DrowsyWakeAndRetuneExchanges := by
  unfold Obligations.DrowsyWakeAndRetuneExchanges
  intro l seq s ho
  refine ⟨fun depth st quiet new lo hi => ?_, fun r hr => ?_, fun st up => ?_, fun st quiet => ?_, fun st => ?_, fun st leaf => ?_,
    fun out => ?_, fun quiet st => ?_, fun own => ⟨?_, fun status refused => ?_⟩⟩
  · rw [exec_drowsy, Chip.drowsyRx_rests _ ho st quiet new lo hi]
  · rw [exec_drowsyAck, Chip.drowsyAck_own _ ho hr]
  · rw [exec_wakeReq, Chip.wakeReq_drowsy _ ho st up]
  · rw [exec_wakeReq, Chip.wakeReq_active _ ho st quiet]
  · rw [exec_awake, Chip.awakeRx_open _ ho, if_neg (fun both => st both.1)]
  · rw [exec_awake, Chip.awakeRx_open _ ho, if_pos ⟨st, by rw [leaf]; rfl⟩]
  · rw [exec_retune, Chip.retuneRx_crossed _ ho out]
  · rw [exec_retune, Chip.retuneRx_notDrained _ ho quiet st]
  · rw [exec_retuneAck, Chip.retuneAck_own _ ho own, Fin.val_zero, if_pos rfl]
  · have other : status.val ≠ 0 := Fin.val_ne_of_ne refused
    rw [exec_retuneAck, Chip.retuneAck_own _ ho own, if_neg other]

end

section
/-!
PROOFS. The five phases of training and its timers (R115 to R118).
-/

namespace Sys2Proof.Machine

section
variable (c : Chip) {l : Nat}

/-! ### TRAINING_PHASE_DONE (R115 to R117) -/

/-- The end of a phase and its limit both act on a lane in training that is neither held nor waits for the answer to RESUME. -/
theorem Chip.phase_goes {c : Chip} {l : Nat} (ho : c.lcOpen l = true) (st : c.laneState l = LS.training) (free : (c.lane l).held = false)
    (calm : (c.lane l).wait = false) :
    ¬ ((!c.lcOpen l) = true ∨ c.laneState l ≠ LS.training ∨ (c.lane l).held = true ∨ (c.lane l).wait = true) := by
  simp [ho, st, free, calm]

/-- Training has failed once more: it starts again from T1 in full, the lane held from the third failure in a row on. -/
def Chip.phaseFailed (c : Chip) (l : Nat) : Chip :=
  (c.trainAt l 1 false).modLane l (fun y => { y with fails := (c.lane l).fails + 1, held := decide (3 ≤ (c.lane l).fails + 1) })

section
variable (ho : c.lcOpen l = true) (st : c.laneState l = LS.training) (free : (c.lane l).held = false) (calm : (c.lane l).wait = false)
include ho st free calm

/-- T1 goes to T2. -/
theorem Chip.phaseDone_T1 (p : c.phase l = 1) : c.phaseDone l = c.setPhase l 2 := by
  simp only [Chip.phaseDone, if_neg (Chip.phase_goes ho st free calm), if_pos p]

/-- T2 goes to T3. -/
theorem Chip.phaseDone_T2 (p : c.phase l = 2) : c.phaseDone l = c.setPhase l 3 := by
  have later : c.phase l ≠ 1 := by omega
  simp only [Chip.phaseDone, if_neg (Chip.phase_goes ho st free calm), if_neg later, if_pos p]

/-- T3 with block lock goes to T4, and HELLO goes out. -/
theorem Chip.phaseDone_T3 (p : c.phase l = 3) (lock : (c.lane l).lock = true) :
    c.phaseDone l = (c.setPhase l 4).lcRequest l 0x01 (c.helloBody l) := by
  have later : c.phase l ≠ 1 ∧ c.phase l ≠ 2 := by omega
  simp only [Chip.phaseDone, if_neg (Chip.phase_goes ho st free calm), if_neg later.1, if_neg later.2, if_pos p, if_pos lock]

/-- T4 with a valid partner, no HELLO unanswered and the check passed goes to T5, and CREDIT_INIT goes out. -/
theorem Chip.phaseDone_T4 (p : c.phase l = 4) (partner : c.flag (R.PRT_LPARTNER (laneDie l) (laneLocal l)) F.PRT_LPARTNER_VALID = true)
    (answered : (c.lane l).waitsOp 0x01 = false) (check : c.helloOk l = true) : c.phaseDone l = (c.setPhase l 5).creditInit l := by
  have later : c.phase l ≠ 1 ∧ c.phase l ≠ 2 ∧ c.phase l ≠ 3 := by omega
  have known : ¬ ((!c.flag (R.PRT_LPARTNER (laneDie l) (laneLocal l)) F.PRT_LPARTNER_VALID) = true ∨ (c.lane l).waitsOp 0x01 = true) := by
    rw [partner, answered]; simp
  simp only [Chip.phaseDone, if_neg (Chip.phase_goes ho st free calm), if_neg later.1, if_neg later.2.1, if_neg later.2.2, if_pos p,
    if_neg known, if_pos check]

/-- T5 with both directions' credits open ends training. -/
theorem Chip.phaseDone_T5 (p : c.phase l = 5) (tx : (c.lane l).txInit = true) (rx : (c.lane l).rxInit = true) :
    c.phaseDone l = c.trained l := by
  have later : c.phase l ≠ 1 ∧ c.phase l ≠ 2 ∧ c.phase l ≠ 3 ∧ c.phase l ≠ 4 := by omega
  simp only [Chip.phaseDone, if_neg (Chip.phase_goes ho st free calm), if_neg later.1, if_neg later.2.1, if_neg later.2.2.1,
    if_neg later.2.2.2, if_pos (And.intro p (And.intro tx rx))]

/-! ### TRAINING_PHASE_TIMEOUT, HELLO_RETRY and TRAIN_RETRY (R117, R118) -/

/-- The limit of a phase: training starts again, and the third failure in a row and every 16th after it are reported. -/
theorem Chip.phaseTimeout_again :
    c.phaseTimeout l = if 3 ≤ (c.lane l).fails + 1 ∧ ((c.lane l).fails + 1 - 3) % 16 = 0 then
      (c.phaseFailed l).laneNotice l LS.training LS.training 0x0A else c.phaseFailed l := by
  simp only [Chip.phaseTimeout, if_neg (Chip.phase_goes ho st free calm), Chip.phaseFailed]

end

/-- HELLO of a lane held in T4 goes out again with a new LC_SEQ. -/
theorem Chip.helloRetry_held (ho : c.lcOpen l = true) (st : c.laneState l = LS.training) (p : c.phase l = 4)
    (held : (c.lane l).held = true) :
    c.helloRetry l = (c.modLane l (fun x => { x with reqs := x.reqs.filter (fun r => r.op != 0x01) })).lcRequest l 0x01 (c.helloBody l) :=
  if_pos ⟨ho, st, p, held⟩

/-- A lane in T1 is held no longer. -/
theorem Chip.trainRetry_T1 (ho : c.lcOpen l = true) (st : c.laneState l = LS.training) (p : c.phase l = 1) :
    c.trainRetry l = c.modLane l (fun x => { x with held := false }) := if_pos ⟨ho, st, p⟩

end

end Sys2Proof.Machine

open Sys2Proof Sys2Proof.Machine

/-- Settles O21: each phase by its number, and the timers of a lane that trains. -/
theorem trainingGoesThroughItsPhases : Obligations.TrainingGoesThroughItsPhases := by
  unfold Obligations.TrainingGoesThroughItsPhases
  intro l s ho st
  refine ⟨fun free calm => ⟨fun p => ?_, fun p => ?_, fun p lock => ?_, fun p partner answered check => ?_, fun p tx rx => ?_,
    fun quiet => ?_, fun third every => ?_⟩, fun p held => ?_, fun p => ?_⟩
  · rw [exec_trainingPhaseDone, Chip.phaseDone_T1 _ ho st free calm p]
  · rw [exec_trainingPhaseDone, Chip.phaseDone_T2 _ ho st free calm p]
  · rw [exec_trainingPhaseDone, Chip.phaseDone_T3 _ ho st free calm p lock]
  · rw [exec_trainingPhaseDone, Chip.phaseDone_T4 _ ho st free calm p partner answered check]
  · rw [exec_trainingPhaseDone, Chip.phaseDone_T5 _ ho st free calm p tx rx]
  · rw [exec_trainingPhaseTimeout, Chip.phaseTimeout_again _ ho st free calm, if_neg (by omega), Chip.phaseFailed]
  · rw [exec_trainingPhaseTimeout, Chip.phaseTimeout_again _ ho st free calm, if_pos ⟨third, every⟩, Chip.phaseFailed]
  · rw [exec_helloRetry, Chip.helloRetry_held _ ho st p held]
  · rw [exec_trainRetry, Chip.trainRetry_T1 _ ho st p]

end

section
/-!
PROOFS. Tiles, blocks, clusters and dies that go to rest by stages (R120, R422 to R425).
-/

namespace Sys2Proof.Machine

section
variable (c : Chip) {d b : Nat}

/-! ### RECESS_ENTRY and DEEP_RECESS_ENTRY (R423, R424) -/

/-- A unit that may rest does not take the branch of one that may not. -/
theorem Chip.mayRest_goes {c : Chip} {d b : Nat} (h : c.mayRest d b = true) : ¬ (!c.mayRest d b) = true := by simp [h]

/-- An entry in progress is only checked for its last answer, whichever entry is asked for. -/
theorem Chip.recessEntry_again (may : c.mayRest d b = true) (st : c.blkSt d b = 3) : c.recessEntry d b = c.entryCheck d b := by
  rw [Chip.recessEntry, if_neg (Chip.mayRest_goes may), if_pos st]

theorem Chip.deepRecessEntry_again (may : c.mayRest d b = true) (st : c.blkSt d b = 3) : c.deepRecessEntry d b = c.entryCheck d b := by
  rw [Chip.deepRecessEntry, if_neg (Chip.mayRest_goes may), if_pos st]

/-- A unit awake, quiet, allowed to rest and with no ACTIVE lane of ROLE 2 starts an entry at depth 1. -/
theorem Chip.recessEntry_starts (may : c.mayRest d b = true) (st : c.blkSt d b = 0) (allowed : c.blkMax d b ≠ 0)
    (quiet : c.unitQuiet d b = true) (twin : c.twinActive d b = false) :
    c.recessEntry d b = c.entryStart d b 1 (if d < 32 then (blockLanes d b).filter (fun l => c.laneState l == LS.active) else []) := by
  have apart : c.blkSt d b ≠ 3 := by omega
  have goes : ¬ (c.blkSt d b ≠ 0 ∨ c.blkMax d b = 0 ∨ (!c.unitQuiet d b) = true ∨ c.twinActive d b = true) := by
    simp [st, allowed, quiet, twin]
  rw [Chip.recessEntry, if_neg (Chip.mayRest_goes may), if_neg apart, if_neg goes]

/-- A unit in RECESS for which R424's conditions hold starts an entry at depth 2. -/
theorem Chip.deepRecessEntry_starts (may : c.mayRest d b = true) (st : c.blkSt d b = 1) (deep : c.deepOk d b = true) :
    c.deepRecessEntry d b = c.entryStart d b 2 (if d < 32 then (blockLanes d b).filter (fun l => c.laneState l == LS.drowsy) else []) := by
  have apart : c.blkSt d b ≠ 3 := by omega
  have goes : ¬ (c.blkSt d b ≠ 1 ∨ (!c.deepOk d b) = true) := by simp [st, deep]
  rw [Chip.deepRecessEntry, if_neg (Chip.mayRest_goes may), if_neg apart, if_neg goes]

/-! ### SLEEP_ENTRY (R425) -/

/-- What SLEEP_ENTRY asks of a die that is not yet in entry. -/
structure Chip.MaySleep (c : Chip) (d : Nat) : Prop where
  runs : c.dieRuns d = true
  plane : c.planeRuns d = true
  joined : c.isolated d = false
  allowed : c.flag (R.PWR_POL_MAX d) F.PWR_POL_MAX_DIE_MAX = true
  blocks : (List.range (blocksOf d)).all (fun b => c.blkSt d b == 2) = true
  credits : c.creditsHome d = true
  lanes : d < 32 → (dieLanes d).all c.laneRests = true
  core : 32 ≤ d → c.coreMaySleep (d - 32) = true

/-- Such a die goes into entry, DROWSY at depth 3 going out on its DROWSY lanes. -/
theorem Chip.sleepEntry_starts (new : c.dieSt d ≠ 3) (may : c.MaySleep d) :
    c.sleepEntry d = ((if d < 32 then (dieLanes d).filter (fun l => c.laneState l == LS.drowsy) else []).foldl (fun s l => s.sendDrowsy l 3)
      (c.setDieSt d 3)).sleepCheck d := by
  have rest : ¬ (d < 32 ∧ (!(dieLanes d).all c.laneRests) = true) := fun ⟨hd, h⟩ => by rw [may.lanes hd] at h; exact Bool.false_ne_true h
  have core : ¬ (32 ≤ d ∧ (!c.coreMaySleep (d - 32)) = true) := fun ⟨hd, h⟩ => by rw [may.core hd] at h; exact Bool.false_ne_true h
  simp only [Chip.sleepEntry, if_neg new, may.runs, may.plane, may.joined, may.allowed, may.blocks, may.credits, Bool.not_true,
    Bool.false_eq_true, false_or, if_neg (not_or.2 ⟨rest, core⟩)]

end

end Sys2Proof.Machine

open Sys2Proof Sys2Proof.Machine

/-- Settles O22: each entry by its case. -/
theorem unitsGoToSleepByStages : Obligations.UnitsGoToSleepByStages := by
  unfold Obligations.UnitsGoToSleepByStages
  intro s
  refine ⟨fun d t idle free => ?_, fun d t idle fb => ?_, fun d b may st allowed quiet twin => ?_, fun d b may st deep => ?_,
    fun d b may st => ⟨?_, ?_⟩, fun d new runs plane joined allowed blocks credits lanes core => ?_⟩
  · rw [exec_tileIdle, Chip.tileIdle, free, if_neg Bool.false_ne_true]
  · rw [exec_tileIdle, Chip.tileIdle, if_pos fb]
  · rw [exec_recessEntry, Chip.recessEntry_starts _ may st allowed quiet twin]
  · rw [exec_deepRecessEntry, Chip.deepRecessEntry_starts _ may st deep]
  · rw [exec_recessEntry, Chip.recessEntry_again _ may st]
  · rw [exec_deepRecessEntry, Chip.deepRecessEntry_again _ may st]
  · rw [exec_sleepEntry, Chip.sleepEntry_starts _ new ⟨runs, plane, joined, allowed, blocks, credits, lanes, core⟩]

end

section
/-!
PROOFS. The pairing of twins, step by step (R105, R465 to R467, R471).
-/

namespace Sys2Proof.Machine

section
variable (c : Chip) {l seq : Nat}

/-! ### PAIRING_TRY and PAIRING_TIMEOUT (R465, R466) -/

/-- A solo chip that is enabled, lit and has eight Wefer lanes ACTIVE tries: TW_HELLO goes out, and the partner's hello that came before
decides what follows. -/
theorem Chip.pairingTry_tries {h : Nat} (hub : c.messageHub = some h) (lit : c.darkChip = false) (solo : c.twinSt = 0)
    (enabled : c.flag (R.TWN_CFG c.primaryDie) F.TWN_CFG_ENABLE = true) (wefer : 8 ≤ c.weferActive.length) :
    c.pairingTry = if c.stepDone 4 then ((c.twinTo 1 0).pairSend 0x21).pairFail 6
      else if c.stepDone 0 then (((c.twinTo 1 0).pairSend 0x21).stepSet 0).pairSend 0x22 else (c.twinTo 1 0).pairSend 0x21 := by
  have goes : ¬ (c.darkChip = true ∨ c.twinSt ≠ 0 ∨ (!c.flag (R.TWN_CFG c.primaryDie) F.TWN_CFG_ENABLE) = true ∨
      c.weferActive.length < 8) := by
    simp only [lit, solo, enabled, Bool.false_eq_true, ne_eq, not_true_eq_false, Bool.not_true, false_or, Nat.not_lt]
    exact wefer
  simp only [Chip.pairingTry, hub, if_neg goes]

/-- The limit of a pairing: SOLO with cause 9. -/
theorem Chip.pairingTimeout_pairing (st : c.twinSt = 1) : c.pairingTimeout = c.twinTo 0 9 := by
  rw [Chip.pairingTimeout, if_pos st, Chip.pairFail]

/-! ### TW_HELLO, TW_ATTEST, TW_KEM and TW_INDEX (R105, R466, R467) -/

/-- A lane whose cells reach the hub does not take the branch of one whose cells do not. -/
theorem Chip.weferIn_goes {c : Chip} {l : Nat} (h : c.weferIn l = true) : ¬ (!c.weferIn l) = true := by simp [h]

section
variable (hin : c.weferIn l = true)
include hin

/-- TW_HELLO acted on before is only acknowledged. -/
theorem Chip.twHello_again (old : (c.twinAck l 0x21 seq).1 = false) (dg : BitVec 128) (ok : Bool) :
    c.twHello l seq dg ok = (c.twinAck l 0x21 seq).2 := by
  simp only [Chip.twHello, if_neg (Chip.weferIn_goes hin), old, Bool.not_false, if_true]

/-- TW_HELLO in PAIRING with a good identity: the peer is named, step 0 is complete and TW_ATTEST goes out. -/
theorem Chip.twHello_good (new : (c.twinAck l 0x21 seq).1 = true) (st : (c.twinAck l 0x21 seq).2.twinSt = 1) (dg : BitVec 128)
    (named : (c.twinAck l 0x21 seq).2.flag (R.TWN_CFG (c.twinAck l 0x21 seq).2.primaryDie) F.TWN_CFG_MATCH = false ∨
      (c.twinAck l 0x21 seq).2.peerDigest = dg.toNat) :
    c.twHello l seq dg true = (((c.twinAck l 0x21 seq).2.eachHubDie (fun s d => s.set (R.TWN_PEER_ID d) F.TWN_PEER_ID_SWITCH_ID
      ((c.twinAck l 0x21 seq).2.get (R.PRT_LPARTNER (laneDie l) (laneLocal l)) F.PRT_LPARTNER_SWITCH_ID))).stepSet 0).pairSend 0x22 := by
  have good : (!(c.twinAck l 0x21 seq).2.flag (R.TWN_CFG (c.twinAck l 0x21 seq).2.primaryDie) F.TWN_CFG_MATCH ||
      (c.twinAck l 0x21 seq).2.peerDigest == dg.toNat) = true := by
    rcases named with off | same
    · rw [off]; rfl
    · rw [same, beq_self_eq_true, Bool.or_true]
  simp only [Chip.twHello, if_neg (Chip.weferIn_goes hin), new, st, good, Bool.not_true, Bool.and_self, Bool.false_eq_true, if_false,
    Nat.one_ne_zero, ne_eq, not_true_eq_false]

/-- TW_HELLO in PAIRING whose chain does not verify ends pairing with cause 6. -/
theorem Chip.twHello_bad (new : (c.twinAck l 0x21 seq).1 = true) (st : (c.twinAck l 0x21 seq).2.twinSt = 1) (dg : BitVec 128) :
    c.twHello l seq dg false = (c.twinAck l 0x21 seq).2.pairFail 6 := by
  simp only [Chip.twHello, if_neg (Chip.weferIn_goes hin), new, st, Bool.not_true, Bool.false_and, Bool.not_false, Bool.false_eq_true,
    if_false, if_true, Nat.one_ne_zero, ne_eq, not_true_eq_false]

/-- TW_ATTEST acted on before is only acknowledged. -/
theorem Chip.twAttest_again (old : (c.twinAck l 0x22 seq).1 = false) (v : Bool) (fw img : Nat) (fl : List Nat) :
    c.twAttest l seq v fw img fl = (c.twinAck l 0x22 seq).2 := by
  simp only [Chip.twAttest, if_neg (Chip.weferIn_goes hin), old, Bool.not_false, true_or, if_true]

section
variable (new : (c.twinAck l 0x22 seq).1 = true) (st : (c.twinAck l 0x22 seq).2.twinSt = 1)
  (met : (c.twinAck l 0x22 seq).2.stepDone 0 = true) (fw img : Nat) (fl : List Nat)
include new st met

omit hin in
/-- TW_ATTEST after step 0 goes on to the quote. -/
theorem Chip.twAttest_goes : ¬ ((!(c.twinAck l 0x22 seq).1) = true ∨ (c.twinAck l 0x22 seq).2.twinSt ≠ 1 ∨
    (!(c.twinAck l 0x22 seq).2.stepDone 0) = true) := by
  simp [new, st, met]

/-- A quote that does not verify ends pairing with cause 5. -/
theorem Chip.twAttest_unverified : c.twAttest l seq false fw img fl = (c.twinAck l 0x22 seq).2.pairFail 5 := by
  simp only [Chip.twAttest, if_neg (Chip.weferIn_goes hin), if_neg (c.twAttest_goes new st met), Bool.not_false, if_true]

/-- A quote of other versions ends pairing with cause 8. -/
theorem Chip.twAttest_otherVersions (other : fw ≠ (c.twinAck l 0x22 seq).2.runningVersion ((c.twinAck l 0x22 seq).2.primary.getD 0) 0 ∨
    img ≠ (c.twinAck l 0x22 seq).2.runningVersion ((c.twinAck l 0x22 seq).2.primary.getD 0) 1) :
    c.twAttest l seq true fw img fl = (c.twinAck l 0x22 seq).2.pairFail 8 := by
  simp only [Chip.twAttest, if_neg (Chip.weferIn_goes hin), if_neg (c.twAttest_goes new st met), Bool.not_true, Bool.false_eq_true,
    if_false, if_pos other]

end

/-- TW_KEM acted on before is only acknowledged. -/
theorem Chip.twKem_again (old : (c.twinAck l 0x23 seq).1 = false) : c.twKem l seq = (c.twinAck l 0x23 seq).2 := by
  simp only [Chip.twKem, if_neg (Chip.weferIn_goes hin), old, Bool.not_false, true_or, if_true]

/-- TW_KEM after step 1: step 2 is complete and TW_INDEX goes out. -/
theorem Chip.twKem_completes (new : (c.twinAck l 0x23 seq).1 = true) (st : (c.twinAck l 0x23 seq).2.twinSt = 1)
    (attested : (c.twinAck l 0x23 seq).2.stepDone 1 = true) :
    c.twKem l seq = ((c.twinAck l 0x23 seq).2.stepSet 2).pairSend 0x25 := by
  simp only [Chip.twKem, if_neg (Chip.weferIn_goes hin), new, st, attested, Bool.not_true, Bool.false_eq_true, ne_eq, not_true_eq_false,
    or_self, if_false]

/-- TW_INDEX acted on before, outside PAIRING or before step 2 is only acknowledged. -/
theorem Chip.twIndex_acknowledged (es : List (Nat × Nat × Nat)) (h : (c.twinAck l 0x25 seq).1 = false ∨
    (c.twinAck l 0x25 seq).2.twinSt ≠ 1 ∨ (c.twinAck l 0x25 seq).2.stepDone 2 = false) :
    c.twIndex l seq es = (c.twinAck l 0x25 seq).2 := by
  have stops : (!(c.twinAck l 0x25 seq).1) = true ∨ (c.twinAck l 0x25 seq).2.twinSt ≠ 1 ∨
      (!(c.twinAck l 0x25 seq).2.stepDone 2) = true :=
    h.imp (fun old => by rw [old]; rfl) (Or.imp_right fun early => by rw [early]; rfl)
  simp only [Chip.twIndex, if_neg (Chip.weferIn_goes hin), if_pos stops]

end

end

end Sys2Proof.Machine

open Sys2Proof Sys2Proof.Machine

/-- Settles O31: each message by the steps complete before it. -/
theorem pairingRunsThroughItsSteps : Obligations.PairingRunsThroughItsSteps := by
  unfold Obligations.PairingRunsThroughItsSteps
  intro s
  refine ⟨fun h hub lit solo enabled wefer => ⟨fun bad => ?_, fun good first => ?_, fun good early => ?_⟩,
    fun l seq hin => ⟨fun dg ok old => ?_, fun v fw img fl len old => ?_, fun old => ?_, fun es wf old => ?_⟩,
    fun l seq dg ok hin new st => ⟨fun chain named => ?_, fun chain => ?_⟩,
    fun l seq v fw img fl len hin new st met => ⟨fun bad => ?_, fun verified other => ?_⟩,
    fun l seq hin new st attested => ?_, fun l seq es wf hin early => ?_, fun st => ?_⟩
  · rw [exec_pairingTry, Chip.pairingTry_tries _ hub lit solo enabled wefer, if_pos bad]
  · rw [exec_pairingTry, Chip.pairingTry_tries _ hub lit solo enabled wefer, good, if_neg Bool.false_ne_true, first,
      if_neg Bool.false_ne_true]
  · rw [exec_pairingTry, Chip.pairingTry_tries _ hub lit solo enabled wefer, good, if_neg Bool.false_ne_true, if_pos early]
  · rw [exec_twHello, Chip.twHello_again _ hin old]
  · rw [exec_twAttest _ _ _ _ _ _ _ (beq_iff_eq.2 len), Chip.twAttest_again _ hin old]
  · rw [exec_twKem, Chip.twKem_again _ hin old]
  · rw [exec_twIndex _ _ _ _ wf, Chip.twIndex_acknowledged _ hin _ (.inl old)]
  · subst chain
    rw [exec_twHello, Chip.twHello_good _ hin new st dg named]
  · subst chain
    rw [exec_twHello, Chip.twHello_bad _ hin new st]
  · subst bad
    rw [exec_twAttest _ _ _ _ _ _ _ (beq_iff_eq.2 len), Chip.twAttest_unverified _ hin new st met]
  · subst verified
    rw [exec_twAttest _ _ _ _ _ _ _ (beq_iff_eq.2 len), Chip.twAttest_otherVersions _ hin new st met _ _ _ other]
  · rw [exec_twKem, Chip.twKem_completes _ hin new st attested]
  · rw [exec_twIndex _ _ _ _ wf, Chip.twIndex_acknowledged _ hin _ (.inr early)]
  · rw [exec_pairingTimeout, Chip.pairingTimeout_pairing _ st]

end

section
/-!
PROOFS. Beats, mirror records, detach and loss of a paired twin (R105, R465, R466, R468 to R472).
-/

namespace Sys2Proof.Machine

section
variable (c : Chip) {l seq : Nat}

/-! ### TW_BEAT_SEND and TW_BEAT (R469, R470) -/

/-- The body of the next beat. -/
def Chip.beatBody (c : Chip) : List Nat :=
  leBytes 4 (c.twin.beats + 1) ++ [c.twinSt, c.primary.getD 2] ++ leBytes 6 (timeSec c.now) ++ leBytes 4 (timeNsec c.now) ++
    leBytes 8 c.twin.recvSeq

/-- A beat goes out on the first Wefer lane of die d that is ACTIVE, when there is one. -/
def Chip.beatOn (c : Chip) (d : Nat) (body : List Nat) : Chip :=
  match c.weferOf d with
  | l :: _ => c.lcSend l 0x20 0 body
  | [] => c

theorem Chip.beatOn_lane {d : Nat} {t : List Nat} (h : c.weferOf d = l :: t) (body : List Nat) : c.beatOn d body = c.lcSend l 0x20 0 body := by
  rw [Chip.beatOn, h]

/-- A dark chip sends no beat (log 53). -/
theorem Chip.twBeatSend_dark (dark : c.darkChip = true) : c.twBeatSend = c := if_pos dark

/-- A lit chip counts a beat and sends it on dies 0 and 16. -/
theorem Chip.twBeatSend_lit (lit : c.darkChip = false) :
    c.twBeatSend = ((c.modTwin (fun t => { t with beats := c.twin.beats + 1 })).beatOn 0 c.beatBody).beatOn 16 c.beatBody := by
  rw [Chip.twBeatSend, lit, if_neg Bool.false_ne_true, Chip.beatBody]
  cases c.primary with
  | none => rfl
  | some h => rfl

/-- While PAIRED a lane whose cells reach the hub does not take the branch of another lane or state. -/
theorem Chip.paired_goes {c : Chip} {l : Nat} (hin : c.weferIn l = true) (paired : c.twinSt = 2) :
    ¬ ((!c.weferIn l) = true ∨ c.twinSt ≠ 2) := by
  simp [hin, paired]

/-- TW_BEAT while PAIRED: the records the partner has received are dropped, and both hub windows show the offset of the device times. -/
theorem Chip.twBeat_paired (hin : c.weferIn l = true) (paired : c.twinSt = 2) (sec nsec last : Nat) :
    c.twBeat l sec nsec last = (c.modTwin (fun t => { t with unacked := t.unacked.filter (fun e => decide (last < e.1)) })).eachHubDie
      (fun s d => s.set (R.TWN_TIME_OFS d) F.TWN_TIME_OFS_OFFSET (sat32 ((sec * 1000000000 + nsec : Nat) -
        (timeSec c.now * 1000000000 + timeNsec c.now : Nat) : Int))) := by
  rw [Chip.twBeat, if_neg (Chip.paired_goes hin paired)]

/-! ### TW_MIRROR (R468) -/

/-- An update that leaves the twin's record as it is leaves the chip as it is. -/
theorem Chip.modTwin_self {f : Twin → Twin} (h : f c.twin = c.twin) : c.modTwin f = c := by rw [Chip.modTwin, h]

/-- Updates that make the same record make the same chip. -/
theorem Chip.modTwin_congr {f g : Twin → Twin} (h : f c.twin = g c.twin) : c.modTwin f = c.modTwin g := by rw [Chip.modTwin, Chip.modTwin, h]

section
variable (hin : c.weferIn l = true) (paired : c.twinSt = 2) {n : Nat} (r : MirrorRec)
include hin paired

/-- A record with a bad tag is counted. -/
theorem Chip.twMirror_badTag : c.twMirror l n false r = c.dropTag (c.primary.getD 0) := by
  rw [Chip.twMirror, if_neg (Chip.paired_goes hin paired), Bool.not_false, if_pos rfl]

/-- A record already taken, or waiting for its turn, changes nothing. -/
theorem Chip.twMirror_again (old : n ≤ c.twin.recvSeq ∨ c.twin.early.any (fun e => e.1 == n) = true) : c.twMirror l n true r = c := by
  rw [Chip.twMirror, if_neg (Chip.paired_goes hin paired), Bool.not_true, if_neg Bool.false_ne_true]
  exact c.modTwin_self (if_pos old)

/-- Any other record is taken in its turn. -/
theorem Chip.twMirror_taken (new : c.twin.recvSeq < n) (first : c.twin.early.any (fun e => e.1 == n) = false) :
    c.twMirror l n true r = c.modTwin (fun t => Twin.catchUp { t with early := t.early ++ [(n, r)] } (t.early.length + 1)) := by
  have fresh : ¬ (n ≤ c.twin.recvSeq ∨ c.twin.early.any (fun e => e.1 == n) = true) :=
    not_or.2 ⟨Nat.not_le.2 new, by rw [first]; exact Bool.false_ne_true⟩
  rw [Chip.twMirror, if_neg (Chip.paired_goes hin paired), Bool.not_true, if_neg Bool.false_ne_true]
  refine c.modTwin_congr ((if_neg fresh).trans ?_)
  simp only [List.length_append, List.length_singleton]

end

/-! ### TW_ACK, TW_DETACH and DETACH_TIMEOUT (R105, R471) -/

/-- The answer to a request of the twin link ends it; the answer to TW_DETACH ends the detach. -/
theorem Chip.twAck_answers (hin : c.weferIn l = true) {q : LcReq}
    (hq : (c.lane l).reqs.find? (fun q => decide (0x20 ≤ q.op) && q.seq == seq) = some q) :
    c.twAck l seq = if q.op = 0x27 then (c.lcAnswered l q.op seq).detachDone else c.lcAnswered l q.op seq := by
  simp only [Chip.twAck, if_neg (Chip.weferIn_goes hin), hq]

/-- TW_DETACH while PAIRED goes through DETACHING to SOLO in one command (log 53); otherwise it is only acknowledged. -/
theorem Chip.twDetach_in (hin : c.weferIn l = true) :
    c.twDetach l seq = if (c.twinAck l 0x27 seq).2.twinSt = 2 then ((c.twinAck l 0x27 seq).2.twinTo 3 0).detachDone
      else (c.twinAck l 0x27 seq).2 := if_neg (Chip.weferIn_goes hin)

/-- A detach that is over: SOLO with cause 4 and the mirror dropped; outside DETACHING nothing. -/
theorem Chip.detachTimeout_of : c.detachTimeout =
    if c.twinSt = 3 then (c.twinTo 0 4).modTwin (fun t => { beats := t.beats, held := t.held }) else c := rfl

/-! ### TWIN_LOSS and TW_LOSS (R472) -/

/-- A loss in SOLO changes nothing. -/
theorem Chip.twinLost_solo (solo : c.twinSt = 0) (cause : Nat) : c.twinLost cause = c := if_pos solo

/-- A loss in PAIRING only ends in SOLO. -/
theorem Chip.twinLost_pairing (st : c.twinSt = 1) (cause : Nat) : c.twinLost cause = c.twinTo 0 cause := by
  rw [Chip.twinLost, if_neg (by omega), if_pos (by omega), if_neg (by omega)]

/-- Missed beats are a loss with cause 1. -/
theorem Chip.twinLoss_beats : c.twinLoss true = c.twinLost 1 := if_pos rfl

/-- No Wefer lane ACTIVE is a loss with cause 2. -/
theorem Chip.twinLoss_lanes (absent : c.weferActive = []) : c.twinLoss false = c.twinLost 2 := by
  rw [Chip.twinLoss, if_neg Bool.false_ne_true, absent, List.isEmpty_nil, if_pos rfl]

end

end Sys2Proof.Machine

open Sys2Proof Sys2Proof.Machine

/-- Settles O32: each message and limit by the state of the twin. -/
theorem thePairedTwinBeatsAndMirrors : Obligations.ThePairedTwinBeatsAndMirrors := by
  unfold Obligations.ThePairedTwinBeatsAndMirrors
  intro s
  refine ⟨fun dark => ?_, fun l0 l1 t0 t1 lit _ _ w1 w0 => ?_, fun l sec nsec last hin paired => ?_,
    fun l n r hin paired => ⟨?_, fun old => ?_, fun new first => ?_⟩, fun l seq q hin hq => ⟨fun other => ?_, fun detach => ?_⟩,
    fun l seq hin => ⟨fun paired => ?_, fun apart => ?_⟩, ⟨fun st => ?_, fun st => ?_⟩, ⟨?_, fun absent => ?_, fun l hin => ?_⟩,
    fun solo => ?_, fun pairing => ?_⟩
  · rw [exec_twBeatSend, Chip.twBeatSend_dark _ dark]
  · rw [exec_twBeatSend, Chip.twBeatSend_lit _ lit, Chip.beatOn_lane _ w0, Chip.beatBody, Chip.beatOn_lane _ w1]
  · rw [exec_twBeat, Chip.twBeat_paired _ hin paired]
  · rw [exec_twMirror, Chip.twMirror_badTag _ hin paired]
  · rw [exec_twMirror, Chip.twMirror_again _ hin paired _ old]
  · rw [exec_twMirror, Chip.twMirror_taken _ hin paired _ new first]
  · rw [exec_twAck, Chip.twAck_answers _ hin hq, if_neg other]
  · rw [exec_twAck, Chip.twAck_answers _ hin hq, if_pos detach, detach]
  · rw [exec_twDetach, Chip.twDetach_in _ hin, if_pos paired]
  · rw [exec_twDetach, Chip.twDetach_in _ hin, if_neg apart]
  · rw [exec_detachTimeout, Chip.detachTimeout_of, if_pos st]
  · rw [exec_detachTimeout, Chip.detachTimeout_of, if_neg st]
  · rw [exec_twinLoss, Chip.twinLoss_beats]
  · rw [exec_twinLoss, Chip.twinLoss_lanes _ absent]
  · rw [exec_twLoss, Chip.twLoss, if_pos hin]
  · rw [exec_twinLoss, Chip.twinLoss_beats, Chip.twinLost_solo _ solo]
  · rw [exec_twinLoss, Chip.twinLoss_beats, Chip.twinLost_pairing _ pairing]

end

section
/-!
PROOFS. Cells that enter the chip, the end of a store-and-forward hold, policers and flow learning (R80, R120, R186, R190, R195, R214,
R256, R261, R279, R287).
-/

namespace Sys2Proof.Machine

section
variable (c : Chip) {l d : Nat}

/-! ### CELL_INGRESS (R80, R186, R190, R195, R214) -/

/-- On an isolated die a cell only leaves the decoder. -/
theorem Chip.cellIngress_isolated (x : Cell) (ecc : Bool) (iso : (c.takeRx l x).isolated (laneDie l) = true) :
    c.cellIngress l x ecc = c.takeRx l x := by
  simp only [Chip.cellIngress, iso, Bool.or_true, Bool.true_or, if_true]

/-- On an ACTIVE lane of ROLE 1 whose block is awake, the plane running, the cell is received. -/
theorem Chip.cellIngress_receives (x : Cell) (runs : (c.takeRx l x).planeRuns (laneDie l) = true)
    (joined : (c.takeRx l x).isolated (laneDie l) = false) (role : (c.takeRx l x).role l = 1)
    (st : (c.takeRx l x).laneState l = LS.active) (up : (c.takeRx l x).blkSt (laneDie l) (laneBlock l) = 0) :
    c.cellIngress l x false = (c.takeRx l x).receiveCell l x := by
  have goes : ¬ (!(c.takeRx l x).planeRuns (laneDie l) || (c.takeRx l x).isolated (laneDie l) || (c.takeRx l x).role l != 1) = true := by
    simp [runs, joined, role]
  have awake : ¬ (LS.active = LS.drowsy) := by decide
  have takes : ¬ (!receives LS.active) = true := by decide
  simp only [Chip.cellIngress, if_neg goes, st, if_neg awake, if_neg takes, up, Bool.false_eq_true, false_and, if_false, OfNat.zero_ne_ofNat,
    Nat.zero_ne_one, or_self]

/-- What becomes of a cell received: its CRC, link control, the count, the header, the firebreak, and the dispatch, in this order. -/
theorem Chip.receiveCell_badCrc (x : Cell) (crc : x.crcOk = false) :
    c.receiveCell l x = (c.incSat (R.PRT_RX_ERR (laneDie l) (laneLocal l)) F.PRT_RX_ERR_CRC_ERR 1).pmcDrop (laneDie l) 1 :=
  if_pos (by rw [crc]; rfl)

section
variable {x : Cell} (crc : x.crcOk = true)
include crc

theorem Chip.receiveCell_linkControl (lc : x.isLc = true) : c.receiveCell l x = c := by
  rw [Chip.receiveCell, crc, lc]; rfl

section
variable (data : x.isLc = false)
include data

/-- A cell that is no link control cell is counted as received first. -/
theorem Chip.receiveCell_counted : c.receiveCell l x =
    if (!(c.countRx l x.tc.toNat).headerOk (laneDie l) x) = true then
      (c.countRx l x.tc.toNat).dropRx l x (R.PRT_RX_ERR (laneDie l) (laneLocal l)) F.PRT_RX_ERR_HDR_ERR
    else if (c.countRx l x.tc.toNat).blockFb (laneDie l) (laneBlock l) = true then
      (c.countRx l x.tc.toNat).dropRx l x (R.PRT_FB_DISCARD (laneDie l)) F.PRT_FB_DISCARD_CELLS
    else (c.countRx l x.tc.toNat).dispatch l x := by
  simp only [Chip.receiveCell, crc, data, Bool.not_true, Bool.false_eq_true, if_false]

theorem Chip.receiveCell_badHeader (header : (c.countRx l x.tc.toNat).headerOk (laneDie l) x = false) :
    c.receiveCell l x = (c.countRx l x.tc.toNat).dropRx l x (R.PRT_RX_ERR (laneDie l) (laneLocal l)) F.PRT_RX_ERR_HDR_ERR := by
  rw [c.receiveCell_counted crc data, header, Bool.not_false, if_pos rfl]

theorem Chip.receiveCell_firebreak (header : (c.countRx l x.tc.toNat).headerOk (laneDie l) x = true)
    (fb : (c.countRx l x.tc.toNat).blockFb (laneDie l) (laneBlock l) = true) :
    c.receiveCell l x = (c.countRx l x.tc.toNat).dropRx l x (R.PRT_FB_DISCARD (laneDie l)) F.PRT_FB_DISCARD_CELLS := by
  rw [c.receiveCell_counted crc data, header, Bool.not_true, if_neg Bool.false_ne_true, if_pos fb]

theorem Chip.receiveCell_dispatch (header : (c.countRx l x.tc.toNat).headerOk (laneDie l) x = true)
    (clear : (c.countRx l x.tc.toNat).blockFb (laneDie l) (laneBlock l) = false) :
    c.receiveCell l x = (c.countRx l x.tc.toNat).dispatch l x := by
  rw [c.receiveCell_counted crc data, header, Bool.not_true, if_neg Bool.false_ne_true, clear, if_neg Bool.false_ne_true]

end

end

/-! ### SAF_HOLD_EXPIRY (R195) -/

/-- A value read of a mapped map is the key's default or the image of a value that stood under the key. -/
theorem SMap.get_mapVals {α : Type} [DecidableEq α] (dflt : Nat → α) (m : SMap α) (f : Nat → α → α) (k : Nat) :
    SMap.get dflt (SMap.mapVals dflt m f) k = dflt k ∨ ∃ v, SMap.get dflt (SMap.mapVals dflt m f) k = f k v := by
  refine (SMap.get_mem dflt (SMap.mapVals dflt m f) k).imp_right (fun stands => ?_)
  obtain ⟨⟨j, v⟩, -, image⟩ := List.mem_map.1 (List.mem_filter.1 stands).1
  obtain ⟨key, value⟩ := Prod.mk.inj image
  exact ⟨v, by rw [← value, key]⟩

/-- A queue's key gives back its die, destination and class. -/
theorem voqKey_parts {b e k : Nat} (hb : b < 8) (he : e < 40) (hk : k < 8) :
    voqKey d b e k / 2560 = d ∧ voqDest (voqKey d b e k) = e ∧ voqClass (voqKey d b e k) = k := by
  simp only [voqKey, voqDest, voqClass]; omega

/-- After the hold's end no cell of the group is held back. -/
theorem Chip.safRelease_eligible {b e k : Nat} (hb : b < 8) (he : e < 40) (hk : k < 8) :
    ∀ v ∈ (c.safRelease d e k).voq d b e k, v.eligible.isSome = true := by
  intro v hv
  rw [Chip.voq, Chip.safRelease, Chip.modSw_sw] at hv
  rcases SMap.get_mapVals (fun _ => []) c.sw.voqs (fun key q => if key / 2560 = d ∧ voqDest key = e ∧ voqClass key = k then
      q.map (fun x => if x.eligible.isNone then { x with eligible := some c.slot } else x) else q) (voqKey d b e k) with absent | ⟨q, image⟩
  · rw [absent] at hv
    exact absurd hv List.not_mem_nil
  · rw [image, if_pos (voqKey_parts hb he hk)] at hv
    obtain ⟨x, -, rfl⟩ := List.mem_map.1 hv
    split
    · rfl
    · next kept => simpa [Option.isNone_iff_eq_none, Option.isSome_iff_ne_none] using kept

/-! ### POLICER_REFILL (R256, R261) -/

/-- A policer that is not enabled gains nothing. -/
theorem Chip.policerRefill_off {p k : Nat} (off : c.flag (R.SCH_POL_CIR d p k) F.SCH_POL_CIR_ENABLE = false) : c.policerRefill d p k = c :=
  if_neg (by rw [off]; exact Bool.false_ne_true)

/-- An enabled policer gains a slot's CIR and PIR, at most CBS and PBS. -/
theorem Chip.policerRefill_on {p k : Nat} (on : c.flag (R.SCH_POL_CIR d p k) F.SCH_POL_CIR_ENABLE = true) (full : c.pw.clkHalf = false) :
    c.policerRefill d p k = c.setBuckets d p k
      (min (c.committed d p k + (c.get (R.SCH_POL_CIR d p k) F.SCH_POL_CIR_CIR * 2 ^ 24 / 5000 : Nat))
        (c.get (R.SCH_POL_CBS d p k) F.SCH_POL_CBS_VALUE * 2 ^ 24 : Nat))
      (min (c.peak d p k + (c.get (R.SCH_POL_PIR d p k) F.SCH_POL_PIR_VALUE * 2 ^ 24 / 5000 : Nat))
        (c.get (R.SCH_POL_PBS d p k) F.SCH_POL_PBS_VALUE * 2 ^ 24 : Nat)) := by
  rw [Chip.policerRefill, if_pos on, Chip.policerGain, full, if_neg Bool.false_ne_true]
  simp only [Nat.mul_one]

/-! ### FLOW_LEARN_INSERT (R279, R287) -/

/-- The learning queue of die d, with t left in it. -/
def Chip.learnLeft (c : Chip) (d : Nat) (t : List Learn) : Chip :=
  { c with tb := { c.tb with learnQ := SMap.set (fun _ => []) c.tb.learnQ d t } }

/-- What becomes of a key taken from the learning queue: a key of the table is charged, a new one inserted or counted LOST. -/
def Chip.learnKey (c : Chip) (d : Nat) (q : Learn) : Chip :=
  let r := c.flowLookup d q.key
  match r.1 with
  | some i => r.2.flowCharge d i q.units
  | none =>
    let s := r.2.flowInsert d (r.2.learnEntry d q)
    match s.1.1.idx with
    | none => s.2.incSat (R.TBL_LEARN_STAT d) F.TBL_LEARN_STAT_LOST 1
    | some i => s.2.flowCharge d i 0

/-- With nothing queued nothing is learned. -/
theorem Chip.learnInsert_empty (h : SMap.get (fun _ => []) c.tb.learnQ d = []) : c.learnInsert d = c := by
  simp only [Chip.learnInsert, h]

/-- The oldest key leaves the queue first. -/
theorem Chip.learnInsert_oldest {q : Learn} {t : List Learn} (h : SMap.get (fun _ => []) c.tb.learnQ d = q :: t) :
    c.learnInsert d = (c.learnLeft d t).learnKey d q := by
  rw [Chip.learnInsert, h]
  rfl

section
variable {q : Learn}

theorem Chip.learnKey_known {i : Nat} (hit : (c.flowLookup d q.key).1 = some i) :
    c.learnKey d q = (c.flowLookup d q.key).2.flowCharge d i q.units := by
  simp only [Chip.learnKey, hit]

theorem Chip.learnKey_lost (miss : (c.flowLookup d q.key).1 = none)
    (full : ((c.flowLookup d q.key).2.flowInsert d ((c.flowLookup d q.key).2.learnEntry d q)).1.1.idx = none) :
    c.learnKey d q = ((c.flowLookup d q.key).2.flowInsert d ((c.flowLookup d q.key).2.learnEntry d q)).2.incSat (R.TBL_LEARN_STAT d)
      F.TBL_LEARN_STAT_LOST 1 := by
  simp only [Chip.learnKey, miss, full]

theorem Chip.learnKey_new (miss : (c.flowLookup d q.key).1 = none) {i : Nat}
    (room : ((c.flowLookup d q.key).2.flowInsert d ((c.flowLookup d q.key).2.learnEntry d q)).1.1.idx = some i) :
    c.learnKey d q = ((c.flowLookup d q.key).2.flowInsert d ((c.flowLookup d q.key).2.learnEntry d q)).2.flowCharge d i 0 := by
  simp only [Chip.learnKey, miss, room]

end

end

end Sys2Proof.Machine

open Sys2Proof Sys2Proof.Machine

/-- Settles O41: a cell by the first check that stops it; the hold's end, the refill and the learning by their cases. -/
theorem cellsEnterTheChip : Obligations.CellsEnterTheChip := by
  unfold Obligations.CellsEnterTheChip
  intro s
  refine ⟨fun l x ⟨runs, joined, role, st, up⟩ => ⟨fun crc => ?_, fun crc lc => ?_, fun crc data => ⟨fun header => ?_, fun header fb => ?_,
    fun header clear => ?_⟩⟩, fun l x iso => ?_, fun d e k => ⟨?_, fun b => ?_⟩, fun d p k => ⟨fun on full => ?_, fun off => ?_⟩,
    fun d => ⟨fun empty => ?_, fun q t h => ⟨fun i hit => ?_, fun miss full => ?_, fun i miss room => ?_⟩⟩⟩
  · rw [exec_cellIngress, Chip.cellIngress_receives _ x runs joined role st up, Chip.receiveCell_badCrc _ x crc]
  · rw [exec_cellIngress, Chip.cellIngress_receives _ x runs joined role st up, Chip.receiveCell_linkControl _ crc lc]
  · rw [exec_cellIngress, Chip.cellIngress_receives _ x runs joined role st up, Chip.receiveCell_badHeader _ crc data header]
  · rw [exec_cellIngress, Chip.cellIngress_receives _ x runs joined role st up, Chip.receiveCell_firebreak _ crc data header fb]
  · rw [exec_cellIngress, Chip.cellIngress_receives _ x runs joined role st up, Chip.receiveCell_dispatch _ crc data header clear]
  · rw [exec_cellIngress, Chip.cellIngress_isolated _ x false iso]
  · rw [exec_safHoldExpiry, Chip.safHoldExpiry]
  · exact Chip.safRelease_eligible _ b.isLt e.isLt k.isLt
  · rw [exec_policerRefill, Chip.policerRefill_on _ on full]
  · rw [exec_policerRefill, Chip.policerRefill_off _ off]
  · rw [exec_flowLearnInsert, Chip.learnInsert_empty _ empty]
  · rw [exec_flowLearnInsert, Chip.learnInsert_oldest _ h, Chip.learnKey_known (s.chip.learnLeft d t) hit, Chip.learnLeft]
  · rw [exec_flowLearnInsert, Chip.learnInsert_oldest _ h, Chip.learnKey_lost (s.chip.learnLeft d t) miss full, Chip.learnLeft]
  · rw [exec_flowLearnInsert, Chip.learnInsert_oldest _ h, Chip.learnKey_new (s.chip.learnLeft d t) miss room, Chip.learnLeft]

end

section
/-!
PROOFS. Lane assignment, cell slots, shapers, timed launches, saturation and the die-to-die links (R102, R197, R211, R213, R243, R252,
R256, R264 to R266).
-/

namespace Sys2Proof.Machine

section
variable (c : Chip) {l d p k : Nat}

/-! ### LANE_ASSIGN (R211, R213) -/

/-- On an isolated die no lane is assigned. -/
theorem Chip.laneAssign_isolated (iso : c.isolated d = true) : c.laneAssign d = c := if_pos (by simp [iso])

/-- On a running die each started port has its turn. -/
theorem Chip.laneAssign_runs (plane : c.planeRuns d = true) (joined : c.isolated d = false) (runs : c.dieRuns d = true) :
    c.laneAssign d = ((List.range 64).filter (fun p => c.startsPort d p)).foldl (fun s p => s.assignPort d p) c :=
  if_neg (by simp [plane, joined, runs])

/-! ### LANE_CELL_SLOT (R102, R252) -/

/-- A lane that transmits, on a lit chip with its plane running, sends what its slot takes, and the slot passes. -/
theorem Chip.laneCellSlot_sends (lit : c.darkChip = false) (plane : c.planeRuns (laneDie l) = true) (tx : c.transmits l = true) :
    c.laneCellSlot l = (c.cellSlotSend l).slotPass l := by
  rw [Chip.laneCellSlot, lit, if_neg Bool.false_ne_true, if_neg (by simp [plane, tx])]

/-- A link control message goes first when fewer than two went in the block. -/
theorem Chip.cellSlotSend_linkControl {m : Lc} {t : List Lc} (waiting : (c.lane l).lcOut = m :: t) (few : (c.lane l).txLc < 2) :
    c.cellSlotSend l = c.sendLc l m t := by
  simp only [Chip.cellSlotSend, waiting, few, true_or, if_true]

/-- With no message and no launch waiting, an ACTIVE lane's slot takes a staged cell. -/
theorem Chip.cellSlotSend_queues (st : c.laneState l = LS.active) (noMsg : (c.lane l).lcOut = []) (noLaunch : (c.lane l).launch = none) :
    c.cellSlotSend l = c.cellSlotQueue l := by
  simp only [Chip.cellSlotSend, noMsg, Chip.cellSlotData, if_neg (not_not_intro st), noLaunch]

/-- The highest STRICT class staged goes first. -/
theorem Chip.cellSlotQueue_strict (first : c.strictReady l = some k) : c.cellSlotQueue l = c.sendStaged l k := by
  simp only [Chip.cellSlotQueue, first]

/-- Without one, the class that WFQ chooses. -/
theorem Chip.cellSlotQueue_wfq {v : Nat} (noStrict : c.strictReady l = none) (next : c.wfqReady l = some (k, v)) :
    c.cellSlotQueue l = (c.sendStaged l k).modSw (fun w => { w with wfqV := sset w.wfqV l v }) := by
  simp only [Chip.cellSlotQueue, noStrict, next]

/-- With every queue empty the slot carries nothing. -/
theorem Chip.cellSlotQueue_empty (noStrict : c.strictReady l = none) (noWfq : c.wfqReady l = none) :
    c.cellSlotQueue l = c.modLane l (fun y => { y with lastTx := none }) := by
  simp only [Chip.cellSlotQueue, noStrict, noWfq]

/-! ### SHAPER_REFILL (R256) -/

/-- A shaper that is not enabled gains nothing. -/
theorem Chip.shaperRefill_off {i : Nat} (off : c.shaped d p i = false) : c.shaperRefill d p i = c := if_pos (by rw [off]; rfl)

/-- An enabled shaper gains RATE times the slot, two slots while a sag warning halves the clocks, at most BURST. -/
theorem Chip.shaperRefill_on {i : Nat} (on : c.shaped d p i = true) :
    c.shaperRefill d p i = c.setTokens d p i (min (c.tokens d p i +
      (c.get (R.SCH_SHP_RATE d p i) F.SCH_SHP_RATE_RATE * 2 ^ 24 * (if c.pw.clkHalf then 2 else 1) / 5000 : Nat)) (c.burst d p i)) :=
  if_neg (by simp [on])

/-! ### LAUNCH_PREPARE and LATE_LAUNCH (R264 to R266) -/

/-- The head of a queue moves into a lane that can launch it. -/
theorem Chip.launchPlace_places {e : PqEnt} {t : List PqEnt} (head : c.pq d p k = e :: t) (lane : c.launchLane d p k = some l)
    (mk : PqEnt → Launch) :
    c.launchPlace d p k mk = some ((c.setPq d p k t).modLane l (fun x => { x with launch := some (mk e) })) := by
  simp only [Chip.launchPlace, head, lane]

/-- A bell that is not set prepares no launch. -/
theorem Chip.launchPrepare_unset {i : Nat} (unset : SMap.get (fun _ => none) c.bells (d * 256 + i) = none) : c.launchPrepare d i = c := by
  simp only [Chip.launchPrepare, unset]

section
variable {i : Nat} {b : Bell} (bell : SMap.get (fun _ => none) c.bells (d * 256 + i) = some b)
include bell

/-- A bell that is no release bell prepares none either. -/
theorem Chip.launchPrepare_other (other : b.action ≠ 1) : c.launchPrepare d i = c := by
  simp only [Chip.launchPrepare, bell, if_pos (Or.inl other)]

/-- A release bell of a held queue moves the queue's head into a lane that can launch it, for the bell's time. -/
theorem Chip.launchPrepare_release (release : b.action = 1) (held : c.queueHeld d (b.arg % 64) (b.arg / 64 % 8) = true) {e : PqEnt}
    {t : List PqEnt} (head : c.pq d (b.arg % 64) (b.arg / 64 % 8) = e :: t)
    (lane : c.launchLane d (b.arg % 64) (b.arg / 64 % 8) = some l) :
    c.launchPrepare d i = (c.setPq d (b.arg % 64) (b.arg / 64 % 8) t).modLane l
      (fun x => { x with launch := some ⟨e.buf, e.ts, b.arg % 64, b.arg / 64 % 8, b.time,
        if b.ts then some (2 * 65536 + b.tag) else none, i, false, false⟩ }) := by
  have goes : ¬ (b.action ≠ 1 ∨ (!c.queueHeld d (b.arg % 64) (b.arg / 64 % 8)) = true) := by simp [release, held]
  simp only [Chip.launchPrepare, bell, if_neg goes, c.launchPlace_places head lane, Option.getD_some]

end

/-- Without a late cell LATE_LAUNCH does nothing. -/
theorem Chip.lateLaunch_none (absent : SMap.get (fun _ => none) c.sw.late (pqKey d p k) = none) : c.lateLaunch d p k = c := by
  simp only [Chip.lateLaunch, absent]

/-- A late cell takes the queue's head into a lane that can launch it, and is late no longer. -/
theorem Chip.lateLaunch_places {x : Launch} {e : PqEnt} {t : List PqEnt}
    (late : SMap.get (fun _ => none) c.sw.late (pqKey d p k) = some x) (head : c.pq d p k = e :: t)
    (lane : c.launchLane d p k = some l) :
    c.lateLaunch d p k = ((c.setPq d p k t).modLane l (fun y => { y with launch := some { x with buf := e.buf, own := e.ts } })).modSw
      (fun w => { w with late := SMap.set (fun _ => none) w.late (pqKey d p k) none }) := by
  simp only [Chip.lateLaunch, late, c.launchPlace_places head lane]

/-! ### LEVEL_SAT_DWELL (R243) -/

/-- A count that stands for a bit is not 0 just when the bit is set. -/
theorem toNat_bne_zero (b : Bool) : (b.toNat != 0) = b := by cases b <;> rfl

section
variable {what u us : Nat} {enter : Bool}

/-- While the condition stands it is not reported again. -/
theorem Chip.levelSat_stands (stands : sget c.sw.satSince ((what * 64 + d) * 64 + u) = enter.toNat) :
    c.levelSat what d u enter us = c := by
  rw [Chip.levelSat, stands]
  exact if_pos (.inl (toNat_bne_zero enter))

/-- The notice of a saturation: whether it begins or ends, what saturates, the classes, the occupancy and for how long. -/
def Chip.satDetail (c : Chip) (what d u : Nat) (enter : Bool) (us : Nat) : Nat :=
  (if enter then 1 else 2) + what * 2 ^ 8 + c.satClasses what d u * 2 ^ 16 +
    min (if what = 2 then c.occ d u / 1024 else if what = 4 then c.spillOcc (d - 32) / 1024 else 0) 0xFFFF * 2 ^ 24 + min us 0xFFFFFF * 2 ^ 40

/-- Its lowest byte says whether it begins or ends. -/
theorem Chip.satDetail_byte : c.satDetail what d u enter us % 2 ^ 8 = if enter then 1 else 2 := by
  rw [Chip.satDetail]
  cases enter
  · simp only [Bool.false_eq_true, if_false]; omega
  · simp only [if_true]; omega

/-- A change of the condition posts one notice and is kept. -/
theorem Chip.levelSat_changes (was : sget c.sw.satSince ((what * 64 + d) * 64 + u) = (!enter).toNat) (plane : c.planeRuns d = true)
    (is : c.saturated what d u enter = enter) :
    c.levelSat what d u enter us = (c.post d 0x02 (if enter then 1 else 0) d (if what = 1 then 1 else if what = 2 then 2 else 3)
      (if what = 1 then u / 8 else if what = 2 then u else 0) (if what = 1 then u else 0) (c.satDetail what d u enter us)).modSw
      (fun x => { x with satSince := sset x.satSince ((what * 64 + d) * 64 + u) enter.toNat }) := by
  have before : (sget c.sw.satSince ((what * 64 + d) * 64 + u) != 0) = !enter := by rw [was, toNat_bne_zero]
  have goes : ¬ ((!enter) = enter ∨ (!c.planeRuns d) = true ∨ c.saturated what d u enter ≠ enter) := by simp [plane, is]
  rw [Chip.levelSat, before]
  exact if_neg goes

end

/-! ### D2D_BEAT_UNCORRECTABLE, D2D_REPLAY_LIMIT and D2D_RETRAIN_DONE (R197) -/

/-- A replay is counted, and is the m-th bad receipt of its beat. -/
def Chip.replayCounted (c : Chip) (d k : Nat) (up : Bool) (m : Nat) : Chip :=
  ((c.incSat (replayReg d k up) F.PRT_D2D_REPLAY_TOTAL 1).incSat (replayReg d k up) F.PRT_D2D_REPLAY_WINDOW 1).modSw
    (fun w => { w with slotReplays := sset w.slotReplays ((d * 8 + k) * 2 + up.toNat) m })

section
variable (up : Bool)

/-- A bad beat on a link that is up, between dies not isolated, in the window that runs: the ninth bad receipt takes the link down. -/
theorem Chip.beatBad_counts (link : c.d2dDown d k = false) (joined : c.isolated d = false) (core : c.isolated (32 + k) = false)
    (window : sget c.sw.d2dWindow ((d * 8 + k) * 2 + up.toNat) = c.now / tuMs + 1) (again : Bool) {m : Nat}
    (hm : m = if again then sget c.sw.slotReplays ((d * 8 + k) * 2 + up.toNat) + 1 else 1) :
    c.beatBad d k up again = if 8 < m then (c.replayCounted d k up m).linkDown d k else c.replayCounted d k up m := by
  have goes : ¬ (c.d2dDown d k = true ∨ c.isolated d = true ∨ c.isolated (32 + k) = true) := by simp [link, joined, core]
  subst hm
  simp only [Chip.beatBad, if_neg goes, window, if_true, Chip.replayCounted]

/-- More than 1,024 replays in the window take the link down. -/
theorem Chip.replayLimit_over (above : 1024 < c.get (replayReg d k up) F.PRT_D2D_REPLAY_WINDOW) : c.replayLimit d k up = c.linkDown d k :=
  if_pos above

theorem Chip.replayLimit_within (within : c.get (replayReg d k up) F.PRT_D2D_REPLAY_WINDOW ≤ 1024) : c.replayLimit d k up = c :=
  if_neg (Nat.not_lt.2 within)

end

/-- PRT_CSPRAY_STAT shows the spray: the registers only change. -/
@[simp] theorem Chip.showSpray_sw : (c.showSpray d).sw = c.sw := by simp only [Chip.showSpray, Chip.set_sw]
@[simp] theorem Chip.showSpray_integ : (c.showSpray d).integ = c.integ := by simp only [Chip.showSpray, Chip.set_integ]

/-- Training of a link that is up changes nothing. -/
theorem Chip.retrainDone_up (link : c.d2dDown d k = false) : c.retrainDone d k = c := if_pos (by rw [link]; rfl)

/-- A link that is down comes back up; no trigger is raised and no other link of the die changes. -/
theorem Chip.retrainDone_down (link : c.d2dDown d k = true) : (c.retrainDone d k).integ = c.integ ∧
    (c.retrainDone d k).sw.linkDown = SMap.set (fun _ => false) c.sw.linkDown (d * 8 + k) false := by
  have goes : ¬ (!c.d2dDown d k) = true := by simp [link]
  rw [Chip.retrainDone, if_neg goes]
  constructor
  · rw [Chip.showSpray_integ, Chip.set_integ, Chip.set_integ, Chip.modSw_integ]
  · rw [Chip.showSpray_sw, Chip.set_sw, Chip.set_sw, Chip.modSw_sw]

end

end Sys2Proof.Machine

open Sys2Proof Sys2Proof.Machine

/-- Settles O44: each event by its case; settling after a link has come back changes no link. -/
theorem lanesSendAndDieToDieLinksRecover : Obligations.LanesSendAndDieToDieLinksRecover := by
  unfold Obligations.LanesSendAndDieToDieLinksRecover
  intro s
  refine ⟨fun d => ⟨fun iso => ?_, fun plane joined runs => ?_⟩,
    fun l lit plane tx st => ⟨fun m t waiting few => ?_, fun noMsg noLaunch => ⟨fun k first => ?_, fun k v noStrict next => ?_,
      fun noStrict noWfq => ?_⟩⟩,
    fun d p i => ⟨fun off => ?_, fun on full => ?_, fun on half => ?_⟩,
    fun d i => ⟨fun unset => ?_, fun b bell => ⟨fun other => ?_, fun e t l release held head lane => ?_⟩⟩,
    fun d p k => ⟨fun absent => ?_, fun x e t l late head lane => ?_⟩,
    fun w d u enter us unit => ⟨fun stands => ?_, fun was plane is => ?_⟩,
    fun d k up link joined core window => ⟨?_, fun few => ?_, fun many => ?_⟩,
    fun d k up => ⟨fun within => ?_, fun above => ?_, fun link => ?_, fun hcalm link => ?_⟩⟩
  · rw [exec_laneAssign, Chip.laneAssign_isolated _ iso]
  · rw [exec_laneAssign, Chip.laneAssign_runs _ plane joined runs]
  · rw [exec_laneCellSlot, Chip.laneCellSlot_sends _ lit plane tx, Chip.cellSlotSend_linkControl _ waiting few]
  · rw [exec_laneCellSlot, Chip.laneCellSlot_sends _ lit plane tx, Chip.cellSlotSend_queues _ st noMsg noLaunch,
      Chip.cellSlotQueue_strict _ first]
  · rw [exec_laneCellSlot, Chip.laneCellSlot_sends _ lit plane tx, Chip.cellSlotSend_queues _ st noMsg noLaunch,
      Chip.cellSlotQueue_wfq _ noStrict next]
  · rw [exec_laneCellSlot, Chip.laneCellSlot_sends _ lit plane tx, Chip.cellSlotSend_queues _ st noMsg noLaunch,
      Chip.cellSlotQueue_empty _ noStrict noWfq]
  · rw [exec_shaperRefill, Chip.shaperRefill_off _ off]
  · rw [exec_shaperRefill, Chip.shaperRefill_on _ on, full, if_neg Bool.false_ne_true, Nat.mul_one]
  · rw [exec_shaperRefill, Chip.shaperRefill_on _ on, if_pos half]
  · rw [exec_launchPrepare, Chip.launchPrepare_unset _ unset]
  · rw [exec_launchPrepare, Chip.launchPrepare_other _ bell other]
  · rw [exec_launchPrepare, Chip.launchPrepare_release _ bell release held head lane]
  · rw [exec_lateLaunch, Chip.lateLaunch_none _ absent]
  · rw [exec_lateLaunch, Chip.lateLaunch_places _ late head lane]
  · rw [exec_levelSatDwell _ _ _ _ _ _ unit, Chip.levelSat_stands _ stands]
  · refine ⟨s.chip.satDetail w d u enter us, Chip.satDetail_byte _, ?_⟩
    rw [exec_levelSatDwell _ _ _ _ _ _ unit, Chip.levelSat_changes _ was plane is]
  · rw [exec_d2dBeatUncorrectable, Chip.beatBad_counts _ _ link joined core window false (if_neg Bool.false_ne_true).symm,
      if_neg (by decide), Chip.replayCounted]
  · rw [exec_d2dBeatUncorrectable, Chip.beatBad_counts _ _ link joined core window true (if_pos rfl).symm, if_neg (Nat.not_lt.2 few),
      Chip.replayCounted]
  · rw [exec_d2dBeatUncorrectable, Chip.beatBad_counts _ _ link joined core window true (if_pos rfl).symm, if_pos many,
      Chip.replayCounted]
  · rw [exec_d2dReplayLimit, Chip.replayLimit_within _ _ within]
  · rw [exec_d2dReplayLimit, Chip.replayLimit_over _ _ above]
  · rw [exec_d2dRetrainDone, Chip.retrainDone_up _ link]
  · obtain ⟨integ, links⟩ := Chip.retrainDone_down _ link
    have due : (s.chip.retrainDone d k).integ.due = [] := by rw [integ, State.calm_due s hcalm]
    refine ⟨_, exec_d2dRetrainDone d k s, ?_⟩
    simp only [State.after_chip, Chip.d2dDown, State.settled_sw s _ due, links]
    refine ⟨SMap.get_set_same .., fun j hj => SMap.get_set_other _ _ _ ?_⟩
    have apart : j.val ≠ k.val := Fin.val_ne_of_ne hj
    omega

end

section
/-!
PROOFS. STANDBY (R141, R422, R426, R433): the commands STANDBY and WAKE, and the end of the exit.
-/

namespace Sys2Proof.Machine

section
variable (c : Chip) {o : Origin} {x : Command}

/-! ### The command STANDBY (R422, R426, R445) -/

/-- STANDBY with ARG0 above 1: BAD_ARG. -/
theorem Chip.cmdStandby_badArg (hx : c.cmdOf o 0x40 = some x) (bad : 1 < x.arg0) : c.cmdStandby o = c.complete o 2 0 [] := by
  simp only [Chip.cmdStandby, hx, if_pos bad]

/-- STANDBY while a wake or an exit runs: BUSY. -/
theorem Chip.cmdStandby_busy (hx : c.cmdOf o 0x40 = some x) (arg : x.arg0 ≤ 1) (wakes : c.wakeRuns = true) :
    c.cmdStandby o = c.complete o 3 0 [] := by
  simp only [Chip.cmdStandby, hx, if_neg (Nat.not_lt.2 arg), if_pos wakes]

/-- STANDBY with ARG0 1 starts the exit. -/
theorem Chip.cmdStandby_exit (hx : c.cmdOf o 0x40 = some x) (arg : x.arg0 = 1) (still : c.wakeRuns = false) :
    c.cmdStandby o = (c.standbyLeave 6).complete o 0 0 [] := by
  simp only [Chip.cmdStandby, hx, arg, still, Nat.lt_irrefl, if_false, Bool.false_eq_true, if_true]

/-- STANDBY with ARG0 0 is refused with a twin, done at once in STANDBY, and otherwise an entry. -/
theorem Chip.cmdStandby_entry (hx : c.cmdOf o 0x40 = some x) (arg : x.arg0 = 0) (still : c.wakeRuns = false) :
    c.cmdStandby o = if c.twinSt ≠ 0 then c.complete o 4 5 [] else if c.pw.standby then c.complete o 0 0 []
      else if !c.weferActive.isEmpty then c.weferRest else if c.standbyFails ≠ 0 then c.complete o 4 c.standbyFails []
      else c.standbyEnter.complete o 0 0 [] := by
  simp only [Chip.cmdStandby, hx, arg, still, Nat.not_lt_zero, if_false, Bool.false_eq_true, Nat.zero_ne_one]

/-- An entry asks the ACTIVE lanes of ROLE 2 to go DROWSY first. -/
theorem Chip.cmdStandby_rests (hx : c.cmdOf o 0x40 = some x) (arg : x.arg0 = 0) (still : c.wakeRuns = false) (solo : c.twinSt = 0)
    (up : c.pw.standby = false) (lanes : c.weferActive ≠ []) : c.cmdStandby o = c.weferRest := by
  have asks : (!c.weferActive.isEmpty) = true := by simp [lanes]
  rw [Chip.cmdStandby_entry _ hx arg still, if_neg (not_not_intro solo), up, if_neg Bool.false_ne_true, if_pos asks]

/-- With no such lane left the conditions of R426 decide. -/
theorem Chip.cmdStandby_enters (hx : c.cmdOf o 0x40 = some x) (arg : x.arg0 = 0) (still : c.wakeRuns = false) (solo : c.twinSt = 0)
    (up : c.pw.standby = false) (lanes : c.weferActive = []) :
    c.cmdStandby o = if c.standbyFails = 0 then c.standbyEnter.complete o 0 0 [] else c.complete o 4 c.standbyFails [] := by
  have rest : ¬ (!c.weferActive.isEmpty) = true := by simp [lanes]
  rw [Chip.cmdStandby_entry _ hx arg still, if_neg (not_not_intro solo), up, if_neg Bool.false_ne_true, if_neg rest, ite_not]

/-! ### The command WAKE (R423) -/

/-- WAKE of a die or a mask outside the chip: BAD_ARG. -/
theorem Chip.cmdWake_badArg (hx : c.cmdOf o 0x41 = some x) (bad : 39 < x.arg0 ∨ 0x1FF < x.arg1) : c.cmdWake o = c.complete o 2 0 [] := by
  simp only [Chip.cmdWake, hx, if_pos bad]

/-- WAKE within the chip: bit 8 in STANDBY starts the exit, and otherwise the blocks of the mask, and the die with bit 8, wake. -/
theorem Chip.cmdWake_wakes (hx : c.cmdOf o 0x41 = some x) (die : x.arg0 ≤ 39) (mask : x.arg1 ≤ 0x1FF) :
    c.cmdWake o = (if bitOf x.arg1 8 = true ∧ c.pw.standby = true then c.standbyLeave 6
      else c.wakeMask x.arg0 (x.arg1 % 256) (bitOf x.arg1 8) 6).complete o 0 0 [] := by
  have good : ¬ (39 < x.arg0 ∨ 0x1FF < x.arg1) := by omega
  simp only [Chip.cmdWake, hx, if_neg good]

/-! ### STANDBY_EXIT_DONE (R141, R433) -/

/-- Outside an exit nothing changes. -/
theorem Chip.standbyExitDone_outside (out : c.pw.standby = false ∨ c.pw.standbyExit = false) : c.standbyExitDone = c := by
  have stays : (!c.pw.standby) = true ∨ (!c.pw.standbyExit) = true := by simpa using out
  rw [Chip.standbyExitDone, if_pos stays]

/-- At its end every die runs, pools are threaded afresh, the rings that see light are held no longer, the lanes stand up, and event
0x02 goes out. -/
theorem Chip.standbyExitDone_ends (inStandby : c.pw.standby = true) (leaves : c.pw.standbyExit = true) :
    c.standbyExitDone =
      ((List.range 2048).foldl Chip.laneStandsUp ((List.range 32).foldl (fun s d =>
        (List.range 8).foldl (fun s f => (List.range 17).foldl (fun s r => if (s.ring d f r).dark then s else s.unholdRing d f r) s)
          (s.refreshPools d))
        (((c.modPw (fun p => { p with standby := false, standbyExit := false, dieWake := SMap.erase p.dieWake 40 })).eachDie
          (fun s d => s.setDieSt d 0)).modSw (fun w => { w with pools := [] })))).chipPower 0
        (powerDetail 2 0 4 (((SMap.get (fun _ => none) c.pw.dieWake 40).map (·.source)).getD 1) 0 0 0 (c.asleepUs 640)) := by
  have goes : ¬ ((!c.pw.standby) = true ∨ (!c.pw.standbyExit) = true) := by simp [inStandby, leaves]
  rw [Chip.standbyExitDone, if_neg goes]

end

end Sys2Proof.Machine

open Sys2Proof Sys2Proof.Machine

/-- Settles O24: STANDBY by the checks in their order, WAKE by its arguments, the exit's end by whether one runs. -/
theorem standbyIsEnteredAndLeft : Obligations.StandbyIsEnteredAndLeft := by
  unfold Obligations.StandbyIsEnteredAndLeft
  intro s
  refine ⟨fun o x hx => ⟨fun bad => ?_, fun arg wakes => ?_, fun arg still => ?_, fun arg still => ⟨fun twin => ?_, fun solo already => ?_,
      fun solo up lanes => ?_, fun solo up lanes => ?_⟩⟩,
    fun o x hx => ⟨fun bad => ?_, fun die mask bit standby => ?_, fun die mask other => ?_⟩, fun out => ?_, fun standby leaves => ?_⟩
  · rw [exec_standby, Chip.cmdStandby_badArg _ hx bad]
  · rw [exec_standby, Chip.cmdStandby_busy _ hx arg wakes]
  · rw [exec_standby, Chip.cmdStandby_exit _ hx arg still]
  · rw [exec_standby, Chip.cmdStandby_entry _ hx arg still, if_pos twin]
  · rw [exec_standby, Chip.cmdStandby_entry _ hx arg still, if_neg (not_not_intro solo), if_pos already]
  · rw [exec_standby, Chip.cmdStandby_rests _ hx arg still solo up lanes]
  · rw [exec_standby, Chip.cmdStandby_enters _ hx arg still solo up lanes]
  · rw [exec_wake, Chip.cmdWake_badArg _ hx bad]
  · rw [exec_wake, Chip.cmdWake_wakes _ hx die mask, if_pos ⟨bit, standby⟩]
  · have wakes : ¬ (bitOf x.arg1 8 = true ∧ s.chip.pw.standby = true) := by rcases other with h | h <;> simp [h]
    rw [exec_wake, Chip.cmdWake_wakes _ hx die mask, if_neg wakes]
  · rw [exec_standbyExitDone, Chip.standbyExitDone_outside _ out]
  · rw [exec_standbyExitDone, Chip.standbyExitDone_ends _ standby leaves]

end

section
/-!
PROOFS. Rings of the optical engine (R131 to R142): the start-up search, the way to LOCKED, wrong locks and recovery.
-/

namespace Sys2Proof.Machine

section
variable (c : Chip) {d f r : Nat}

/-! ### SEARCH_START and RING_SWEEP_DONE (R134 to R136) -/

/-- A die that has not searched starts, its data plane released. -/
theorem Chip.searchStart_starts (new : c.get (R.PRT_OPT_STAT d) F.PRT_OPT_STAT_SEARCH = 0) (free : c.pw.dataHeld = false) :
    c.searchStart d = (c.set (R.PRT_OPT_STAT d) F.PRT_OPT_STAT_SEARCH 1).searchFrom d 16 0 := by
  have goes : ¬ (c.get (R.PRT_OPT_STAT d) F.PRT_OPT_STAT_SEARCH ≠ 0 ∨ c.pw.dataHeld = true) := by simp [new, free]
  rw [Chip.searchStart, if_neg goes]

/-- A die that searches or has searched does not start again. -/
theorem Chip.searchStart_again (begun : c.get (R.PRT_OPT_STAT d) F.PRT_OPT_STAT_SEARCH ≠ 0) : c.searchStart d = c := if_pos (.inl begun)

/-- A sweep that saw no light parks the ring as dark, with event 0x02; a drop ring also tells that its waveguide is dark. -/
theorem Chip.ringSweepDone_dark (st : c.ringSt d f r = RS.search) (dips : List Nat) :
    c.ringSweepDone d f r false dips =
      ((if r < 8 then (c.parkRing d f r).modRing d f r (fun x => { x with dark := true })
        else ((c.parkRing d f r).modRing d f r (fun x => { x with dark := true })).modOptics
          (fun o => { o with rxLight := SMap.set (fun _ => false) o.rxLight (d * 8 + f) false })).opticalNotice
            d f r (c.wantedCh d f r) 0x02 0).searchStep d := by
  rw [Chip.ringSweepDone, if_neg (not_not_intro st), Bool.not_false, if_pos rfl]

/-- A sweep whose dips give a record stores it, and the ring moves to its channel. -/
theorem Chip.ringSweepDone_record (st : c.ringSt d f r = RS.search) {dips v : List Nat} (labelled : sweepRecord dips = some v) :
    c.ringSweepDone d f r true dips =
      (((c.modRing d f r (fun x => { x with record := v, badSweeps := 0 })).set (R.PRT_RING d f r) F.PRT_RING_RECORD 1).ringTo
        d f r (c.wantedCh d f r) false).searchStep d := by
  simp only [Chip.ringSweepDone, if_neg (not_not_intro st), Bool.not_true, Bool.false_eq_true, if_false, labelled]

/-- A first sweep with light but no record is counted, and a second one in a row is a fault. -/
theorem Chip.ringSweepDone_bad (st : c.ringSt d f r = RS.search) {dips : List Nat} (bad : sweepRecord dips = none) :
    c.ringSweepDone d f r true dips =
      (if 1 ≤ (c.ring d f r).badSweeps then c.ringFault d f r
        else c.modRing d f r (fun x => { x with badSweeps := x.badSweeps + 1 })).searchStep d := by
  simp only [Chip.ringSweepDone, if_neg (not_not_intro st), Bool.not_true, Bool.false_eq_true, if_false, bad]

/-! ### RING_LOCK_CAPTURE and RING_CAPTURE_TIMEOUT (R132) -/

/-- A LOCKING ring that captures is in CONFIRM. -/
theorem Chip.ringLockCapture_locking (st : c.ringSt d f r = RS.locking) :
    c.ringLockCapture d f r = (c.setRingSt d f r RS.confirm).modRing d f r (fun x => { x with dark := false, badTones := 0 }) := if_pos st

/-- A LOCKING ring without capture searches when it was HELD, and else recovers with event 0x03. -/
theorem Chip.ringCaptureTimeout_locking (st : c.ringSt d f r = RS.locking) (free : (c.ring d f r).waits = 0) :
    c.ringCaptureTimeout d f r =
      if (c.ring d f r).fromHeld then (c.modRing d f r (fun x => { x with badSweeps := 0 })).searchRing d f r
      else ((c.opticalNotice d f r (c.ringCh d f r) 0x03 (c.get (R.PRT_RING d f r) F.PRT_RING_WRONG)).ringWrong d f r).searchStep d :=
  if_neg (not_or.2 ⟨not_not_intro st, not_not_intro free⟩)

/-! ### TONE_CHECK_WINDOW and RING_RECOVERY_DONE (R137, R139) -/

section
variable (amp below above ref : Nat)

/-- A ring in CONFIRM is LOCKED, or a wrong lock, by the tones. -/
theorem Chip.toneCheck_confirm (st : c.ringSt d f r = RS.confirm) :
    c.toneCheck d f r amp below above ref =
      if toneOk (c.ringCh d f r) amp below above ref then (c.ringLock d f r).searchStep d else c.wrongLock d f r := if_pos st

/-- A LOCKED ring counts bad windows in a row, and is a wrong lock on the fourth. -/
theorem Chip.toneCheck_locked (st : c.ringSt d f r = RS.locked) :
    c.toneCheck d f r amp below above ref =
      if toneOk (c.ringCh d f r) amp below above ref then c.modRing d f r (fun x => { x with badTones := 0 })
      else if 3 ≤ (c.ring d f r).badTones then c.wrongLock d f r
      else c.modRing d f r (fun x => { x with badTones := x.badTones + 1 }) := by
  have apart : c.ringSt d f r ≠ RS.confirm := by simp [st]
  exact (if_neg apart).trans (if_pos st)

end

/-- A ring in RECOVER goes to CONFIRM at the code it captured, or makes the next attempt. -/
theorem Chip.ringRecoveryDone_recover (st : c.ringSt d f r = RS.recover) (free : (c.ring d f r).waits = 0) (captured : Option Nat) :
    c.ringRecoveryDone d f r captured = captured.elim ((c.ringWrong d f r).searchStep d)
      (fun code => (c.setRingSt d f r RS.confirm).setHtr d f r (min code 4095)) := by
  have goes : ¬ (c.ringSt d f r ≠ RS.recover ∨ (c.ring d f r).waits ≠ 0) := not_or.2 ⟨not_not_intro st, not_not_intro free⟩
  cases captured with
  | none => exact if_neg goes
  | some code => exact if_neg goes

end

end Sys2Proof.Machine

open Sys2Proof Sys2Proof.Machine

/-- Settles O37: each event by the state of its ring. -/
theorem ringsSearchAndLock : Obligations.RingsSearchAndLock := by
  unfold Obligations.RingsSearchAndLock
  intro s
  refine ⟨fun d => ⟨fun new free => ?_, fun begun => ?_⟩, fun d f r dips st => ⟨?_, fun v labelled => ?_, fun bad => ?_⟩,
    fun d f r st => ⟨?_, fun free => ⟨fun held => ?_, fun other => ?_⟩⟩,
    fun d f r amp below above ref => ⟨fun st => ⟨fun ok => ?_, fun bad => ?_⟩,
      fun st => ⟨fun ok => ?_, fun bad few => ?_, fun bad many => ?_⟩⟩,
    fun d f r st free => ⟨fun v => ?_, ?_⟩⟩
  · rw [exec_searchStart, Chip.searchStart_starts _ new free]
  · rw [exec_searchStart, Chip.searchStart_again _ begun]
  · rw [exec_ringSweepDone, Chip.ringSweepDone_dark _ st]
  · rw [exec_ringSweepDone, Chip.ringSweepDone_record _ st labelled]
  · rw [exec_ringSweepDone, Chip.ringSweepDone_bad _ st bad]
  · rw [exec_ringLockCapture, Chip.ringLockCapture_locking _ st]
  · rw [exec_ringCaptureTimeout, Chip.ringCaptureTimeout_locking _ st free, if_pos held]
  · rw [exec_ringCaptureTimeout, Chip.ringCaptureTimeout_locking _ st free, other, if_neg Bool.false_ne_true]
  · rw [exec_toneCheckWindow, Chip.toneCheck_confirm _ _ _ _ _ st, if_pos ok]
  · rw [exec_toneCheckWindow, Chip.toneCheck_confirm _ _ _ _ _ st, bad, if_neg Bool.false_ne_true]
  · rw [exec_toneCheckWindow, Chip.toneCheck_locked _ _ _ _ _ st, if_pos ok]
  · rw [exec_toneCheckWindow, Chip.toneCheck_locked _ _ _ _ _ st, bad, if_neg Bool.false_ne_true, if_neg (Nat.not_le.2 few)]
  · rw [exec_toneCheckWindow, Chip.toneCheck_locked _ _ _ _ _ st, bad, if_neg Bool.false_ne_true, if_pos many]
  · rw [exec_ringRecoveryDone, Chip.ringRecoveryDone_recover _ st free, Option.map_some, Option.elim_some]
  · rw [exec_ringRecoveryDone, Chip.ringRecoveryDone_recover _ st free, Option.map_none, Option.elim_none]

end

section
/-!
PROOFS. Rings that slip, lose light and see it again (R132, R133, R136), the lock loop (R140, R142), and the request to search again.
-/

namespace Sys2Proof.Machine

section
variable (c : Chip) {d f r : Nat}

/-! ### LOCK_SLIP and light (R132, R133, R136) -/

/-- A LOCKED ring that slips is LOCKING, with event 0x05, and its lane drains. -/
theorem Chip.lockSlip_locked (st : c.ringSt d f r = RS.locked) :
    c.lockSlip d f r = (((c.setRingSt d f r RS.locking).modRing d f r (fun x => { x with fromHeld := false })).opticalNotice d f r
      (c.ringCh d f r) 0x05 0).ringLeft d f r := if_pos st

/-- A ring that is not LOCKED does not slip. -/
theorem Chip.lockSlip_other (st : c.ringSt d f r ≠ RS.locked) : c.lockSlip d f r = c := if_neg st

/-- A LOCKED ring that loses light is HELD, and its lane drains. -/
theorem Chip.ringLightLoss_locked (st : c.ringSt d f r = RS.locked) :
    c.ringLightLoss d f r = ((c.modRing d f r (fun x => { x with dark := true })).holdRing d f r).ringLeft d f r := if_pos st

/-- Another ring that loses light only lets the die's search go on. -/
theorem Chip.ringLightLoss_other (st : c.ringSt d f r ≠ RS.locked) :
    c.ringLightLoss d f r = (c.modRing d f r (fun x => { x with dark := true })).searchStep d := if_neg st

/-- Outside STANDBY and a lost feed a ring whose light is back is held no longer. -/
theorem Chip.ringLightRestored_outside (up : c.pw.standby = false) (feed : 8 ≤ r ∨ c.flag (R.PRT_FP d f) F.PRT_FP_FEED_LOST = false) :
    c.ringLightRestored d f r = c.unholdRing d f r := by
  have goes : ¬ (c.pw.standby = true ∨ (r < 8 ∧ c.flag (R.PRT_FP d f) F.PRT_FP_FEED_LOST = true)) := by
    rintro (h | ⟨modulator, lost⟩)
    · exact Bool.false_ne_true (up.symm.trans h)
    · rcases feed with drop | stands
      · omega
      · exact Bool.false_ne_true (stands.symm.trans lost)
  exact if_neg goes

/-- A HELD ring relocks with the window of a held one. -/
theorem Chip.unholdRing_held (st : c.ringSt d f r = RS.held) :
    c.unholdRing d f r = (c.setRingSt d f r RS.locking).modRing d f r (fun x => { x with fromHeld := true, dark := false }) := if_pos st

/-- Any other ring is only not dark. -/
theorem Chip.unholdRing_other (st : c.ringSt d f r ≠ RS.held) :
    c.unholdRing d f r = c.modRing d f r (fun x => { x with dark := false }) := if_neg st

/-- Light on a receive waveguide lets the due rings be searched. -/
theorem Chip.ringLightAppears_waveguide :
    c.ringLightAppears d f none =
      (c.modOptics (fun o => { o with rxLight := SMap.set (fun _ => false) o.rxLight (d * 8 + f) true })).searchKick d := rfl

/-- Light at a modulator ring says nothing of the receive waveguide. -/
theorem Chip.ringLightAppears_modulator (modulator : r < 8) :
    c.ringLightAppears d f (some r) = (c.modRing d f r (fun x => { x with dark := false })).searchKick d := by
  have notDrop : ¬ decide (8 ≤ r) = true := by simpa using modulator
  simp only [Chip.ringLightAppears, if_neg notDrop]

/-! ### LOCK_LOOP_UPDATE (R140, R142) -/

/-- A ring with no lock loop running takes no drive from one. -/
theorem Chip.lockLoopUpdate_other {code : Nat} (locking : c.ringSt d f r ≠ RS.locking) (confirm : c.ringSt d f r ≠ RS.confirm)
    (locked : c.ringSt d f r ≠ RS.locked) : c.lockLoopUpdate d f r code = c := if_pos ⟨locking, confirm, locked⟩

/-- A drive below full scale that is no warning (the ring is not LOCKED, or the drive is at most 95 %) only sets the heater. -/
theorem Chip.lockLoopUpdate_drives {code : Nat}
    (runs : c.ringSt d f r = RS.locking ∨ c.ringSt d f r = RS.confirm ∨ c.ringSt d f r = RS.locked) (room : code < 4095)
    (calm : c.ringSt d f r = RS.locked → code ≤ nearTop) : c.lockLoopUpdate d f r code = c.setHtr d f r code := by
  have goes : ¬ (c.ringSt d f r ≠ RS.locking ∧ c.ringSt d f r ≠ RS.confirm ∧ c.ringSt d f r ≠ RS.locked) := by omega
  have whole : min code 4095 = code := Nat.min_eq_left room.le
  have noWarning : ¬ (c.ringSt d f r = RS.locked ∧ nearTop < code ∧ c.ringHtr d f r ≤ nearTop) :=
    fun ⟨st, top, _⟩ => Nat.not_lt.2 (calm st) top
  simp only [Chip.lockLoopUpdate, if_neg goes, whole, if_neg noWarning, if_neg room.ne]

/-! ### OPT_SEARCH_AGAIN (R157) -/

/-- Without the request nothing changes. -/
theorem Chip.searchAgain_none (op : c.get (R.PRT_OPT_REQ d) F.PRT_OPT_REQ_OP ≠ 3) : c.searchAgain d = c := if_pos op

/-- The request is taken back; a PARKED ring it names is searched. -/
theorem Chip.searchAgain_request (op : c.get (R.PRT_OPT_REQ d) F.PRT_OPT_REQ_OP = 3) {n : Nat}
    (ring : c.get (R.PRT_OPT_REQ d) F.PRT_OPT_REQ_RING = n) :
    c.searchAgain d =
      if 136 ≤ n ∨ c.ringSt d (n / 17) (n % 17) ≠ RS.parked then c.setBoth (R.PRT_OPT_REQ d) F.PRT_OPT_REQ_OP 0
      else ((c.setBoth (R.PRT_OPT_REQ d) F.PRT_OPT_REQ_OP 0).modRing d (n / 17) (n % 17)
        (fun x => { x with badSweeps := 0, dark := false })).searchRing d (n / 17) (n % 17) := by
  subst ring
  exact if_neg (not_not_intro op)

end

end Sys2Proof.Machine

open Sys2Proof Sys2Proof.Machine

/-- Settles O38: each event by the state of its ring; a drive below the warning only sets the heater. -/
theorem ringsLoseAndRegainLight : Obligations.RingsLoseAndRegainLight := by
  unfold Obligations.RingsLoseAndRegainLight
  intro s
  refine ⟨fun d f r => ⟨fun st => ?_, fun st => ?_⟩, fun d f r => ⟨fun st => ?_, fun st => ?_⟩,
    fun d f r up feed => ⟨fun st => ?_, fun st => ?_⟩, fun d f => ⟨?_, fun r modulator => ?_⟩,
    fun d f r code => ⟨fun locking confirm locked => ?_, fun st room => ?_, fun st low => ?_⟩,
    fun d => ⟨fun op => ?_, fun op => ⟨fun other => ?_, fun ring parked => ?_⟩⟩⟩
  · rw [exec_lockSlip, Chip.lockSlip_locked _ st]
  · rw [exec_lockSlip, Chip.lockSlip_other _ st]
  · rw [exec_ringLightLoss, Chip.ringLightLoss_locked _ st]
  · rw [exec_ringLightLoss, Chip.ringLightLoss_other _ st]
  · rw [exec_ringLightRestored, Chip.ringLightRestored_outside _ up feed, Chip.unholdRing_held _ st]
  · rw [exec_ringLightRestored, Chip.ringLightRestored_outside _ up feed, Chip.unholdRing_other _ st]
  · rw [exec_ringLightAppears, Option.map_none, Chip.ringLightAppears_waveguide]
  · rw [exec_ringLightAppears, Option.map_some, Chip.ringLightAppears_modulator _ modulator]
  · rw [exec_lockLoopUpdate, Chip.lockLoopUpdate_other _ locking confirm locked]
  · have notLocked : s.chip.ringSt d f r ≠ RS.locked := by rcases st with h | h <;> simp [h]
    rw [exec_lockLoopUpdate, Chip.lockLoopUpdate_drives _ (st.imp_right .inl) room (absurd · notLocked)]
  · rw [exec_lockLoopUpdate, Chip.lockLoopUpdate_drives _ (.inr (.inr st)) (by omega) (fun _ => low)]
  · rw [exec_optSearchAgain, Chip.searchAgain_none _ op]
  · rw [exec_optSearchAgain, Chip.searchAgain_request _ op rfl, if_pos other]
  · rw [exec_optSearchAgain, Chip.searchAgain_request _ op rfl, if_neg (not_or.2 ⟨Nat.not_le.2 ring, not_not_intro parked⟩)]

end

section
/-!
PROOFS. Calibration (R143 to R145), moves to and from the spare wavelength (R153 to R155), the optical requests (R151, R157) and fade
readings (R148 to R150).
-/

namespace Sys2Proof.Machine

section
variable (c : Chip) {l d : Nat}

/-! ### CALIBRATION_DUE (R143, R144) -/

/-- R144 protects the lane from calibration: it carries its port alone, CAL_SOLO is not set, and it is not DRAINED. -/
def Chip.soloSkips (c : Chip) (l : Nat) : Prop :=
  c.role l = 1 ∧ c.portWidth l = 1 ∧ c.flag (R.PRT_OPT_POL (laneDie l)) F.PRT_OPT_POL_CAL_SOLO = false ∧ c.laneState l ≠ LS.drained

section
variable (role : c.role l = 1 ∨ c.role l = 2) (cleared : c.laneState l ≠ LS.cleared) (new : c.hasEntry (laneDie l) (isCal l) = none)
include role cleared new

/-- A lane that may be calibrated and is not in the ledger passes the first check of a request. -/
theorem Chip.calRequest_taken :
    ¬ ((c.role l != 1 && c.role l != 2) || c.laneState l == LS.cleared || (c.hasEntry (laneDie l) (isCal l)).isSome) = true := by
  rcases role with h | h <;> simp [h, cleared, new]

/-- A lane that R144 protects is skipped with event 0x06. -/
theorem Chip.calRequest_skips (solo : c.soloSkips l) : c.calRequest l = c.laneOptical l 0x06 0xFFFF := by
  obtain ⟨port, width, policy, state⟩ := solo
  rw [Chip.calRequest, if_neg (c.calRequest_taken role cleared new), if_pos ⟨port, width, by simp [policy], state⟩]

/-- Any other lane is given to the ledger. -/
theorem Chip.calRequest_requests (free : ¬ c.soloSkips l) : c.calRequest l = c.ledgerRequest (laneDie l) (.cal l) := by
  have goes : ¬ (c.role l = 1 ∧ c.portWidth l = 1 ∧ (!c.flag (R.PRT_OPT_POL (laneDie l)) F.PRT_OPT_POL_CAL_SOLO) = true ∧
      c.laneState l ≠ LS.drained) := fun ⟨port, width, policy, state⟩ => free ⟨port, width, by simpa using policy, state⟩
  rw [Chip.calRequest, if_neg (c.calRequest_taken role cleared new), if_neg goes]

end

/-! ### CALIBRATION_DONE and SWAP_TRAIN_TIMEOUT (R145, R154) -/

section
variable {m : Move} (move : (c.laneOpt l).move = some m) (acted : m.acted = true) (unfinished : m.fin = false)
include move acted unfinished

/-- A calibration of a DRAINED lane that has acted is through, with event 0x06. -/
theorem Chip.calibrationDone_ends (us : Nat) (kind : m.kind = 3) (st : c.laneState l = LS.drained) :
    c.calibrationDone l us = (c.laneOptical l 0x06 (us : Int)).moveFin l false := by
  have goes : ¬ (m.kind ≠ 3 ∨ (!m.acted) = true ∨ m.fin = true ∨ c.laneState l ≠ LS.drained) := by simp [kind, acted, unfinished, st]
  simp only [Chip.calibrationDone, move, if_neg goes]

/-- A swap or return that has acted and not trained in time has failed, with event 0x0A. -/
theorem Chip.swapTrainTimeout_fails (kind : m.kind ≠ 3) :
    c.swapTrainTimeout l = (c.laneOptical l 0x0A (c.fade l)).moveFin l true := by
  have goes : ¬ (m.kind = 3 ∨ (!m.acted) = true ∨ m.fin = true) := by simp [kind, acted, unfinished]
  simp only [Chip.swapTrainTimeout, move, if_neg goes]

end

/-! ### The optical requests (R143, R151, R155) -/

/-- OP 1 is taken back; a lane on the spare whose channel reads above −0.5 dB is given to the ledger. -/
theorem Chip.returnFromSpare_request (op : c.optReqOp d = 1) :
    c.returnFromSpare d = if c.onSpare (c.optReqLane d) = true ∧ -50 < c.spareFade (c.optReqLane d)
      then (c.optReqDone d).ledgerRequest d (.swap true (feedOf (c.optReqLane d)) [c.optReqLane d]) else c.optReqDone d :=
  if_neg (not_not_intro op)

/-- OP 2 is taken back, and the lane's calibration requested. -/
theorem Chip.calibrateNow_request (op : c.optReqOp d = 2) :
    c.calibrateNow d = (c.optReqDone d).calRequest (c.optReqLane d) := if_neg (not_not_intro op)

/-- OP 4 is taken back, and a lane in fade hold marked to leave it. -/
theorem Chip.clearFadeHold_request (op : c.optReqOp d = 4) :
    c.clearFadeHold d = if c.fadeHold (c.optReqLane d) then
        ((c.optReqDone d).modLaneOpt (c.optReqLane d) (fun x => { x with holdClear := true })).holdEndCheck (c.optReqLane d)
      else c.optReqDone d := if_neg (not_not_intro op)

end

end Sys2Proof.Machine

open Sys2Proof Sys2Proof.Machine

/-- Settles O39: a request by what R144 protects, each end of a move by its kind, each optical request by its OP. -/
theorem lanesAreCalibratedMovedAndWatched : Obligations.LanesAreCalibratedMovedAndWatched := by
  unfold Obligations.LanesAreCalibratedMovedAndWatched
  intro s
  refine ⟨fun l role cleared new => ⟨fun solo => ?_, fun free => ?_⟩,
    fun l m move acted unfinished => ⟨fun us kind st => ?_, fun kind => ?_⟩,
    fun d => ⟨fun op spare reads => ?_, fun op home => ?_, fun op => ?_, fun op held => ?_, fun op free => ?_⟩,
    fun d powers spares all each => ?_⟩
  · rw [exec_calibrationDue, Chip.calibrationDue, Chip.calRequest_skips _ role cleared new solo]
  · have unprotected : ¬ s.chip.soloSkips l := by simp only [Chip.soloSkips, not_and_or, Bool.not_eq_false, not_not]; exact free
    rw [exec_calibrationDue, Chip.calibrationDue, Chip.calRequest_requests _ role cleared new unprotected]
  · rw [exec_calibrationDone, Chip.calibrationDone_ends _ move acted unfinished us kind st]
  · rw [exec_swapTrainTimeout, Chip.swapTrainTimeout_fails _ move acted unfinished kind]
  · rw [exec_optReturnFromSpare, Chip.returnFromSpare_request _ op, if_pos ⟨spare, reads⟩]
  · rw [exec_optReturnFromSpare, Chip.returnFromSpare_request _ op, if_neg (by simp [home])]
  · rw [exec_optCalibrateNow, Chip.calibrateNow_request _ op]
  · rw [exec_optClearFadeHold, Chip.clearFadeHold_request _ op, if_pos held]
  · rw [exec_optClearFadeHold, Chip.clearFadeHold_request _ op, free, if_neg Bool.false_ne_true]
  · rw [exec_fadeReading d powers spares s (by simp [all, each]), Chip.fadeReading]

end

section
/-!
PROOFS. Envelopes over uplinks, core dies and downlinks, and the two kinds of credit (R200 to R202, R206, R207, R209, R214, R216, R229).
-/

namespace Sys2Proof.Machine

section
variable (c : Chip) {d k : Nat}

/-! ### UPLINK_SCHEDULE (R202) -/

/-- An isolated die sends nothing up. -/
theorem Chip.uplinkSchedule_isolated (iso : c.isolated d = true) : c.uplinkSchedule d = c := if_pos (by simp [iso])

/-- On a running die waiting copies enter their queues, then each uplink has its turn, from the slot number. -/
theorem Chip.uplinkSchedule_runs (plane : c.planeRuns d = true) (joined : c.isolated d = false) (runs : c.dieRuns d = true) :
    c.uplinkSchedule d = ((List.range 8).foldl (fun (x : List Nat × Chip) i => x.2.uplinkTurn d ((c.slot + i) % 8) x.1)
      ([], c.ingWaiting d)).2 := if_neg (by simp [plane, joined, runs])

/-! ### ENVELOPE_LAND_CORE (R206, R214) -/

/-- Uplink (d, k) with the envelopes t left on it. -/
def Chip.upLeft (c : Chip) (d k : Nat) (t : List Env) : Chip :=
  c.modSw (fun w => { w with up := SMap.set (fun _ => []) w.up (d * 8 + k) t })

/-- What becomes of an envelope of port die d that has come off the uplink to core die k. -/
def Chip.landCoreEnv (c : Chip) (d k : Nat) (e : Env) : Chip :=
  if c.isolated (32 + k) then c
  else if e.spill then c.spillPark k e
  else if e.dst = 32 + k then c.landLocal k e
  else if c.isolated e.dst ∨ c.tileFb (32 + k) e.dst ∨ c.tileFb (32 + k) d then
    ((c.incSat (R.XBR_DROP (32 + k)) F.XBR_DROP_ENVELOPES 1).pmcDrop (32 + k) e.cells.length).envCreditDue d k e.dst
  else c.xqPush k d e.dst e

/-- The first envelope of the uplink lands. -/
theorem Chip.landCore_first {e : Env} {t : List Env} (first : SMap.get (fun _ => []) c.sw.up (d * 8 + k) = e :: t) :
    c.landCore d k = (c.upLeft d k t).landCoreEnv d k e := by
  rw [Chip.landCore, first]
  rfl

section
variable {e : Env}

theorem Chip.landCoreEnv_isolated (iso : c.isolated (32 + k) = true) : c.landCoreEnv d k e = c := if_pos iso

section
variable (joined : c.isolated (32 + k) = false)
include joined

theorem Chip.landCoreEnv_spill (spill : e.spill = true) : c.landCoreEnv d k e = c.spillPark k e := by
  rw [Chip.landCoreEnv, joined, if_neg Bool.false_ne_true, if_pos spill]

section
variable (plain : e.spill = false)
include plain

theorem Chip.landCoreEnv_here (here : e.dst = 32 + k) : c.landCoreEnv d k e = c.landLocal k e := by
  rw [Chip.landCoreEnv, joined, plain, if_neg Bool.false_ne_true, if_neg Bool.false_ne_true, if_pos here]

/-- An envelope for another die is dropped, its credit due, when that die is isolated or a firebreak stands at either crossbar port. -/
theorem Chip.landCoreEnv_on (on : e.dst ≠ 32 + k) : c.landCoreEnv d k e =
    if c.isolated e.dst ∨ c.tileFb (32 + k) e.dst ∨ c.tileFb (32 + k) d then
      ((c.incSat (R.XBR_DROP (32 + k)) F.XBR_DROP_ENVELOPES 1).pmcDrop (32 + k) e.cells.length).envCreditDue d k e.dst
    else c.xqPush k d e.dst e := by
  rw [Chip.landCoreEnv, joined, plain, if_neg Bool.false_ne_true, if_neg Bool.false_ne_true, if_neg on]

end

end

end

/-! ### CROSSBAR_ARBITRATE (R207) -/

/-- An isolated core die switches nothing. -/
theorem Chip.arbitrate_isolated (iso : c.isolated (32 + k) = true) : c.arbitrate k = c := if_pos (by simp [iso])

/-! ### ENVELOPE_LAND_EGRESS (R209, R216, R229) -/

/-- Downlink (k, d) with the envelopes t left on it. -/
def Chip.downLeft (c : Chip) (d k : Nat) (t : List Env) : Chip :=
  c.modSw (fun w => { w with down := SMap.set (fun _ => []) w.down (k * 32 + d) t })

/-- The placements of an envelope's cells at port die d, and the chip with the misses among them counted. -/
def Chip.envGathered (c : Chip) (d : Nat) (e : Env) : List Place1 × Chip := c.gatherPlaces d e.cells

/-- The cells of an envelope that wait once their placement was tried behind the landing slots of die d, and the chip then. -/
def Chip.envPlaced (c : Chip) (d : Nat) (e : Env) : List Place1 × Chip :=
  (c.envGathered d e).2.placeSlot d ((c.envGathered d e).2.landSlots d) [] (c.envGathered d e).1

/-- What becomes of an envelope of core die k that has come off the downlink to port die d. -/
def Chip.landEgressEnv (c : Chip) (d k : Nat) (e : Env) : Chip :=
  if c.isolated d || !c.planeRuns d then c
  else if (c.envPlaced d e).1.isEmpty then (c.envPlaced d e).2.landCreditDue k d
  else (c.envPlaced d e).2.setLandSlots d ((c.envGathered d e).2.landSlots d ++ [⟨k, (c.envPlaced d e).1⟩])

/-- The first envelope of the downlink lands. -/
theorem Chip.landEgress_first {e : Env} {t : List Env} (first : SMap.get (fun _ => []) c.sw.down (k * 32 + d) = e :: t) :
    c.landEgress d k = (c.downLeft d k t).landEgressEnv d k e := by
  rw [Chip.landEgress, first]
  rfl

section
variable {e : Env}

theorem Chip.landEgressEnv_isolated (iso : c.isolated d = true) : c.landEgressEnv d k e = c := if_pos (by simp [iso])

section
variable (joined : c.isolated d = false) (plane : c.planeRuns d = true)
include joined plane

/-- On a running die with every cell placed the landing credit falls due. -/
theorem Chip.landEgressEnv_placed (placed : (c.envPlaced d e).1 = []) :
    c.landEgressEnv d k e = (c.envPlaced d e).2.landCreditDue k d := by
  rw [Chip.landEgressEnv, if_neg (by simp [joined, plane]), if_pos (by rw [placed]; rfl)]

/-- The cells not placed wait in a landing slot, the last of the die. -/
theorem Chip.landEgressEnv_waits (left : (c.envPlaced d e).1 ≠ []) :
    c.landEgressEnv d k e =
      (c.envPlaced d e).2.setLandSlots d ((c.envGathered d e).2.landSlots d ++ [⟨k, (c.envPlaced d e).1⟩]) := by
  rw [Chip.landEgressEnv, if_neg (by simp [joined, plane]), if_neg (by simpa using left)]

end

end

/-! ### ENV_CREDIT_RETURN (R200) -/

/-- A number read of a map after n was taken from it at the same key. -/
@[simp] theorem sget_ssub_same (m : SMap Nat) (j n : Nat) : sget (ssub m j n) j = sget m j - n := SMap.get_set_same ..

/-- A number read of a map after n was added to it at the same key. -/
@[simp] theorem sget_sadd_same (m : SMap Nat) (j n : Nat) : sget (sadd m j n) j = sget m j + n := SMap.get_set_same ..

/-- With no credit due none is returned. -/
theorem Chip.envCreditReturn_none {e : Nat} (idle : sget c.sw.envReturn (pairKey d k e) = 0) : c.envCreditReturn d k e = c := if_pos idle

/-- A returned credit only moves counts of credits. -/
theorem Chip.envCreditReturn_frame (e : Nat) : (c.envCreditReturn d k e).integ = c.integ ∧ (c.envCreditReturn d k e).regs = c.regs := by
  rw [Chip.envCreditReturn]
  split
  · exact ⟨rfl, rfl⟩
  · exact ⟨rfl, rfl⟩

/-- A credit that is due is due no longer, and is spent no longer; while returns are withheld for the pair it is withheld. -/
theorem Chip.envCreditReturn_counts {e : Nat} (due : sget c.sw.envReturn (pairKey d k e) ≠ 0) :
    sget (c.envCreditReturn d k e).sw.envReturn (pairKey d k e) = sget c.sw.envReturn (pairKey d k e) - 1 ∧
    sget (c.envCreditReturn d k e).sw.envSpent (pairKey d k e) = sget c.sw.envSpent (pairKey d k e) - 1 ∧
    (c.envCreditReturn d k e).sw.envLowered = c.sw.envLowered ∧
    sget (c.envCreditReturn d k e).sw.envWithheld (pairKey d k e) = sget c.sw.envWithheld (pairKey d k e) +
      (if sget c.sw.envWithheld (pairKey d k e) < sget c.sw.envLowered k then 1 else 0) := by
  rw [Chip.envCreditReturn, if_neg due, Chip.modSw_sw]
  dsimp only
  split
  · exact ⟨sget_ssub_same .., sget_ssub_same .., rfl, by simp only [sget_sadd_same]⟩
  · exact ⟨sget_ssub_same .., sget_ssub_same .., rfl, rfl⟩

/-- A return adds a credit to those the port die holds, unless it is withheld. -/
theorem Chip.envCreditReturn_envHeld {e : Nat} (due : sget c.sw.envReturn (pairKey d k e) ≠ 0)
    (spent : 0 < sget c.sw.envSpent (pairKey d k e)) :
    (c.envCreditReturn d k e).envHeld d k e =
      if sget c.sw.envWithheld (pairKey d k e) < sget c.sw.envLowered k then c.envHeld d k e else c.envHeld d k e + 1 := by
  obtain ⟨-, less, lowered, withheld⟩ := c.envCreditReturn_counts due
  have cfg (a : Nat) (f : Fld) : (c.envCreditReturn d k e).get a f = c.get a f := by
    rw [Chip.get, Chip.rd, (c.envCreditReturn_frame e).2, Chip.get, Chip.rd]
  simp only [Chip.envHeld, cfg, lowered, less, withheld]
  split
  · omega
  · omega

/-! ### LANDING_CREDIT_RETURN (R201) -/

/-- With no credit due none is returned. -/
theorem Chip.landCreditReturn_none (idle : sget c.sw.landReturn (k * 32 + d) = 0) : c.landCreditReturn d k = c := if_pos idle

/-- A credit that is due is due no longer, and is spent no longer. -/
theorem Chip.landCreditReturn_due (due : sget c.sw.landReturn (k * 32 + d) ≠ 0) :
    c.landCreditReturn d k = c.modSw (fun w =>
      { w with landReturn := ssub w.landReturn (k * 32 + d) 1, landSpent := ssub w.landSpent (k * 32 + d) 1 }) := if_neg due

/-- A return of a credit that was spent adds it to those the core die holds. -/
theorem Chip.landCreditReturn_landHeld (due : sget c.sw.landReturn (k * 32 + d) ≠ 0) (all : sget c.sw.landSpent (k * 32 + d) ≤ 32)
    (spent : 0 < sget c.sw.landSpent (k * 32 + d)) : (c.landCreditReturn d k).landHeld k d = c.landHeld k d + 1 := by
  simp only [Chip.landHeld, c.landCreditReturn_due due, Chip.modSw_sw, sget_ssub_same]
  omega

end

/-- Settling keeps the credits a port die holds. -/
theorem State.settled_envHeld (s : State) (v : Chip) (due : v.integ.due = []) (d k e : Nat) :
    (s.settled v).envHeld d k e = v.envHeld d k e := by
  simp only [Chip.envHeld, State.settled_get s v due, State.settled_sw s v due]

end Sys2Proof.Machine

open Sys2Proof Sys2Proof.Machine

/-- Settles O42: each event by its first case that applies; a return moves counts of credits alone, which settling keeps. -/
theorem envelopesCrossTheChip : Obligations.EnvelopesCrossTheChip := by
  unfold Obligations.EnvelopesCrossTheChip
  intro s
  refine ⟨fun d => ⟨fun iso => ?_, fun plane joined runs => ?_⟩,
    fun d k e t first => ⟨fun iso => ?_, fun joined spill => ?_, fun joined plain here => ?_, fun joined plain on iso => ?_,
      fun joined plain on up fbOut fbIn => ?_⟩,
    fun k => ⟨fun iso => ?_, fun plane joined runs => ?_⟩,
    fun d k e t first => ⟨fun iso => ?_, fun joined plane => ⟨fun placed => ?_, fun left => ?_⟩⟩,
    fun d => ⟨?_, fun empty => ?_⟩,
    fun d k e => ⟨fun idle => ?_, fun hcalm due spent => ?_⟩,
    fun d k => ⟨fun idle => ?_, fun hcalm due all spent => ?_⟩⟩
  · rw [exec_uplinkSchedule, Chip.uplinkSchedule_isolated _ iso]
  · rw [exec_uplinkSchedule, Chip.uplinkSchedule_runs _ plane joined runs]
    rfl
  · rw [exec_envelopeLandCore, Chip.landCore_first _ first, Chip.landCoreEnv_isolated (s.chip.upLeft d k t) iso, Chip.upLeft]
  · rw [exec_envelopeLandCore, Chip.landCore_first _ first, Chip.landCoreEnv_spill (s.chip.upLeft d k t) joined spill, Chip.upLeft]
  · rw [exec_envelopeLandCore, Chip.landCore_first _ first, Chip.landCoreEnv_here (s.chip.upLeft d k t) joined plain here, Chip.upLeft]
  · rw [exec_envelopeLandCore, Chip.landCore_first _ first, Chip.landCoreEnv_on (s.chip.upLeft d k t) joined plain on,
      if_pos (.inl iso), Chip.upLeft]
  · have passes : ¬ ((s.chip.upLeft d k t).isolated e.dst = true ∨ (s.chip.upLeft d k t).tileFb (32 + k) e.dst = true ∨
        (s.chip.upLeft d k t).tileFb (32 + k) d = true) := by
      simp only [Chip.upLeft, up, fbOut, fbIn, Bool.false_eq_true, or_self, not_false_eq_true]
    rw [exec_envelopeLandCore, Chip.landCore_first _ first, Chip.landCoreEnv_on (s.chip.upLeft d k t) joined plain on, if_neg passes,
      Chip.upLeft]
  · rw [exec_crossbarArbitrate, Chip.arbitrate_isolated _ iso]
  · obtain ⟨m, outputs, inputs, requested, g, a, switched⟩ := Chip.arbitrate_matches s.chip k plane joined runs
    exact ⟨m, outputs, inputs, requested, g, a, by rw [exec_crossbarArbitrate, switched]⟩
  · rw [exec_envelopeLandEgress, Chip.landEgress_first _ first, Chip.landEgressEnv_isolated (s.chip.downLeft d k t) iso, Chip.downLeft]
  · rw [exec_envelopeLandEgress, Chip.landEgress_first _ first, Chip.landEgressEnv_placed (s.chip.downLeft d k t) joined plane placed,
      Chip.envPlaced, Chip.envGathered, Chip.downLeft]
  · rw [exec_envelopeLandEgress, Chip.landEgress_first _ first, Chip.landEgressEnv_waits (s.chip.downLeft d k t) joined plane left,
      Chip.envPlaced, Chip.envGathered, Chip.downLeft]
  · rw [exec_stalledCellPlace, Chip.placeStalled]
  · rw [empty, Chip.placeAll]
  · rw [exec_envCreditReturn, Chip.envCreditReturn_none _ idle]
  · obtain ⟨integ, regs⟩ := Chip.envCreditReturn_frame s.chip (d := d) (k := k) e
    have quiet : (s.chip.envCreditReturn d k e).integ.due = [] := by rw [integ, State.calm_due s hcalm]
    refine ⟨_, exec_envCreditReturn d k e s, ?_⟩
    simp only [State.after_chip, State.settled_sw s _ quiet, State.settled_envHeld s _ quiet, State.settled_rd s _ quiet]
    exact ⟨(Chip.envCreditReturn_counts _ due).1, Chip.envCreditReturn_envHeld _ due spent, fun a => by rw [Chip.rd, regs, Chip.rd]⟩
  · rw [exec_landingCreditReturn, Chip.landCreditReturn_none _ idle]
  · have returned := Chip.landCreditReturn_due s.chip due
    have quiet : (s.chip.landCreditReturn d k).integ.due = [] := by rw [returned, Chip.modSw_integ, State.calm_due s hcalm]
    refine ⟨_, exec_landingCreditReturn d k s, ?_⟩
    simp only [State.after_chip, Chip.landHeld, State.settled_sw s _ quiet, State.settled_rd s _ quiet]
    refine ⟨Chip.landCreditReturn_landHeld _ due all spent, ?_, fun a => ?_⟩
    · rw [returned, Chip.modSw_sw, sget_ssub_same]
    · rw [returned, Chip.modSw_rd]

end

section
/-!
PROOFS. The management core die and what the uplink scheduler may take for it (R188, R189, R202).
-/

namespace Sys2Proof.Machine

/-- The eligible cells of a queue numbered from i: each stands in the queue at its place less i, eligible with its age. -/
theorem mem_voqCands {key : Nat} {x : Cand} {q : List VoqEnt} {i : Nat} : x ∈ voqCands key i q ↔
    ∃ j, x.key = key ∧ x.pos = i + j ∧ q[j]? = some x.ent ∧ x.ent.eligible = some x.age := by
  induction q generalizing i with
  | nil => simp [voqCands]
  | cons y t ih =>
    have tail : x ∈ voqCands key (i + 1) t ↔
        ∃ j, x.key = key ∧ x.pos = i + (j + 1) ∧ (y :: t)[j + 1]? = some x.ent ∧ x.ent.eligible = some x.age := by
      simp only [ih, List.getElem?_cons_succ, Nat.add_assoc, Nat.add_comm 1]
    rw [← Nat.or_exists_add_one, ← tail, voqCands]
    cases eligible : y.eligible with
    | none =>
      have absent : ¬ (x.key = key ∧ x.pos = i + 0 ∧ (y :: t)[0]? = some x.ent ∧ x.ent.eligible = some x.age) := by
        rintro ⟨-, -, head, age⟩
        rw [← Option.some.inj head, eligible] at age
        cases age
      exact (or_iff_right absent).symm
    | some a =>
      have head : x = ⟨key, i, a, y⟩ ↔ x.key = key ∧ x.pos = i + 0 ∧ (y :: t)[0]? = some x.ent ∧ x.ent.eligible = some x.age := by
        constructor
        · rintro rfl
          exact ⟨rfl, rfl, rfl, eligible⟩
        · rintro ⟨rfl, pos, ent, age⟩
          obtain rfl : y = x.ent := Option.some.inj ent
          obtain rfl : a = x.age := Option.some.inj (eligible.symm.trans age)
          rw [← Nat.add_zero i, ← pos]
      rw [List.mem_cons, head]

section
variable (c : Chip) {d k : Nat}

/-- What the scheduler may take for uplink k: the eligible cells of the die's queues for a die that runs, is not isolated and does not hold
their class, whose class may cross that uplink. -/
theorem Chip.mem_candsFor {x : Cand} : x ∈ c.candsFor d k ↔ ∃ v ∈ c.dieVoqs d,
    (c.dieRuns (voqDest v.1) = true ∧ c.isolated (voqDest v.1) = false ∧ c.heldAt d (voqDest v.1) (voqClass v.1) = false ∧
      c.mayCross d k (voqDest v.1) (voqClass v.1) = true) ∧ x ∈ voqCands v.1 0 v.2 := by
  rw [Chip.candsFor, List.mem_flatMap]
  refine exists_congr (fun v => and_congr_right (fun _ => ?_))
  dsimp only
  split
  · next open_ =>
    simp only [Bool.and_eq_true, Bool.not_eq_true'] at open_
    obtain ⟨⟨⟨runs, joined⟩, free⟩, crosses⟩ := open_
    exact (and_iff_right ⟨runs, joined, free, crosses⟩).symm
  · next shut =>
    refine iff_of_false List.not_mem_nil (fun ⟨⟨runs, joined, free, crosses⟩, _⟩ => shut ?_)
    rw [runs, joined, free, crosses]
    rfl

/-- Class 7 for a port die crosses the uplink to the management core die alone, while the path over it is open. -/
theorem Chip.mayCross_tc7 {e : Nat} (port : e < 32) :
    c.mayCross d k e 7 = true ↔ c.pathOpen d k e = true ∧ c.mgmtCore = k := by
  simp [Chip.mayCross, Nat.not_le.2 port]

end

end Sys2Proof.Machine

open Sys2Proof Sys2Proof.Machine

/-- Settles O58: class 7 crosses one uplink only, and a queue's eligible cells are what the scheduler may take of it. -/
theorem oneCoreDieCarriesTC7 : Obligations.OneCoreDieCarriesTC7 := by
  unfold Obligations.OneCoreDieCarriesTC7
  refine fun s => ⟨⟨fun up => ?_, fun down => ?_⟩, fun d k x taken cls port => ?_,
    fun d v i e age waits stands eligible cls port runs joined free path => ?_⟩
  · rw [Chip.mgmtCore, up, if_neg Bool.false_ne_true]
  · rw [Chip.mgmtCore, if_pos down]
  · obtain ⟨v, -, ⟨-, -, -, crosses⟩, cand⟩ := (Chip.mem_candsFor _).1 taken
    obtain ⟨-, key, -⟩ := mem_voqCands.1 cand
    rw [Cand.cls, key] at cls
    rw [Cand.dest, key] at port
    rw [cls, Chip.mayCross_tc7 _ port] at crosses
    exact crosses.2.symm
  · refine (Chip.mem_candsFor _).2 ⟨v, waits, ⟨runs, joined, ?_, ?_⟩, mem_voqCands.2 ⟨i, rfl, (Nat.zero_add i).symm, stands, eligible⟩⟩
    · rw [cls, free]
    · rw [cls, Chip.mayCross_tc7 _ port]
      exact ⟨path, rfl⟩

end

section
/-!
PROOFS. Hold masks (R227) and spill pools (R235 to R237): sampling, relaying and applying; unparking, expiry and the window's notice.
-/

namespace Sys2Proof.Machine

section
variable (c : Chip) {d k e cls : Nat}

/-! ### HOLD_MASK_SAMPLE (R227) -/

/-- The slots at or above PRESSURE of the blocks of die d counted. -/
def Chip.pressureCounted (c : Chip) (d : Nat) : Chip :=
  (List.range 8).foldl (fun s b => if 2 ≤ s.level d b then s.pmcEvent d 0x031 (some b) none 1 else s) c

/-- Counting changes a performance counter only. -/
theorem Chip.pressureCounted_frame : (c.pressureCounted d).sw = c.sw ∧ (c.pressureCounted d).integ = c.integ := by
  refine List.foldlRecOn (motive := fun v : Chip => v.sw = c.sw ∧ v.integ = c.integ) _ _ ⟨rfl, rfl⟩ (fun v kept b _ => ?_)
  split
  · exact kept
  · exact kept

/-- An isolated die sends no mask. -/
theorem Chip.holdSample_isolated (iso : c.isolated d = true) : c.holdSample d = c := if_pos (by simp [iso])

section
variable (joined : c.isolated d = false) (plane : c.planeRuns d = true)
include joined plane

/-- A running die that is not isolated counts its pressure and sends its mask over each link. -/
theorem Chip.holdSample_runs : c.holdSample d = (c.pressureCounted d).modSw (fun w => (List.range 8).foldl (fun w k =>
    if c.d2dDown d k || c.isolated (32 + k) then w else { w with holdSample := sset w.holdSample (k * 32 + d) (c.holdMask d) }) w) :=
  if_neg (by simp [joined, plane])

/-- Sampling raises no trigger. -/
theorem Chip.holdSample_integ : (c.holdSample d).integ = c.integ := by
  rw [c.holdSample_runs joined plane, Chip.modSw_integ, c.pressureCounted_frame.2]

/-- Core die k has the mask of die d, unless the link between them is down or it is isolated: then it keeps what it had. -/
theorem Chip.sget_holdSample (core : k < 8) : sget (c.holdSample d).sw.holdSample (k * 32 + d) =
    if c.d2dDown d k = true ∨ c.isolated (32 + k) = true then sget c.sw.holdSample (k * 32 + d) else c.holdMask d := by
  rw [c.holdSample_runs joined plane, Chip.modSw_sw, c.pressureCounted_frame.1, holdSample_key]
  simp only [List.mem_range, core, true_and, Bool.or_eq_true, ite_not]

end

/-! ### HOLD_MASK_APPLY (R227) -/

/-- Port die d applies the mask of port die e that has arrived, and keeps the one it had otherwise; none is left to apply. -/
theorem Chip.holdApply_mask (port : e < 32) :
    SMap.get (fun _ => none) (c.holdApply d).sw.holdRelay (d * 32 + e) = none ∧
    sget (c.holdApply d).sw.holdApplied (d * 32 + e) =
      (SMap.get (fun _ => none) c.sw.holdRelay (d * 32 + e)).getD (sget c.sw.holdApplied (d * 32 + e)) := by
  have applied := holdApply_key d (List.range 32) c.sw e
  simp only [List.mem_range.2 port, if_true] at applied
  exact applied

/-! ### HOLD_MASK_RELAY (R227) -/

/-- An isolated core die relays nothing. -/
theorem Chip.holdRelay_isolated (iso : c.isolated (32 + k) = true) : c.holdRelay k = c := if_pos (by simp [iso])

/-- The port dies whose masks core die k relays in the present slot: the four of the slot whose links to it are up. -/
def Chip.relaySrcs (c : Chip) (k : Nat) : List Nat :=
  ((List.range 4).map (fun i => 4 * (c.slot % 8) + i)).filter (fun e => !c.d2dDown e k)

/-- The port dies core die k relays to: those that are not isolated, over links that are up. -/
def Chip.relayDsts (c : Chip) (k : Nat) : List Nat := (List.range 32).filter (fun d => !c.d2dDown d k && !c.isolated d)

theorem Chip.mem_relaySrcs : e ∈ c.relaySrcs k ↔ e / 4 = c.slot % 8 ∧ c.d2dDown e k = false := by
  have quarter : (∃ i < 4, 4 * (c.slot % 8) + i = e) ↔ e / 4 = c.slot % 8 :=
    ⟨fun ⟨i, small, sum⟩ => by omega, fun turn => ⟨e % 4, by omega, by omega⟩⟩
  rw [Chip.relaySrcs, List.mem_filter, List.mem_map, Bool.not_eq_true']
  simp only [List.mem_range, quarter]

theorem Chip.mem_relayDsts : d ∈ c.relayDsts k ↔ d < 32 ∧ c.d2dDown d k = false ∧ c.isolated d = false := by
  rw [Chip.relayDsts, List.mem_filter, List.mem_range, Bool.and_eq_true, Bool.not_eq_true', Bool.not_eq_true']

section
variable (joined : c.isolated (32 + k) = false) (plane : c.planeRuns (32 + k) = true)
include joined plane

/-- A running core die that is not isolated sends each mask of the slot on each downlink. -/
theorem Chip.holdRelay_runs : c.holdRelay k = c.modSw (fun w => (c.relayDsts k).foldl (fun w d => (c.relaySrcs k).foldl (fun w e =>
    { w with holdRelay := SMap.set (fun _ => none) w.holdRelay (d * 32 + e) (some (sget c.sw.holdSample (k * 32 + e))) }) w) w) :=
  if_neg (by simp [joined, plane])

/-- Port die d gets the sample of each source of the slot when it is a destination, and nothing else. -/
theorem Chip.get_holdRelay (dst : d < 32) (src : e < 32) : SMap.get (fun _ => none) (c.holdRelay k).sw.holdRelay (d * 32 + e) =
    if e / 4 = c.slot % 8 ∧ c.d2dDown e k = false ∧ c.d2dDown d k = false ∧ c.isolated d = false
    then some (sget c.sw.holdSample (k * 32 + e)) else SMap.get (fun _ => none) c.sw.holdRelay (d * 32 + e) := by
  have ports : ∀ e ∈ c.relaySrcs k, e < 32 := fun e relayed => by
    obtain ⟨turn, -⟩ := c.mem_relaySrcs.1 relayed
    omega
  have sent : (d ∈ c.relayDsts k ∧ e ∈ c.relaySrcs k) ↔
      e / 4 = c.slot % 8 ∧ c.d2dDown e k = false ∧ c.d2dDown d k = false ∧ c.isolated d = false := by
    rw [c.mem_relaySrcs, c.mem_relayDsts, and_iff_right dst, and_comm, and_assoc]
  rw [c.holdRelay_runs joined plane, Chip.modSw_sw, holdRelay_fold (fun e => sget c.sw.holdSample (k * 32 + e)) _ ports _ _ _ _ src]
  simp only [sent]

end

/-! ### SPILL_UNPARK (R235, R236) -/

/-- At most n cells are taken. -/
theorem Chip.unparkCells_length (k e n : Nat) : (c.unparkCells k e n).1.length ≤ n := by
  induction n generalizing c with
  | zero => exact Nat.le_refl 0
  | succ n ih =>
    rw [Chip.unparkCells]
    dsimp only
    split
    · exact Nat.zero_le _
    · exact Nat.succ_le_succ (ih _)

/-- Without a landing credit nothing is unparked. -/
theorem Chip.spillUnpark_broke (broke : c.landHeld k e = 0) : c.spillUnpark k e = c := if_pos (.inl broke)

/-- With a credit, for a die that may be reached, the oldest cells go out in one envelope, if there are any. -/
theorem Chip.spillUnpark_open (credit : c.landHeld k e ≠ 0) (joined : c.isolated e = false) (core : c.isolated (32 + k) = false)
    (fb : c.tileFb (32 + k) e = false) : c.spillUnpark k e =
      if (c.unparkCells k e 12).1 = [] then c
      else ((c.unparkCells k e 12).2.hbmRead k (64 * (c.unparkCells k e 12).1.length)).xqPush k 32 e
        { src := 32 + k, dst := e, seq := 0, cells := (c.unparkCells k e 12).1, spill := false } := by
  rw [Chip.spillUnpark, if_neg (by simp [credit, joined, core, fb])]
  simp only [List.isEmpty_iff]

/-! ### SPILL_LIFETIME_EXPIRY and SPILL_EXPIRY_WINDOW_END (R237) -/

/-- In a FIFO that holds nothing nothing expires. -/
theorem Chip.spillExpire_empty (empty : c.parked k e cls = []) : c.spillExpire k e cls = c := by
  rw [Chip.spillExpire, empty]

/-- The FIFO (e, cls) of core die k with the cells t left, one cell expired and counted as a drop. -/
def Chip.headExpired (c : Chip) (k e cls : Nat) (t : List Parked) : Chip :=
  (((c.setParked (parkKey k e cls) t).setSpillOcc k (c.spillOcc k - 1)).incSat (R.BUF_SPILL_EXPIRED (32 + k))
    F.BUF_SPILL_EXPIRED_CELLS 1).pmcDrop (32 + k) 1

/-- The head of a FIFO expires, and the window counts it. -/
theorem Chip.spillExpire_head {h : Parked} {t : List Parked} (cells : c.parked k e cls = h :: t) :
    c.spillExpire k e cls = (c.headExpired k e cls t).modSw (fun w =>
      { w with expiredFirst := if sget w.expiredWin k = 0 then sset w.expiredFirst k (e + cls * 64) else w.expiredFirst,
               expiredWin := sadd w.expiredWin k 1 }) := by
  rw [Chip.spillExpire, cells]
  rfl

/-- A window without expiries ends silently. -/
theorem Chip.spillWindowEnd_quiet (quiet : sget c.sw.expiredWin k = 0) : c.spillWindowEnd k = c := if_pos quiet

/-- A window with expiries posts their number and the first, and a new window begins. -/
theorem Chip.spillWindowEnd_posts (counted : sget c.sw.expiredWin k ≠ 0) : c.spillWindowEnd k =
    (c.post (32 + k) 0x09 1 (32 + k) 3 0 0 (sget c.sw.expiredWin k % 2 ^ 32 + sget c.sw.expiredFirst k % 64 * 2 ^ 32 +
      sget c.sw.expiredFirst k / 64 * 2 ^ 38)).modSw
      (fun w => { w with expiredWin := sset w.expiredWin k 0, expiredFirst := sset w.expiredFirst k 0 }) := if_neg counted

end

end Sys2Proof.Machine

open Sys2Proof Sys2Proof.Machine

/-- Settles O43: masks by what each event leaves at a pair of dies, which settling keeps; spill pools by whether they hold cells. -/
theorem holdMasksAndSpillPools : Obligations.HoldMasksAndSpillPools := by
  unfold Obligations.HoldMasksAndSpillPools
  intro s
  refine ⟨fun d => ⟨fun iso => ?_, fun hcalm joined plane => ?_⟩, fun d hcalm => ?_,
    fun k => ⟨fun iso => ?_, fun hcalm joined plane => ?_⟩,
    fun k e => ⟨fun broke => ?_, fun credit joined core fb => ⟨fun nothing => ?_, fun taken => ⟨Chip.unparkCells_length .., ?_⟩⟩⟩,
    fun k e cls => ⟨fun empty => ?_, fun h t cells => ?_⟩,
    fun k => ⟨fun quiet => ?_, fun counted => ?_⟩⟩
  · rw [exec_holdMaskSample, Chip.holdSample_isolated _ iso]
  · have calm : (s.chip.holdSample d).integ.due = [] := by rw [Chip.holdSample_integ _ joined plane, State.calm_due s hcalm]
    refine ⟨_, exec_holdMaskSample d s, fun k => ?_⟩
    rw [State.after_chip, State.settled_sw s _ calm, Chip.sget_holdSample _ joined plane k.isLt]
  · have calm : (s.chip.holdApply d).integ.due = [] := by rw [Chip.holdApply, Chip.modSw_integ, State.calm_due s hcalm]
    refine ⟨_, exec_holdMaskApply d s, fun e => ?_⟩
    rw [State.after_chip, State.settled_sw s _ calm]
    exact Chip.holdApply_mask _ e.isLt
  · rw [exec_holdMaskRelay, Chip.holdRelay_isolated _ iso]
  · have calm : (s.chip.holdRelay k).integ.due = [] := by
      rw [Chip.holdRelay_runs _ joined plane, Chip.modSw_integ, State.calm_due s hcalm]
    refine ⟨_, exec_holdMaskRelay k s, fun d e => ?_⟩
    rw [State.after_chip, State.settled_sw s _ calm, Chip.get_holdRelay _ joined plane d.isLt e.isLt]
  · rw [exec_spillUnpark, Chip.spillUnpark_broke _ broke]
  · rw [exec_spillUnpark, Chip.spillUnpark_open _ credit joined core fb, if_pos nothing]
  · rw [exec_spillUnpark, Chip.spillUnpark_open _ credit joined core fb, if_neg taken]
  · rw [exec_spillLifetimeExpiry, Chip.spillExpire_empty _ empty]
  · rw [exec_spillLifetimeExpiry, Chip.spillExpire_head _ cells, Chip.headExpired]
  · rw [exec_spillExpiryWindowEnd, Chip.spillWindowEnd_quiet _ quiet]
  · rw [exec_spillExpiryWindowEnd, Chip.spillWindowEnd_posts _ counted]

end

section
/-!
PROOFS. Table scrubs (R277), leak audits (R239 to R241) and HBM scrubs (R482): what is asked of the ledger, and what an end does.
-/

namespace Sys2Proof.Machine

section
variable (c : Chip) {d p k : Nat}

/-! ### TABLE_SCRUB_DUE and TABLE_SCRUB_DONE (R277) -/

/-- A scrub in the ledger is not asked for again. -/
theorem Chip.tableScrubDue_stands (stands : (c.hasEntry d isTableScrub).isSome = true) : c.tableScrubDue d = c := if_pos stands

theorem Chip.tableScrubDue_asks (new : c.hasEntry d isTableScrub = none) : c.tableScrubDue d = c.ledgerRequest d .tableScrub :=
  if_neg (by simp [new])

/-- The corrected errors of die d added and its bad entries invalidated. -/
def Chip.tableErrors (c : Chip) (d corr : Nat) (bad : List (Nat × Nat)) : Chip :=
  bad.foldl (fun s x => s.tableEntryBad d x.1 x.2) (c.incSat (R.TBL_SCRUB_STAT d) F.TBL_SCRUB_STAT_CORR corr)

/-- Every listed flow of die d scrubbed. -/
def Chip.flowsScrubbed (c : Chip) (d : Nat) : Chip := (listedIdx c.tb.flow d).foldl (fun s i => s.scrubFlow d i) c

/-- Every listed multicast entry of die d scrubbed. -/
def Chip.mcsScrubbed (c : Chip) (d : Nat) : Chip := (listedIdx c.tb.mc d).foldl (fun s i => s.scrubMc d i) c

section
variable (corr : Nat) (bad : List (Nat × Nat))

theorem Chip.tableScrubDone_idle (idle : c.running d isTableScrub = false) : c.tableScrubDone d corr bad = c :=
  if_pos (by simp [idle])

/-- A running scrub treats errors, flows and multicast entries in this order, counts the tables and leaves the ledger. -/
theorem Chip.tableScrubDone_runs (runs : c.running d isTableScrub = true) : c.tableScrubDone d corr bad =
    ((((c.tableErrors d corr bad).flowsScrubbed d).mcsScrubbed d).countTables d).activityEnd d isTableScrub 0 corr :=
  if_neg (by simp [runs])

end

/-! ### LEAK_AUDIT_DUE and LEAK_AUDIT_DONE (R239 to R241) -/

/-- An audit in the ledger is not asked for again. -/
theorem Chip.leakAuditDue_stands (stands : (c.hasEntry d (isAudit p)).isSome = true) : c.leakAuditDue d p = c := if_pos stands

theorem Chip.leakAuditDue_asks (new : c.hasEntry d (isAudit p) = none) : c.leakAuditDue d p = c.ledgerRequest d (.audit p) :=
  if_neg (by simp [new])

/-- The leaked buffers of pool p of port die d reclaimed. -/
def Chip.leaksReclaimed (c : Chip) (d p : Nat) : Chip := (c.leaked d p).foldl (fun s n => s.reclaim d p n) c

/-- An audit of pool p of port die d with n leaks counted, the pool noted as the last. -/
def Chip.auditCounted (c : Chip) (d p n : Nat) : Chip :=
  ((c.incSat (R.BUF_AUDIT_STAT d) F.BUF_AUDIT_STAT_LEAKS n).set (R.BUF_AUDIT_STAT d) F.BUF_AUDIT_STAT_LAST p).incWrap
    (R.BUF_AUDIT_STAT d) F.BUF_AUDIT_STAT_RUNS 1

/-- Pool p of die d is under audit no longer. -/
def Chip.auditLeft (c : Chip) (d p : Nat) : Chip := c.setPool d p { c.pool d p with auditing := false }

theorem Chip.leakAuditDone_idle (linkBad : Bool) (idle : c.running d (isAudit p) = false) : c.leakAuditDone d p linkBad = c :=
  if_pos (by simp [idle])

section
variable (runs : c.running d (isAudit p) = true) (block : p < 8)
include runs block

/-- A bad link word of a block pool raises the block's trigger. -/
theorem Chip.leakAuditDone_linkBad : c.leakAuditDone d p true = c.fbDue ⟨2, d, p, 0x07⟩ := by
  rw [Chip.leakAuditDone, if_neg (by simp [runs]), if_pos ⟨rfl, block⟩]

/-- An audit of a block pool that ends reclaims what leaked, counts it and leaves the ledger. -/
theorem Chip.leakAuditDone_reclaims (port : d < 32) : c.leakAuditDone d p false =
    (((c.leaksReclaimed d p).auditCounted d p (c.leaked d p).length).auditLeft d p).activityEnd d (isAudit p) 0 (c.leaked d p).length := by
  rw [Chip.leakAuditDone, if_neg (by simp [runs]), if_neg (by simp)]
  simp only [if_pos block, if_pos port, Chip.leaksReclaimed, Chip.auditCounted, Chip.auditLeft]

end

/-! ### HBM_SCRUB_DUE and HBM_SCRUB_DONE (R482) -/

section
variable {stack : Nat}

/-- With scrubs disabled none is asked for. -/
theorem Chip.hbmScrubDue_disabled (off : c.flag (R.FLT_LDG_CFG (32 + k)) F.FLT_LDG_CFG_HSC_ENABLE = false) :
    c.hbmScrubDue k stack = c := if_pos (by simp [off])

theorem Chip.hbmScrubDue_asks (on : c.flag (R.FLT_LDG_CFG (32 + k)) F.FLT_LDG_CFG_HSC_ENABLE = true)
    (new : c.hasEntry (32 + k) (isHbmScrub stack) = none) :
    c.hbmScrubDue k stack = c.ledgerRequest (32 + k) (.hbmScrub stack) := if_neg (by simp [on, new])

variable (corr : Nat) (bad : List HbmBad)

/-- The corrected words of core die k added and each uncorrectable one treated. -/
def Chip.hbmErrors (c : Chip) (k corr : Nat) (bad : List HbmBad) : Chip :=
  bad.foldl (fun s w => s.hbmWord k w) (c.incSat (R.FLT_HSC_STAT (32 + k)) F.FLT_HSC_STAT_CORR corr)

theorem Chip.hbmScrubDone_idle (idle : c.running (32 + k) (isHbmScrub stack) = false) : c.hbmScrubDone k stack corr bad = c :=
  if_pos (by simp [idle])

/-- A running scrub treats the words and leaves the ledger. -/
theorem Chip.hbmScrubDone_runs (runs : c.running (32 + k) (isHbmScrub stack) = true) : c.hbmScrubDone k stack corr bad =
    (c.hbmErrors k corr bad).activityEnd (32 + k) (isHbmScrub stack) 0 corr := if_neg (by simp [runs])

end

end

end Sys2Proof.Machine

open Sys2Proof Sys2Proof.Machine

/-- Settles O46: a request by whether the ledger has the activity, an end by whether it runs. -/
theorem scrubsAndAuditsRun : Obligations.ScrubsAndAuditsRun := by
  unfold Obligations.ScrubsAndAuditsRun
  intro s
  refine ⟨fun d => ⟨fun stands => ?_, fun new => ?_⟩,
    fun d corr bad wf => ⟨fun idle => ?_, fun runs => ?_⟩,
    fun d p pool => ⟨fun stands => ?_, fun new => ?_⟩,
    fun d p bad pool => ⟨fun idle => ?_, fun runs block => ⟨?_, fun port => ?_⟩⟩,
    fun k st => ⟨fun off => ?_, fun on new => ?_, fun corr bad wf => ⟨fun idle => ?_, fun runs => ?_⟩⟩⟩
  · rw [exec_tableScrubDue, Chip.tableScrubDue_stands _ stands]
  · rw [exec_tableScrubDue, Chip.tableScrubDue_asks _ new]
  · rw [exec_tableScrubDone d corr bad s wf, Chip.tableScrubDone_idle _ corr bad idle]
  · rw [exec_tableScrubDone d corr bad s wf, Chip.tableScrubDone_runs _ corr bad runs, Chip.mcsScrubbed,
      Chip.flowsScrubbed, Chip.tableErrors]
  · rw [exec_leakAuditDue d p s pool, Chip.leakAuditDue_stands _ stands]
  · rw [exec_leakAuditDue d p s pool, Chip.leakAuditDue_asks _ new]
  · rw [exec_leakAuditDone d p bad s pool, Chip.leakAuditDone_idle _ bad idle]
  · rw [exec_leakAuditDone d p true s pool, Chip.leakAuditDone_linkBad _ runs block]
  · rw [exec_leakAuditDone d p false s pool, Chip.leakAuditDone_reclaims _ runs block port, Chip.auditLeft, Chip.auditCounted,
      Chip.leaksReclaimed]
  · rw [exec_hbmScrubDue, Chip.hbmScrubDue_disabled _ off]
  · rw [exec_hbmScrubDue, Chip.hbmScrubDue_asks _ on new]
  · rw [exec_hbmScrubDone k st corr bad s wf, Chip.hbmScrubDone_idle _ corr bad idle]
  · rw [exec_hbmScrubDone k st corr bad s wf, Chip.hbmScrubDone_runs _ corr bad runs, Chip.hbmErrors]

end

section
/-!
PROOFS. Bells (R265, R266, R406, R407, R409, R410): what an arm and a cancel show, and what a bell that fires does.
-/

namespace Sys2Proof.Machine

section
variable (c : Chip) {d x i : Nat}

/-! ### BELL_ARM (R406) -/

/-- The device time that interface x of die d names. -/
def Chip.faceTime (c : Chip) (d x : Nat) : Nat := timeOf (c.faceSec d x) (c.faceNsec d x)

/-- The bell that interface x of die d names, owned by it. -/
def Chip.faceBell (c : Chip) (d x : Nat) : Bell :=
  ⟨c.faceTime d x, c.get (bellAct d x) F.TIM_BELL_ACT_C_ACTION, c.get (bellAct d x) F.TIM_BELL_ACT_C_ARG,
    c.get (if x = 0 then R.TIM_BELL_TAG_C d else R.TIM_BELL_TAG_M d) F.TIM_BELL_TAG_C_TAG,
    c.flag (bellAct d x) F.TIM_BELL_ACT_C_NOTIFY, c.flag (bellAct d x) F.TIM_BELL_ACT_C_TS, x⟩

/-- The checks of an arm in their order, over the bell its interface names. -/
theorem Chip.armOutcome_checks : c.armOutcome d x i =
    if 192 ≤ i then 9 else if (c.bell d i).isSome then 2 else if !c.timValid then 4 else if 1000000000 ≤ c.faceNsec d x then 8
    else if !c.bellActionOk d (c.faceBell d x).action (c.faceBell d x).arg then 5
    else if (c.faceBell d x).time < c.now + tuUs then 3 else 0 := rfl

/-- An internal bell cannot be armed. -/
theorem Chip.armOutcome_internal (high : 192 ≤ i) : c.armOutcome d x i = 9 := if_pos high

section
variable (low : i < 192)
include low

theorem Chip.armOutcome_busy (armed : (c.bell d i).isSome = true) : c.armOutcome d x i = 2 := by
  rw [Chip.armOutcome_checks, if_neg low.not_ge, if_pos armed]

section
variable (free : c.bell d i = none)
include free

theorem Chip.armOutcome_noTime (invalid : c.timValid = false) : c.armOutcome d x i = 4 := by
  rw [Chip.armOutcome_checks, if_neg low.not_ge, if_neg (by simp [free]), if_pos (by simp [invalid])]

section
variable (valid : c.timValid = true)
include valid

theorem Chip.armOutcome_badNsec (large : 1000000000 ≤ c.faceNsec d x) : c.armOutcome d x i = 8 := by
  rw [Chip.armOutcome_checks, if_neg low.not_ge, if_neg (by simp [free]), if_neg (by simp [valid]), if_pos large]

variable (nsec : c.faceNsec d x < 1000000000)
include nsec

/-- For a FREE bell, with device time valid and NSEC in range, the action and the time decide. -/
theorem Chip.armOutcome_named : c.armOutcome d x i =
    if !c.bellActionOk d (c.faceBell d x).action (c.faceBell d x).arg then 5
    else if (c.faceBell d x).time < c.now + tuUs then 3 else 0 := by
  rw [Chip.armOutcome_checks, if_neg low.not_ge, if_neg (by simp [free]), if_neg (by simp [valid]), if_neg nsec.not_ge]

theorem Chip.armOutcome_badAction (bad : c.bellActionOk d (c.faceBell d x).action (c.faceBell d x).arg = false) :
    c.armOutcome d x i = 5 := by
  rw [c.armOutcome_named low free valid nsec, if_pos (by simp [bad])]

variable (ok : c.bellActionOk d (c.faceBell d x).action (c.faceBell d x).arg = true)
include ok

theorem Chip.armOutcome_tooLate (late : (c.faceBell d x).time < c.now + tuUs) : c.armOutcome d x i = 3 := by
  rw [c.armOutcome_named low free valid nsec, if_neg (by simp [ok]), if_pos late]

theorem Chip.armOutcome_armed (ahead : c.now + tuUs ≤ (c.faceBell d x).time) : c.armOutcome d x i = 0 := by
  rw [c.armOutcome_named low free valid nsec, if_neg (by simp [ok]), if_neg ahead.not_gt]

end

end

end

/-- An arm with any outcome but ARMED only shows it. -/
theorem Chip.bellArm_refused {r : Nat} (outcome : c.armOutcome d x i = r) (refused : r ≠ 0) : c.bellArm d x i = c.setBellStatus d x r := by
  subst outcome
  exact if_pos refused

/-- An arm with outcome ARMED sets the bell its interface names. -/
theorem Chip.bellArm_armed (outcome : c.armOutcome d x i = 0) :
    c.bellArm d x i = (c.setBell d i (some (c.faceBell d x))).setBellStatus d x 0 := if_neg (not_not_intro outcome)

/-! ### BELL_CANCEL (R266, R409) -/

/-- An internal bell cannot be cancelled through an interface. -/
theorem Chip.bellCancel_internal (high : 192 ≤ i) : c.bellCancel d x i = c.setBellStatus d x 6 := if_pos high

section
variable (low : i < 192)
include low

theorem Chip.bellCancel_free (free : c.bell d i = none) : c.bellCancel d x i = c.setBellStatus d x 7 := by
  rw [Chip.bellCancel, if_neg low.not_ge, free]

variable {b : Bell} (armed : c.bell d i = some b)
include armed

/-- A bell armed through the other interface stays. -/
theorem Chip.bellCancel_other (other : b.owner ≠ x) : c.bellCancel d x i = c.setBellStatus d x 6 := by
  simp only [Chip.bellCancel, if_neg low.not_ge, armed, if_pos other]

/-- A bell of the same interface returns to FREE, the launch of a RELEASE bell to its queue. -/
theorem Chip.bellCancel_own (own : b.owner = x) : c.bellCancel d x i =
    (if b.action = 1 ∧ d < 32 then (c.setBell d i none).launchCancel d i else c.setBell d i none).setBellStatus d x 1 := by
  simp only [Chip.bellCancel, if_neg low.not_ge, armed, if_neg (not_not_intro own)]

end

/-! ### BELL_FIRE (R265, R407, R409, R410) -/

/-- Device time has come to the time of bell i of die d, and the bell is FREE. -/
def Chip.bellRung (c : Chip) (d i : Nat) (b : Bell) : Chip := (c.timeTo b.time).setBell d i none

/-- A bell of die d that acts is counted. -/
def Chip.bellCounted (c : Chip) (d : Nat) : Chip := (c.incWrap (R.TIM_BELL_CNT d) F.TIM_BELL_CNT_FIRED 1).pmcFixed d 6 1

/-- What is told of the action of bell i of die d: event 0x01 if it asked for it, and event 0x04 for an outcome other than success. -/
def Chip.bellReport (c : Chip) (d i : Nat) (b : Bell) (outcome : Nat) : Chip :=
  let told := if b.notify then c.bellNotice d 1 i b.action outcome b.tag else c
  if outcome = 0 then told else told.bellNotice d 4 i b.action outcome b.tag

theorem Chip.bellReport_success (b : Bell) :
    c.bellReport d i b 0 = if b.notify then c.bellNotice d 1 i b.action 0 b.tag else c := by
  simp only [Chip.bellReport, if_true]

theorem Chip.bellReport_notify {b : Bell} (notify : b.notify = true) (outcome : Nat) : c.bellReport d i b outcome =
    if outcome = 0 then c.bellNotice d 1 i b.action outcome b.tag
    else (c.bellNotice d 1 i b.action outcome b.tag).bellNotice d 4 i b.action outcome b.tag := by
  simp only [Chip.bellReport, if_pos notify]

theorem Chip.bellAction_release {b : Bell} (release : b.action = 1) : c.bellAction d i b = c.bellRelease d i b := if_pos release

/-- The action of a QUIZ bell is a quiz request with reason 3 to the ledger. -/
theorem Chip.bellAction_quiz {b : Bell} (quiz : b.action = 5) :
    c.bellAction d i b = (0, c.ledgerRequest d (.quiz (quizArg d b.arg) 3)) := by
  simp only [Chip.bellAction, quiz, Nat.reduceEqDiff, if_false, if_true]

theorem Chip.bellFire_free (free : c.bell d i = none) : c.bellFire d i = c := by
  rw [Chip.bellFire, free]

section
variable {b : Bell} (armed : c.bell d i = some b)
include armed

/-- A bell whose target is down only tells so. -/
theorem Chip.bellFire_down (down : (c.bellRung d i b).bellDown d b = true) :
    c.bellFire d i = (c.bellRung d i b).bellNotice d 2 i b.action 0 b.tag := by
  rw [Chip.bellFire, armed]
  exact if_pos down

variable (up : (c.bellRung d i b).bellDown d b = false)
include up

/-- An APPLY bell leaves its report to the group it applies. -/
theorem Chip.bellFire_apply (apply : b.action = 3) :
    c.bellFire d i = (((c.bellRung d i b).bellCounted d).bellAction d i b).2 := by
  rw [Chip.bellFire, armed]
  exact (if_neg (Bool.eq_false_iff.mp up)).trans (if_pos apply)

/-- Any other bell takes its action and tells its outcome. -/
theorem Chip.bellFire_reports (other : b.action ≠ 3) : c.bellFire d i =
    let r := ((c.bellRung d i b).bellCounted d).bellAction d i b
    r.2.bellReport d i b r.1 := by
  rw [Chip.bellFire, armed]
  exact (if_neg (Bool.eq_false_iff.mp up)).trans (if_neg other)

/-- A RELEASE bell with NOTIFY tells its outcome by event 0x01, a late or empty release by 0x04 too. -/
theorem Chip.bellFire_release (release : b.action = 1) (notify : b.notify = true) : c.bellFire d i =
    let r := ((c.bellRung d i b).bellCounted d).bellRelease d i b
    if r.1 = 0 then r.2.bellNotice d 1 i 1 r.1 b.tag else (r.2.bellNotice d 1 i 1 r.1 b.tag).bellNotice d 4 i 1 r.1 b.tag := by
  simp only [c.bellFire_reports armed up (by omega), Chip.bellAction_release _ release, Chip.bellReport_notify _ notify, release]

/-- A QUIZ bell asks the ledger for its quiz. -/
theorem Chip.bellFire_quiz (quiz : b.action = 5) : c.bellFire d i =
    let asked := ((c.bellRung d i b).bellCounted d).ledgerRequest d (.quiz (quizArg d b.arg) 3)
    if b.notify then asked.bellNotice d 1 i 5 0 b.tag else asked := by
  simp only [c.bellFire_reports armed up (by omega), Chip.bellAction_quiz _ quiz, Chip.bellReport_success, quiz]

end

end

end Sys2Proof.Machine

open Sys2Proof Sys2Proof.Machine

/-- Settles O56: an arm by the first check that refuses it, a cancel by who holds the bell, a firing by the bell's target and action. -/
theorem bellsArmCancelAndAct : Obligations.BellsArmCancelAndAct := by
  unfold Obligations.BellsArmCancelAndAct
  intro s
  refine ⟨fun d x i => ⟨fun high => ?_, fun low armed => ?_, fun low free invalid => ?_, fun low free valid large => ?_,
      fun low free valid nsec => ⟨fun bad => ?_, fun ok late => ?_, fun ok ahead => ?_⟩⟩,
    fun d x i => ⟨fun high => ?_, fun low free => ?_, fun b low armed => ⟨fun other => ?_, fun own => ?_⟩⟩,
    fun d i => ⟨fun free => ?_, fun b armed => ⟨fun down => ?_, fun up apply => ?_, fun up release notify => ?_, fun up quiz => ?_⟩⟩⟩
  · rw [exec_bellArm, Chip.bellArm_refused _ (Chip.armOutcome_internal _ high) (by decide)]
  · rw [exec_bellArm, Chip.bellArm_refused _ (Chip.armOutcome_busy _ low armed) (by decide)]
  · rw [exec_bellArm, Chip.bellArm_refused _ (Chip.armOutcome_noTime _ low free invalid) (by decide)]
  · rw [exec_bellArm, Chip.bellArm_refused _ (Chip.armOutcome_badNsec _ low free valid large) (by decide)]
  · rw [exec_bellArm, Chip.bellArm_refused _ (Chip.armOutcome_badAction _ low free valid nsec bad) (by decide)]
  · rw [exec_bellArm, Chip.bellArm_refused _ (Chip.armOutcome_tooLate _ low free valid nsec ok late) (by decide)]
  · rw [exec_bellArm, Chip.bellArm_armed _ (Chip.armOutcome_armed _ low free valid nsec ok ahead), Chip.faceBell, Chip.faceTime]
  · rw [exec_bellCancel, Chip.bellCancel_internal _ high]
  · rw [exec_bellCancel, Chip.bellCancel_free _ low free]
  · rw [exec_bellCancel, Chip.bellCancel_other _ low armed other]
  · rw [exec_bellCancel, Chip.bellCancel_own _ low armed own]
  · rw [exec_bellFire, Chip.bellFire_free _ free]
  · rw [exec_bellFire, Chip.bellFire_down _ armed down, Chip.bellRung]
  · rw [exec_bellFire, Chip.bellFire_apply _ armed up apply, Chip.bellCounted, Chip.bellRung]
  · rw [exec_bellFire, Chip.bellFire_release _ armed up release notify, Chip.bellCounted, Chip.bellRung]
  · rw [exec_bellFire, Chip.bellFire_quiz _ armed up quiz, Chip.bellCounted, Chip.bellRung]

end

section
/-!
PROOFS. Table operations (R270, R271, R274, R276): what the operation that TBL_OP holds does, and what a clear leaves in the tables.
-/

namespace Sys2Proof.Machine

section
variable (c : Chip) {d : Nat}

/-! ### The applied operation (R270) -/

section
variable (f : Chip → Chip) {op : Nat}

/-- An operation that TBL_OP does not hold changes nothing. -/
theorem Chip.tblRun_other (other : c.get (R.TBL_OP d) F.TBL_OP_OP ≠ op) : c.tblRun d op f = c := if_neg other

theorem Chip.tblRun_held (held : c.get (R.TBL_OP d) F.TBL_OP_OP = op) :
    c.tblRun d op f = (f c).setBoth (R.TBL_OP d) F.TBL_OP_OP 0 := if_pos held

end

/-- OP reads 0 once an operation is performed. -/
theorem Chip.tblOp_cleared : (c.setBoth (R.TBL_OP d) F.TBL_OP_OP 0).get (R.TBL_OP d) F.TBL_OP_OP = 0 := by
  rw [Chip.setBoth_get, Chip.get_set_same _ _ _ _ (by decide), Nat.zero_mod]

theorem Chip.tblNone_held (held : c.get (R.TBL_OP d) F.TBL_OP_OP = 0) : c.tblNone d =
    (c.set (R.TBL_OP_STAT d) F.TBL_OP_STAT_STATUS 0).setBoth (R.TBL_OP d) F.TBL_OP_OP 0 := c.tblRun_held _ held

/-! ### TBL_WRITE and TBL_INSERT (R271, R276) -/

/-- The outcome of an operation on a directly indexed entry: status DONE, and no key's place. -/
theorem Chip.tblStat_direct : c.tblStat d 0 none true = c.wr (R.TBL_OP_STAT d) (BitVec.ofNat 32 (2 * 2 ^ 4)) := by
  simp only [Chip.tblStat, if_true, Nat.zero_add]

theorem Chip.tblWrite_held (held : c.get (R.TBL_OP d) F.TBL_OP_OP = 1) : c.tblWrite d =
    ((c.setLeaf d (c.get (R.TBL_OP d) F.TBL_OP_INDEX) (BitVec.ofNat 128 ((c.rd (R.TBL_DATA d 0)).toNat % 2 ^ 13))).wr
      (R.TBL_OP_STAT d) (BitVec.ofNat 32 (2 * 2 ^ 4))).setBoth (R.TBL_OP d) F.TBL_OP_OP 0 := by
  rw [Chip.tblWrite, Chip.tblRun_held _ _ held, Chip.tblStat_direct]

section
variable (held : c.get (R.TBL_OP d) F.TBL_OP_OP = 2)
include held

/-- An insert of the flow table: its outcome and place, and in TBL_RES_n what it evicted. -/
theorem Chip.tblInsert_flow (table : c.tblTable d = 1) : c.tblInsert d =
    let r := c.flowInsert d (BitVec.ofNat 128 (c.tblData d % 2 ^ 102 / 2 ^ 43 * 2 ^ 43 + c.tblKey d))
    ((if r.1.1.status = 3 then r.2.tblRes d r.1.2.toNat else r.2).tblStat d r.1.1.status r.1.1.idx false).setBoth
      (R.TBL_OP d) F.TBL_OP_OP 0 := by
  rw [Chip.tblInsert, Chip.tblRun_held _ _ held, if_pos table]

/-- The same of the multicast table. -/
theorem Chip.tblInsert_mc (table : c.tblTable d ≠ 1) : c.tblInsert d =
    let r := c.mcInsert d (BitVec.ofNat 256 (c.tblData d % 2 ^ 137 / 2 ^ 20 * 2 ^ 20 + c.tblKey d))
    ((if r.1.1.status = 3 then r.2.tblRes d r.1.2.toNat else r.2).tblStat d r.1.1.status r.1.1.idx false).setBoth
      (R.TBL_OP d) F.TBL_OP_OP 0 := by
  rw [Chip.tblInsert, Chip.tblRun_held _ _ held, if_neg table]

end

/-! ### TBL_DELETE (R270, R276) -/

section
variable {i : Nat} {c' : Chip} (held : c.get (R.TBL_OP d) F.TBL_OP_OP = 3)
include held

theorem Chip.tblDelete_flow (table : c.tblTable d = 1) (found : c.flowLookup d (c.tblKey d) = (some i, c')) : c.tblDelete d =
    (((c'.setFlow d i 0).countTables d).tblStat d 0 (some i) false).setBoth (R.TBL_OP d) F.TBL_OP_OP 0 := by
  rw [Chip.tblDelete, Chip.tblRun_held _ _ held, if_pos table, found]

/-- A flow that the lookup misses is NOT_FOUND; an expired entry has gone by the lookup. -/
theorem Chip.tblDelete_noFlow (table : c.tblTable d = 1) (missed : c.flowLookup d (c.tblKey d) = (none, c')) : c.tblDelete d =
    (c'.tblStat d 1 none false).setBoth (R.TBL_OP d) F.TBL_OP_OP 0 := by
  rw [Chip.tblDelete, Chip.tblRun_held _ _ held, if_pos table, missed]

theorem Chip.tblDelete_mc (table : c.tblTable d ≠ 1) (found : c.mcFind d (c.tblKey d) = some i) : c.tblDelete d =
    (((c.setMc d i 0).countTables d).tblStat d 0 (some i) false).setBoth (R.TBL_OP d) F.TBL_OP_OP 0 := by
  rw [Chip.tblDelete, Chip.tblRun_held _ _ held, if_neg table, found]

theorem Chip.tblDelete_noMc (table : c.tblTable d ≠ 1) (missed : c.mcFind d (c.tblKey d) = none) : c.tblDelete d =
    (c.tblStat d 1 none false).setBoth (R.TBL_OP d) F.TBL_OP_OP 0 := by
  rw [Chip.tblDelete, Chip.tblRun_held _ _ held, if_neg table, missed]

end

/-! ### TBL_READ (R270, R276) -/

section
variable {i : Nat} {c' : Chip} (held : c.get (R.TBL_OP d) F.TBL_OP_OP = 4)
include held

theorem Chip.tblRead_leaf (table : c.tblTable d = 0) : c.tblRead d =
    ((c.tblRes d (c.leafEnt d (c.get (R.TBL_OP d) F.TBL_OP_INDEX)).toNat).tblStat d 0 none true).setBoth
      (R.TBL_OP d) F.TBL_OP_OP 0 := by
  rw [Chip.tblRead, Chip.tblRun_held _ _ held, if_pos table]

theorem Chip.tblRead_flow (table : c.tblTable d = 1) (found : c.flowLookup d (c.tblKey d) = (some i, c')) : c.tblRead d =
    ((c'.tblRes d (c'.flowEnt d i).toNat).tblStat d 0 (some i) false).setBoth (R.TBL_OP d) F.TBL_OP_OP 0 := by
  rw [Chip.tblRead, Chip.tblRun_held _ _ held, if_neg (by omega), if_pos table, found]

theorem Chip.tblRead_noFlow (table : c.tblTable d = 1) (missed : c.flowLookup d (c.tblKey d) = (none, c')) : c.tblRead d =
    (c'.tblStat d 1 none false).setBoth (R.TBL_OP d) F.TBL_OP_OP 0 := by
  rw [Chip.tblRead, Chip.tblRun_held _ _ held, if_neg (by omega), if_pos table, missed]

theorem Chip.tblRead_mc (table : 2 ≤ c.tblTable d) (found : c.mcFind d (c.tblKey d) = some i) : c.tblRead d =
    ((c.tblRes d (c.mcEnt d i).toNat).tblStat d 0 (some i) false).setBoth (R.TBL_OP d) F.TBL_OP_OP 0 := by
  rw [Chip.tblRead, Chip.tblRun_held _ _ held, if_neg (by omega), if_neg (by omega), found]

theorem Chip.tblRead_noMc (table : 2 ≤ c.tblTable d) (missed : c.mcFind d (c.tblKey d) = none) : c.tblRead d =
    (c.tblStat d 1 none false).setBoth (R.TBL_OP d) F.TBL_OP_OP 0 := by
  rw [Chip.tblRead, Chip.tblRun_held _ _ held, if_neg (by omega), if_neg (by omega), missed]

end

/-! ### TBL_CLEAR (R270) -/

/-- The flow entries of die d whose STATIC bit is clear are gone. -/
def Chip.dynamicFlowsCleared (c : Chip) (d : Nat) : Chip :=
  { c with tb := { c.tb with flow := c.tb.flow.filter (fun e => !(e.1 / 2 ^ 20 == d && bitsOf e.2 101 1 == 0)) } }

theorem Chip.mem_dynamicFlowsCleared (e : Nat × BitVec 128) :
    e ∈ (c.dynamicFlowsCleared d).tb.flow ↔ e ∈ c.tb.flow ∧ ¬ (e.1 / 2 ^ 20 = d ∧ bitsOf e.2 101 1 = 0) := by
  simp only [Chip.dynamicFlowsCleared, List.mem_filter, Bool.not_eq_true', ← Bool.not_eq_true, Bool.and_eq_true, beq_iff_eq]

theorem Chip.tblClear_held (held : c.get (R.TBL_OP d) F.TBL_OP_OP = 5) : c.tblClear d =
    (((c.dynamicFlowsCleared d).countTables d).tblStat d 0 none false).setBoth (R.TBL_OP d) F.TBL_OP_OP 0 := c.tblRun_held _ held

@[simp] theorem Chip.countTables_tb : (c.countTables d).tb = c.tb := by simp only [Chip.countTables, Chip.set_tb]
@[simp] theorem Chip.countTables_integ : (c.countTables d).integ = c.integ := by simp only [Chip.countTables, Chip.set_integ]

section
variable (status : Nat) (idx : Option Nat) (direct : Bool)

@[simp] theorem Chip.tblStat_tb : (c.tblStat d status idx direct).tb = c.tb := Chip.wr_tb ..
@[simp] theorem Chip.tblStat_integ : (c.tblStat d status idx direct).integ = c.integ := Chip.wr_integ ..

end

/-- A clear leaves of the tables what has stayed of the flow table, and raises no trigger. -/
theorem Chip.tblClear_frame (held : c.get (R.TBL_OP d) F.TBL_OP_OP = 5) :
    (c.tblClear d).tb = (c.dynamicFlowsCleared d).tb ∧ (c.tblClear d).integ = c.integ := by
  rw [c.tblClear_held held, Chip.setBoth_tb, Chip.setBoth_integ, Chip.tblStat_tb, Chip.tblStat_integ, Chip.countTables_tb,
    Chip.countTables_integ]
  exact ⟨rfl, rfl⟩

end

end Sys2Proof.Machine

open Sys2Proof Sys2Proof.Machine

/-- Settles O45: each operation by whether TBL_OP holds it, its table and what the lookup finds; settling changes no table. -/
theorem tableOperations : Obligations.TableOperations := by
  unfold Obligations.TableOperations
  intro s
  refine ⟨fun d => ⟨fun other => ?_, fun held => ?_⟩, fun d => ⟨fun other => ?_, fun held => ?_⟩,
    fun d => ⟨fun other => ?_, fun held flow => ?_, fun held mc => ?_⟩,
    fun d => ⟨fun other => ?_, fun held flow => ⟨fun i c found => ?_, fun c missed => ?_⟩,
      fun held mc => ⟨fun i found => ?_, fun missed => ?_⟩⟩,
    fun d => ⟨fun other => ?_, fun held leaf => ?_, fun held flow => ⟨fun i c found => ?_, fun c missed => ?_⟩,
      fun held mc => ⟨fun i found => ?_, fun missed => ?_⟩⟩,
    fun d => ⟨fun other => ?_, fun hcalm held => ?_⟩⟩
  · rw [exec_tblNone, Chip.tblNone, Chip.tblRun_other _ _ other]
  · rw [exec_tblNone, Chip.tblNone_held _ held]
  · rw [exec_tblWrite, Chip.tblWrite, Chip.tblRun_other _ _ other]
  · rw [exec_tblWrite, Chip.tblWrite_held _ held]
  · rw [exec_tblInsert, Chip.tblInsert, Chip.tblRun_other _ _ other]
  · rw [exec_tblInsert, Chip.tblInsert_flow _ held flow]
  · rw [exec_tblInsert, Chip.tblInsert_mc _ held mc]
  · rw [exec_tblDelete, Chip.tblDelete, Chip.tblRun_other _ _ other]
  · rw [exec_tblDelete, Chip.tblDelete_flow _ held flow found]
  · rw [exec_tblDelete, Chip.tblDelete_noFlow _ held flow missed]
  · rw [exec_tblDelete, Chip.tblDelete_mc _ held mc found]
  · rw [exec_tblDelete, Chip.tblDelete_noMc _ held mc missed]
  · rw [exec_tblRead, Chip.tblRead, Chip.tblRun_other _ _ other]
  · rw [exec_tblRead, Chip.tblRead_leaf _ held leaf]
  · rw [exec_tblRead, Chip.tblRead_flow _ held flow found]
  · rw [exec_tblRead, Chip.tblRead_noFlow _ held flow missed]
  · rw [exec_tblRead, Chip.tblRead_mc _ held mc found]
  · rw [exec_tblRead, Chip.tblRead_noMc _ held mc missed]
  · rw [exec_tblClear, Chip.tblClear, Chip.tblRun_other _ _ other]
  · obtain ⟨tables, integ⟩ := s.chip.tblClear_frame held
    have due : (s.chip.tblClear d).integ.due = [] := by rw [integ, State.calm_due s hcalm]
    refine ⟨_, exec_tblClear d s, ?_⟩
    rw [State.after_chip, State.settled_tb s _ due, State.settled_get s _ due, tables]
    refine ⟨s.chip.mem_dynamicFlowsCleared, rfl, rfl, ?_⟩
    rw [Chip.tblClear_held _ held, Chip.tblOp_cleared]

end

section
/-!
PROOFS. Staging slots (R283 to R286): what the staging request that TBL_STG_REQ holds does, and the two staging messages of switches.
-/

namespace Sys2Proof.Machine

section
variable (c : Chip) {k : Nat}

/-! ### STG_OPEN, STG_CLOSE and STG_FORCE_CLOSE (R284, R286) -/

section
variable (f : Chip → Chip) {op : Nat}

/-- A request that TBL_STG_REQ does not hold changes nothing. -/
theorem Chip.stgRun_other (other : c.stgOp k ≠ op) : c.stgRun k op f = c := if_neg other

theorem Chip.stgRun_held (held : c.stgOp k = op) :
    c.stgRun k op f = (f c).setBoth (R.TBL_STG_REQ (32 + k)) F.TBL_STG_REQ_OP 0 := if_pos held

end

/-- A slot that is not FREE is not opened again. -/
theorem Chip.stgOpen_used (held : c.stgOp k = 1) (used : c.slotSt k (c.stgSlot k) ≠ 0) :
    c.stgOpen k = c.setBoth (R.TBL_STG_REQ (32 + k)) F.TBL_STG_REQ_OP 0 := by
  rw [Chip.stgOpen, Chip.stgRun_held _ _ held, if_pos used]

/-- A FREE slot opened holds the group, the die map and the reserve of the request. -/
theorem Chip.stgOpen_free (held : c.stgOp k = 1) (free : c.slotSt k (c.stgSlot k) = 0) : c.stgOpen k =
    ((c.setStg k (c.stgSlot k)
      { group := c.get (R.TBL_STG_REQ (32 + k)) F.TBL_STG_REQ_GROUP, dieMap := (c.rd (R.TBL_STG_MAP (32 + k))).toNat,
        reserve := c.get (R.TBL_STG_REQ (32 + k)) F.TBL_STG_REQ_RESERVE }).setSlotSt k (c.stgSlot k) 1).setBoth (R.TBL_STG_REQ (32 + k)) F.TBL_STG_REQ_OP 0 := by
  rw [Chip.stgOpen, Chip.stgRun_held _ _ held, if_neg (not_not_intro free)]

theorem Chip.stgClose_open (held : c.stgOp k = 2) (opened : c.slotSt k (c.stgSlot k) = 1) : c.stgClose k =
    ((c.setSlotSt k (c.stgSlot k) 2).slotCheck k (c.stgSlot k)).setBoth (R.TBL_STG_REQ (32 + k)) F.TBL_STG_REQ_OP 0 := by
  rw [Chip.stgClose, Chip.stgRun_held _ _ held, if_pos opened]

/-- Only an OPEN slot closes. -/
theorem Chip.stgClose_notOpen (held : c.stgOp k = 2) (notOpen : c.slotSt k (c.stgSlot k) ≠ 1) :
    c.stgClose k = c.setBoth (R.TBL_STG_REQ (32 + k)) F.TBL_STG_REQ_OP 0 := by
  rw [Chip.stgClose, Chip.stgRun_held _ _ held, if_neg notOpen]

theorem Chip.stgForceClose_held (held : c.stgOp k = 3) : c.stgForceClose k =
    ((c.setStg k (c.stgSlot k) {}).setSlotSt k (c.stgSlot k) 0).setBoth (R.TBL_STG_REQ (32 + k)) F.TBL_STG_REQ_OP 0 :=
  c.stgRun_held _ held

/-! ### STAGE_REPAIR and STAGE_RELEASE on an ACTIVE lane (R285) -/

section
variable {l slot src tag : Nat}

/-- A release from a die outside the die map is ignored. -/
theorem Chip.stageRelease_outside (outside : bitOf (c.stg k slot).dieMap (laneDie l) = false) : c.stageRelease l k slot src tag = c :=
  if_pos (by simp [outside])

variable (active : c.laneState l = LS.active) (here : c.isolated (32 + k) = false) (used : c.slotSt k slot ≠ 0)
include active here used

/-- A message that is not staged is not repaired. -/
theorem Chip.stageRepair_unstaged (first last : Nat) (unstaged : (c.stg k slot).extents.find? (fun e => e.isFor src tag) = none) :
    c.stageRepair l k slot src tag first last = c := by
  rw [Chip.stageRepair, if_neg (by simp [active, here, used]), unstaged]

section
variable {e : Extent} (staged : (c.stg k slot).extents.find? (fun e => e.isFor src tag) = some e) (first last : Nat)
include staged

/-- An extent marked bad repairs nothing. -/
theorem Chip.stageRepair_bad (bad : e.bad = true) : c.stageRepair l k slot src tag first last = c := by
  rw [Chip.stageRepair, if_neg (by simp [active, here, used]), staged]
  exact if_pos bad

/-- The cells of the range, with RETX and a CRC written afresh, go to the port of the lane. -/
theorem Chip.stageRepair_sends (sound : e.bad = false) : c.stageRepair l k slot src tag first last =
    c.coreSend k (laneDie l) (((e.cells.filter (fun x => decide (first ≤ x.1) && decide (x.1 ≤ last))).filterMap (·.2)).map (fun v =>
      { cell := { v with retx := true }.seal, port := c.portOf l, mcast := false, saf := false })) := by
  rw [Chip.stageRepair, if_neg (by simp [active, here, used]), staged]
  exact if_neg (Bool.eq_false_iff.mp sound)

end

/-- A release from a die of the die map is noted, and an extent that no die holds any more is freed. -/
theorem Chip.stageRelease_notes (inside : bitOf (c.stg k slot).dieMap (laneDie l) = true) : c.stageRelease l k slot src tag =
    (c.setStg k slot { c.stg k slot with
      extents := ((c.stg k slot).extents.map (fun e =>
        if e.isFor src tag then e.releaseBy (laneDie l) (c.portOf l) (c.portMap (laneDie l) (c.stg k slot).group) else e)).filter
        (fun e => !(e.isFor src tag && e.refs == 0)) }).slotCheck k slot :=
  if_neg (by simp [active, here, used, inside])

end

end

end Sys2Proof.Machine

open Sys2Proof Sys2Proof.Machine

/-- Settles O47: a request by whether TBL_STG_REQ holds it and by the slot's state, a message by what the slot holds for it. -/
theorem stagingSlotsOpenServeAndClose : Obligations.StagingSlotsOpenServeAndClose := by
  unfold Obligations.StagingSlotsOpenServeAndClose
  intro s
  refine ⟨fun k => ⟨fun other => ?_, fun held used => ?_, fun held free => ?_⟩,
    fun k => ⟨fun other => ?_, fun held opened => ?_, fun held notOpen => ?_, fun other => ?_, fun held => ?_⟩,
    fun l k n src tag first last active here used => ⟨fun unstaged => ?_, fun e staged => ⟨fun bad => ?_, fun sound => ?_⟩⟩,
    fun l k n src tag active here used => ⟨fun outside => ?_, fun inside => ?_⟩⟩
  · rw [exec_stgOpen, Chip.stgOpen, Chip.stgRun_other _ _ other]
  · rw [exec_stgOpen, Chip.stgOpen_used _ held used]
  · rw [exec_stgOpen, Chip.stgOpen_free _ held free]
  · rw [exec_stgClose, Chip.stgClose, Chip.stgRun_other _ _ other]
  · rw [exec_stgClose, Chip.stgClose_open _ held opened]
  · rw [exec_stgClose, Chip.stgClose_notOpen _ held notOpen]
  · rw [exec_stgForceClose, Chip.stgForceClose, Chip.stgRun_other _ _ other]
  · rw [exec_stgForceClose, Chip.stgForceClose_held _ held]
  · rw [exec_stageRepair, Chip.stageRepair_unstaged _ active here used _ _ unstaged]
  · rw [exec_stageRepair, Chip.stageRepair_bad _ active here used staged _ _ bad]
  · rw [exec_stageRepair, Chip.stageRepair_sends _ active here used staged _ _ sound]
  · rw [exec_stageRelease, Chip.stageRelease_outside _ outside]
  · rw [exec_stageRelease, Chip.stageRelease_notes _ active here used inside]

end

section
/-!
PROOFS. Operations on sync objects (R309, R317 to R320): what the operation that SYN_OP holds does by the object's state, and what a
roll that has been read leaves of its object.
-/

namespace Sys2Proof.Machine

section
variable (c : Chip) {k : Nat}

/-! ### SYN_ALLOC (R309, R317) -/

/-- An operation that SYN_OP does not hold changes nothing. -/
theorem Chip.synAlloc_other (other : c.synOp k ≠ 1) : c.synAlloc k = c := if_pos other

section
variable (held : c.synOp k = 1)
include held

/-- With QUEUE set, the request waits for the end of QUARANTINE. -/
theorem Chip.synAlloc_queues (state : c.objState (c.synObj k) = 7) (queue : c.flag (R.SYN_OP (32 + k)) F.SYN_OP_QUEUE = true)
    (unqueued : (c.obj (c.synObj k)).queued = none) : c.synAlloc k =
      ((((c.synDone k).modObj (c.synObj k) (fun o => { o with queued := some (c.allocReq (c.synObj k)) })).set
        (objReg (c.synObj k)) F.SYN_OBJ_QUEUED 1).synStat (c.synObj k) 1) := by
  rw [Chip.synAlloc, if_neg (not_not_intro held)]
  exact if_pos ⟨state, queue, Option.isNone_iff_eq_none.mpr unqueued⟩

/-- An object that is not FREE is BUSY, unless it is in QUARANTINE with no request queued. -/
theorem Chip.synAlloc_busy (used : c.objState (c.synObj k) ≠ 0)
    (noRoom : c.objState (c.synObj k) ≠ 7 ∨ (c.obj (c.synObj k)).queued.isSome = true) :
    c.synAlloc k = (c.synDone k).synStat (c.synObj k) 2 := by
  have notQueued : ¬ (c.objState (c.synObj k) = 7 ∧ c.flag (R.SYN_OP (32 + k)) F.SYN_OP_QUEUE = true ∧
      (c.obj (c.synObj k)).queued.isNone = true) := by
    rintro ⟨quarantine, -, empty⟩
    rw [Option.isNone_iff_eq_none.mp empty] at noRoom
    exact noRoom.elim (· quarantine) nofun
  rw [Chip.synAlloc, if_neg (not_not_intro held)]
  exact (if_neg notQueued).trans (if_pos (.inl used))

theorem Chip.synAlloc_free (free : c.objState (c.synObj k) = 0) (idle : (c.obj (c.synObj k)).loading = none) :
    c.synAlloc k = (c.synDone k).allocStart (c.synObj k) (c.allocReq (c.synObj k)) := by
  rw [Chip.synAlloc, if_neg (not_not_intro held)]
  exact (if_neg (by omega)).trans (if_neg (by simp [free, idle]))

end

section
variable {n : Nat} (r : AllocReq)

/-- The roll of an object of an enabled group starts to load. -/
theorem Chip.allocStart_enabled (enabled : (c.syncGroup n).enable = true) (here : c.isolated (objDie n) = false) :
    c.allocStart n r = c.modObj n (fun o => { o with loading := some r }) := if_pos ⟨enabled, by simp [here]⟩

theorem Chip.allocStart_disabled (disabled : (c.syncGroup n).enable = false) : c.allocStart n r = c.synStat n 3 :=
  if_neg (by simp [disabled])

end

/-! ### ROLL_LOAD_DONE (R309, R318) -/

section
variable {n : Nat} (st : Nat) {a : Nat}

/-- An outcome is written to SYN_OP_STAT only. -/
theorem Chip.synStat_rd (h : a ≠ R.SYN_OP_STAT (objDie n)) : (c.synStat n st).rd a = c.rd a :=
  (Chip.rd_set_other _ _ _ h).trans (Chip.rd_set_other _ _ _ h)

@[simp] theorem Chip.synStat_coll : (c.synStat n st).coll = c.coll := by simp only [Chip.synStat, Chip.set_coll]
@[simp] theorem Chip.synStat_integ : (c.synStat n st).integ = c.integ := by simp only [Chip.synStat, Chip.set_integ]

theorem Chip.showStore_rd (h : a ≠ R.SYN_STORE (32 + k)) : (c.showStore k).rd a = c.rd a := Chip.rd_set_other _ _ _ h

@[simp] theorem Chip.showStore_coll : (c.showStore k).coll = c.coll := Chip.set_coll ..
@[simp] theorem Chip.showStore_integ : (c.showStore k).integ = c.integ := Chip.set_integ ..

end

/-- The primary hub keeps a copy of the roll of object n. -/
def Chip.keepRoll (c : Chip) (n : Nat) (roll : List Member) : Chip :=
  { c with coll := { c.coll with copies := SMap.set (fun _ => []) c.coll.copies n roll } }

/-- Object n ARMED under the next epoch, with the allocation r and its roll. -/
def Chip.arm (c : Chip) (n : Nat) (r : AllocReq) (roll : List Member) : Chip :=
  ((((c.setObj n { alloc := some r, roll := roll, reserved := r.reserve, nextSeq := r.nextSeq }).wr
    (R.SYN_EPOCH (objDie n) (n % 512)) (BitVec.ofNat 32 ((c.objEpoch n + 1) % 2 ^ 32))).wr
    (R.SYN_OP_EPOCH (objDie n)) (BitVec.ofNat 32 ((c.objEpoch n + 1) % 2 ^ 32))).wr
    (objReg n) (BitVec.ofNat 32 (1 + r.early.toNat * 2 ^ 4))).keepRoll n roll

section
variable {n : Nat} (r : AllocReq) (roll : List Member)

@[simp] theorem Chip.keepRoll_rd (a : Nat) : (c.keepRoll n roll).rd a = c.rd a := rfl
@[simp] theorem Chip.keepRoll_objs : (c.keepRoll n roll).coll.objs = c.coll.objs := rfl
@[simp] theorem Chip.keepRoll_integ : (c.keepRoll n roll).integ = c.integ := rfl

@[simp] theorem Chip.setObj_integ (o : SyncObj) : (c.setObj n o).integ = c.integ := rfl

theorem Chip.arm_obj : (c.arm n r roll).obj n = { alloc := some r, roll := roll, reserved := r.reserve, nextSeq := r.nextSeq } := by
  rw [Chip.arm, Chip.obj, Chip.keepRoll_objs, Chip.wr_coll, Chip.wr_coll, Chip.wr_coll]
  exact Chip.obj_setObj_same c n _

theorem Chip.arm_epoch : (c.arm n r roll).rd (R.SYN_EPOCH (objDie n) (n % 512)) = BitVec.ofNat 32 ((c.objEpoch n + 1) % 2 ^ 32) := by
  rw [Chip.arm, Chip.keepRoll_rd, Chip.rd_wr_other _ _ (by unfold objReg R.SYN_OBJ R.SYN_EPOCH; omega),
    Chip.rd_wr_other _ _ (by unfold R.SYN_EPOCH R.SYN_OP_EPOCH; omega), Chip.rd_wr_same]

theorem Chip.arm_objState : (c.arm n r roll).objState n = 1 := by
  rw [Chip.arm, Chip.objState, Chip.get, Chip.keepRoll_rd, Chip.rd_wr_same]
  cases r.early <;> rfl

@[simp] theorem Chip.arm_integ : (c.arm n r roll).integ = c.integ := by
  rw [Chip.arm, Chip.keepRoll_integ, Chip.wr_integ, Chip.wr_integ, Chip.wr_integ, Chip.setObj_integ]

end

/-- With no roll loading, the end of a load changes nothing. -/
theorem Chip.rollLoadDone_idle {n : Nat} {read : Nat → Nat → Nat} (idle : (c.obj n).loading = none) : c.rollLoadDone n read = c := by
  rw [Chip.rollLoadDone, idle]

section
variable {n : Nat} {r : AllocReq} {read : Nat → Nat → Nat} (loading : (c.obj n).loading = some r)
include loading

theorem Chip.rollLoadDone_invalid (invalid : rollValid (readRoll (read r.hub) r.addr r.members) r.fanout = false) :
    c.rollLoadDone n read = (c.modObj n (fun o => { o with loading := none })).synStat n 5 := by
  rw [Chip.rollLoadDone, loading]
  exact if_pos (by rw [invalid]; rfl)

section
variable (valid : rollValid (readRoll (read r.hub) r.addr r.members) r.fanout = true)
include valid

theorem Chip.rollLoadDone_noSpace (full : (c.modObj n (fun o => { o with loading := none })).storeFits (objCore n) r = false) :
    c.rollLoadDone n read = (c.modObj n (fun o => { o with loading := none })).synStat n 4 := by
  rw [Chip.rollLoadDone, loading]
  exact (if_neg (by rw [valid]; decide)).trans (if_pos (by rw [full]; rfl))

variable (fits : (c.modObj n (fun o => { o with loading := none })).storeFits (objCore n) r = true)
include fits

theorem Chip.rollLoadDone_arms : c.rollLoadDone n read = (((c.modObj n (fun o => { o with loading := none })).arm n r
    (readRoll (read r.hub) r.addr r.members)).showStore (objCore n)).synStat n 0 := by
  rw [Chip.rollLoadDone, loading]
  exact (if_neg (by rw [valid]; decide)).trans (if_neg (by rw [fits]; decide))

/-- The record of an object whose roll has been taken. -/
theorem Chip.rollLoadDone_obj : (c.rollLoadDone n read).obj n =
    { alloc := some r, roll := readRoll (read r.hub) r.addr r.members, reserved := r.reserve, nextSeq := r.nextSeq } := by
  rw [Chip.rollLoadDone_arms c loading valid fits, Chip.obj, Chip.synStat_coll, Chip.showStore_coll]
  exact Chip.arm_obj _ r _

theorem Chip.rollLoadDone_epoch :
    (c.rollLoadDone n read).rd (R.SYN_EPOCH (objDie n) (n % 512)) = BitVec.ofNat 32 ((c.objEpoch n + 1) % 2 ^ 32) := by
  rw [Chip.rollLoadDone_arms c loading valid fits, Chip.synStat_rd _ _ (by unfold R.SYN_EPOCH R.SYN_OP_STAT; omega),
    Chip.showStore_rd _ (by unfold R.SYN_EPOCH R.SYN_STORE objDie objCore; omega)]
  exact Chip.arm_epoch _ r _

theorem Chip.rollLoadDone_objState : (c.rollLoadDone n read).objState n = 1 := by
  rw [Chip.rollLoadDone_arms c loading valid fits, Chip.objState, Chip.get, Chip.synStat_rd _ _ (by unfold objReg R.SYN_OBJ R.SYN_OP_STAT; omega),
    Chip.showStore_rd _ (by unfold objReg R.SYN_OBJ R.SYN_STORE objDie objCore; omega)]
  exact Chip.arm_objState _ r _

/-- Taking a roll raises no firebreak trigger. -/
theorem Chip.rollLoadDone_integ : (c.rollLoadDone n read).integ = c.integ := by
  rw [Chip.rollLoadDone_arms c loading valid fits, Chip.synStat_integ, Chip.showStore_integ, Chip.arm_integ, Chip.modObj_integ]

end

end

/-! ### SYN_FREE (R320) -/

theorem Chip.synFree_other (other : c.synOp k ≠ 2) : c.synFree k = c := if_pos other

section
variable (held : c.synOp k = 2)
include held

theorem Chip.synFree_free (free : c.objState (c.synObj k) = 0) : c.synFree k = (c.synDone k).synStat (c.synObj k) 6 := by
  rw [Chip.synFree, if_neg (not_not_intro held)]
  exact if_pos free

theorem Chip.synFree_quarantine (state : c.objState (c.synObj k) = 7) : c.synFree k = (c.synDone k).synStat (c.synObj k) 0 := by
  rw [Chip.synFree, if_neg (not_not_intro held)]
  exact (if_neg (by omega)).trans (if_pos state)

/-- Any other object enters QUARANTINE, after the abort of a collective in progress. -/
theorem Chip.synFree_live (used : c.objState (c.synObj k) ≠ 0) (live : c.objState (c.synObj k) ≠ 7) : c.synFree k =
    ((if c.objBusy (c.synObj k) then (c.synDone k).collAbort (c.synObj k) 6 none 0 0 else c.synDone k).toQuarantine (c.synObj k)).synStat
      (c.synObj k) 0 := by
  rw [Chip.synFree, if_neg (not_not_intro held)]
  exact (if_neg used).trans (if_neg live)

end

/-! ### DROP_MEMBER (R320) -/

theorem Chip.dropMember_other (other : c.synOp k ≠ 3) : c.dropMember k = c := if_pos other

section
variable (held : c.synOp k = 3)
include held

theorem Chip.dropMember_notAllocated (state : c.objState (c.synObj k) = 0 ∨ c.objState (c.synObj k) = 7) :
    c.dropMember k = (c.synDone k).synStat (c.synObj k) 6 := by
  rw [Chip.dropMember, if_neg (not_not_intro held)]
  exact if_pos state

/-- A rank of the roll is marked lost, and a collective in progress aborts. -/
theorem Chip.dropMember_marks (used : c.objState (c.synObj k) ≠ 0) (live : c.objState (c.synObj k) ≠ 7)
    (member : c.get (R.SYN_RANK (32 + k)) F.SYN_RANK_RANK < (c.obj (c.synObj k)).roll.length) : c.dropMember k =
      let n := c.synObj k
      let r := c.get (R.SYN_RANK (32 + k)) F.SYN_RANK_RANK
      let c2 := ((c.synDone k).modObj n (fun o => { o with lost := if r ∈ o.lost then o.lost else o.lost ++ [r] })).set (objReg n)
        F.SYN_OBJ_LOST 1
      (if c.objBusy n then c2.collAbort n 4 (some r) 0 0 else c2.lateCause n).synStat n 0 := by
  rw [Chip.dropMember, if_neg (not_not_intro held)]
  exact (if_neg (not_or.mpr ⟨used, live⟩)).trans (if_neg (Nat.not_le.mpr member))

end

/-! ### SYN_READ (R317) -/

theorem Chip.synRead_other (other : c.synOp k ≠ 4) : c.synRead k = c := if_pos other

/-- The words of SYN_RES_n for an object: its descriptor, zeros while none is fixed, NEXT_SEQ and MARK. -/
def SyncObj.resWords (o : SyncObj) : List Nat :=
  (List.range 13).map (fun i => leVal (((o.desc.getD []).drop (4 * i)).take 4)) ++ [o.nextSeq % 2 ^ 32, o.nextSeq / 2 ^ 32, o.mark]

section
variable (held : c.synOp k = 4)
include held

theorem Chip.synRead_free (free : c.objState (c.synObj k) = 0) : c.synRead k = (c.synDone k).synStat (c.synObj k) 6 := by
  rw [Chip.synRead, if_neg (not_not_intro held)]
  exact if_pos free

theorem Chip.synRead_used (used : c.objState (c.synObj k) ≠ 0) : c.synRead k =
    ((c.obj (c.synObj k)).resWords.zipIdx.foldl (fun c w => c.wr (R.SYN_RES (32 + k) w.2) (BitVec.ofNat 32 w.1)) (c.synDone k)).synStat
      (c.synObj k) 0 := by
  rw [Chip.synRead, if_neg (not_not_intro held)]
  exact if_neg used

end

end

/-- Settling changes no sync object. -/
theorem State.settled_obj (s : State) (v : Chip) (due : v.integ.due = []) (n : Nat) : (s.settled v).obj n = v.obj n := by
  rw [Chip.obj, Chip.obj, State.settled_coll s v due]

theorem State.settled_objState (s : State) (v : Chip) (due : v.integ.due = []) (n : Nat) : (s.settled v).objState n = v.objState n :=
  State.settled_get s v due _ _

end Sys2Proof.Machine

open Sys2Proof Sys2Proof.Machine

/-- Settles O48: each operation by whether SYN_OP holds it and by the object's state; settling changes no object and no register. -/
theorem syncObjectOperations : Obligations.SyncObjectOperations := by
  unfold Obligations.SyncObjectOperations
  intro s
  refine ⟨fun k => ⟨fun other => ?_, fun held state queue unqueued => ?_, fun held state queued => ?_, fun held used live => ?_,
      fun held free idle => ⟨fun enabled here => ?_, fun disabled => ?_⟩⟩,
    fun n => ⟨fun idle => ?_, fun r loading => ⟨fun invalid => ?_, fun valid full => ?_, fun hcalm valid fits => ?_⟩⟩,
    fun k => ⟨fun other => ?_, fun held free => ?_, fun held state => ?_, fun held used live => ?_⟩,
    fun k => ⟨fun other => ?_, fun held state => ?_, fun held used live member => ?_⟩,
    fun k => ⟨fun other => ?_, fun held free => ?_, fun held used => ?_⟩⟩
  · rw [exec_synAlloc, Chip.synAlloc_other _ other]
  · rw [exec_synAlloc, Chip.synAlloc_queues _ held state queue unqueued]
  · rw [exec_synAlloc, Chip.synAlloc_busy _ held (by omega) (.inr queued)]
  · rw [exec_synAlloc, Chip.synAlloc_busy _ held used (.inl live)]
  · rw [exec_synAlloc, Chip.synAlloc_free _ held free idle, Chip.allocStart_enabled _ _ enabled here]
  · rw [exec_synAlloc, Chip.synAlloc_free _ held free idle, Chip.allocStart_disabled _ _ disabled]
  · rw [exec_rollLoadDone, Chip.rollLoadDone_idle _ idle]
  · rw [exec_rollLoadDone, Chip.rollLoadDone_invalid _ loading invalid]
  · rw [exec_rollLoadDone, Chip.rollLoadDone_noSpace _ loading valid full]
  · have due : (s.chip.rollLoadDone n s.read).integ.due = [] := by
      rw [Chip.rollLoadDone_integ _ loading valid fits, State.calm_due s hcalm]
    refine ⟨_, exec_rollLoadDone n s, ?_⟩
    rw [State.after_chip, State.settled_obj s _ due, State.settled_rd s _ due, State.settled_objState s _ due,
      Chip.rollLoadDone_obj _ loading valid fits]
    exact ⟨rfl, rfl, Chip.rollLoadDone_epoch _ loading valid fits, Chip.rollLoadDone_objState _ loading valid fits⟩
  · rw [exec_synFree, Chip.synFree_other _ other]
  · rw [exec_synFree, Chip.synFree_free _ held free]
  · rw [exec_synFree, Chip.synFree_quarantine _ held state]
  · rw [exec_synFree, Chip.synFree_live _ held used live]
  · rw [exec_dropMember, Chip.dropMember_other _ other]
  · rw [exec_dropMember, Chip.dropMember_notAllocated _ held state]
  · rw [exec_dropMember, Chip.dropMember_marks _ held used live member]
  · rw [exec_synRead, Chip.synRead_other _ other]
  · rw [exec_synRead, Chip.synRead_free _ held free]
  · rw [exec_synRead, Chip.synRead_used _ held used, SyncObj.resWords]

end

section
/-!
PROOFS. Contributions to collectives (R302, R307, R308), the timers of a collective and of its object (R303, R311, R312, R314, R320)
and the return of a home die (R321).
-/

namespace Sys2Proof.Machine

section
variable (c : Chip) {n : Nat} {x : Cell}

/-! ### The rows of R307 -/

/-- A cell of an object that takes none, or of another epoch, is stale. -/
theorem Chip.contribute_stale (stale : c.objState n = 0 ∨ 6 ≤ c.objState n ∨ x.dest.toNat % 256 ≠ c.objEpoch n % 256) :
    c.contribute n x = c.synStale (objCore n) 1 := if_pos stale

section
variable (used : c.objState n ≠ 0) (live : c.objState n < 6) (epoch : x.dest.toNat % 256 = c.objEpoch n % 256)
include used live epoch

theorem Chip.contribute_notMember (outside : (c.obj n).rank x.src.toNat = none) :
    c.contribute n x = c.synDrop (objCore n) (R.SYN_DROP (32 + objCore n)) F.SYN_DROP_NOT_MEMBER 1 := by
  rw [Chip.contribute, if_neg (by omega), outside]

section
variable {r : Nat} (member : (c.obj n).rank x.src.toNat = some r)
include member

/-- With a descriptor fixed, a member's cell goes through the rows from the fourth on. -/
theorem Chip.contribute_fixed {b : List Nat} (fixed : (c.obj n).desc = some b) : c.contribute n x = c.contribFixed n r x b := by
  rw [Chip.contribute, if_neg (by omega), member, fixed]

variable (unfixed : (c.obj n).desc = none)
include unfixed

/-- Before a descriptor is fixed an element cell is held. -/
theorem Chip.contribute_holds (element : x.seq ≠ 0) : c.contribute n x = c.hold n x := by
  rw [Chip.contribute, if_neg (by omega), member, unfixed]
  exact if_neg (fun h => element h.1)

theorem Chip.contribute_fixes (descriptor : x.seq = 0) (noSag : c.sag = false) :
    c.contribute n x = c.fixDescriptor n r x.payloadBytes := by
  rw [Chip.contribute, if_neg (by omega), member, unfixed]
  exact if_pos ⟨descriptor, by rw [noSag]; rfl⟩

end

end

/-! ### CONTRIBUTION_CELL and PENDING_RELEASE (R302, R308) -/

section
variable {k : Nat}

/-- A cell that is no contribution is left to other commands. -/
theorem Chip.contributionCell_otherKind (other : x.kind ≠ 2) : c.contributionCell k x = c := if_pos (.inl other)

theorem Chip.contributionCell_takes (contribution : x.kind = 2) (home : objCore (x.dest.toNat / 256) = k) (here : c.isolated (32 + k) = false)
    (runs : c.planeRuns (32 + k) = true) : c.contributionCell k x = (c.takeLanded k x).contribute (x.dest.toNat / 256) x :=
  if_neg (by simp [contribution, home, here, runs])

theorem Chip.pendingRelease_isolated (isolated : c.isolated (32 + k) = true) : c.pendingRelease k = c := if_pos isolated

/-- The held cells pass through the rows in the order in which they arrived. -/
theorem Chip.pendingRelease_passes (here : c.isolated (32 + k) = false) :
    c.pendingRelease k = (c.pendingOf k).foldl (fun c p => c.contribute p.obj p.cell) (c.setPending k []) :=
  if_neg (by simp [here])

end

/-! ### PROGRESS_TIMEOUT and COLLECTIVE_TIMEOUT (R303, R311, R312) -/

theorem Chip.progressTimeout_idle (idle : c.objBusy n = false) : c.progressTimeout n = c := if_pos (by rw [idle]; rfl)

/-- Outside a collective, a timeout is at most a further cause of an abort in this slot. -/
theorem Chip.collectiveTimeout_idle (idle : c.objBusy n = false) : c.collectiveTimeout n = c.lateCause n := if_pos (by rw [idle]; rfl)

section
variable (busy : c.objBusy n = true)
include busy

theorem Chip.collectiveTimeout_aborts : c.collectiveTimeout n =
    c.collAbort n 1 ((c.obj n).oldest.bind (fun p => fewest ((c.obj n).chunk p) (c.obj n).roll.length)) 0 0 :=
  if_neg (by rw [busy]; decide)

section
variable {p : Nat} (oldest : (c.obj n).oldest = some p)
include oldest

/-- The oldest incomplete position is asked for again once every member has sent a cell of it. -/
theorem Chip.progressTimeout_replays (begun : ∀ r < (c.obj n).roll.length, SMap.get (fun _ => 0) ((c.obj n).chunk p).counts r ≠ 0) :
    c.progressTimeout n = c.lossReplay n p := by
  rw [Chip.progressTimeout, if_neg (by rw [busy]; decide), oldest]
  exact if_pos (List.all_eq_true.mpr (fun r hr => bne_iff_ne.mpr (begun r (List.mem_range.mp hr))))

/-- A member that has sent no cell of it yet holds the replay up. -/
theorem Chip.progressTimeout_waits (missing : ∃ r < (c.obj n).roll.length, SMap.get (fun _ => 0) ((c.obj n).chunk p).counts r = 0) :
    c.progressTimeout n = c := by
  obtain ⟨r, member, silent⟩ := missing
  rw [Chip.progressTimeout, if_neg (by rw [busy]; decide), oldest]
  exact if_neg (fun all => absurd silent (bne_iff_ne.mp (List.all_eq_true.mp all r (List.mem_range.mpr member))))

end

end

/-! ### SEAL_NOTICE_GAP (R314) -/

theorem Chip.sealGap_none (noGap : (c.obj n).gap = false) : c.sealGap n = c := if_pos (by rw [noGap]; rfl)

section
variable (gap : (c.obj n).gap = true)
include gap

/-- A MARK not yet told goes out at the end of the gap. -/
theorem Chip.sealGap_tells (untold : (c.obj n).told < (c.obj n).mark) (busy : c.objBusy n = true) :
    c.sealGap n = c.sealNotice n (c.seqOf n) 0 := by
  rw [Chip.sealGap, if_neg (by rw [gap]; decide)]
  exact if_pos ⟨untold, busy⟩

theorem Chip.sealGap_ends (told : (c.obj n).mark ≤ (c.obj n).told) :
    c.sealGap n = c.modObj n (fun o => { o with gap := false }) := by
  rw [Chip.sealGap, if_neg (by rw [gap]; decide)]
  exact if_neg (fun h => Nat.not_lt.mpr told h.1)

end

/-! ### ABORT_HOLD_EXPIRY and QUARANTINE_EXPIRY (R303, R320) -/

theorem Chip.abortHoldExpiry_aborted (aborted : c.objState n = 6) : c.abortHoldExpiry n = c.setObjState n 1 := if_pos aborted

theorem Chip.abortHoldExpiry_other (other : c.objState n ≠ 6) : c.abortHoldExpiry n = c := if_neg other

theorem Chip.quarantineExpiry_other (other : c.objState n ≠ 7) : c.quarantineExpiry n = c := if_pos other

section
variable (quarantine : c.objState n = 7)
include quarantine

theorem Chip.quarantineExpiry_frees (unqueued : (c.obj n).queued = none) :
    c.quarantineExpiry n = ((c.setObjState n 0).set (objReg n) F.SYN_OBJ_QUEUED 0).setObj n {} := by
  rw [Chip.quarantineExpiry, if_neg (not_not_intro quarantine), unqueued]

/-- A request that waited takes effect on the object, now FREE. -/
theorem Chip.quarantineExpiry_allocates {r : AllocReq} (queued : (c.obj n).queued = some r) :
    c.quarantineExpiry n = (((c.setObjState n 0).set (objReg n) F.SYN_OBJ_QUEUED 0).setObj n {}).allocStart n r := by
  rw [Chip.quarantineExpiry, if_neg (not_not_intro quarantine), queued]

end

/-! ### HOME_DIE_READMIT (R321) -/

section
variable {k : Nat}

theorem Chip.homeReadmit_isolated (isolated : c.isolated (32 + k) = true) : c.homeReadmit k = c := if_pos (.inl isolated)

/-- Each object lost with the die leaves for QUARANTINE. -/
theorem Chip.homeReadmit_returns (here : c.isolated (32 + k) = false) (runs : c.planeRuns (32 + k) = true) :
    c.homeReadmit k = ((c.coll.orphans.filter (fun e => objCore e.1 == k)).map (·.1)).foldl Chip.orphanReturn c :=
  if_neg (by simp [here, runs])

end

end

end Sys2Proof.Machine

open Sys2Proof Sys2Proof.Machine

/-- Settles O49: a contribution by the rows of R307, a timer by the state of its object and of its oldest incomplete position. -/
theorem collectivesCollectAbortAndRest : Obligations.CollectivesCollectAbortAndRest := by
  unfold Obligations.CollectivesCollectAbortAndRest
  intro s
  refine ⟨fun k x => ⟨fun other => ?_, fun contribution home here runs => ?_⟩,
    fun k => ⟨fun isolated => ?_, fun here => ?_⟩,
    fun n => ⟨fun idle => ⟨?_, ?_⟩, fun busy => ?_, fun p busy oldest => ⟨fun begun => ?_, fun missing => ?_⟩⟩,
    fun n => ⟨fun noGap => ?_, fun gap untold busy => ?_, fun gap told => ?_, fun aborted => ?_, fun other => ?_⟩,
    fun n => ⟨fun other => ?_, fun quarantine unqueued => ?_, fun r quarantine queued => ?_⟩,
    fun k => ⟨fun isolated => ?_, fun here runs => ?_⟩⟩
  · rw [exec_contributionCell, Chip.contributionCell_otherKind _ other]
  · rw [exec_contributionCell, Chip.contributionCell_takes _ contribution home here runs]
    refine ⟨fun stale => ?_, fun used live epoch => ⟨fun outside => ?_, fun r member unfixed element => ?_,
      fun r member unfixed descriptor noSag => ?_, fun r b member fixed => ?_⟩⟩
    · rw [Chip.contribute_stale _ stale, home]
    · rw [Chip.contribute_notMember _ used live epoch outside, home]
    · rw [Chip.contribute_holds _ used live epoch member unfixed element]
    · rw [Chip.contribute_fixes _ used live epoch member unfixed descriptor noSag]
    · rw [Chip.contribute_fixed _ used live epoch member fixed]
  · rw [exec_pendingRelease, Chip.pendingRelease_isolated _ isolated]
  · rw [exec_pendingRelease, Chip.pendingRelease_passes _ here]
  · rw [exec_progressTimeout, Chip.progressTimeout_idle _ idle]
  · rw [exec_collectiveTimeout, Chip.collectiveTimeout_idle _ idle]
  · rw [exec_collectiveTimeout, Chip.collectiveTimeout_aborts _ busy]
  · rw [exec_progressTimeout, Chip.progressTimeout_replays _ busy oldest begun]
  · rw [exec_progressTimeout, Chip.progressTimeout_waits _ busy oldest missing]
  · rw [exec_sealNoticeGap, Chip.sealGap_none _ noGap]
  · rw [exec_sealNoticeGap, Chip.sealGap_tells _ gap untold busy]
  · rw [exec_sealNoticeGap, Chip.sealGap_ends _ gap told]
  · rw [exec_abortHoldExpiry, Chip.abortHoldExpiry_aborted _ aborted]
  · rw [exec_abortHoldExpiry, Chip.abortHoldExpiry_other _ other]
  · rw [exec_quarantineExpiry, Chip.quarantineExpiry_other _ other]
  · rw [exec_quarantineExpiry, Chip.quarantineExpiry_frees _ quarantine unqueued]
  · rw [exec_quarantineExpiry, Chip.quarantineExpiry_allocates _ quarantine queued]
  · rw [exec_homeDieReadmit, Chip.homeReadmit_isolated _ isolated]
  · rw [exec_homeDieReadmit, Chip.homeReadmit_returns _ here runs]

end

section
/-!
PROOFS. Matrices and recipes of a core die (R348, R353, R370): what the operation that TRF_OP holds does, and TRF_READ.
-/

namespace Sys2Proof.Machine

section
variable (c : Chip) {k : Nat} (read : HubRead)

/-! ### LOAD_MATRIX and DROP_MATRIX (R348, R370) -/

theorem Chip.loadMatrix_other (other : c.trfOp k ≠ 1) : c.loadMatrix k read = c := if_pos other

section
variable (held : c.trfOp k = 1)
include held

/-- Only BF16 and E4M3, and only numbers up to 127. -/
theorem Chip.loadMatrix_invalid (bad : (c.trfArgA k % 256 ≠ 3 ∧ c.trfArgA k % 256 ≠ 5) ∨ 128 ≤ c.trfId k) :
    c.loadMatrix k read = c.trfEnd k 3 :=
  (if_neg (not_not_intro held)).trans (if_pos bad)

section
variable (format : c.trfArgA k % 256 = 3 ∨ c.trfArgA k % 256 = 5) (number : c.trfId k < 128)
include format number

theorem Chip.loadMatrix_noSpace (full : c.trfFits k (c.trfId k) (c.trfArgA k % 256) = false) :
    c.loadMatrix k read = c.trfEnd k 2 :=
  (if_neg (not_not_intro held)).trans ((if_neg (by omega)).trans (if_pos (congrArg not full)))

/-- A matrix that fits holds the 1,024 entries of hub memory, of two bytes in BF16 and of one in E4M3. -/
theorem Chip.loadMatrix_loads (fits : c.trfFits k (c.trfId k) (c.trfArgA k % 256) = true) :
    c.loadMatrix k read = (c.setMat k (c.trfId k) (some ⟨c.trfArgA k % 256, (List.range 1024).map (fun j =>
      readLe (read (c.trfHub k)) (c.trfAddr k + (if c.trfArgA k % 256 = 3 then 2 else 1) * j) (if c.trfArgA k % 256 = 3 then 2 else 1))⟩)).trfEnd k 0 :=
  (if_neg (not_not_intro held)).trans ((if_neg (by omega)).trans (if_neg (Bool.eq_false_iff.mp (congrArg not fits))))

end

end

theorem Chip.dropMatrix_other (other : c.trfOp k ≠ 2) : c.dropMatrix k = c := if_pos other

/-- Does a collective of core die k run a transform by matrix i? -/
def Chip.matrixInUse (c : Chip) (k i : Nat) : Bool :=
  c.inUse k (fun o => (progSteps o.prog).any (fun t => t.1.op == 4 && t.1.arg == i))

section
variable (held : c.trfOp k = 2)
include held

theorem Chip.dropMatrix_notFound (absent : c.matAt k (c.trfId k) = none ∨ 128 ≤ c.trfId k) : c.dropMatrix k = c.trfEnd k 4 :=
  (if_neg (not_not_intro held)).trans (if_pos (absent.imp_left Option.isNone_iff_eq_none.mpr))

section
variable (present : (c.matAt k (c.trfId k)).isSome = true) (number : c.trfId k < 128)
include present number

theorem Chip.dropMatrix_inUse (used : c.matrixInUse k (c.trfId k) = true) : c.dropMatrix k = c.trfEnd k 1 :=
  (if_neg (not_not_intro held)).trans ((if_neg (by simp [Option.isSome_iff_ne_none.mp present, number])).trans (if_pos used))

theorem Chip.dropMatrix_drops (unused : c.matrixInUse k (c.trfId k) = false) :
    c.dropMatrix k = (c.setMat k (c.trfId k) none).trfEnd k 0 :=
  (if_neg (not_not_intro held)).trans
    ((if_neg (by simp [Option.isSome_iff_ne_none.mp present, number])).trans (if_neg (Bool.eq_false_iff.mp unused)))

end

end

/-! ### LOAD_RECIPE and DROP_RECIPE (R353, R370) -/

theorem Chip.loadRecipe_other (other : c.trfOp k ≠ 3) : c.loadRecipe k read = c := if_pos other

/-- The recipe that stands at TRF_ADDR: its step words up to END, at most 32. -/
def Chip.recipeRead (c : Chip) (k : Nat) (read : HubRead) : List Nat :=
  recipeWords ((List.range 32).map (fun j => readLe (read (c.trfHub k)) (c.trfAddr k + 8 * j) 8))

section
variable (held : c.trfOp k = 3)
include held

/-- Slot 0 is no slot. -/
theorem Chip.loadRecipe_slotZero (zero : c.trfId k = 0) : c.loadRecipe k read = c.trfEnd k 3 :=
  (if_neg (not_not_intro held)).trans (if_pos zero)

section
variable (slot : c.trfId k ≠ 0)
include slot

theorem Chip.loadRecipe_inUse (used : c.recipeInUse k (c.trfId k) = true) : c.loadRecipe k read = c.trfEnd k 1 :=
  (if_neg (not_not_intro held)).trans ((if_neg slot).trans (if_pos used))

section
variable (unused : c.recipeInUse k (c.trfId k) = false)
include unused

theorem Chip.loadRecipe_invalid (invalid : recipeValid (c.recipeRead k read) false = false) : c.loadRecipe k read = c.trfEnd k 3 :=
  (if_neg (not_not_intro held)).trans
    ((if_neg slot).trans ((if_neg (Bool.eq_false_iff.mp unused)).trans (if_pos (congrArg not invalid))))

theorem Chip.loadRecipe_loads (valid : recipeValid (c.recipeRead k read) false = true) :
    c.loadRecipe k read = (c.setRec k (c.trfId k) (some (c.recipeRead k read))).trfEnd k 0 :=
  (if_neg (not_not_intro held)).trans
    ((if_neg slot).trans ((if_neg (Bool.eq_false_iff.mp unused)).trans (if_neg (Bool.eq_false_iff.mp (congrArg not valid)))))

end

end

end

theorem Chip.dropRecipe_other (other : c.trfOp k ≠ 4) : c.dropRecipe k = c := if_pos other

section
variable (held : c.trfOp k = 4)
include held

theorem Chip.dropRecipe_notFound (absent : c.recAt k (c.trfId k) = none) : c.dropRecipe k = c.trfEnd k 4 :=
  (if_neg (not_not_intro held)).trans (if_pos (Option.isNone_iff_eq_none.mpr absent))

section
variable (present : (c.recAt k (c.trfId k)).isSome = true)
include present

theorem Chip.dropRecipe_inUse (used : c.recipeInUse k (c.trfId k) = true) : c.dropRecipe k = c.trfEnd k 1 :=
  (if_neg (not_not_intro held)).trans ((if_neg (by simp [Option.isSome_iff_ne_none.mp present])).trans (if_pos used))

theorem Chip.dropRecipe_drops (unused : c.recipeInUse k (c.trfId k) = false) :
    c.dropRecipe k = (c.setRec k (c.trfId k) none).trfEnd k 0 :=
  (if_neg (not_not_intro held)).trans
    ((if_neg (by simp [Option.isSome_iff_ne_none.mp present])).trans (if_neg (Bool.eq_false_iff.mp unused)))

end

end

/-! ### TRF_READ (R370) -/

theorem Chip.trfRead_other (other : c.trfOp k ≠ 8) : c.trfRead k = c := if_pos other

section
variable (held : c.trfOp k = 8)
include held

theorem Chip.trfRead_invalid (class3 : c.trfArgA k % 4 = 3) : c.trfRead k = c.trfEnd k 3 :=
  (if_neg (not_not_intro held)).trans (if_pos class3)

section
variable (class0 : c.trfArgA k % 4 = 0)
include class0

theorem Chip.trfRead_binding {b : Binding} (number : c.trfId k < 64) (bound : c.bind k (c.trfId k) = some b) :
    c.trfRead k = (c.trfRes k (b.bytesOf.take 64)).trfEnd k 0 := by
  simp [Chip.trfRead, held, class0, number, bound]

theorem Chip.trfRead_unbound (unbound : c.bind k (c.trfId k) = none) : c.trfRead k = c.trfEnd k 4 := by
  simp [Chip.trfRead, held, class0, unbound]

end

theorem Chip.trfRead_recipe (class2 : c.trfArgA k % 4 = 2) {ws : List Nat} (present : c.recAt k (c.trfId k) = some ws) :
    c.trfRead k = (c.trfRes k ((ws.flatMap (leBytes 8)).take 64)).trfEnd k 0 := by
  simp [Chip.trfRead, held, class2, present]

end

end

end Sys2Proof.Machine

open Sys2Proof Sys2Proof.Machine

/-- Settles O51: each operation by whether TRF_OP holds it, whether what it names is held and fits, and whether a collective uses it. -/
theorem transformOperations : Obligations.TransformOperations := by
  unfold Obligations.TransformOperations
  intro s
  refine ⟨fun k => ⟨fun other => ?_, fun held bad => ?_, fun held format number full => ?_, fun held format number fits => ?_⟩,
    fun k => ⟨fun other => ?_, fun held absent => ?_, fun held present number => ⟨fun used => ?_, fun unused => ?_⟩⟩,
    fun k => ⟨fun other => ?_, fun held zero => ?_, fun held slot used => ?_, fun held slot unused invalid => ?_,
      fun held slot unused valid => ?_⟩,
    fun k => ⟨fun other => ?_, fun held absent => ?_, fun held present used => ?_, fun held present unused => ?_⟩,
    fun k => ⟨fun other => ?_, fun held class3 => ?_, fun b held class0 number bound => ?_, fun held class0 unbound => ?_,
      fun ws held class2 present => ?_⟩⟩
  · rw [exec_loadMatrix, Chip.loadMatrix_other _ _ other]
  · rw [exec_loadMatrix, Chip.loadMatrix_invalid _ _ held bad]
  · rw [exec_loadMatrix, Chip.loadMatrix_noSpace _ _ held format number full]
  · rw [exec_loadMatrix, Chip.loadMatrix_loads _ _ held format number fits]
  · rw [exec_dropMatrix, Chip.dropMatrix_other _ other]
  · rw [exec_dropMatrix, Chip.dropMatrix_notFound _ held absent]
  · rw [exec_dropMatrix, Chip.dropMatrix_inUse _ held present number used]
  · rw [exec_dropMatrix, Chip.dropMatrix_drops _ held present number unused]
  · rw [exec_loadRecipe, Chip.loadRecipe_other _ _ other]
  · rw [exec_loadRecipe, Chip.loadRecipe_slotZero _ _ held zero]
  · rw [exec_loadRecipe, Chip.loadRecipe_inUse _ _ held slot used]
  · rw [exec_loadRecipe, Chip.loadRecipe_invalid _ _ held slot unused invalid]
  · rw [exec_loadRecipe, Chip.loadRecipe_loads _ _ held slot unused valid, Chip.recipeRead]
  · rw [exec_dropRecipe, Chip.dropRecipe_other _ other]
  · rw [exec_dropRecipe, Chip.dropRecipe_notFound _ held absent]
  · rw [exec_dropRecipe, Chip.dropRecipe_inUse _ held present used]
  · rw [exec_dropRecipe, Chip.dropRecipe_drops _ held present unused]
  · rw [exec_trfRead, Chip.trfRead_other _ other]
  · rw [exec_trfRead, Chip.trfRead_invalid _ held class3]
  · rw [exec_trfRead, Chip.trfRead_binding _ held class0 number bound]
  · rw [exec_trfRead, Chip.trfRead_unbound _ held class0 unbound]
  · rw [exec_trfRead, Chip.trfRead_recipe _ held class2 present]

end

section
/-!
PROOFS. Bindings (R359, R360, R364, R367): what BIND, UNBIND and STATE_COPY do, and the end of a fill and of a copy.
-/

namespace Sys2Proof.Machine

section
variable (c : Chip) {k : Nat} (read : HubRead)

/-! ### BIND and BIND_ZERO_DONE (R360) -/

theorem Chip.bindOp_other (other : c.trfOp k ≠ 5) : c.bindOp k read = c := if_pos other

/-- The binding record that stands at TRF_ADDR. -/
def Chip.bindRecord (c : Chip) (k : Nat) (read : HubRead) : Binding := readBinding (read (c.trfHub k)) (c.trfAddr k)

/-- BIND takes no such number or record: the number above 63, the object not homed here or not allocated, or the rule unknown. -/
def Chip.bindInvalid (c : Chip) (k : Nat) (b : Binding) : Prop :=
  64 ≤ c.trfId k ∨ 4096 ≤ b.object ∨ objCore b.object ≠ k ∨ c.objState b.object = 0 ∨ c.objState b.object = 7 ∨ 2 < b.rule

section
variable (held : c.trfOp k = 5)
include held

theorem Chip.bindOp_invalid (invalid : c.bindInvalid k (c.bindRecord k read)) : c.bindOp k read = c.trfEnd k 3 :=
  (if_neg (not_not_intro held)).trans (if_pos invalid)

section
variable (valid : ¬ c.bindInvalid k (c.bindRecord k read))
include valid

theorem Chip.bindOp_inUse (used : (c.bind k (c.trfId k)).isSome = true ∨ (c.bindOf (c.bindRecord k read).object).isSome = true) :
    c.bindOp k read = c.trfEnd k 1 :=
  (if_neg (not_not_intro held)).trans ((if_neg valid).trans (if_pos used))

section
variable (number : c.bind k (c.trfId k) = none) (object : c.bindOf (c.bindRecord k read).object = none)
include number object

theorem Chip.bindOp_noSpace (full : c.bindFits k (c.bindRecord k read) = false) : c.bindOp k read = c.trfEnd k 2 :=
  (if_neg (not_not_intro held)).trans
    ((if_neg valid).trans ((if_neg (not_or.mpr ⟨Option.not_isSome_iff_eq_none.mpr number, Option.not_isSome_iff_eq_none.mpr object⟩)).trans
      (if_pos (congrArg not full))))

/-- The binding holds, BUSY while ZERO has its records filled. -/
theorem Chip.bindOp_binds (fits : c.bindFits k (c.bindRecord k read) = true) : c.bindOp k read =
    (c.setBind k (c.trfId k) (some { c.bindRecord k read with
      busy := bitOf (read (c.trfHub k) (c.trfAddr k + 3)) 0 })).trfEnd k 0 :=
  (if_neg (not_not_intro held)).trans ((if_neg valid).trans
    ((if_neg (not_or.mpr ⟨Option.not_isSome_iff_eq_none.mpr number, Option.not_isSome_iff_eq_none.mpr object⟩)).trans
      (if_neg (Bool.eq_false_iff.mp (congrArg not fits)))))

end

end

end

section
variable {i : Nat}

theorem Chip.bindZeroDone_unbound (unbound : c.bind k i = none) : c.bindZeroDone k i = c := by
  rw [Chip.bindZeroDone, unbound]

section
variable {b : Binding} (bound : c.bind k i = some b)
include bound

/-- Only a fill ends here: not a binding at rest, nor one whose records a copy moves. -/
theorem Chip.bindZeroDone_noFill (noFill : b.busy = false ∨ b.copy.isSome = true) : c.bindZeroDone k i = c := by
  rw [Chip.bindZeroDone, bound]
  exact if_pos (noFill.imp_left (congrArg not))

theorem Chip.bindZeroDone_fills (busy : b.busy = true) (noCopy : b.copy = none) : c.bindZeroDone k i =
    ((List.range b.chunks).foldl (fun c r => c.zeroRecord k b r) c).setBind k i (some { b with busy := false }) := by
  rw [Chip.bindZeroDone, bound]
  exact if_neg (by simp [busy, noCopy])

end

end

/-! ### UNBIND (R359, R370) -/

theorem Chip.unbindOp_other (other : c.trfOp k ≠ 6) : c.unbindOp k = c := if_pos other

/-- A binding that ends makes the copies its seals still wait for, and is gone. -/
theorem Chip.unbind_bound {i : Nat} {b : Binding} (bound : c.bind k i = some b) :
    c.unbind k i = (b.commits.foldl (fun c r => c.copyRecord k b r) c).setBind k i none := by
  rw [Chip.unbind, bound]

section
variable (held : c.trfOp k = 6)
include held

theorem Chip.unbindOp_notFound (unbound : c.bind k (c.trfId k) = none) : c.unbindOp k = c.trfEnd k 4 := by
  simp only [Chip.unbindOp, if_neg (not_not_intro held), unbound]

section
variable {b : Binding} (bound : c.bind k (c.trfId k) = some b)
include bound

theorem Chip.unbindOp_busy (busy : c.objBusy b.object = true ∨ b.busy = true) : c.unbindOp k = c.trfEnd k 5 := by
  simp only [Chip.unbindOp, if_neg (not_not_intro held), bound]
  exact if_pos busy

theorem Chip.unbindOp_ends (idle : c.objBusy b.object = false) (rests : b.busy = false) :
    c.unbindOp k = (c.unbind k (c.trfId k)).trfEnd k 0 := by
  simp only [Chip.unbindOp, if_neg (not_not_intro held), bound]
  exact if_neg (by simp [idle, rests])

end

end

/-! ### STATE_COPY (R367) -/

theorem Chip.stateCopy_other (other : c.trfOp k ≠ 7) : c.stateCopy k = c := if_pos other

/-- A binding at rest of an ARMED, SEALED or ABORTED object does not take the branch of a refused copy. -/
theorem Chip.stateCopy_goes {b : Binding} (rests : b.busy = false)
    (state : c.objState b.object = 1 ∨ c.objState b.object = 5 ∨ c.objState b.object = 6) :
    ¬ (b.busy = true ∨ (!(c.objState b.object == 1 || c.objState b.object == 5 || c.objState b.object == 6)) = true) := by
  rcases state with armed | ended | aborted
  · simp [rests, armed]
  · simp [rests, ended]
  · simp [rests, aborted]

section
variable (held : c.trfOp k = 7)
include held

theorem Chip.stateCopy_notFound (unbound : c.bind k (c.trfId k) = none) : c.stateCopy k = c.trfEnd k 4 := by
  simp only [Chip.stateCopy, if_neg (not_not_intro held), unbound]

section
variable {b : Binding} (bound : c.bind k (c.trfId k) = some b)
include bound

/-- A copy is refused while the binding is BUSY, and unless the object is ARMED, SEALED or ABORTED. -/
theorem Chip.stateCopy_busy
    (busy : b.busy = true ∨ c.objState b.object ≠ 1 ∧ c.objState b.object ≠ 5 ∧ c.objState b.object ≠ 6) :
    c.stateCopy k = c.trfEnd k 5 := by
  simp only [Chip.stateCopy, if_neg (not_not_intro held), bound]
  exact if_pos (by simpa [and_assoc] using busy)

section
variable (rests : b.busy = false) (state : c.objState b.object = 1 ∨ c.objState b.object = 5 ∨ c.objState b.object = 6)
include rests state

theorem Chip.stateCopy_invalid (beyond : b.chunks < c.trfArgA k / 256 + c.trfArgB k % 2 ^ 24) : c.stateCopy k = c.trfEnd k 3 := by
  simp only [Chip.stateCopy, if_neg (not_not_intro held), bound]
  exact (if_neg (c.stateCopy_goes rests state)).trans (if_pos beyond)

theorem Chip.stateCopy_starts (within : c.trfArgA k / 256 + c.trfArgB k % 2 ^ 24 ≤ b.chunks) : c.stateCopy k =
    (c.setBind k (c.trfId k) (some { b with busy := true, copy := some (c.trfArgA k % 2, c.trfArgA k / 256,
      c.trfArgB k % 2 ^ 24, c.trfHub k, c.trfAddr k) })).trfEnd k 0 := by
  simp only [Chip.stateCopy, if_neg (not_not_intro held), bound]
  exact (if_neg (c.stateCopy_goes rests state)).trans (if_neg (Nat.not_lt.mpr within))

end

end

end

/-! ### STATE_COPY_DONE (R367) -/

section
variable {i first count hub a : Nat} {b : Binding} (bound : c.bind k i = some b)
include bound

theorem Chip.stateCopyDone_noCopy (noCopy : b.copy = none) : c.stateCopyDone k i read = ([], c) := by
  rw [Chip.stateCopyDone, bound]
  simp only [noCopy]

/-- A copy into HBM3E fills the records, and the binding is LOST no longer. -/
theorem Chip.stateCopyDone_into (copy : b.copy = some (0, first, count, hub, a)) : c.stateCopyDone k i read =
    ([], ((List.range count).foldl (fun c j => c.recordIn k b (first + j) (read hub) (a + j * b.stride)) c).setBind k i
      (some { b with busy := false, copy := none, lost := false })) := by
  rw [Chip.stateCopyDone, bound]
  simp only [copy, if_true]

/-- A copy out writes hub memory and leaves the records. -/
theorem Chip.stateCopyDone_out (copy : b.copy = some (1, first, count, hub, a)) : c.stateCopyDone k i read =
    ((List.range count).flatMap (fun j => c.recordOut k b (first + j) hub (a + j * b.stride)),
      (c.hbmRead k (count * b.stride)).setBind k i (some { b with busy := false, copy := none })) := by
  rw [Chip.stateCopyDone, bound]
  simp only [copy, Nat.one_ne_zero, if_false]

end

end

end Sys2Proof.Machine

open Sys2Proof Sys2Proof.Machine

/-- Settles O52: each operation by whether TRF_OP holds it and by the binding it names, each end by the binding's copy. -/
theorem bindingsBindCopyAndEnd : Obligations.BindingsBindCopyAndEnd := by
  unfold Obligations.BindingsBindCopyAndEnd
  intro s
  refine ⟨fun k => ⟨fun other => ?_, fun held invalid => ?_, fun held number object home allocated live rule => ?_⟩,
    fun k i => ⟨fun unbound => ?_, fun b bound noFill => ?_, fun b bound busy noCopy => ?_⟩,
    fun k => ⟨fun other => ?_, fun held unbound => ?_, fun b held bound => ⟨fun busy => ?_, fun idle rests => ?_⟩⟩,
    fun k => ⟨fun other => ?_, fun held unbound => ?_, fun b held bound =>
      ⟨fun busy => ?_, fun rests state beyond => ?_, fun rests state within => ?_⟩⟩,
    fun k i b first count hub a bound => ⟨fun noCopy => ?_, fun copy => ?_, fun copy => ?_⟩⟩
  · rw [exec_bind, Chip.bindOp_other _ _ other]
  · rw [exec_bind, Chip.bindOp_invalid _ _ held invalid]
  · have valid : ¬ s.chip.bindInvalid k (s.chip.bindRecord k s.read) := by
      rintro (n | n | n | n | n | n)
      · exact absurd number (Nat.not_lt.mpr n)
      · exact absurd object (Nat.not_lt.mpr n)
      · exact n home
      · exact allocated n
      · exact live n
      · exact absurd rule (Nat.not_le.mpr n)
    refine ⟨fun used => ?_, fun free unbound full => ?_, fun free unbound fits => ?_⟩
    · rw [exec_bind, Chip.bindOp_inUse _ _ held valid used]
    · rw [exec_bind, Chip.bindOp_noSpace _ _ held valid free unbound full]
    · rw [exec_bind, Chip.bindOp_binds _ _ held valid free unbound fits, Chip.bindRecord]
  · rw [exec_bindZeroDone, Chip.bindZeroDone_unbound _ unbound]
  · rw [exec_bindZeroDone, Chip.bindZeroDone_noFill _ bound noFill]
  · rw [exec_bindZeroDone, Chip.bindZeroDone_fills _ bound busy noCopy]
  · rw [exec_unbind, Chip.unbindOp_other _ other]
  · rw [exec_unbind, Chip.unbindOp_notFound _ held unbound]
  · rw [exec_unbind, Chip.unbindOp_busy _ held bound busy]
  · rw [exec_unbind, Chip.unbindOp_ends _ held bound idle rests, Chip.unbind_bound _ bound]
  · rw [exec_stateCopy, Chip.stateCopy_other _ other]
  · rw [exec_stateCopy, Chip.stateCopy_notFound _ held unbound]
  · rw [exec_stateCopy, Chip.stateCopy_busy _ held bound busy]
  · rw [exec_stateCopy, Chip.stateCopy_invalid _ held bound rests state beyond]
  · rw [exec_stateCopy, Chip.stateCopy_starts _ held bound rests state within]
  · rw [exec_stateCopyDone, Chip.stateCopyDone_noCopy _ _ bound noCopy, State.store_nil, State.after]
  · rw [exec_stateCopyDone, Chip.stateCopyDone_into _ _ bound copy, State.store_nil, State.after]
  · rw [exec_stateCopyDone, Chip.stateCopyDone_out _ _ bound copy]

end

section
/-!
PROOFS. The residue check of a chunk (R374, R375), the verdict of its rerun (R376), the end of its recipe steps (R355, R368) and the copy
of its record (R364).
-/

namespace Sys2Proof.Machine

section
variable (c : Chip) {n pos : Nat} {err : CheckErr}

/-- The residues of the pass of position pos that has just ended. -/
def Chip.residuesOf (c : Chip) (n pos : Nat) (err : CheckErr) : Residues :=
  passResidues ((c.obj n).geo.2.elemsAt pos) ((c.obj n).chunk pos) err

/-! ### RESIDUE_CHECK_DONE (R374, R375) -/

theorem Chip.residueCheckDone_closed (closed : c.checkOpen n pos false = false) : c.residueCheckDone n pos err = c :=
  if_neg (Bool.eq_false_iff.mp closed)

theorem Chip.residueCheckDone_open (opened : c.checkOpen n pos false = true) :
    c.residueCheckDone n pos err = c.firstVerdict n pos err := if_pos opened

/-- Residues that match for both primes: the chunk is checked, and sealed if it may be. -/
theorem Chip.firstVerdict_clean (primeA : (c.residuesOf n pos err).raA = (c.residuesOf n pos err).cA)
    (primeB : (c.residuesOf n pos err).raB = (c.residuesOf n pos err).cB) : c.firstVerdict n pos err =
      ((c.incWrap (R.RED_CHK_CNT (32 + objCore n)) F.RED_CHK_CNT_CHECKS 1).setChunk n pos
        { (c.obj n).chunk pos with checked := true }).trySeal n pos :=
  if_pos (Bool.and_eq_true_iff.mpr ⟨beq_iff_eq.mpr primeA, beq_iff_eq.mpr primeB⟩)

/-! ### RERUN_VERDICT (R376) -/

theorem Chip.rerunVerdict_closed (differs : Bool) (closed : c.checkOpen n pos true = false) :
    c.rerunVerdict n pos err differs = c := if_pos (congrArg not closed)

section
variable {r1 : Residues} (opened : c.checkOpen n pos true = true) (first : ((c.obj n).chunk pos).first = some r1)
  (agree : (c.residuesOf n pos err).acc = (c.residuesOf n pos err).chk)
include opened first agree

/-- The rerun agrees with itself and with the first pass's checkers: the first pass was wrong. -/
theorem Chip.rerunVerdict_firstPass (differs : Bool) (checkers : (c.residuesOf n pos err).chk = r1.chk) :
    c.rerunVerdict n pos err differs =
      let k := objCore n
      let x := (c.obj n).chunk pos
      let c1 := c.incWrap (R.RED_CHK_CNT (32 + k)) F.RED_CHK_CNT_CHECKS 1
      let c2 := ((c1.showVerdict k x.cluster n pos 11 (c.residuesOf n pos err) x.groups).countVerdict k F.RED_CHK_FAULT_FIRST_PASS).verdictNotice
        (verdictUnit k x.firstCluster x.groups) 11 0xFFF n
      (c2.rerunKnown n (some pos) 1).rerunStands n pos x differs := by
  simp only [Chip.rerunVerdict, opened, first, Option.getD_some, Chip.residuesOf]
  exact (if_neg (by decide)).trans (if_pos ⟨agree, checkers⟩)

/-- The rerun agrees with itself and with the first pass's accumulators: the first checkers were wrong, and both are implicated. -/
theorem Chip.rerunVerdict_checkers (differs : Bool) (others : (c.residuesOf n pos err).chk ≠ r1.chk)
    (accumulators : (c.residuesOf n pos err).acc = r1.acc) :
    c.rerunVerdict n pos err differs =
      let k := objCore n
      let x := (c.obj n).chunk pos
      let c1 := c.incWrap (R.RED_CHK_CNT (32 + k)) F.RED_CHK_CNT_CHECKS 1
      let c2 := (c1.showVerdict k x.cluster n pos 12 (c.residuesOf n pos err) []).verdictNotice (checkerUnit k x.firstCluster 0) 12 0xFFF n
      let c3 := (c2.implicateChecker k x.firstCluster 0 n pos r1 x.sent).implicateChecker k x.firstCluster 1 n pos r1 x.sent
      (c3.rerunKnown n (some pos) 2).rerunStands n pos x differs := by
  simp only [Chip.rerunVerdict, opened, first, Option.getD_some, Chip.residuesOf]
  exact (if_neg (by decide)).trans ((if_neg (fun h => others h.2)).trans (if_pos ⟨agree, accumulators⟩))

end

/-! ### RECIPE_STEPS_DONE (R355, R368) -/

/-- Steps end only of a chunk that is complete and whose steps have not yet run, in a collective under way. -/
theorem Chip.recipeStepsDone_waits (ecc : Bool)
    (waits : c.objBusy n = false ∨ ((c.obj n).chunk pos).complete = false ∨ ((c.obj n).chunk pos).stepped = true) :
    c.recipeStepsDone n pos ecc = c :=
  if_pos (waits.imp (congrArg not) (Or.imp (congrArg not) Or.inl))

section
variable (busy : c.objBusy n = true) (complete : ((c.obj n).chunk pos).complete = true) (unstepped : ((c.obj n).chunk pos).stepped = false)
  (unwanted : ((c.obj n).chunk pos).wanted = 0) (unsealed : (c.obj n).isSealed pos = false)
include busy complete unstepped unwanted unsealed

/-- Such a chunk does not take the branch of one whose steps wait. -/
theorem Chip.recipeStepsDone_goes : ¬ ((!c.objBusy n) = true ∨ (!((c.obj n).chunk pos).complete) = true ∨
    ((c.obj n).chunk pos).stepped = true ∨ ((c.obj n).chunk pos).wanted ≠ 0 ∨ (c.obj n).isSealed pos = true) := by
  simp [busy, complete, unstepped, unwanted, unsealed]

/-- Without an OPTIMIZE the steps run on the working values alone. -/
theorem Chip.recipeStepsDone_plain (ecc : Bool) (plain : (progSteps (c.obj n).prog).any (fun t => t.1.op == 6) = false) :
    c.recipeStepsDone n pos ecc =
      (c.countPasses (objCore n) ((c.obj n).chunk pos).cluster (progSteps (c.obj n).prog) ((c.obj n).geo.2.elemsAt pos)).stepsEnd n pos
        (runSteps none [] (progSteps (c.obj n).prog) ((c.obj n).chunk pos).work) none :=
  (if_neg (c.recipeStepsDone_goes busy complete unstepped unwanted unsealed)).trans (if_neg (Bool.eq_false_iff.mp plain))

section
variable {i : Nat} {b : Binding} {p : OptParams} (updates : (progSteps (c.obj n).prog).any (fun t => t.1.op == 6) = true)
  (bound : c.bindOf n = some (i, b)) (params : (c.obj n).params = some p)
include updates bound params

/-- An uncorrectable record: the binding is LOST, and the collective aborts. -/
theorem Chip.recipeStepsDone_ecc : c.recipeStepsDone n pos true =
    (c.setBind (objCore n) i (some { b with lost := true })).collAbort n 5 none 0 0 := by
  refine (if_neg (c.recipeStepsDone_goes busy complete unstepped unwanted unsealed)).trans ((if_pos updates).trans ?_)
  rw [bound, params]
  exact if_pos rfl

theorem Chip.recipeStepsDone_optimizes : c.recipeStepsDone n pos false = c.runOpt n pos b p := by
  refine (if_neg (c.recipeStepsDone_goes busy complete unstepped unwanted unsealed)).trans ((if_pos updates).trans ?_)
  rw [bound, params]
  exact if_neg Bool.false_ne_true

end

end

/-! ### RECORD_COPY_DONE (R364) -/

section
variable {k i : Nat}

theorem Chip.recordCopyDone_unbound (unbound : c.bind k i = none) : c.recordCopyDone k i = c := by
  rw [Chip.recordCopyDone, unbound]

section
variable {b : Binding} (bound : c.bind k i = some b)
include bound

theorem Chip.recordCopyDone_none (noCopies : b.commits = []) : c.recordCopyDone k i = c := by
  simp only [Chip.recordCopyDone, bound, noCopies]

/-- The oldest copy is made and leaves the list. -/
theorem Chip.recordCopyDone_oldest {r : Nat × Nat × Nat} {t : List (Nat × Nat × Nat)} (copies : b.commits = r :: t) :
    c.recordCopyDone k i = (c.copyRecord k b r).setBind k i (some { b with commits := t }) := by
  simp only [Chip.recordCopyDone, bound, copies]

end

end

end

end Sys2Proof.Machine

open Sys2Proof Sys2Proof.Machine

/-- Settles O50: a check and a rerun by whether the check is open and by the residues, the steps by what the chunk waits for and whether
they update state, a copy by the copies of the binding. -/
theorem checksAndStepsEndAChunk : Obligations.ChecksAndStepsEndAChunk := by
  unfold Obligations.ChecksAndStepsEndAChunk
  intro s
  refine ⟨fun n pos err => ⟨fun closed => ?_, fun opened primeA primeB => ?_⟩,
    fun n pos err differs r1 => ⟨fun closed => ?_, fun opened first agree checkers => ?_,
      fun opened first agree others accumulators => ?_⟩,
    fun n pos ecc => ⟨fun waits => ?_, fun busy complete unstepped unwanted unsealed =>
      ⟨fun plain => ?_, fun i b p updates bound params => ⟨?_, ?_⟩⟩⟩,
    fun k i => ⟨fun b r t bound copies => ?_, fun b bound noCopies => ?_, fun unbound => ?_⟩⟩
  · rw [exec_residueCheckDone, Chip.residueCheckDone_closed _ closed]
  · rw [exec_residueCheckDone, Chip.residueCheckDone_open _ opened, Chip.firstVerdict_clean _ primeA primeB]
  · rw [exec_rerunVerdict, Chip.rerunVerdict_closed _ _ closed]
  · rw [exec_rerunVerdict, Chip.rerunVerdict_firstPass _ opened first agree _ checkers, Chip.residuesOf]
  · rw [exec_rerunVerdict, Chip.rerunVerdict_checkers _ opened first agree _ others accumulators, Chip.residuesOf]
  · rw [exec_recipeStepsDone, Chip.recipeStepsDone_waits _ _ waits]
  · rw [exec_recipeStepsDone, Chip.recipeStepsDone_plain _ busy complete unstepped unwanted unsealed _ plain]
  · rw [exec_recipeStepsDone, Chip.recipeStepsDone_ecc _ busy complete unstepped unwanted unsealed updates bound params]
  · rw [exec_recipeStepsDone, Chip.recipeStepsDone_optimizes _ busy complete unstepped unwanted unsealed updates bound params]
  · rw [exec_recordCopyDone, Chip.recordCopyDone_oldest _ bound copies]
  · rw [exec_recordCopyDone, Chip.recordCopyDone_none _ bound noCopies]
  · rw [exec_recordCopyDone, Chip.recordCopyDone_unbound _ unbound]

end

section
/-!
PROOFS. OPTIMIZE where an update is not finite (R363): what each element keeps, what is counted, and when the collective aborts.
-/

namespace Sys2Proof.Machine

/-! ### One element (R362, R363) -/

/-- g and the new w, m1 and m2 of element i, of working value x. -/
def OptCtx.update (o : OptCtx) (x i : Nat) : Nat × Nat × Nat × Nat := optElement o x (nth o.w i) (nth o.m1 i) (nth o.m2 i)

/-- Is none of g and the new w, m1 and m2 NaN or infinite? -/
def updateFinite (r : Nat × Nat × Nat × Nat) : Bool := f32Finite r.1 && f32Finite r.2.1 && f32Finite r.2.2.1 && f32Finite r.2.2.2

/-- What OPTIMIZE leaves of an element and its place: w, m1, m2, and whether they are the old ones. -/
def OptCtx.element (o : OptCtx) (e : Nat × Nat) : Nat × Nat × Nat × Bool :=
  if updateFinite (o.update e.1 e.2) then ((o.update e.1 e.2).2.1, (o.update e.1 e.2).2.2.1, (o.update e.1 e.2).2.2.2, false)
  else (nth o.w e.2, nth o.m1 e.2, nth o.m2 e.2, true)

/-- The elements of a chunk of working values xs after OPTIMIZE, in order. -/
def OptCtx.elements (o : OptCtx) (xs : List Nat) : List (Nat × Nat × Nat × Bool) := xs.zipIdx.map o.element

section
variable (o : OptCtx) {x i : Nat}

theorem OptCtx.element_updated (finite : updateFinite (o.update x i) = true) :
    o.element (x, i) = ((o.update x i).2.1, (o.update x i).2.2.1, (o.update x i).2.2.2, false) := if_pos finite

theorem OptCtx.element_kept (bad : updateFinite (o.update x i) = false) :
    o.element (x, i) = (nth o.w i, nth o.m1 i, nth o.m2 i, true) := if_neg (Bool.eq_false_iff.mp bad)

/-- The old state stays exactly where the update is not finite. -/
theorem OptCtx.element_isKept (e : Nat × Nat) : (o.element e).2.2.2 = !updateFinite (o.update e.1 e.2) := by
  cases finite : updateFinite (o.update e.1 e.2)
  · rw [o.element_kept finite]; rfl
  · rw [o.element_updated finite]; rfl

/-! ### The chunk -/

variable (xs : List Nat)

/-- OPTIMIZE by its elements: their w is the working value, and their planes are the new state. -/
theorem optimize_elements (skip : Bool) : optimize o skip xs =
    { work := (o.elements xs).map (·.1), abort := (o.elements xs).any (fun e => e.2.2.2) && !skip,
      planes := some ((o.elements xs).map (·.1), (o.elements xs).map (fun e => e.2.1), (o.elements xs).map (fun e => e.2.2.1)),
      skipped := if skip then ((o.elements xs).filter (fun e => e.2.2.2)).length else 0 } := rfl

variable {xs}

theorem OptCtx.elements_getElem? (entry : xs[i]? = some x) : (o.elements xs)[i]? = some (o.element (x, i)) := by
  rw [OptCtx.elements, List.getElem?_map, List.getElem?_zipIdx, entry, Nat.zero_add]
  rfl

/-- Where OPTIMIZE leaves element i: its w is the working value, and w, m1 and m2 stand in the planes. -/
theorem optimize_getElem? (skip : Bool) (entry : xs[i]? = some x) : ∃ pw p1 p2, (optimize o skip xs).planes = some (pw, p1, p2) ∧
    (optimize o skip xs).work[i]? = some (o.element (x, i)).1 ∧ pw[i]? = some (o.element (x, i)).1 ∧
    p1[i]? = some (o.element (x, i)).2.1 ∧ p2[i]? = some (o.element (x, i)).2.2.1 := by
  have here (f : Nat × Nat × Nat × Bool → Nat) : ((o.elements xs).map f)[i]? = some (f (o.element (x, i))) := by
    rw [List.getElem?_map, o.elements_getElem? entry, Option.map_some]
  exact ⟨_, _, _, rfl, here (·.1), here (·.1), here (·.2.1), here (·.2.2.1)⟩

/-- One update that is not finite makes the chunk abort, unless NF_SKIP is set. -/
theorem optimize_abort_of_bad (skip : Bool) (entry : xs[i]? = some x) (bad : updateFinite (o.update x i) = false) :
    (optimize o skip xs).abort = !skip := by
  have kept : (o.elements xs).any (fun e => e.2.2.2) = true :=
    List.any_eq_true.mpr ⟨_, List.mem_of_getElem? (o.elements_getElem? entry), by rw [o.element_kept bad]⟩
  rw [optimize_elements, kept, Bool.true_and]

variable (xs)

theorem OptCtx.elements_range : o.elements xs = (List.range xs.length).map (fun i => o.element (nth xs i, i)) :=
  List.ext_getElem (by simp [OptCtx.elements]) (fun i inElements _ => by
    have here : nth xs i = xs[i]'(by simpa [OptCtx.elements] using inElements) := List.getD_eq_getElem ..
    simp [OptCtx.elements, here])

/-- With NF_SKIP the elements counted are those whose update is not finite. -/
theorem optimize_skipped : (optimize o true xs).skipped =
    ((List.range xs.length).filter (fun i => !updateFinite (o.update (nth xs i) i))).length := by
  have counted : (optimize o true xs).skipped = ((o.elements xs).filter (fun e => e.2.2.2)).length := rfl
  rw [counted, o.elements_range, List.filter_map, List.length_map]
  simp only [Function.comp_def, OptCtx.element_isKept]

end

/-! ### The end of the steps -/

section
variable (c : Chip) (n : Nat)

/-- A value beyond the format that is finite counts in ABORTS only. -/
theorem Chip.rangeAbort_finite :
    c.rangeAbort n false = (c.incSat (R.RED_RANGE (objDie n)) F.RED_RANGE_ABORTS 1).collAbort n 7 none 0 0 := by
  simp only [Chip.rangeAbort, Bool.false_eq_true, if_false]

/-- Steps that abort still count the elements skipped; the chunk has no result. -/
theorem Chip.stepsEnd_aborts (pos : Nat) {r : RunRes} (ubuf : Option Nat) (abort : r.abort = true) :
    c.stepsEnd n pos r ubuf = (c.incSat (R.OPT_SKIP (32 + objCore n)) F.OPT_SKIP_COUNT r.skipped).rangeAbort n false := if_pos abort

end

end Sys2Proof.Machine

open Sys2Proof Sys2Proof.Machine

/-- Settles O59: element by element what OPTIMIZE leaves, then the count over the chunk, then the end of the steps. -/
theorem anUpdateThatIsNotFiniteIsSkippedOrAborts : Obligations.AnUpdateThatIsNotFiniteIsSkippedOrAborts := by
  unfold Obligations.AnUpdateThatIsNotFiniteIsSkippedOrAborts
  refine fun s => ⟨fun o skip xs i x entry => ?_, fun o xs => ⟨Bool.and_false _, rfl, optimize_skipped o xs⟩, fun n pos r ubuf abort => ?_⟩
  · obtain ⟨pw, p1, p2, planes, left⟩ := optimize_getElem? o skip entry
    refine ⟨pw, p1, p2, planes, fun finite => ?_, fun bad => ?_⟩
    · rwa [o.element_updated finite] at left
    · obtain ⟨work, hw, hm1, hm2⟩ := o.element_kept bad ▸ left
      exact ⟨work, hw, hm1, hm2, optimize_abort_of_bad o skip entry bad⟩
  · rw [Chip.stepsEnd_aborts _ _ _ _ abort, Chip.rangeAbort_finite]

end

section
/-!
PROOFS. What every step keeps: the front command and the queue's rest, the hubs' memories in canonical form, and the core cycle that passes
with no command waiting (R7, R395, R430, R439; logs 2 and 3).
-/

namespace Sys2Proof.Machine

/-! ### The front of the queue -/

theorem step_cons {s : State} {i : Instr} {t : List Instr} (front : s.pending = i :: t) : step s = exec i { s with pending := t } := by
  rw [step, front]

theorem step_nil {s : State} (empty : s.pending = []) : step s = .next (s.after s.chip.tick) := by
  rw [step, empty, State.after_eq]

/-! ### Hub memory -/

/-- What a command that completes can do: it leaves a chip, and it stores in hub memory first only if it is one of the six that do. -/
theorem exec_next_cases {i : Instr} {s t : State} (done : exec i s = .next t) :
    (∃ c, t = s.withChip c) ∨ (storesInHub i = true ∧ ∃ ws c, t = (s.store ws).withChip c) := by
  rcases exec_forms i s with ⟨-, -, f, run⟩ | ⟨-, stores, f, run⟩ | ⟨-, fault⟩
  · rw [run] at done
    cases done
    exact .inl ⟨_, rfl⟩
  · rw [run] at done
    cases done
    exact .inr ⟨stores, _, _, rfl⟩
  · rw [fault] at done
    cases done

theorem State.memOk_canonical {s : State} (sound : s.memOk = true) : Memory.wf s.lpddrA = true ∧ Memory.wf s.lpddrB = true := by
  simp only [State.memOk, Bool.and_eq_true] at sound
  exact sound.1

/-- A command keeps the memories sound. -/
theorem exec_keeps_memOk {i : Instr} {s t : State} (sound : s.memOk = true) (done : exec i s = .next t) : t.memOk = true := by
  obtain ⟨ha, hb⟩ := State.memOk_canonical sound
  rcases exec_next_cases done with ⟨c, rfl⟩ | ⟨-, ws, c, rfl⟩
  · exact State.withChip_memOk s c ha hb
  · obtain ⟨ha', hb'⟩ := State.store_wf s ws ha hb
    exact State.withChip_memOk _ c ha' hb'

/-! ### One core cycle (R7, R395) -/

/-- A fold of steps that change only the performance counters changes only those. -/
theorem Chip.fold_pmc {β : Type} (l : List β) (f : Chip → β → Chip) (only : ∀ c b, ∃ p, f c b = { c with pmc := p }) (c : Chip) :
    ∃ p, l.foldl f c = { c with pmc := p } := by
  induction l generalizing c with
  | nil => exact ⟨_, rfl⟩
  | cons b t ih =>
    obtain ⟨p, first⟩ := only c b
    obtain ⟨q, rest⟩ := ih (f c b)
    exact ⟨q, by rw [List.foldl_cons, rest, first]⟩

/-- A core cycle moves the cycle count, real time, device time and the performance counters, and nothing else. -/
theorem Chip.tick_eq (c : Chip) : ∃ n t p, c.tick = { c with cycle := c.cycle + 1, real := n, now := max c.now t, pmc := p } := by
  rw [Chip.tick]
  dsimp only
  refine ⟨_, _, Chip.fold_pmc _ _ (fun s d => ?_) _⟩
  split
  · split
    · exact ⟨_, rfl⟩
    · exact ⟨_, rfl⟩
  · exact ⟨_, rfl⟩

end Sys2Proof.Machine

open Sys2Proof Sys2Proof.Machine

/-- Settles O1: `step` reads the front of the queue, and no word decodes. -/
theorem stepRunsTheFrontCommand : Obligations.StepRunsTheFrontCommand := by
  unfold Obligations.StepRunsTheFrontCommand
  exact ⟨fun i t s front => step_cons front, fun s n w => rfl⟩

/-- Settles O2: the step is one core cycle, and settling changes neither its time nor the registers. -/
theorem emptyQueueIsOneCoreCycle : Obligations.EmptyQueueIsOneCoreCycle := by
  unfold Obligations.EmptyQueueIsOneCoreCycle
  intro s calm empty
  obtain ⟨n, t, p, cycle⟩ := s.chip.tick_eq
  have due : s.chip.tick.integ.due = [] := by rw [cycle]; exact State.calm_due s calm
  refine ⟨_, step_nil empty, by rw [State.after_pending, empty], ?_, ?_, fun a => ?_⟩
  · rw [State.after_chip, State.settled_cycle _ _ due, cycle]
  · rw [State.after_chip, State.settled_now _ _ due, cycle]
    exact le_max_left _ _
  · rw [State.after_chip, State.settled_rd _ _ due, cycle, Chip.rd, Chip.rd]

/-- Settles O3: a step is the core cycle or a command, and either leaves sound memories. -/
theorem everyStepKeepsHubMemoryCanonical : Obligations.EveryStepKeepsHubMemoryCanonical := by
  unfold Obligations.EveryStepKeepsHubMemoryCanonical
  intro s t sound done
  cases queue : s.pending with
  | nil =>
    rw [step_nil queue] at done
    cases done
    obtain ⟨ha, hb⟩ := State.memOk_canonical sound
    exact State.withChip_memOk s _ ha hb
  | cons i rest =>
    rw [step_cons queue] at done
    exact exec_keeps_memOk (s := { s with pending := rest }) sound done

/-- Settles O4: the reset state lists no byte and no command. -/
theorem resetMemoryIsCanonical : Obligations.ResetMemoryIsCanonical := by
  unfold Obligations.ResetMemoryIsCanonical
  refine ⟨by decide, rfl, fun h a => ?_⟩
  rw [State.read, State.mem]
  split
  · rfl
  · rfl

/-- Settles O5: the core cycle keeps the empty queue, and a well-formed command completes on the queue's rest. -/
theorem wellFormedQueueNeverStops : Obligations.WellFormedQueueNeverStops := by
  unfold Obligations.WellFormedQueueNeverStops
  intro s ok
  cases queue : s.pending with
  | nil => exact ⟨_, step_nil queue, by simp [queue], by simp [State.queueOk, queue]⟩
  | cons i rest =>
    simp only [State.queueOk, queue, List.all_cons, Bool.and_eq_true] at ok
    obtain ⟨first, others⟩ := ok
    obtain ⟨t, done, pending⟩ := exec_completes i { s with pending := rest } first
    exact ⟨t, by rw [step_cons queue, done], pending, by rw [State.queueOk, pending, others]⟩

/-- Settles O7: a command outside the six leaves a chip only, and with it the memories as they were or empty. -/
theorem onlySixCommandsWriteHubMemory : Obligations.OnlySixCommandsWriteHubMemory := by
  unfold Obligations.OnlySixCommandsWriteHubMemory
  intro i s t other done
  rcases exec_next_cases done with ⟨c, rfl⟩ | ⟨stores, -⟩
  · rw [State.withChip_chip]
    refine ⟨fun up => ?_, fun down => ?_⟩
    · rw [State.withChip_up s c up]
      exact ⟨rfl, rfl, fun h a => rfl⟩
    · rw [State.withChip_down s c down]
      exact ⟨rfl, rfl⟩
  · unfold storesInHub at stores
    split at stores
    case h_7 => cases stores
    all_goals exact False.elim other

end

section
/-!
PROOFS. Performance counters (R7, R488, R489): what a write of each half does to the counters, what a read latches, and where a count that
passes its end goes on.
-/

namespace Sys2Proof.Machine

/-- A bit set in a bit map is set. -/
theorem bitOf_putBit_true (n i : Nat) : bitOf (putBit n i true) i = true := by
  have pos : 0 < 2 ^ i := Nat.two_pow_pos i
  simp only [putBit, if_true]
  split
  next isSet =>
    have low : 2 ^ i ≤ n := by
      by_contra high
      rw [bitOf, Nat.div_eq_of_lt (Nat.lt_of_not_le high)] at isSet
      exact absurd isSet (by decide)
    rwa [Nat.sub_add_cancel low]
  next isClear =>
    simp only [bitOf, beq_iff_eq] at isClear ⊢
    rw [Nat.add_div_right _ pos]
    omega

section
variable (c : Chip) (d n : Nat)

/-- Programmable counter n of die d. -/
def Chip.counter (c : Chip) (d n : Nat) : Counter := SMap.get (fun _ => {}) c.pmc.prog (d * 32 + n)

@[simp] theorem Chip.modCounter_integ (f : Counter → Counter) : (c.modCounter d n f).integ = c.integ := rfl

@[simp] theorem Chip.modCounter_rd (f : Counter → Counter) (a : Nat) : (c.modCounter d n f).rd a = c.rd a := rfl

@[simp] theorem Chip.modCounter_same (f : Counter → Counter) :
    SMap.get (fun _ => {}) (c.modCounter d n f).pmc.prog (d * 32 + n) = f (SMap.get (fun _ => {}) c.pmc.prog (d * 32 + n)) :=
  SMap.get_set_same ..

theorem Chip.modCounter_other (f : Counter → Counter) {k : Nat} (other : k ≠ d * 32 + n) :
    SMap.get (fun _ => {}) (c.modCounter d n f).pmc.prog k = SMap.get (fun _ => {}) c.pmc.prog k :=
  SMap.get_set_other _ _ _ other

/-! ### PMC_LO_READ (R7, R488) -/

theorem Chip.latchAt_same (a : Nat) (w : Word) : SMap.get (fun _ => none) (c.latchAt a w).latch a = some w := by
  rw [Chip.latchAt, SMap.get_set_same]

/-- A read of the low part gives the low half of the count and latches the high half; it changes no count and no register. -/
theorem Chip.pmcLoRead_samples (v : Via) (there : c.isolated d = false) :
    (c.pmcLoRead v d n).lastRead = BitVec.ofNat 32 (c.pmcCount d n) ∧
      SMap.get (fun _ => none) (c.pmcLoRead v d n).latch (if n < 32 then R.PMC_CNT_HI d n else R.PMC_FIX_HI d (n - 32)) =
        some (BitVec.ofNat 32 (c.pmcCount d n / 2 ^ 32)) ∧
      (c.pmcLoRead v d n).pmc.prog = c.pmc.prog ∧ (c.pmcLoRead v d n).pmc.fixed = c.pmc.fixed ∧
      (c.pmcLoRead v d n).integ = c.integ ∧ (c.pmcLoRead v d n).regs = c.regs := by
  have sampled : c.pmcLoRead v d n = _ := if_neg (by simp [there])
  rw [sampled]
  exact ⟨rfl, c.latchAt_same _ _, rfl, rfl, rfl, rfl⟩

/-! ### PMC_OVERFLOW (R489) -/

/-- A count that passes its end goes on by what has passed it, from 0 or from the period before the end. -/
theorem countUp_past {x : Counter} {n : Nat} (past : 2 ^ 48 ≤ x.count + n) : countUp x n =
    ({ x with count := ((if x.period = 0 then 0 else 2 ^ 48 - x.period) + (x.count + n - 2 ^ 48)) % 2 ^ 48 }, true) := by
  rw [countUp, if_neg past.not_gt]
  split
  · rw [Nat.zero_add]
  · rfl

/-- A counter that overflows changes no count, and sets its bit in the overflow bits of its die. -/
theorem Pmc.overflow_prog (p : Pmc) (i : Nat) (x : Counter) : (p.overflow i x).prog = p.prog := by
  rw [Pmc.overflow]
  split
  · rfl
  · rfl

theorem Pmc.overflow_bit (p : Pmc) (i : Nat) (x : Counter) : bitOf (SMap.get (fun _ => 0) (p.overflow i x).ovf (i / 32)) (i % 32) = true := by
  have bit : bitOf (SMap.get (fun _ => 0) (SMap.modify (fun _ => 0) p.ovf (i / 32) (fun m => putBit m (i % 32) true)) (i / 32)) (i % 32) = true := by
    rw [SMap.modify, SMap.get_set_same]
    exact bitOf_putBit_true _ _
  rw [Pmc.overflow]
  split
  · exact bit
  · exact bit

/-- The counter that overflows goes on from what has passed its end, with its overflow bit set; no register changes. -/
theorem Chip.pmcOverflow_past {events : Nat} (number : n < 32) (enabled : getBits (c.counter d n).sel F.PMC_SEL_ENABLE = 1)
    (past : 2 ^ 48 ≤ (c.counter d n).count + events) : ((c.pmcOverflow d n events).counter d n).count = (countUp (c.counter d n) events).1.count ∧
      bitOf (SMap.get (fun _ => 0) (c.pmcOverflow d n events).pmc.ovf d) n = true ∧
      (c.pmcOverflow d n events).integ = c.integ ∧ (c.pmcOverflow d n events).regs = c.regs := by
  have wraps : (countUp (c.counter d n) events).2 = true := by rw [countUp_past past]
  have die : (d * 32 + n) / 32 = d := by omega
  have place : (d * 32 + n) % 32 = n := by omega
  have bumped : c.pmcOverflow d n events = { c with pmc := c.pmc.bump (d * 32 + n) events } := if_pos ⟨enabled, past⟩
  have overflows : c.pmc.bump (d * 32 + n) events = Pmc.overflow _ (d * 32 + n) (c.counter d n) := if_pos wraps
  rw [bumped, Chip.counter, overflows, Pmc.overflow_prog]
  refine ⟨congrArg Counter.count (SMap.get_set_same ..), ?_, rfl, rfl⟩
  have bit := fun p => Pmc.overflow_bit p (d * 32 + n) (c.counter d n)
  rw [die, place] at bit
  exact bit _

end

/-- A command that leaves no trigger waiting leaves the counters and the registers of the chip it makes. -/
theorem State.after_counters (s : State) (c : Chip) (due : c.integ.due = []) :
    (s.after c).chip.pmc = c.pmc ∧ ∀ a, (s.after c).chip.rd a = c.rd a :=
  ⟨by rw [State.after_chip, State.settled_pmc _ _ due], fun a => by rw [State.after_chip, State.settled_rd _ _ due]⟩

end Sys2Proof.Machine

open Sys2Proof Sys2Proof.Machine

/-- Settles O12: each command by what it leaves of the counters, which settling keeps with the registers. -/
theorem countersAreReadAndWrittenWhole : Obligations.CountersAreReadAndWrittenWhole := by
  unfold Obligations.CountersAreReadAndWrittenWhole
  refine ⟨fun d n w s calm => ⟨_, exec_pmcHiWrite d n w s, ?_⟩, fun d n w s calm => ⟨_, exec_pmcLoWrite d n w s, ?_⟩,
    fun v d n s calm there => ⟨_, exec_pmcLoRead v d n s, ?_⟩, fun d n events s x calm isX enabled past => ⟨_, exec_pmcOverflow d n events s, ?_⟩⟩
  · obtain ⟨pmc, regs⟩ := s.after_counters (s.chip.pmcHiWrite d n w) (State.calm_due s calm)
    rw [pmc]
    exact ⟨Chip.modCounter_same .., fun k other => Chip.modCounter_other _ _ _ _ other, regs⟩
  · obtain ⟨pmc, regs⟩ := s.after_counters (s.chip.pmcLoWrite d n w) (State.calm_due s calm)
    rw [pmc]
    exact ⟨congrArg Counter.count (Chip.modCounter_same ..), fun k other => Chip.modCounter_other _ _ _ _ other, regs⟩
  · obtain ⟨low, high, prog, fixed, integ, same⟩ := s.chip.pmcLoRead_samples d n v there
    have due : (s.chip.pmcLoRead v d n).integ.due = [] := by rw [integ]; exact State.calm_due s calm
    obtain ⟨pmc, regs⟩ := s.after_counters _ due
    refine ⟨?_, ?_, fun k => ?_, fun a => ?_⟩
    · rw [State.after_chip, State.settled_lastRead _ _ due, low]
    · rw [State.after_chip, State.settled_latch _ _ due, high]
    · rw [Chip.pmcCount, pmc, prog, fixed, Chip.pmcCount]
    · rw [regs, Chip.rd, same, Chip.rd]
  · subst isX
    obtain ⟨counter, bit, integ, same⟩ := s.chip.pmcOverflow_past d n n.isLt enabled past
    have due : (s.chip.pmcOverflow d n events).integ.due = [] := by rw [integ]; exact State.calm_due s calm
    obtain ⟨pmc, regs⟩ := s.after_counters _ due
    refine ⟨?_, by rw [pmc, bit], fun a => by rw [regs, Chip.rd, same, Chip.rd]⟩
    rw [pmc]
    exact counter.trans (congrArg (fun r => r.1.count) (countUp_past past))

end

section
/-!
PROOFS. The ledger (R475 to R479, R490): which entry a request takes, which entries a tick admits, and when a wait is reported.
-/

namespace Sys2Proof.Machine

section
variable (c : Chip) {d i : Nat} {a : Activity} {e : LedgerEnt}

/-! ### LEDGER_REQUEST (R475, R476) -/

/-- FREE entries of die d. -/
def Chip.freeEntries (c : Chip) (d : Nat) : Nat := 64 - (c.entries d).length

/-- The last four FREE entries are taken by the head band only. -/
theorem Chip.ledgerRequest_taken (free : c.freeEntry d = some i) (room : a.headBand = true ∨ 4 < c.freeEntries d) :
    c.ledgerRequest d a =
      ({ c with ledgerNext := c.ledgerNext + 1 }).setEntry d i (some ⟨a, a.headBand, false, c.ledgerNext, c.now, false⟩) := by
  rw [Chip.ledgerRequest, free]
  exact if_pos room

theorem Chip.ledgerRequest_refused (noRoom : c.freeEntry d = none ∨ (a.headBand = false ∧ c.freeEntries d ≤ 4)) :
    c.ledgerRequest d a = c.ledgerRefuse d a := by
  rw [Chip.ledgerRequest]
  cases free : c.freeEntry d with
  | none => rfl
  | some i =>
    obtain ⟨normal, few⟩ := noRoom.resolve_left (by simp [free])
    exact if_neg (not_or.mpr ⟨by simp [normal], few.not_gt⟩)

/-! ### LEDGER_TICK (R477 to R479) -/

/-- R477 to R479, condition by condition. -/
theorem Chip.admissible_iff {before : List Activity} : c.admissible d a before = true ↔
    (∀ x ∈ c.entries d, x.2.running = true → x.2.act.conflicts a = false) ∧ (∀ b ∈ before, b.conflicts a = false) ∧
      c.capacityOk d a = true ∧ (a.act = 3 → c.sag = false) ∧ c.unitsOk d a = true := by
  simp only [Chip.admissible, Bool.and_eq_true, Bool.not_eq_true', List.any_eq_false, Bool.and_eq_false_iff, beq_eq_false_iff_ne,
    not_and_or, Bool.not_eq_true, and_assoc, ne_eq, imp_iff_not_or]

/-- An entry admissible behind others is admissible at the front of the queue. -/
theorem Chip.admissible_front {before : List Activity} (behind : c.admissible d a before = true) : c.admissible d a [] = true := by
  obtain ⟨running, -, rest⟩ := c.admissible_iff.mp behind
  exact c.admissible_iff.mpr ⟨running, by simp, rest⟩

/-- With no entry that could be admitted at the front, the queue stays. -/
theorem Chip.admitAll_none {q : List (Nat × LedgerEnt)} (stuck : ∀ x ∈ q, c.admissible d x.2.act [] = false) (before : List Activity) :
    c.admitAll d before q = c := by
  induction q generalizing before with
  | nil => rfl
  | cons x t ih =>
    have stays : ¬ c.admissible d x.2.act before = true := fun behind =>
      absurd (c.admissible_front behind) (by simp [stuck x List.mem_cons_self])
    rw [Chip.admitAll, if_neg stays]
    exact ih (fun y inTail => stuck y (List.mem_cons_of_mem _ inTail)) _

/-- Entry i of die d as e, RUNNING from now on and counted in ADMITTED. -/
def Chip.entryAdmitted (c : Chip) (d i : Nat) (e : LedgerEnt) : Chip :=
  (c.setEntry d i (some { e with running := true, since := c.now })).incWrap (R.FLT_LDG_CNT d) F.FLT_LDG_CNT_ADMITTED 1

section
variable {t : List (Nat × LedgerEnt)} (front : c.ledgerQueue d = (i, e) :: t)
include front

/-- An admissible front entry starts its activity before the rest of the queue is looked at. -/
theorem Chip.ledgerTick_admits (ok : c.admissible d e.act [] = true) :
    c.ledgerTick d = ((c.entryAdmitted d i e).startActivity d e.act).admitAll d [] t := by
  rw [Chip.ledgerTick, front, Chip.admitAll, if_pos ok, Chip.admitOne, if_pos ok, Chip.entryAdmitted]

/-- A front entry that stays QUEUED holds its declarations against the rest of the queue. -/
theorem Chip.ledgerTick_holds (stays : c.admissible d e.act [] = false) : c.ledgerTick d = c.admitAll d [e.act] t := by
  rw [Chip.ledgerTick, front, Chip.admitAll, if_neg (by simp [stays]), List.nil_append]

end

/-! ### LEDGER_WAIT_NOTICE (R490) -/

theorem Chip.waitNotice_free (free : c.entry d i = none) : c.waitNotice d i = c := by
  rw [Chip.waitNotice, free]

section
variable (held : c.entry d i = some e)
include held

/-- An entry that runs or has been reported is not reported. -/
theorem Chip.waitNotice_silent (silent : e.running = true ∨ e.told = true) : c.waitNotice d i = c := by
  rw [Chip.waitNotice, held]
  exact if_pos silent

theorem Chip.waitNotice_tells (queued : e.running = false) (new : e.told = false) : c.waitNotice d i =
    (c.setEntry d i (some { e with told := true })).maint d e.act 3 0 i ((c.now - e.since) / tuUs) 0 := by
  rw [Chip.waitNotice, held]
  exact if_neg (by simp [queued, new])

end

end

end Sys2Proof.Machine

open Sys2Proof Sys2Proof.Machine

/-- Settles O53: a request by the FREE entries, a tick by whether the front entry is admissible, a wait by the entry's state. -/
theorem theLedgerQueuesAndAdmits : Obligations.TheLedgerQueuesAndAdmits := by
  unfold Obligations.TheLedgerQueuesAndAdmits
  intro s
  refine ⟨fun d a wf => ⟨fun i free room => ?_, fun noRoom => ?_⟩, fun d stuck => ?_,
    fun d i e t front => ⟨fun apart room awake units => ?_, fun stays => ?_⟩,
    fun d i e held => ⟨fun silent => ?_, fun queued new => ?_⟩, fun d i free => ?_⟩
  · rw [exec_ledgerRequest d a s wf, Chip.ledgerRequest_taken _ free room]
  · rw [exec_ledgerRequest d a s wf, Chip.ledgerRequest_refused _ noRoom, Chip.ledgerRefuse]
  · rw [exec_ledgerTick, Chip.ledgerTick, Chip.admitAll_none _ stuck]
  · have ok : s.chip.admissible d e.act [] = true := s.chip.admissible_iff.mpr ⟨apart, by simp, room, awake, units⟩
    rw [exec_ledgerTick, Chip.ledgerTick_admits _ front ok, Chip.entryAdmitted]
  · have held : s.chip.admissible d e.act [] = false := by
      rw [Bool.eq_false_iff, Ne, Chip.admissible_iff]
      rintro ⟨apart, -, room, awake, units⟩
      rcases stays with ⟨x, inLedger, runs, conflict⟩ | full | ⟨quiz, sag⟩ | down
      · simp [apart x inLedger runs] at conflict
      · simp [room] at full
      · simp [awake quiz] at sag
      · simp [units] at down
    rw [exec_ledgerTick, Chip.ledgerTick_holds _ front held]
  · rw [exec_ledgerWaitNotice, Chip.waitNotice_silent _ held silent]
  · rw [exec_ledgerWaitNotice, Chip.waitNotice_tells _ held queued new]
  · rw [exec_ledgerWaitNotice, Chip.waitNotice_free _ free]

end

section
/-!
PROOFS. Quizzes (R377, R380, R381, R388, R390, R393): when one is asked of the ledger, and what its end reports.
-/

namespace Sys2Proof.Machine

/-! ### What the end of a ledger entry leaves alone -/

section
variable (c : Chip) (d i : Nat)

@[simp] theorem Chip.showEntry_integ : (c.showEntry d i).integ = c.integ := by
  rw [Chip.showEntry]
  split
  · simp only [Chip.wr_integ]
  · simp only [Chip.wr_integ]

@[simp] theorem Chip.showLedger_integ : (c.showLedger d).integ = c.integ := by
  simp only [Chip.showLedger, Chip.set_integ]

@[simp] theorem Chip.setEntry_integ (e : Option LedgerEnt) : (c.setEntry d i e).integ = c.integ := by
  rw [Chip.setEntry, Chip.showLedger_integ, Chip.showEntry_integ]

@[simp] theorem Chip.maint_integ (a : Activity) (event outcome entry us result : Nat) :
    (c.maint d a event outcome entry us result).integ = c.integ := Chip.post_integ ..

/-- The end of a ledger entry changes nothing that integrity keeps. -/
@[simp] theorem Chip.entryEnd_integ (outcome result : Nat) : (c.entryEnd d i outcome result).integ = c.integ := by
  rw [Chip.entryEnd]
  split
  · rfl
  · simp only [apply_ite Chip.integ, Chip.maint_integ, Chip.incSat_integ, Chip.setEntry_integ, ite_self]

end

section
variable (c : Chip) {u : QUnit}

/-! ### QUIZ_DUE, QUIZ_REQUEST and PROVISIONAL_RERUN -/

/-- A quiz that stands in the ledger is not asked for again. -/
theorem Chip.quizDue_stands (stands : (c.hasEntry u.die (isQuizOf u)).isSome = true) : c.quizDue u = c := if_pos (.inr stands)

theorem Chip.quizDue_asks (unit : u.exists_ = true) (new : c.hasEntry u.die (isQuizOf u) = none) :
    c.quizDue u = c.ledgerRequest u.die (.quiz u 0) := if_neg (by simp [unit, new])

section
variable {d : Nat}

theorem Chip.quizRequest_other (other : c.get (R.FLT_QUIZ_REQ d) F.FLT_QUIZ_REQ_OP ≠ 1) : c.quizRequest d = c := if_pos other

theorem Chip.quizRequest_asks (op : c.get (R.FLT_QUIZ_REQ d) F.FLT_QUIZ_REQ_OP = 1) : c.quizRequest d =
    (c.setBoth (R.FLT_QUIZ_REQ d) F.FLT_QUIZ_REQ_OP 0).ledgerRequest d (.quiz ⟨c.get (R.FLT_QUIZ_REQ d) F.FLT_QUIZ_REQ_UNIT, d,
      c.get (R.FLT_QUIZ_REQ d) F.FLT_QUIZ_REQ_BLOCK, c.get (R.FLT_QUIZ_REQ d) F.FLT_QUIZ_REQ_TILE⟩ 3) := if_neg (not_not_intro op)

end

theorem Chip.provisionalRerun_unknown {id : Nat} (unknown : (id, u) ∉ c.integ.reruns) : c.provisionalRerun u id = c := if_neg unknown

/-- A failure that waits for its rerun leaves the list and asks the ledger. -/
theorem Chip.provisionalRerun_asks {id : Nat} (waits : (id, u) ∈ c.integ.reruns) : c.provisionalRerun u id =
    (c.modInteg (fun g => { g with reruns := g.reruns.filter (fun e => e != (id, u)) })).ledgerRequest u.die (.quiz u 5) := if_pos waits

/-! ### The results of a quiz (R388, R390) -/

section
variable {runs : List QuizRun}

/-- The pack quizzes among the runs noted as having run on unit u. -/
def Chip.packsNoted (c : Chip) (u : QUnit) (runs : List QuizRun) : Chip :=
  c.modInteg (fun g => { g with ran :=
    ((runs.filter (fun x => decide (0x400 ≤ x.id))).map (fun x => (x.id, u))).foldl (fun l e => if e ∈ l then l else l ++ [e]) g.ran })

/-- Without a pack quiz nothing is noted. -/
theorem Chip.packsNoted_builtIn (builtIn : ∀ x ∈ runs, x.id < 0x400) : c.packsNoted u runs = c := by
  have none : runs.filter (fun x => decide (0x400 ≤ x.id)) = [] :=
    List.filter_eq_nil_iff.mpr fun x ran => by simpa using builtIn x ran
  rw [Chip.packsNoted, none]
  rfl

section
variable (passed : ∀ x ∈ runs, x.ok = true)
include passed

theorem Chip.normalFail_passed : c.normalFail u runs = none := by
  rw [Chip.normalFail, List.find?_eq_none]
  intro x counted
  simp [passed x (List.mem_of_mem_filter counted)]

theorem Chip.provisionalFails_passed : c.provisionalFails u runs = [] := by
  rw [Chip.provisionalFails, List.filter_eq_nil_iff]
  intro x counted
  simp [passed x (List.mem_of_mem_filter counted)]

theorem Chip.quizResult_passed (reason us : Nat) : c.quizResult u runs reason us =
    (c.packsNoted u runs).quizPass u ((runs.map (·.id)).foldl max 0) reason us := by
  simp only [Chip.quizResult, c.normalFail_passed passed, c.provisionalFails_passed passed, List.foldl_nil, List.isEmpty_nil, if_true,
    Chip.packsNoted]

end

section
variable {x : QuizRun} (failed : x.ok = false) (builtIn : x.id < 0x400) (counts : x.id ∉ c.integ.suspended)
include failed builtIn counts

/-- A built-in quiz that fails fails as a normal run. -/
theorem Chip.normalFail_builtIn : c.normalFail u [x] = some x := by
  simp [Chip.normalFail, Chip.counted, Chip.ranBefore, failed, builtIn, counts]

theorem Chip.quizResult_builtInFails (reason us : Nat) : c.quizResult u [x] reason us = c.quizFail u x reason us := by
  have noted : c.packsNoted u [x] = c := c.packsNoted_builtIn (by simpa using builtIn)
  simp only [Chip.quizResult, c.normalFail_builtIn failed builtIn counts]
  exact congrArg (fun c1 : Chip => c1.quizFail u x reason us) noted

end

/-! ### QUIZ_END -/

/-- The RUNNING ledger entry of a unit's quiz. -/
def Chip.quizEntry (c : Chip) (u : QUnit) : Option (Nat × LedgerEnt) :=
  (c.entries u.die).find? (fun e => e.2.running && isQuizOf u e.2.act)

section
variable {abort boot : Bool} (ledger : boot = false ∨ c.pw.dataHeld = false)
include ledger

/-- No boot quiz: one with the data plane held (R381, log 24). -/
theorem Chip.quizEnd_notBoot : ¬ (boot = true ∧ c.pw.dataHeld = true ∧ (!abort) = true) := by
  rintro ⟨isBoot, held, -⟩
  rcases ledger with no | no
  · simp [no] at isBoot
  · simp [no] at held

theorem Chip.quizEnd_idle (idle : c.quizEntry u = none) : c.quizEnd u abort boot runs = c := by
  rw [Chip.quizEntry] at idle
  rw [Chip.quizEnd, if_neg (c.quizEnd_notBoot ledger), idle]

section
variable {i : Nat} {e : LedgerEnt} (running : c.quizEntry u = some (i, e))
include running

/-- A quiz that ends without a result. -/
theorem Chip.quizEnd_noResult (noResult : abort = true ∨ runs = []) : c.quizEnd u abort boot runs = c.forceEnd u.die i 3 := by
  rw [Chip.quizEntry] at running
  rw [Chip.quizEnd, if_neg (c.quizEnd_notBoot ledger), running]
  exact if_pos (noResult.imp id List.isEmpty_iff.mpr)

/-- A quiz that ends with results ends its entry DONE or FAILED before they are reported. -/
theorem Chip.quizEnd_results {r : Nat} (quiz : e.act = .quiz u r) (done : abort = false) (ran : runs ≠ []) : c.quizEnd u abort boot runs =
    (c.entryEnd u.die i (if (c.normalFail u runs).isSome then 1 else 0) 0).quizResult u runs r ((c.now - e.since) / tuUs) := by
  rw [Chip.quizEntry] at running
  rw [Chip.quizEnd, if_neg (c.quizEnd_notBoot ledger), running]
  refine (if_neg (by simp [done, ran])).trans ?_
  simp only [quiz]

end

end

end

end

end Sys2Proof.Machine

open Sys2Proof Sys2Proof.Machine

/-- Settles O54: a request by whether the ledger or the list of failures has the quiz, an end by its entry and its results. -/
theorem quizzesAreAskedForRunAndRerun : Obligations.QuizzesAreAskedForRunAndRerun := by
  unfold Obligations.QuizzesAreAskedForRunAndRerun
  intro s
  refine ⟨fun u unit => ⟨fun new => ?_, fun stands => ?_⟩, fun d => ⟨fun other => ?_, fun op => ?_⟩,
    fun u abort boot runs unit ledger => ⟨fun idle => ?_, fun i e running noResult => ?_, fun i e r running quiz done ran passed => ?_,
      fun i e r x running quiz done run failed builtIn counts => ?_⟩,
    fun u id unit => ⟨fun unknown => ?_, fun waits => ?_⟩⟩
  · rw [exec_quizDue u s unit, Chip.quizDue_asks _ unit new]
  · rw [exec_quizDue u s unit, Chip.quizDue_stands _ stands]
  · rw [exec_quizRequest, Chip.quizRequest_other _ other]
  · rw [exec_quizRequest, Chip.quizRequest_asks _ op]
  · rw [exec_quizEnd u abort boot runs s unit, Chip.quizEnd_idle _ ledger idle]
  · rw [exec_quizEnd u abort boot runs s unit, Chip.quizEnd_noResult _ ledger running noResult]
  · rw [exec_quizEnd u abort boot runs s unit, Chip.quizEnd_results _ ledger running quiz done ran, Chip.normalFail_passed _ passed,
      Chip.quizResult_passed _ passed, Chip.packsNoted]
    rfl
  · subst run
    rw [exec_quizEnd u abort boot [x] s unit, Chip.quizEnd_results _ ledger running quiz done (by simp),
      Chip.normalFail_builtIn _ failed builtIn counts,
      Chip.quizResult_builtInFails _ failed builtIn (by rwa [Chip.entryEnd_integ])]
    rfl
  · rw [exec_provisionalRerun u id s unit, Chip.provisionalRerun_unknown _ unknown]
  · rw [exec_provisionalRerun u id s unit, Chip.provisionalRerun_asks _ waits]

end

section
/-!
PROOFS. The transmit timestamp queue (R404, R405): an entry that fits, an entry that is lost, a TAIL that moves, and the entry window.
-/

namespace Sys2Proof.Machine

theorem tsqPtr_ne_stat (d : Nat) : R.TIM_TSQ_PTR d ≠ R.TIM_TSQ_STAT d := by
  simp only [R.TIM_TSQ_PTR, R.TIM_TSQ_STAT]
  omega

section
variable (c : Chip) {d : Nat}

/-! ### TSQ_ENTRY -/

theorem Chip.tsqEntry_idle (idle : SMap.get (fun _ => []) c.stamps d = []) : c.tsqEntry d = c := by
  rw [Chip.tsqEntry, idle]

/-- Is the transmit timestamp queue of die d full? -/
def Chip.tsqFull (c : Chip) (d : Nat) : Prop :=
  c.get (R.TIM_TSQ_PTR d) F.TIM_TSQ_PTR_HEAD % 64 = c.get (R.TIM_TSQ_PTR d) F.TIM_TSQ_PTR_TAIL % 64 ∧
    c.get (R.TIM_TSQ_PTR d) F.TIM_TSQ_PTR_HEAD ≠ c.get (R.TIM_TSQ_PTR d) F.TIM_TSQ_PTR_TAIL

/-- The stamps t wait on die d. -/
def Chip.stampsLeft (c : Chip) (d : Nat) (t : List Stamp) : Chip := { c with stamps := SMap.set (fun _ => []) c.stamps d t }

@[simp] theorem Chip.stampsLeft_get (t : List Stamp) (a : Nat) (f : Fld) : (c.stampsLeft d t).get a f = c.get a f := rfl

/-- The entry of a stamp (R404). -/
def Stamp.entry (x : Stamp) : BitVec 128 :=
  BitVec.ofNat 128 (timeSec x.time * 2 ^ 80 + timeNsec x.time * 2 ^ 50 + timeFrac x.time * 2 ^ 34 + x.lane * 2 ^ 28 + x.source * 2 ^ 24 + x.tag)

/-- Entry i of the transmit timestamp queue of die d. -/
def Chip.tsqPut (c : Chip) (d i : Nat) (e : BitVec 128) : Chip := { c with tsq := SMap.set (fun _ => 0) c.tsq (d * 64 + i) e }

/-- A lost entry of die d counted. -/
def Chip.tsqLose (c : Chip) (d : Nat) : Chip := c.incSat (R.TIM_TSQ_STAT d) F.TIM_TSQ_STAT_LOST 1

/-- The first loss of die d since its queue was empty reported: event 0x12 of lane l. -/
def Chip.tsqReport (c : Chip) (d l : Nat) : Chip :=
  ({ c with tsqLost := SMap.set (fun _ => false) c.tsqLost d true }).post d 0x0A 1 d 3 0 0 (0x12 + l * 2 ^ 8)

section
variable {x : Stamp} {t : List Stamp} (waits : SMap.get (fun _ => []) c.stamps d = x :: t)
include waits

/-- An entry that fits stands at HEAD, which moves on. -/
theorem Chip.tsqEntry_fits (room : ¬ c.tsqFull d) : c.tsqEntry d =
    ((c.stampsLeft d t).tsqPut d (c.get (R.TIM_TSQ_PTR d) F.TIM_TSQ_PTR_HEAD % 64) x.entry).set (R.TIM_TSQ_PTR d) F.TIM_TSQ_PTR_HEAD
      (c.get (R.TIM_TSQ_PTR d) F.TIM_TSQ_PTR_HEAD + 1) := by
  simp only [Chip.tsqEntry, waits]
  exact if_neg room

section
variable (full : c.tsqFull d)
include full

/-- A loss after one that has been reported is only counted. -/
theorem Chip.tsqEntry_loses (reported : SMap.get (fun _ => false) c.tsqLost d = true) :
    c.tsqEntry d = (c.stampsLeft d t).tsqLose d := by
  simp only [Chip.tsqEntry, waits, Chip.incSat_tsqLost, reported, if_true]
  exact if_pos full

theorem Chip.tsqEntry_reports (first : SMap.get (fun _ => false) c.tsqLost d = false) :
    c.tsqEntry d = ((c.stampsLeft d t).tsqLose d).tsqReport d x.lane := by
  simp only [Chip.tsqEntry, Chip.tsqReport, Chip.tsqLose, waits, Chip.incSat_tsqLost, first, Bool.false_eq_true, if_false]
  exact if_pos full

end

end

/-- A loss counts in LOST and touches neither the entries nor HEAD nor TAIL. -/
theorem Chip.tsqLose_frame : (c.tsqLose d).tsq = c.tsq ∧ (c.tsqLose d).integ = c.integ ∧
    (c.tsqLose d).rd (R.TIM_TSQ_PTR d) = c.rd (R.TIM_TSQ_PTR d) ∧
    (c.tsqLose d).get (R.TIM_TSQ_STAT d) F.TIM_TSQ_STAT_LOST =
      min F.TIM_TSQ_STAT_LOST.top (c.get (R.TIM_TSQ_STAT d) F.TIM_TSQ_STAT_LOST + 1) :=
  ⟨Chip.incSat_tsq .., Chip.incSat_integ .., Chip.rd_set_other _ _ _ (tsqPtr_ne_stat d), Chip.get_incSat_same _ _ _ _ (by decide)⟩

/-! ### TSQ_TAIL_WRITE -/

/-- A move of TAIL keeps the entries and every register but its own. -/
theorem Chip.tsqTail_frame (tail : Nat) : (c.tsqTail d tail).tsq = c.tsq ∧ (c.tsqTail d tail).integ = c.integ ∧
    (c.tsqTail d tail).regs = (c.set (R.TIM_TSQ_PTR d) F.TIM_TSQ_PTR_TAIL tail).regs := by
  simp only [Chip.tsqTail]
  split
  · simp only [Chip.set_tsq, Chip.set_integ, and_self]
  · simp only [Chip.set_tsq, Chip.set_integ, and_self]

section
variable {tail : Nat} (small : tail < 128)
include small

/-- TAIL takes the value written, and HEAD keeps its own. -/
theorem Chip.tsqTail_pointers : (c.set (R.TIM_TSQ_PTR d) F.TIM_TSQ_PTR_TAIL tail).get (R.TIM_TSQ_PTR d) F.TIM_TSQ_PTR_TAIL = tail ∧
    (c.set (R.TIM_TSQ_PTR d) F.TIM_TSQ_PTR_TAIL tail).get (R.TIM_TSQ_PTR d) F.TIM_TSQ_PTR_HEAD =
      c.get (R.TIM_TSQ_PTR d) F.TIM_TSQ_PTR_HEAD := by
  refine ⟨?_, Chip.get_set_field _ _ _ _ _ (by decide) (by decide)⟩
  rw [Chip.get_set_same _ _ _ _ (by decide)]
  exact Nat.mod_eq_of_lt small

/-- Only an empty queue has its next loss reported again. -/
theorem Chip.tsqTail_lost : SMap.get (fun _ => false) (c.tsqTail d tail).tsqLost d =
    (decide (c.get (R.TIM_TSQ_PTR d) F.TIM_TSQ_PTR_HEAD ≠ tail) && SMap.get (fun _ => false) c.tsqLost d) := by
  obtain ⟨tailIs, headIs⟩ := c.tsqTail_pointers (d := d) small
  simp only [Chip.tsqTail, tailIs, headIs]
  split
  next empty => simp [empty]
  next holds => simp [holds]

end

/-! ### The entry window -/

/-- The entry window of a port die shows the words of the queue's entries. -/
theorem Chip.readReg_tsqWindow (v : Via) {i w a : Nat} (port : d < 32) (entry : i < 64) (word : w < 4) (there : c.isolated d = false)
    (isA : a = d * 0x04000000 + 0x03810000 + 16 * i + 4 * w) : c.readReg v a = entryWord (SMap.get (fun _ => 0) c.tsq (d * 64 + i)) w := by
  have die : a / 0x04000000 = d := by omega
  have place : (a % 0x04000000 - 0x03810000) / 16 = i := by omega
  have quarter : a % 0x04000000 / 4 % 4 = w := by omega
  have shown : c.entryAt d (a % 0x04000000) = some (entryWord (SMap.get (fun _ => 0) c.tsq (d * 64 + i)) w) := by
    rw [Chip.entryAt, if_neg (by omega), if_pos (by omega), place, quarter]
  simp only [Chip.readReg, die, there, shown, if_neg (show ¬ 40 ≤ d by omega), Bool.false_eq_true, false_and, if_false]

end

end Sys2Proof.Machine

open Sys2Proof Sys2Proof.Machine

/-- Settles O55: an entry by whether a stamp waits, the queue is full and a loss has been reported; TAIL by whether it empties the queue. -/
theorem transmitTimestampsQueueUp : Obligations.TransmitTimestampsQueueUp := by
  unfold Obligations.TransmitTimestampsQueueUp
  intro s
  refine ⟨fun d idle => ?_, fun d x t c waits isC => ⟨fun room => ?_, fun wrapped apart reported => ?_, fun wrapped apart first => ?_⟩,
    fun d x t calm waits wrapped apart reported => ⟨_, exec_tsqEntry d s, ?_⟩, fun d tail calm => ⟨_, exec_tsqTailWrite d tail s, ?_⟩,
    fun v d i w there => s.chip.readReg_tsqWindow v d.isLt i.isLt w.isLt there rfl⟩
  · rw [exec_tsqEntry, Chip.tsqEntry_idle _ idle]
  · subst isC
    rw [exec_tsqEntry, Chip.tsqEntry_fits _ waits room, Chip.tsqPut, Stamp.entry, Chip.stampsLeft]
  · subst isC
    rw [exec_tsqEntry, Chip.tsqEntry_loses _ waits ⟨wrapped, apart⟩ reported, Chip.tsqLose, Chip.stampsLeft]
  · subst isC
    rw [exec_tsqEntry, Chip.tsqEntry_reports _ waits ⟨wrapped, apart⟩ first, Chip.tsqReport, Chip.tsqLose, Chip.stampsLeft]
  · have lost := s.chip.tsqEntry_loses waits ⟨wrapped, apart⟩ reported
    obtain ⟨entries, integ, pointers, count⟩ := (s.chip.stampsLeft d t).tsqLose_frame (d := d)
    have due : ((s.chip.stampsLeft d t).tsqLose d).integ.due = [] := by rw [integ]; exact State.calm_due s calm
    rw [lost, State.after_chip, State.settled_tsq _ _ due, State.settled_rd _ _ due, State.settled_get _ _ due]
    exact ⟨entries, pointers, count⟩
  · obtain ⟨entries, integ, regs⟩ := s.chip.tsqTail_frame (d := d) tail
    obtain ⟨tailIs, headIs⟩ := s.chip.tsqTail_pointers (d := d) tail.isLt
    have due : (s.chip.tsqTail d tail).integ.due = [] := by rw [integ]; exact State.calm_due s calm
    rw [State.after_chip, State.settled_tsq _ _ due, State.settled_get _ _ due, State.settled_get _ _ due, State.settled_tsqLost _ _ due,
      Chip.tsqTail_lost _ tail.isLt, Chip.get, Chip.get, Chip.rd, regs]
    exact ⟨entries, tailIs, headIs, rfl⟩

end

section
/-!
PROOFS. Time domains and time pins (R396, R398 to R400, R402, R403, R438): what a measurement leaves of a domain, which domains an event
serves, and the whole second of PPS_OUT.
-/

namespace Sys2Proof.Machine

section
variable (c : Chip) {x : Nat}

/-! ### Moves of a domain (R400) -/

/-- A domain that enters another state shows and tells it. -/
theorem Chip.domTo_moves {old new : Nat} (state : c.domState x = old) (moves : new ≠ old) : c.domTo x new =
    (c.setTimStat (domFld x) new).timeNotice 0x10 (if new = 3 ∨ new = 4 then 1 else 0) x new old := by
  subst state
  exact if_neg moves

theorem Chip.domainHoldover_holds {st : Nat} (state : c.domState x = st) (takes : st = 1 ∨ st = 2) :
    c.domainHoldover x = ((c.setTimStat (domFld x) 3).timeNotice 0x10 1 x 3 st).autoHandover := by
  have moves : 3 ≠ st := by omega
  have holds : c.domainHoldover x = (c.domTo x 3).autoHandover := if_pos (by rwa [state])
  rw [holds, c.domTo_moves state moves, if_pos (.inl rfl)]

theorem Chip.domainHoldover_other (listens : c.domState x ≠ 1) (locked : c.domState x ≠ 2) : c.domainHoldover x = c :=
  if_neg (not_or.mpr ⟨listens, locked⟩)

theorem Chip.domainFaultClear_clears (fault : c.domState x = 4) : c.domainFaultClear x =
    ((c.setTimStat (domFld x) 1).timeNotice 0x10 0 x 1 4).setDom x { c.dom x with hist := [] } := by
  have clears : c.domainFaultClear x = (c.domTo x 1).setDom x { c.dom x with hist := [] } := if_pos fault
  rw [clears, c.domTo_moves fault (by decide), if_neg (by decide)]

theorem Chip.domainFaultClear_other (other : c.domState x ≠ 4) : c.domainFaultClear x = c := if_neg other

/-! ### Measurements (R400) -/

section
variable (ofs : Int)

/-- The offset of domain x shown in the windows of both hubs' dies. -/
def Chip.offsetShown (c : Chip) (x : Nat) (ofs : Int) : Chip :=
  [32, 39].foldl (fun s d => s.set (R.TIM_DOM_OFS d x) F.TIM_DOM_OFS_OFFSET (ofSigned 32 (clampSigned 32 ofs))) c

/-- A measurement of domain x noted: its offset shown, and h the offsets kept. -/
def Chip.measured (c : Chip) (x : Nat) (ofs : Int) (h : List Int) : Chip := (c.offsetShown x ofs).setDom x { c.dom x with hist := h }

/-- Is the measurement more than 1 ms from the one before? -/
def Domain.jumps (v : Domain) (ofs : Int) : Bool := v.hist.head?.any (fun p => decide (1000000 < (ofs - p).natAbs))

/-- The newest 8 offsets of a domain, the new one first. -/
def Domain.newest (v : Domain) (ofs : Int) : List Int := (ofs :: v.hist).take 8

theorem Chip.measure_off (off : c.domState x = 0) : c.measure x ofs = c := if_pos off

/-- The first measurement after HOLDOVER starts the offsets afresh. -/
theorem Chip.measure_holdover (holdover : c.domState x = 3) : c.measure x ofs = (c.measured x ofs [ofs]).domTo x 1 := by
  simp only [Chip.measure, holdover, Chip.measured, Chip.offsetShown, List.foldl_cons, List.foldl_nil, if_true, OfNat.ofNat_ne_zero,
    ne_eq, not_true_eq_false, decide_false, Bool.false_and, Bool.false_eq_true, if_false, Nat.reduceEqDiff]

/-- A jump of a domain that listens or is locked is a fault. -/
theorem Chip.measure_jumps (on : c.domState x = 1 ∨ c.domState x = 2) (jumps : (c.dom x).jumps ofs = true) :
    c.measure x ofs = ((c.measured x ofs ((c.dom x).newest ofs)).domTo x 4).autoHandover := by
  rw [Domain.jumps] at jumps
  rcases on with state | state
  · simp only [Chip.measure, state, jumps, Chip.measured, Chip.offsetShown, Domain.newest, List.foldl_cons, List.foldl_nil, if_true,
      one_ne_zero, ne_eq, not_false_eq_true, decide_true, Bool.true_and, if_false, Nat.reduceEqDiff]
  · simp only [Chip.measure, state, jumps, Chip.measured, Chip.offsetShown, Domain.newest, List.foldl_cons, List.foldl_nil, if_true,
      OfNat.ofNat_ne_zero, ne_eq, not_false_eq_true, decide_true, Bool.true_and, if_false, Nat.reduceEqDiff]

section
variable (listens : c.domState x = 1) (steady : (c.dom x).jumps ofs = false)
include listens steady

/-- A domain that listens locks once its newest offsets agree and, for PPS, a time of day has been given. -/
theorem Chip.measure_locks (agrees : agree ((c.dom x).newest ofs) = true) (dated : c.domSource x < 2 ∨ (c.dom x).dated = true) :
    c.measure x ofs = ((c.measured x ofs ((c.dom x).newest ofs)).domTo x 2).domLocked x := by
  rw [Domain.jumps] at steady
  rw [Domain.newest] at agrees ⊢
  simp only [Chip.measure, listens, steady, Chip.measured, Chip.offsetShown, List.foldl_cons, List.foldl_nil, one_ne_zero, Bool.and_false,
    Bool.false_eq_true, if_false, Nat.reduceEqDiff, true_and, if_pos (And.intro agrees dated)]

theorem Chip.measure_waits (short : agree ((c.dom x).newest ofs) = false ∨ (2 ≤ c.domSource x ∧ (c.dom x).dated = false)) :
    c.measure x ofs = c.measured x ofs ((c.dom x).newest ofs) := by
  rw [Domain.jumps] at steady
  rw [Domain.newest] at short ⊢
  have stays : ¬ (agree ((ofs :: (c.dom x).hist).take 8) = true ∧ (c.domSource x < 2 ∨ (c.dom x).dated = true)) := by
    rintro ⟨agrees, dated⟩
    rcases short with apart | ⟨pps, undated⟩
    · exact Bool.eq_false_iff.mp apart agrees
    · exact dated.elim pps.not_gt (Bool.eq_false_iff.mp undated)
  simp only [Chip.measure, listens, steady, Chip.measured, Chip.offsetShown, List.foldl_cons, List.foldl_nil, one_ne_zero, Bool.and_false,
    Bool.false_eq_true, if_false, Nat.reduceEqDiff, true_and, if_neg stays]

end

end

/-! ### PTP_MESSAGE and PPS_IN_EDGE (R398, R399, R403) -/

section
variable {lane number : Nat} (raw : Int)

/-- Does domain x take its time from PTP messages of domain `number` on a lane? -/
def Chip.takesPtp (c : Chip) (lane number x : Nat) : Prop :=
  c.domSource x = 1 ∧ c.get (R.TIM_DOM_CFG c.primaryDie x) F.TIM_DOM_CFG_LANE = lane ∧
    c.get (R.TIM_DOM_CFG c.primaryDie x) F.TIM_DOM_CFG_DOMAIN = number

/-- Domain x measured by a PTP message: ASYM added, in whole ns. -/
def Chip.ptpServe (c : Chip) (raw : Int) (x : Nat) : Chip :=
  c.measure x ((raw + toSigned 32 (c.rd (R.TIM_DOM_ASYM c.primaryDie x)).toNat) / 65536)

theorem Chip.ptpMessage_none (a : ¬ c.takesPtp lane number 0) (b : ¬ c.takesPtp lane number 1) : c.ptpMessage lane number raw = c := by
  rw [Chip.takesPtp] at a b
  simp only [Chip.ptpMessage, List.foldl_cons, List.foldl_nil, if_neg a, if_neg b]

theorem Chip.ptpMessage_second (a : ¬ c.takesPtp lane number 0) (b : c.takesPtp lane number 1) :
    c.ptpMessage lane number raw = c.ptpServe raw 1 := by
  rw [Chip.takesPtp] at a b
  simp only [Chip.ptpMessage, List.foldl_cons, List.foldl_nil, if_neg a, if_pos b, Chip.ptpServe]

theorem Chip.ptpMessage_first (a : c.takesPtp lane number 0) (b : ¬ (c.ptpServe raw 0).takesPtp lane number 1) :
    c.ptpMessage lane number raw = c.ptpServe raw 0 := by
  rw [Chip.takesPtp] at a b
  rw [Chip.ptpServe] at b ⊢
  simp only [Chip.ptpMessage, List.foldl_cons, List.foldl_nil, if_pos a, if_neg b]

end

section
variable {pin : Nat}

/-- Does domain x take its time from a PPS pin? -/
def Chip.takesPps (c : Chip) (pin x : Nat) : Prop := c.domSource x = 2 + pin ∧ c.domState x ≠ 0

/-- A PPS edge on a pin stamped in the windows of both hubs' dies. -/
def Chip.ppsStamped (c : Chip) (pin : Nat) : Chip :=
  (c.set (R.TIM_PPS_NSEC 32 pin) F.TIM_PPS_NSEC_NSEC (timeNsec c.now)).set (R.TIM_PPS_NSEC 39 pin) F.TIM_PPS_NSEC_NSEC (timeNsec c.now)

/-- A PPS edge is stamped and then offered to both domains. -/
theorem Chip.ppsInEdge_offers : c.ppsInEdge pin = [0, 1].foldl (fun s x =>
    if s.domSource x = 2 + pin ∧ s.domState x ≠ 0 then s.ppsMeasure x else s) (c.ppsStamped pin) := by
  simp only [Chip.ppsInEdge, Chip.ppsStamped, Chip.set_now]

theorem Chip.ppsInEdge_none (a : ¬ (c.ppsStamped pin).takesPps pin 0) (b : ¬ (c.ppsStamped pin).takesPps pin 1) :
    c.ppsInEdge pin = c.ppsStamped pin := by
  rw [Chip.takesPps] at a b
  simp only [Chip.ppsInEdge_offers, List.foldl_cons, List.foldl_nil, if_neg a, if_neg b]

theorem Chip.ppsInEdge_first (a : (c.ppsStamped pin).takesPps pin 0) (b : ¬ ((c.ppsStamped pin).ppsMeasure 0).takesPps pin 1) :
    c.ppsInEdge pin = (c.ppsStamped pin).ppsMeasure 0 := by
  rw [Chip.takesPps] at a b
  simp only [Chip.ppsInEdge_offers, List.foldl_cons, List.foldl_nil, if_pos a, if_neg b]

theorem Chip.ppsInEdge_second (a : ¬ (c.ppsStamped pin).takesPps pin 0) (b : (c.ppsStamped pin).takesPps pin 1) :
    c.ppsInEdge pin = (c.ppsStamped pin).ppsMeasure 1 := by
  rw [Chip.takesPps] at a b
  simp only [Chip.ppsInEdge_offers, List.foldl_cons, List.foldl_nil, if_neg a, if_pos b]

end

/-! ### PPS_OUT, PTM and Delay_Req (R398, R403, R438) -/

/-- The next multiple of b lies less than b ahead. -/
theorem ceilDiv_mul_bounds (a : Nat) {b : Nat} (pos : 0 < b) : a ≤ ceilDiv a b * b ∧ ceilDiv a b * b < a + b := by
  have split := Nat.div_add_mod (a + b - 1) b
  have rest := Nat.mod_lt (a + b - 1) pos
  rw [ceilDiv, Nat.mul_comm]
  omega

/-- Device time at the next whole second. -/
def Chip.atSecond (c : Chip) : Chip := c.timeTo (ceilDiv c.now tuSec * tuSec)

theorem Chip.atSecond_now : c.atSecond.now % tuSec = 0 ∧ c.now ≤ c.atSecond.now ∧ c.atSecond.now < c.now + tuSec := by
  obtain ⟨reached, near⟩ := ceilDiv_mul_bounds c.now (b := tuSec) (by decide)
  have now : c.atSecond.now = ceilDiv c.now tuSec * tuSec := max_eq_right reached
  rw [now]
  exact ⟨Nat.mul_mod_left _ _, reached, near⟩

theorem Chip.ppsOutEdge_rises (on : c.timValid = true ∨ c.flag (R.TIM_CFG c.primaryDie) F.TIM_CFG_PPS_FORCE = true) :
    c.ppsOutEdge = c.atSecond.modPw (fun p => { p with ppsOut := true }) := if_pos on

theorem Chip.ppsOutEdge_low (invalid : c.timValid = false) (unforced : c.flag (R.TIM_CFG c.primaryDie) F.TIM_CFG_PPS_FORCE = false) :
    c.ppsOutEdge = c.atSecond := if_neg (by simp [invalid, unforced])

section
variable {h : Nat}

theorem Chip.ptmRequest_up (up : (c.hub h).linkUp = true) :
    c.ptmRequest h = c.modHub h (fun u => { u with ptm := u.ptm ++ [c.timeNs] }) := if_pos up

theorem Chip.ptmRequest_down (down : (c.hub h).linkUp = false) : c.ptmRequest h = c := if_neg (Bool.eq_false_iff.mp down)

section
variable (hub : c.primary = some h) (dest id : Nat) (body : List Nat)
include hub

theorem Chip.ptpDelayReq_sends (ptp : c.domSource x = 1) (on : c.domState x ≠ 0) (up : (c.hub h).mgmtUp = true) :
    c.ptpDelayReq x dest id body = c.sendStream 5 dest (msgBytes 0x0020 0 0 body []) (some (65536 + id % 65536)) := by
  rw [Chip.ptpDelayReq, hub]
  exact if_pos ⟨ptp, on, up⟩

theorem Chip.ptpDelayReq_silent (silent : c.domSource x ≠ 1 ∨ c.domState x = 0 ∨ (c.hub h).mgmtUp = false) :
    c.ptpDelayReq x dest id body = c := by
  rw [Chip.ptpDelayReq, hub]
  refine if_neg ?_
  rintro ⟨ptp, on, up⟩
  rcases silent with other | off | down
  · exact other ptp
  · exact on off
  · simp [up] at down

end

end

end

end Sys2Proof.Machine

open Sys2Proof Sys2Proof.Machine

/-- Settles O57: an event by the domains that take their time from it, a measurement by the domain's state, each pin by its condition. -/
theorem timeDomainsAndTimePins : Obligations.TimeDomainsAndTimePins := by
  unfold Obligations.TimeDomainsAndTimePins
  intro s
  refine ⟨fun l number raw => ⟨fun a b => ?_, fun a b => ?_, fun a b => ?_⟩,
    fun c x ofs v isV => ⟨fun off => ?_, fun listens steady => ⟨fun agrees dated => ?_, fun short => ?_⟩, fun holdover => ?_, fun on jumps => ?_⟩,
    fun pin => ⟨fun a b => ?_, fun a b => ?_, fun a b => ?_⟩,
    fun x => ⟨fun st state takes => ?_, fun listens locked => ?_, fun fault => ?_, fun other => ?_⟩, ?_,
    fun c isC => ?_, fun h => ⟨fun up => ?_, fun down => ?_⟩,
    fun x dest id body h short hub => ⟨fun ptp on up => ?_, fun silent => ?_⟩⟩
  · rw [exec_ptpMessage, Chip.ptpMessage_none _ raw a b]
  · rw [exec_ptpMessage, Chip.ptpMessage_second _ raw a b, Chip.ptpServe]
  · rw [exec_ptpMessage, Chip.ptpMessage_first _ raw a b, Chip.ptpServe]
  · exact c.measure_off ofs off
  · subst isV
    rw [c.measure_locks ofs listens steady agrees dated, Chip.measured, Chip.offsetShown, Domain.newest]
  · subst isV
    rw [c.measure_waits ofs listens steady short, Chip.measured, Chip.offsetShown, Domain.newest]
  · subst isV
    rw [c.measure_holdover ofs holdover, Chip.measured, Chip.offsetShown]
  · subst isV
    rw [c.measure_jumps ofs on jumps, Chip.measured, Chip.offsetShown, Domain.newest]
  · rw [exec_ppsInEdge, Chip.ppsInEdge_none _ a b, Chip.ppsStamped]
  · rw [exec_ppsInEdge, Chip.ppsInEdge_first _ a b, Chip.ppsStamped]
  · rw [exec_ppsInEdge, Chip.ppsInEdge_second _ a b, Chip.ppsStamped]
  · rw [exec_domainHoldover, Chip.domainHoldover_holds _ state takes]
  · rw [exec_domainHoldover, Chip.domainHoldover_other _ listens locked]
  · rw [exec_domainFaultClear, Chip.domainFaultClear_clears _ fault]
  · rw [exec_domainFaultClear, Chip.domainFaultClear_other _ other]
  · rw [exec_slewDone, Chip.slewDone, Chip.setTimStat]
  · subst isC
    obtain ⟨whole, reached, near⟩ := s.chip.atSecond_now
    refine ⟨fun on => ?_, fun invalid unforced => ?_, whole, reached, near, ?_⟩
    · rw [exec_ppsOutEdge, Chip.ppsOutEdge_rises _ on, Chip.atSecond]
    · rw [exec_ppsOutEdge, Chip.ppsOutEdge_low _ invalid unforced, Chip.atSecond]
    · rw [exec_ppsOutFall, Chip.ppsOutFall]
  · rw [exec_ptmRequest, Chip.ptmRequest_up _ up, Chip.timeNs]
  · rw [exec_ptmRequest, Chip.ptmRequest_down _ down]
  · rw [exec_ptpDelayReqSend x dest id body s short, Chip.ptpDelayReq_sends _ hub _ _ _ ptp on up]
  · rw [exec_ptpDelayReqSend x dest id body s short, Chip.ptpDelayReq_silent _ hub _ _ _ silent]

end

section
/-!
PROOFS. Sag warnings (R416 to R418, R434), temperatures and the thermal shutdown (R507): how a warning starts and ends, and what a reading
shows.
-/

namespace Sys2Proof.Machine

section
variable (c : Chip)

/-! ### A warning starts (R416, R417) -/

/-- A warning that holds already is left alone. -/
theorem Chip.sagStart_holds (holds : c.sag = true) (rail : Nat) : c.sagStart rail = c := if_pos holds

/-- A sag warning shown in the PWR_STATE of every die, with the clocks halved and SAG_N low. -/
def Chip.sagShown (c : Chip) : Chip :=
  { (c.eachDie (fun s d => s.set (R.PWR_STATE d) F.PWR_STATE_SAG 1)).modPw (fun p => { p with clkHalf := true }) with sagN := false }

/-- A warning that starts ends the quizzes, signals the primary hub and is told with its rail. -/
theorem Chip.sagStart_starts (quiet : c.sag = false) (rail : Nat) :
    c.sagStart rail = (c.sagShown.sagQuizzes.sagSignal).chipPower 1 (powerDetail 5 0 0 0 rail 0 0 0) := if_neg (Bool.eq_false_iff.mp quiet)

section
variable (up : c.pw.chipReset = 0)
include up

/-- A crossing counts on its die only if it starts a warning. -/
theorem Chip.railWarn_up (d rail : Nat) : c.railWarn d rail =
    (if c.sag = true then c.set (R.PWR_SAG_STAT d) ⟨rail, 1⟩ 1
      else (c.set (R.PWR_SAG_STAT d) ⟨rail, 1⟩ 1).incSat (R.PWR_SAG_STAT d) F.PWR_SAG_STAT_COUNT 1).sagStart rail :=
  if_neg (not_not_intro up)

theorem Chip.sagPin_up : c.sagPin = (c.eachDie (fun s d => s.set (R.PWR_SAG_STAT d) F.PWR_SAG_STAT_PIN 1)).sagStart 15 :=
  if_neg (not_not_intro up)

end

/-! ### A warning ends (R418, R434) -/

/-- The chip after a warning: what it held has passed again, and its end has been signalled and told. -/
def Chip.sagOver (c : Chip) : Chip :=
  (((List.range 8).foldl Chip.pendingRelease c.sagEnd).sagSignal).chipPower 0 (powerDetail 6 0 0 0 0 0 0 0)

section
variable (holds : c.sag = true)
include holds

theorem Chip.sagClear_noSetpoint (settled : c.sagOver.pw.setpoint = none) : c.sagClear = c.sagOver := by
  rw [Chip.sagOver] at settled ⊢
  simp only [Chip.sagClear, holds, Bool.not_true, Bool.false_eq_true, if_false, settled]

/-- A setpoint that waited for the end of the warning comes into force. -/
theorem Chip.sagClear_setpoint {mv : Nat} (waits : c.sagOver.pw.setpoint = some mv) :
    c.sagClear = (c.sagOver.modPw (fun p => { p with setpoint := none })).putSetpoint mv := by
  rw [Chip.sagOver] at waits ⊢
  simp only [Chip.sagClear, holds, Bool.not_true, Bool.false_eq_true, if_false, waits]

end

section
variable (quiet : c.sag = false)
include quiet

/-- After a warning that a thermal shutdown has ended only SAG_N is released. -/
theorem Chip.sagClear_releases (up : c.pw.chipReset = 0) (low : c.sagN = false) : c.sagClear = { c with sagN := true } := by
  simp only [Chip.sagClear, quiet, low, up, Bool.not_false, Bool.false_eq_true, ne_eq, not_true_eq_false, or_self, if_true, if_false]

theorem Chip.sagClear_idle (released : c.sagN = true) : c.sagClear = c := by
  simp only [Chip.sagClear, quiet, released, Bool.not_false, true_or, if_true]

end

/-! ### TEMP_READING and THERMAL_SHUTDOWN (R507) -/

section
variable {d : Nat}

section
variable (v : BitVec 16)

/-- The reading of die d shown, and whether a restart waits for the die noted. -/
def Chip.readingNoted (c : Chip) (d : Nat) (v : BitVec 16) : Chip :=
  (c.modPw (fun p => { p with hot := SMap.set (fun _ => false) p.hot d (decide (760 ≤ v.toInt)) })).showTemp

/-- A reading above PEAK is the new PEAK. -/
theorem Chip.tempReading_peak (above : toSigned 16 (c.get (R.PWR_TEMP d) F.PWR_TEMP_PEAK) < v.toInt) : c.tempReading d v =
    ((c.set (R.PWR_TEMP d) F.PWR_TEMP_NOW v.toNat).set (R.PWR_TEMP d) F.PWR_TEMP_PEAK v.toNat).readingNoted d v := by
  simp only [Chip.tempReading, if_pos above, Chip.readingNoted]

theorem Chip.tempReading_below (below : v.toInt ≤ toSigned 16 (c.get (R.PWR_TEMP d) F.PWR_TEMP_PEAK)) :
    c.tempReading d v = (c.set (R.PWR_TEMP d) F.PWR_TEMP_NOW v.toNat).readingNoted d v := by
  simp only [Chip.tempReading, if_neg below.not_gt, Chip.readingNoted]

end

theorem Chip.thermalShutdown_cool (cool : c.tempNow d < 920) : c.thermalShutdown d = c := if_pos (.inr cool)

/-- OVER set in the windows of both hubs' dies. -/
def Chip.overTemp (c : Chip) : Chip :=
  (c.set (R.PWR_TEMP_CHIP 32) F.PWR_TEMP_CHIP_OVER 1).set (R.PWR_TEMP_CHIP 39) F.PWR_TEMP_CHIP_OVER 1

/-- A shutdown ends a sag warning before the chip firebreak. -/
theorem Chip.thermalShutdown_hot (up : c.pw.chipReset = 0) (hot : 920 ≤ c.tempNow d) : c.thermalShutdown d =
    (if c.overTemp.sag = true then c.overTemp.sagQuiet else c.overTemp).fbDue ⟨4, 32, 0, 0x11⟩ :=
  if_neg (not_or.mpr ⟨not_not_intro up, hot.not_gt⟩)

end

end

end Sys2Proof.Machine

open Sys2Proof Sys2Proof.Machine

/-- Settles O33: a warning by whether one holds, its end by the setpoint that waits, a reading by PEAK, a shutdown by the temperature. -/
theorem sagWarningsStartAndEnd : Obligations.SagWarningsStartAndEnd := by
  unfold Obligations.SagWarningsStartAndEnd
  intro s
  refine ⟨fun up => ⟨fun d rail => ?_, ?_⟩, fun rail => ⟨fun holds => ?_, fun quiet => ?_⟩,
    ⟨fun holds _ settled => ?_, fun mv holds waits => ?_, fun quiet up low => ?_, fun quiet released => ?_⟩,
    fun d v => ⟨fun above => ?_, fun below => ?_⟩, fun d => ⟨fun cool => ?_, fun up hot => ?_⟩⟩
  · rw [exec_railWarnCrossing, Chip.railWarn_up _ up]
  · rw [exec_sagPinAssert, Chip.sagPin_up _ up, Chip.eachDie]
  · exact s.chip.sagStart_holds holds rail
  · rw [s.chip.sagStart_starts quiet, Chip.sagShown, Chip.eachDie]
  · rw [exec_sagClear, Chip.sagClear_noSetpoint _ holds settled, Chip.sagOver]
  · rw [exec_sagClear, Chip.sagClear_setpoint _ holds waits, Chip.sagOver]
  · rw [exec_sagClear, Chip.sagClear_releases _ quiet up low]
  · rw [exec_sagClear, Chip.sagClear_idle _ quiet released]
  · rw [exec_tempReading, Chip.tempReading_peak _ v above, Chip.readingNoted]
  · rw [exec_tempReading, Chip.tempReading_below _ v below, Chip.readingNoted]
  · rw [exec_thermalShutdown, Chip.thermalShutdown_cool _ cool]
  · rw [exec_thermalShutdown, Chip.thermalShutdown_hot _ up hot, Chip.overTemp]

end

section
/-!
PROOFS. Command slots (R442, R444 to R447) and CONTROL_ORDER (R453): which slots are taken, which serial command starts next, and when an
order arrives.
-/

namespace Sys2Proof.Machine

section
variable (c : Chip)

/-! ### COMMAND_PICKUP (R442, R444, R445) -/

section
variable {h w i : Nat} {x : Command}

/-- Slot i of window w of hub h taken with command x: RUNNING, next in the pickup order, the last slot of its window. -/
def Chip.slotTaken (c : Chip) (h w i : Nat) (x : Command) : Chip :=
  (c.setCmdSlot h (slotKey w i)
    { owner := 2, cmd := x, order := (c.hub h).picked,
      waiting := serialOp x.opcode && c.serialRuns && (c.refusedAt h x.opcode).isNone }).modHub h
    (fun u => { u with picked := u.picked + 1, lastSlot := SMap.set (fun _ => 0) u.lastSlot w (i + 1) })

/-- Software's slot of an enabled window is taken by a complex that runs firmware. -/
theorem Chip.commandPickup_takes (up : (c.hub h).mgmtUp = true) (on : c.windowOn h w = true) (booted : c.inRecovery h = false)
    (free : (c.cmdSlot h (slotKey w i)).owner = 0 ∨ (c.cmdSlot h (slotKey w i)).owner = 3) :
    c.commandPickup h w i x = (c.slotTaken h w i x).flushWindow h w 64 := by
  refine if_neg ?_
  rintro (down | off | ⟨held, done⟩ | ⟨recovery, -⟩)
  · simp [up] at down
  · simp [on] at off
  · exact free.elim held done
  · simp [booted] at recovery

/-- The M40's own slot, and a slot of a window that is not enabled, are left alone. -/
theorem Chip.commandPickup_leaves (kept : c.windowOn h w = false ∨ (c.cmdSlot h (slotKey w i)).owner = 1 ∨
    (c.cmdSlot h (slotKey w i)).owner = 2) : c.commandPickup h w i x = c := by
  refine if_pos (.inr ?_)
  rcases kept with off | taken | running
  · exact .inl (by simp [off])
  · exact .inr (.inl (by simp [taken]))
  · exact .inr (.inl (by simp [running]))

end

/-! ### SERIAL_COMMAND_START (R446) -/

/-- The slots of hub h's windows that wait for a serial command to end, by their pickup. -/
def Chip.serialWaits (c : Chip) (h : Nat) : List (Nat × Slot) :=
  orderBy (fun e : Nat × Slot => e.2.order) ((c.hub h).slots.filter (fun e => e.2.owner == 2 && e.2.waiting))

theorem Chip.serialStart_busy (busy : c.serialRuns = true) : c.serialStart = c := if_pos busy

section
variable {e : Nat × Slot} {t : List (Nat × Slot)} (idle : c.serialRuns = false)
include idle

/-- Hub A's window command that has waited longest starts. -/
theorem Chip.serialStart_hubA (first : c.serialWaits 0 = e :: t) : c.serialStart = c.setCmdSlot 0 e.1 { e.2 with waiting := false } := by
  rw [Chip.serialWaits] at first
  simp only [Chip.serialStart, idle, Bool.false_eq_true, if_false, first]

/-- With none waiting at hub A, hub B's starts. -/
theorem Chip.serialStart_hubB (none_ : c.serialWaits 0 = []) (first : c.serialWaits 1 = e :: t) :
    c.serialStart = c.setCmdSlot 1 e.1 { e.2 with waiting := false } := by
  rw [Chip.serialWaits] at none_ first
  simp only [Chip.serialStart, idle, Bool.false_eq_true, if_false, none_, first]

end

/-! ### NOP and CONTROL_ORDER (R447, R453) -/

section
variable {o : Origin} {x : Command}

theorem Chip.cmdNop_runs (runs : c.cmdOf o 0x01 = some x) :
    c.cmdNop o = c.complete o 0 (timeSec c.now * 1000000000 + timeNsec c.now) [] := by
  rw [Chip.cmdNop, runs]

section
variable (runs : c.cmdOf o 0x70 = some x)
include runs

theorem Chip.cmdControlOrder_arrives (new : c.orders.any (fun y => decide (y.src = .command o)) = false) :
    c.cmdControlOrder o = c.orderArrive (.command o) x.inline := by
  rw [Chip.cmdControlOrder, runs]
  exact if_neg (Bool.eq_false_iff.mp new)

/-- The order of a command arrives once. -/
theorem Chip.cmdControlOrder_again (there : c.orders.any (fun y => decide (y.src = .command o)) = true) : c.cmdControlOrder o = c := by
  rw [Chip.cmdControlOrder, runs]
  exact if_pos there

end

end

end

end Sys2Proof.Machine

open Sys2Proof Sys2Proof.Machine

/-- Settles O26: a slot by its owner and window, the next serial command by what waits at each hub, an order by whether it has arrived. -/
theorem slotsArePickedUpAndStarted : Obligations.SlotsArePickedUpAndStarted := by
  unfold Obligations.SlotsArePickedUpAndStarted
  intro s
  refine ⟨fun h w i x wf up on booted free => ?_, fun h w i x wf kept => ?_, fun busy => ?_, fun e t idle first => ?_,
    fun e t idle none_ first => ?_, fun o x runs => ?_, fun o x runs => ⟨fun new => ?_, fun there => ?_⟩⟩
  · rw [exec_commandPickup h w i x s wf, Chip.commandPickup_takes _ up on booted free, Chip.slotTaken]
  · rw [exec_commandPickup h w i x s wf, Chip.commandPickup_leaves _ kept]
  · rw [exec_serialCommandStart, Chip.serialStart_busy _ busy]
  · rw [exec_serialCommandStart, Chip.serialStart_hubA _ idle first]
  · rw [exec_serialCommandStart, Chip.serialStart_hubB _ idle none_ first]
  · rw [exec_nop, Chip.cmdNop_runs _ runs]
  · rw [exec_controlOrder, Chip.cmdControlOrder_arrives _ runs new]
  · rw [exec_controlOrder, Chip.cmdControlOrder_again _ runs there]

end

section
/-!
PROOFS. Sessions (R450, R454 to R456) and messages to the M40 (R447, R451 to R453, R470): which checks a message meets at the primary hub,
and what becomes of one that passes them.
-/

namespace Sys2Proof.Machine

section
variable (c : Chip) {h : Nat} (hub : c.messageHub = some h)
include hub

/-! ### S_INIT and S_CONFIRM (R454) -/

section
variable {client : Nat} {cert : KeyCert} {tw : Bool}

/-- What an S_INIT is refused for: ROM recovery, a foreign ID, a certificate that is no client key or does not verify, 32 sessions held. -/
def Chip.initRefused (c : Chip) (h : Nat) (cert : KeyCert) (tw : Bool) : Prop :=
  c.inRecovery h = true ∨ c.answersFor tw = false ∨ cert.use ≠ 3 ∨ c.chainOk h cert = false ∨ 32 ≤ (c.hub h).sessions.length

theorem Chip.sInit_refused (refused : c.initRefused h cert tw) : c.sInit client cert tw = c := by
  rw [Chip.initRefused] at refused
  rw [Chip.sInit, hub]
  exact if_pos (by simpa only [Bool.not_eq_true'] using refused)

/-- The lowest free session number of hub h. -/
def Chip.freeSession (c : Chip) (h : Nat) : Nat := ((List.range 33).find? (fun i => i != 0 && (c.session h i).isNone)).getD 33

/-- The session of a client given, not open, with its nonce drawn. -/
def Chip.sessionGiven (c : Chip) (h client : Nat) (cert : KeyCert) (tw : Bool) : Chip :=
  { c.setSession h (c.freeSession h) (some { rights := cert.rights, client := client, alias_ := tw }) with draws := c.draws + 1 }

/-- An S_INIT that passes is answered with the number, the nonce, the key material, the certificate and the signature. -/
theorem Chip.sInit_gives (passes : ¬ c.initRefused h cert tw) : c.sInit client cert tw =
    let kem := (c.sessionGiven h client cert tw).drawBytes 3 1568
    (kem.2.drawBytes 4 1280).2.sendPlain 6 client 0x0101 (leBytes 2 (c.freeSession h) ++ leBytes 32 (Config.random c.draws).toNat ++
      kem.1 ++ certificate ++ (kem.2.drawBytes 4 1280).1) := by
  rw [Chip.initRefused] at passes
  rw [Chip.sInit, hub]
  exact if_neg (by simpa only [Bool.not_eq_true'] using passes)

end

section
variable {n seq : Nat} {sig tag : Bool}

theorem Chip.sConfirm_unknown (unknown : c.session h n = none) : c.sConfirm n seq sig tag = c.dropTag h := by
  simp only [Chip.sConfirm, hub, unknown]

section
variable {x : Session} (given : c.session h n = some x)
include given

/-- A session open already, a bad signature and a bad tag are counted. -/
theorem Chip.sConfirm_drops (bad : x.open_ = true ∨ sig = false ∨ tag = false) : c.sConfirm n seq sig tag = c.dropTag h := by
  simp only [Chip.sConfirm, hub, given]
  exact if_pos (by simpa only [Bool.not_eq_true'] using bad)

/-- The session is open, the host hears of it and held messages leave. -/
theorem Chip.sConfirm_opens (closed : x.open_ = false) : c.sConfirm n seq true true =
    (((c.setSession h n (some { x with open_ := true, lastIn := seq })).hostEvent h 0x82 (1 + n % 256 * 2 ^ 8)).releaseHeld) := by
  simp only [Chip.sConfirm, hub, given, closed, Bool.not_true, Bool.false_eq_true, or_self, if_false]

end

/-! ### S_CLOSE -/

/-- A close that passes its session's checks closes it; one that fails leaves what the checks leave. -/
theorem Chip.sClose_checked : c.sClose n seq tag = if (c.takeMsg h n seq tag).1 = true
    then (c.takeMsg h n seq tag).2.closeSession h n 2 else (c.takeMsg h n seq tag).2 := by
  simp only [Chip.sClose, hub]
  rcases c.takeMsg h n seq tag with ⟨_ | _, c1⟩
  · exact (if_neg Bool.false_ne_true).symm
  · exact (if_pos rfl).symm

end

/-! ### SWITCH_MESSAGE_COMPLETE (R451, R452) -/

/-- A message waits at hub h for its complex. -/
def Chip.inboxPut (c : Chip) (h : Nat) (m : HubMsg) : Chip := c.modHub h (fun x => { x with inbox := x.inbox ++ [m] })

section
variable {m : HubMsg} {tw tag : Bool} (answers : c.answersFor tw = true)
include answers

theorem Chip.switchMessage_foreign (foreign : typeNeeds m.ty = none) : c.switchMessage m tw tag = c.dropTag h := by
  simp only [Chip.switchMessage, hub, answers, foreign, Bool.not_true, Bool.false_eq_true, if_false]

section
variable {need : Bool} (needs : typeNeeds m.ty = some need)
include needs

/-- Outside a session only a type that needs none is taken. -/
theorem Chip.switchMessage_plain (plain : m.session = 0) :
    c.switchMessage m tw tag = if need then c.dropTag h else c.inboxPut h m := by
  simp only [Chip.switchMessage, hub, answers, needs, plain, Bool.not_true, Bool.false_eq_true, if_false, if_true, Chip.inboxPut]

section
variable (inSession : m.session ≠ 0)
include inSession

theorem Chip.switchMessage_fails (fails : (c.takeMsg h m.session m.seq tag).1 = false) :
    c.switchMessage m tw tag = (c.takeMsg h m.session m.seq tag).2 := by
  obtain ⟨c1, taken⟩ : ∃ c1, c.takeMsg h m.session m.seq tag = (false, c1) := ⟨_, Prod.ext fails rfl⟩
  simp only [Chip.switchMessage, hub, answers, needs, inSession, taken, Bool.not_true, Bool.false_eq_true, if_false]

/-- In a session an ORDER needs the CONTROL right. -/
theorem Chip.switchMessage_passes (passes : (c.takeMsg h m.session m.seq tag).1 = true) : c.switchMessage m tw tag =
    if need && decide ((c.takeMsg h m.session m.seq tag).2.rightsOf h m.session < 2) then (c.takeMsg h m.session m.seq tag).2.dropTag h
    else (c.takeMsg h m.session m.seq tag).2.inboxPut h m := by
  obtain ⟨c1, taken⟩ : ∃ c1, c.takeMsg h m.session m.seq tag = (true, c1) := ⟨_, Prod.ext passes rfl⟩
  simp only [Chip.switchMessage, hub, answers, needs, inSession, taken, Bool.not_true, Bool.false_eq_true, if_false, Chip.inboxPut]

end

end

end

/-! ### ORDER (R453, R470) -/

section
variable {m : HubMsg} (waits : (c.hub h).inbox.find? (fun m => m.ty == 0x0001) = some m)
include waits

/-- An order whose session is gone is dropped. -/
theorem Chip.order_dropped (gone : (c.popMsg h 0x0001).session h m.session = none) : c.order = c.popMsg h 0x0001 := by
  simp only [Chip.order, hub, waits, gone]

section
variable {x : Session} (given : (c.popMsg h 0x0001).session h m.session = some x)
include given

/-- An order to the lost twin needs the twin's hardware. -/
theorem Chip.order_lostTwin (lost : x.alias_ = true) :
    c.order = (c.popMsg h 0x0001).orderAnswer (.session h m.session m.seq) 0 1 0 := by
  simp only [Chip.order, hub, waits, given, lost, if_true]

theorem Chip.order_arrives (own : x.alias_ = false) :
    c.order = (c.popMsg h 0x0001).orderArrive (.session h m.session m.seq) m.body := by
  simp only [Chip.order, hub, waits, given, own, Bool.false_eq_true, if_false]

end

end

/-! ### COMMAND_MESSAGE (R447, R456) -/

section
variable {n seq : Nat} {tag : Bool} {cmd : Command}

theorem Chip.commandMessage_fails (fails : (c.takeMsg h n seq tag).1 = false) :
    c.commandMessage n seq tag cmd = (c.takeMsg h n seq tag).2 := by
  obtain ⟨c1, taken⟩ : ∃ c1, c.takeMsg h n seq tag = (false, c1) := ⟨_, Prod.ext fails rfl⟩
  simp only [Chip.commandMessage, hub, taken]

section
variable {x : Session} (passes : (c.takeMsg h n seq tag).1 = true) (given : (c.takeMsg h n seq tag).2.session h n = some x)
include passes given

/-- A command that does not run at this hub is answered with its status. -/
theorem Chip.commandMessage_refused {st : Nat} (refused : (c.takeMsg h n seq tag).2.refusedAt h cmd.opcode = some st) :
    c.commandMessage n seq tag cmd = (c.takeMsg h n seq tag).2.sessionStatus h n st := by
  obtain ⟨c1, taken⟩ : ∃ c1, c.takeMsg h n seq tag = (true, c1) := ⟨_, Prod.ext passes rfl⟩
  rw [taken] at given refused
  simp only [Chip.commandMessage, hub, taken, given, refused]

/-- A command that runs here is answered DENIED without its right, 6 by the lost twin, and else takes its turn. -/
theorem Chip.commandMessage_runs (runs : (c.takeMsg h n seq tag).2.refusedAt h cmd.opcode = none) : c.commandMessage n seq tag cmd =
    let c1 := (c.takeMsg h n seq tag).2
    if x.rights < rightFor cmd.opcode then c1.sessionStatus h n 7
    else if x.alias_ = true ∧ cmd.opcode ≠ 0x01 then c1.sessionStatus h n 6
    else c1.setSession h n (some { x with cmds := x.cmds ++ [(cmd, serialOp cmd.opcode && c1.serialRuns)] }) := by
  obtain ⟨c1, taken⟩ : ∃ c1, c.takeMsg h n seq tag = (true, c1) := ⟨_, Prod.ext passes rfl⟩
  rw [taken] at given runs
  simp only [Chip.commandMessage, hub, taken, given, runs]

end

end

/-! ### DATA_MESSAGE (R456) -/

section
variable {mem : HubRead} {n seq : Nat} {tag : Bool} {off : Nat}

theorem Chip.dataMessage_fails (op : DataOp) (fails : (c.takeMsg h n seq tag).1 = false) :
    c.dataMessage mem n seq tag off op = ([], (c.takeMsg h n seq tag).2) := by
  obtain ⟨c1, taken⟩ : ∃ c1, c.takeMsg h n seq tag = (false, c1) := ⟨_, Prod.ext fails rfl⟩
  simp only [Chip.dataMessage, hub, taken]

section
variable (passes : (c.takeMsg h n seq tag).1 = true)
include passes

/-- A write with the ADMIN right inside BAR4 stores its bytes. -/
theorem Chip.dataMessage_stores {bs : List Byte} (right : 3 ≤ (c.takeMsg h n seq tag).2.rightsOf h n)
    (short : bs.length ≤ 64992) (inside : off + bs.length ≤ 64 * 2 ^ 30) : c.dataMessage mem n seq tag off (.write bs) =
    (bytesAt h off (bs.map (·.toNat)), (c.takeMsg h n seq tag).2) := by
  obtain ⟨c1, taken⟩ : ∃ c1, c.takeMsg h n seq tag = (true, c1) := ⟨_, Prod.ext passes rfl⟩
  rw [taken] at right
  simp only [Chip.dataMessage, hub, taken, dataMax, bar4Size]
  exact if_neg (not_or.mpr ⟨right.not_gt, not_or.mpr ⟨short.not_gt, inside.not_gt⟩⟩)

/-- A write without the ADMIN right, too long or outside BAR4 is dropped. -/
theorem Chip.dataMessage_drops {bs : List Byte}
    (bad : (c.takeMsg h n seq tag).2.rightsOf h n < 3 ∨ 64992 < bs.length ∨ 64 * 2 ^ 30 < off + bs.length) :
    c.dataMessage mem n seq tag off (.write bs) = ([], (c.takeMsg h n seq tag).2) := by
  obtain ⟨c1, taken⟩ : ∃ c1, c.takeMsg h n seq tag = (true, c1) := ⟨_, Prod.ext passes rfl⟩
  rw [taken] at bad
  simp only [Chip.dataMessage, hub, taken, dataMax, bar4Size]
  exact if_pos bad

/-- A read with the READ right inside BAR4 is answered with its bytes. -/
theorem Chip.dataMessage_read {k : Nat} (right : 1 ≤ (c.takeMsg h n seq tag).2.rightsOf h n) (short : k ≤ 64992)
    (inside : off + k ≤ 64 * 2 ^ 30) : c.dataMessage mem n seq tag off (.read k) = ([], (c.takeMsg h n seq tag).2.sendSession h n 6 0x0112
      (leBytes 8 off ++ (List.range k).map (fun i => mem h (off + i)))) := by
  obtain ⟨c1, taken⟩ : ∃ c1, c.takeMsg h n seq tag = (true, c1) := ⟨_, Prod.ext passes rfl⟩
  rw [taken] at right
  simp only [Chip.dataMessage, hub, taken, dataMax, bar4Size]
  exact if_neg (not_or.mpr ⟨right.not_gt, not_or.mpr ⟨short.not_gt, inside.not_gt⟩⟩)

end

end

end

/-- A command that stores no byte leaves the chip it makes. -/
theorem State.store_nil_after (s : State) (c : Chip) : (s.store []).withChip (s.settled c) = s.after c := rfl

end Sys2Proof.Machine

open Sys2Proof Sys2Proof.Machine

/-- Settles O29: an S_INIT by what it is refused for, the other messages by their session and its checks. -/
theorem sessionsOpenAndClose : Obligations.SessionsOpenAndClose := by
  unfold Obligations.SessionsOpenAndClose
  intro s
  refine ⟨fun h client cert tw hub => ⟨fun refused => ?_, fun booted answers client_ chain room => ?_⟩,
    fun h n seq sig tag hub => ⟨fun unknown => ?_, fun x given => ⟨fun bad => ?_, fun closed sigOk tagOk => ?_⟩⟩,
    fun h n seq tag hub => ?_, fun h n up => ?_⟩
  · rw [exec_sInit, Chip.sInit_refused _ hub refused]
  · have passes : ¬ s.chip.initRefused h cert tw := by
      simp only [Chip.initRefused, booted, answers, client_, chain, Bool.false_eq_true, Bool.true_eq_false, ne_eq, not_true_eq_false,
        false_or, room.not_ge, not_false_eq_true]
    rw [exec_sInit, Chip.sInit_gives _ hub passes]
    rfl
  · rw [exec_sConfirm, Chip.sConfirm_unknown _ hub unknown]
  · rw [exec_sConfirm, Chip.sConfirm_drops _ hub given bad]
  · subst sigOk tagOk
    rw [exec_sConfirm, Chip.sConfirm_opens _ hub given closed]
  · rw [exec_sClose, Chip.sClose_checked _ hub]
  · rw [exec_sessionIdleTimeout, Chip.sessionIdle, if_pos up]

/-- Settles O30: each message by its type, its session's checks and rights, and the bounds of BAR4. -/
theorem messagesReachTheirComplex : Obligations.MessagesReachTheirComplex := by
  unfold Obligations.MessagesReachTheirComplex
  intro s
  refine ⟨fun h m tw tag kind short hub answers => ?_, fun h m hub waits => ⟨fun gone => ?_, fun x given => ⟨fun lost => ?_, fun own => ?_⟩⟩,
    fun h n seq tag cmd wf hub => ⟨fun fails => ?_, fun x passes given => ⟨fun st refused => ?_,
      fun runs => ⟨fun denied => ?_, fun may lost op => ?_, fun may own => ?_⟩⟩⟩,
    fun h n seq off tag hub => ⟨fun op fails => ?_, fun bs passes right short inside => ?_, fun bs passes bad => ?_,
      fun k passes right short inside => ?_⟩⟩
  · have wf : (m.kind == 5 && decide (m.body.length ≤ 65000)) = true := by simp [kind, short]
    refine ⟨fun foreign => ?_, fun needs plain => ?_, fun free plain => ?_, fun need needs inSession fails => ?_,
      fun needs inSession passes => ?_, fun free inSession passes => ?_⟩
    · rw [exec_switchMessageComplete m tw tag s wf, Chip.switchMessage_foreign _ hub answers foreign]
    · rw [exec_switchMessageComplete m tw tag s wf, Chip.switchMessage_plain _ hub answers needs plain, if_pos rfl]
    · rw [exec_switchMessageComplete m tw tag s wf, Chip.switchMessage_plain _ hub answers free plain, if_neg Bool.false_ne_true,
        Chip.inboxPut]
    · rw [exec_switchMessageComplete m tw tag s wf, Chip.switchMessage_fails _ hub answers needs inSession fails]
    · rw [exec_switchMessageComplete m tw tag s wf, Chip.switchMessage_passes _ hub answers needs inSession passes]
      simp only [Bool.true_and, decide_eq_true_eq, Chip.inboxPut]
    · rw [exec_switchMessageComplete m tw tag s wf, Chip.switchMessage_passes _ hub answers free inSession passes]
      simp only [Bool.false_and, Bool.false_eq_true, if_false, Chip.inboxPut]
  · rw [exec_order, Chip.order_dropped _ hub waits gone]
  · rw [exec_order, Chip.order_lostTwin _ hub waits given lost]
  · rw [exec_order, Chip.order_arrives _ hub waits given own]
  · rw [exec_commandMessage n seq tag cmd s wf, Chip.commandMessage_fails _ hub fails]
  · rw [exec_commandMessage n seq tag cmd s wf, Chip.commandMessage_refused _ hub passes given refused]
  · rw [exec_commandMessage n seq tag cmd s wf, Chip.commandMessage_runs _ hub passes given runs, if_pos denied]
  · rw [exec_commandMessage n seq tag cmd s wf, Chip.commandMessage_runs _ hub passes given runs, if_neg may.not_gt, if_pos ⟨lost, op⟩]
  · have turn : ¬ (x.alias_ = true ∧ cmd.opcode ≠ 0x01) := fun ⟨lost, op⟩ => own.elim (fun no => by simp [no] at lost) op
    rw [exec_commandMessage n seq tag cmd s wf, Chip.commandMessage_runs _ hub passes given runs, if_neg may.not_gt, if_neg turn]
  · rw [exec_dataMessage, Chip.dataMessage_fails _ hub op fails, State.store_nil_after]
  · rw [exec_dataMessage, Chip.dataMessage_stores _ hub passes right short inside]
  · rw [exec_dataMessage, Chip.dataMessage_drops _ hub passes bad, State.store_nil_after]
  · rw [exec_dataMessage, Chip.dataMessage_read _ hub passes right short inside, State.store_nil_after]

end
